-- ==== Sys2Proof/Word.lean ====
section
/-! DEFINITION. Words, bytes and byte strings (R5, R6, R38): the plainest data the model computes with. -/

namespace Sys2Proof

/-- One byte. -/
abbrev Byte := BitVec 8

/-- A byte string, first byte sent first; multi-byte fields stand most significant byte first (R6). -/
abbrev Bytes := List (BitVec 8)

/-- A T32 value: 32-bit nanoseconds, wrapping (R8). -/
abbrev T32 := BitVec 32

/-- A 48-bit MAC address. -/
abbrev Mac := BitVec 48

/-- A sparse table: pairs of a key and a value, keys strictly rising; an absent key holds the default its owner states. -/
abbrev Tbl (α : Type) := List (Nat × α)

end Sys2Proof
end

