-- ==== Sys2Proof/Types.lean ====
section
/-! DEFINITION. What the commands carry: the operand types of Syntax.lean, and the values that travel in and out of the
device. Numbers that a table of the spec bounds are Fin types, so that no command names a port, pin or unit that does not
exist. -/

namespace Sys2Proof

/-- A session number: 0 to 7 MOS, 8 to 15 CANopen SDO, 16 SPI, 17 PCIe (R47). -/
abbrev SessionNo := Fin 18

/-- MODE1–MODE0 as the pins stand at a reset release (R527). -/
abbrev Straps := Fin 4

/-- The symbols of a stored word of n symbols that a read returns other than they were written: the place of each and what its
value differs by (R80, R476). The empty list is a read without an error. -/
abbrev SymbolErrors (n : Nat) := List (Fin n × BitVec 8)

/-- What the read of a cell returns (R80): the errors of the cell itself, and of the word of the link memory that leads to it. -/
structure CellRead where
  cell : SymbolErrors 68
  link : SymbolErrors 68
deriving DecidableEq, Repr

/-- A continuation of a preempted frame as it arrives (R177; IEEE 802.3 clause 99): the mCRC that ended the mPacket before it, its
fragment count, and its bytes. -/
structure MPacket where
  mcrc : BitVec 32
  count : Fin 4
  data : Bytes
deriving DecidableEq, Repr

/-- How a start phase, an activation phase or a snapshot check ended (R528, R529, R534): what the boot ROM, the MP, the GP
or the training found. -/
inductive PhaseReport where
  /-- The phase did its work. -/
  | done
  /-- DRAM training failed once more (phase 1). -/
  | trainingFailed
  /-- Which banks verified (phase 2): bank A, bank B. -/
  | banks (aGood bGood : Bool)
  /-- A processor image failed to verify or load (phase 3). -/
  | loadFailed
  /-- The comparator probe or the Doublet self-test failed; true for the probe (phase 4). -/
  | selfTestFailed (probe : Bool)
  /-- The journal replay met these sealed records whose check failed (sequence numbers). -/
  | replayed (corrupt : List Nat)
  /-- The GP's validation of the restored configuration failed. -/
  | configInvalid
  /-- The sleep snapshot's check or its image digest does not match (warm start). -/
  | snapshotBad
deriving DecidableEq, Repr

/-- How a DTLS handshake authenticated its client (R48). -/
inductive Credential where
  /-- A certificate: the DER bytes of the anchor its chain ends at, none for the Llynem root in OTP, and the organisational-unit
  values of its subject in their order. -/
  | x509 (anchor : Option Bytes) (units : List Bytes)
  /-- An external PSK with this identity. -/
  | psk (identity : Bytes)
  /-- The handshake failed its authentication. -/
  | failed
deriving DecidableEq, Repr

/-- The bytes of a MOS header that no operand of its row gives (R53): version, result, bits 7 to 1 of the flags, the reserved byte. -/
structure MosHead where
  version : BitVec 8
  result : BitVec 8
  flags : BitVec 7
  reserved : BitVec 8
deriving DecidableEq, Repr

/-- The head of a MOS request with its tag (R53). -/
structure MosCall where
  head : MosHead
  tag : BitVec 16
deriving DecidableEq, Repr

/-- An Event acknowledge: its head and the highest sequence number received (R54, R71). -/
structure MosAck where
  head : MosHead
  seq : BitVec 32
deriving DecidableEq, Repr

/-- The SDO server's requests (R52, CiA 301). -/
inductive SdoRequest where
  | uploadInitiate (index : BitVec 16) (sub : BitVec 8)
  | uploadSegment (toggle : Bool)
  | downloadExpedited (index : BitVec 16) (sub : BitVec 8) (data : Bytes)
  | downloadInitiate (index : BitVec 16) (sub : BitVec 8) (size : Option Nat)
  | downloadSegment (toggle : Bool) (data : Bytes) (last : Bool)
  | blockDownloadInitiate (index : BitVec 16) (sub : BitVec 8) (size : Option Nat) (crc : Bool)
  | blockDownloadSegment (seqno : Fin 128) (data : Bytes) (last : Bool)
  | blockDownloadEnd (unused : Fin 8) (crc : BitVec 16)
  | blockUploadInitiate (index : BitVec 16) (sub : BitVec 8) (blksize : Fin 128) (crc : Bool)
  | blockUploadStart
  | blockUploadAck (ackseq : Fin 128) (blksize : Fin 128)
  | blockUploadEnd
  | abort (code : BitVec 32)
deriving DecidableEq, Repr

/-- Whose frame waits for its verdict: a port's staged frame, or a frame one of the internal ports offers. -/
inductive VerdictSource where
  | port (p : Fin 38)
  /-- A frame from HOST, MGMT, GUARD, AUDIO or BUSGW (38 to 42). -/
  | inner (p : Fin 5) (frame : Bytes)
deriving DecidableEq, Repr

/-- The key of a fragment entry (R196): source and destination address, protocol, identification. -/
structure FragmentKey where
  src : Nat
  dst : Nat
  proto : BitVec 8
  ident : BitVec 32
deriving DecidableEq, Repr

/-- What an Announce message says of a clock, in the order the data sets are compared (IEEE 1588, R247). -/
structure ClockRank where
  priority1 : BitVec 8
  clockClass : BitVec 8
  accuracy : BitVec 8
  variance : BitVec 16
  priority2 : BitVec 8
  identity : BitVec 64
  steps : BitVec 16
deriving DecidableEq, Repr

/-- An edge of BBn_SFD: its direction, and its age in nanoseconds when the start of a frame is seen (R249). -/
structure SfdEdge where
  rising : Bool
  age : Nat
deriving DecidableEq, Repr

/-- The PTP messages other than a completed Sync (R246). -/
inductive PtpMessage where
  | announce (rank : ClockRank)
  | announceTimeout
  /-- A request, with the stamp of its frame. -/
  | pdelayReq (stamp : T32)
  | delayReq (stamp : T32)
  /-- A completed peer delay answer: the stamp of its frame, and how long the partner held the request, in ps. -/
  | pdelayResp (stamp : T32) (held : Int)
  /-- When the master received the delay request, in ps of its time. -/
  | delayResp (received : Int)
  | management
deriving DecidableEq, Repr

/-- The periodic messages of a PTP instance (R261). -/
inductive PtpInterval where
  | sync | announce | delay
deriving DecidableEq, Repr

/-- The kinds of CAN frame (R270). -/
inductive CanKind where
  | classical | fd | xl | remote
deriving DecidableEq, Repr

/-- The fields of a CAN XL frame beside its identifier and data (R270). -/
structure XlFields where
  sdt : BitVec 8
  vcid : BitVec 8
  af : BitVec 32
deriving DecidableEq, Repr

/-- A CAN frame: kind, base or extended identifier (an XL frame's priority identifier), its flags as received, XL fields, and data. -/
structure CanFrame where
  kind : CanKind
  ext : Bool
  id : BitVec 29
  brs : Bool
  esi : Bool
  xl : XlFields
  data : Bytes
deriving DecidableEq, Repr

/-- What a transmitter's error is, as far as ISO 11898-1 counts it otherwise: a missing acknowledgement, and a stuff error within the
arbitration field (R275). -/
inductive CanSendError where
  | other | ack | arbitrationStuff
deriving DecidableEq, Repr

/-- How a transmission ended (R274). -/
inductive CanSendResult where
  | success
  | arbitrationLost
  | error (kind : CanSendError)
deriving DecidableEq, Repr

/-- A receiver's error (R275, ISO 11898-1): one that counts 1, and one that counts 8, as a dominant bit after its own error flag. -/
inductive CanReceiveError where
  | light | heavy
deriving DecidableEq, Repr

/-- A legacy bus port. -/
inductive BusPort where
  | can (n : Fin 8)
  | serial (n : Fin 6)
deriving DecidableEq, Repr

/-- A receive error on a serial character (R282). -/
inductive CharError where
  | none | framing | parity | breakCond
deriving DecidableEq, Repr

/-- A slave frame on an MVB line (R285 to R289). -/
structure MvbSlaveFrame where
  fcode : BitVec 4
  address : BitVec 12
  data : Bytes
  lineAValid : Bool
  lineBValid : Bool
  /-- How many ns ago it came (R286). -/
  age : Nat
deriving DecidableEq, Repr

/-- How a far access ended (R320). -/
inductive FarResult where
  | data (d : Bytes)
  | done
  /-- An SDO abort code, a Modbus exception code or a MOS result. -/
  | failed (code : BitVec 32)
  /-- No far response in the far transport's own time. -/
  | timeout
deriving DecidableEq, Repr

/-- What an input stream frame is matched by (R334): a stream ID, or a destination address with a UDP port. -/
inductive AudioKey where
  | aaf (streamId : BitVec 64)
  | rtp (address : BitVec 32) (port : BitVec 16)
deriving DecidableEq, Repr

/-- One received audio frame of a stream (R334): its presentation instant on T32 and its samples, channel by channel. -/
structure AudioFrame where
  key : AudioKey
  presentation : T32
  tv : Bool
  samples : List (BitVec 24)
  /-- The priority and the channel mask of its R335 extension. -/
  mark : Option (Fin 8 × BitVec 8)
deriving DecidableEq, Repr

/-- Where an answer to a call party goes: a MAC address and the VID its message came with (R345). -/
abbrev Contact := BitVec 48 × Fin 4095

/-- A call request (R345): kind, caller, callee, priority, reference. -/
structure CallRequest where
  kind : BitVec 8
  caller : BitVec 16
  callee : BitVec 16
  priority : BitVec 8
  reference : BitVec 16
  /-- The sender of the gateway datagram; none for a write to 4B10h.03. -/
  sender : Option Contact
deriving DecidableEq, Repr

/-- A change at an odometry channel after its filter (R357, R358). -/
inductive OdoEdge where
  | a (rising : Bool) (bHigh : Bool)
  | b (rising : Bool) (aHigh : Bool)
deriving DecidableEq, Repr

/-- A sleep-ballot frame after the trap (R394). -/
structure BallotFrame where
  bytes : Bytes
deriving DecidableEq, Repr

/-- The Pair frame header (R450). -/
structure PairHeader where
  bytes : Bytes
deriving DecidableEq, Repr

/-- The body of an output digest (R460). -/
structure DigestBody where
  bytes : Bytes
deriving DecidableEq, Repr

/-- One segment of a state capsule (R457). -/
structure CapsuleSegment where
  bytes : Bytes
deriving DecidableEq, Repr

/-- A buffer request (R487). -/
structure PoolReq where
  owner : Fin 32
  size : BitVec 32
  climb : Bool
deriving DecidableEq, Repr

/-- Who uses a check-value unit (R496). -/
inductive CvuSource where
  | firmware | host | spi
deriving DecidableEq, Repr

/-- Why pass 1 closed (R411). -/
inductive CloseCause where
  | taskEnd | length | replayFull | holdFull
deriving DecidableEq, Repr

/-- The operations of the Guard Processor's datapath (R415); a shift takes its amount from the instruction. -/
inductive GpOp where
  | add | sub | and | or | xor | not
  | shl (n : Fin 32) | lshr (n : Fin 32) | asr (n : Fin 32)
  | less (signed : Bool) | equal
  | mul | div (signed : Bool) | rem (signed : Bool)
deriving DecidableEq, Repr

/-- A value that an instruction commits, by the true operands it comes from. -/
inductive GpValue where
  | word (w : BitVec 32)
  | op (o : GpOp) (a b : BitVec 32)
deriving DecidableEq, Repr

/-- A store to a word of region 1, or an output write (R416, R422), with its byte enables. -/
inductive GpCommit where
  | store (word : Fin 32768) (enables : BitVec 4) (value : GpValue)
  | output (address : BitVec 32) (enables : BitVec 4) (value : GpValue)
deriving DecidableEq, Repr

/-- The inputs that an instruction of pass 1 samples itself (R418, R419). -/
inductive GpInput where
  | mailbox | status | t32 | load
deriving DecidableEq, Repr

def GpInput.code : GpInput → Nat
  | .mailbox => 1
  | .status => 2
  | .t32 => 3
  | .load => 4

/-- What an instruction does that the other pass must repeat: a commit, a sampled input, or an input copy (R421). -/
inductive GpWork where
  | commit (c : GpCommit)
  | sample (kind : GpInput) (value : BitVec 32)
  | copy (word : Fin 32768) (data : List (BitVec 32))
deriving DecidableEq, Repr

/-- Work of pass 1, with the instructions retired before it in the window. -/
structure GpAct where
  point : BitVec 20
  what : GpWork
deriving DecidableEq, Repr

/-- What a hardware fault does to the n-th commit of a pass (R428): changed bits of its data or of its place, or its loss. -/
inductive GpUpset where
  | data (commit : Nat) (mask : BitVec 32)
  | place (commit : Nat) (mask : BitVec 26)
  | lost (commit : Nat)
deriving DecidableEq, Repr

/-- Bits of an output-hold entry that have changed (R422, R423). -/
structure HoldUpset where
  entry : Fin 64
  address : BitVec 32
  data : BitVec 32
  enables : BitVec 4
  parity : BitVec 9
deriving DecidableEq, Repr

/-- The faults that pass 2 and the release meet (R412 to R428): upsets of pass 2, changed bits of replay-queue entries and of output-hold
entries, and the answer of a comparator that does not work. -/
structure PassTwoReport where
  upsets : List GpUpset
  queue : List (Fin 128 × BitVec 64)
  hold : List HoldUpset
  stuck : Option Bool
deriving DecidableEq, Repr

/-- What a debugger reads or writes (R440). -/
inductive DebugTarget where
  | register (n : Fin 64)
  | memory (region : Fin 2) (word : Fin 32768)
  | breakpoint (n : Fin 4)
deriving DecidableEq, Repr

/-- A transmit descriptor as host memory holds it (R553). -/
structure TxDescriptor where
  bytes : Bytes
deriving DecidableEq, Repr

/-- What the host's memory answers (R553). -/
inductive HostMemory where
  | data (d : Bytes)
  | error
deriving DecidableEq, Repr

/-- A write of RCTL bit 0, of HCTL bit 0 or of the Bus Master bit (R552). -/
inductive RingEnableChange where
  /-- RCTL with bit 0 set, after the host has written RBASH and RBASL (base), and RSIZE. -/
  | enable (ring : Fin 16) (base : BitVec 64) (size : BitVec 32) (rctl : BitVec 32)
  | disable (ring : Fin 16)
  /-- HCTL, after the host has written HIEN. -/
  | dma (hctl : BitVec 32) (hien : BitVec 32)
  /-- The Bus Master bit of the PCI command register. -/
  | busMaster (on : Bool)
deriving DecidableEq, Repr

/-- Where an answer goes: a plain access of a session, a MOS request, an SDO transfer, the SPI target or the mailbox. -/
inductive ReplyTo where
  | session (s : SessionNo)
  /-- A MOS request, by the fields of its header that the answer echoes (R53). -/
  | mos (slot : Fin 8) (kind : BitVec 8) (tag : BitVec 16) (index : BitVec 16) (sub : BitVec 8) (offset : BitVec 32)
  | sdo (cn : Fin 8) (index : BitVec 16) (sub : BitVec 8)
  | spi
  | mailbox
  /-- Nobody waits for it. -/
  | nobody
  /-- The requester is gone: its session has closed or its interface was reset. -/
  | gone
deriving DecidableEq, Repr

/-- What stamps a received frame: the phase of its SFD within a tick (R248), and the SFD edges captured before (R249). -/
structure RxMark where
  phase : Fin 8
  sfd : List SfdEdge
deriving DecidableEq, Repr

/-- What follows the head of a received frame: the bytes of its first part, and the mPackets that go on with it (R177). -/
structure FrameRest where
  bytes : Bytes
  parts : List MPacket
deriving DecidableEq, Repr

/-- The symbol errors that the two patterns of a cell test meet (R101). -/
structure CellProbe where
  pattern : SymbolErrors 68
  complement : SymbolErrors 68
deriving DecidableEq, Repr

/-- A trigger, and whether the engine cycle that it starts is still running (R254). -/
structure TriggerHit where
  trigger : Fin 16
  running : Bool
deriving DecidableEq, Repr

/-- How a CAN frame came: its error, and how many ns ago its sample point lay (R270). -/
structure CanArrival where
  error : Option CanReceiveError
  age : Nat
deriving DecidableEq, Repr

/-- How a character came: its error, and how many ns ago its start bit began (R269). -/
structure CharArrival where
  error : CharError
  age : Nat
deriving DecidableEq, Repr

/-- A gateway datagram with the ingress stamp of its frame (R311). -/
structure DatagramIn where
  payload : Bytes
  stamp : T32
deriving DecidableEq, Repr

/-- The answer to a call: its reference, and who sent it (R345). -/
structure CallReply where
  ref : BitVec 16
  sender : Option Contact
deriving DecidableEq, Repr

/-- What pass 1 ends with: instructions retired and the next PC (R412). -/
structure GpCount where
  retired : BitVec 32
  nextPc : BitVec 26
deriving DecidableEq, Repr

/-- What pass 1 did, and the upsets it met (R415, R424). -/
structure GpPassOne where
  acts : List GpAct
  upsets : List GpUpset
deriving DecidableEq, Repr

/-- The buffer of a receive descriptor, and whether the host failed the write (R553). -/
structure HostBuffer where
  size : BitVec 16
  error : Bool
deriving DecidableEq, Repr

/-- Which interval of an instance has run out, and the phase at which its message leaves (R246, R248). -/
structure PtpDue where
  kind : PtpInterval
  phase : Fin 8
deriving DecidableEq, Repr

end Sys2Proof
end

