-- ==== Sys2Proof/Syntax.lean ====
section
/-! DEFINITION. The commands of the device: one constructor per row of spec/opcode_table.json, in the table's order.
A session command carries its session; a frame, message or edge carries what arrives on the wire or pin. -/

namespace Sys2Proof

/-- The commands and events of the device (spec/opcode_table.json). -/
inductive Instr where
  /-- POWER_ON_RESET_RELEASE (R570). Reset is released 10 ms after V5IN rises above 4.5 V, and the device enters Start. -/
  | powerOnResetRelease (straps : Straps)
  /-- POWER_ON_RESET_REARM (R570). V5IN stays below 2.5 V for at least 5 ms, the power-on reset re-arms and RSTOUT_N goes low. -/
  | powerOnResetRearm
  /-- RESET_N_PULSE (R24). RESET_N is held low for at least 10 us and then released, which restarts the device through Start. -/
  | resetNPulse (straps : Straps)
  /-- WATCHDOG_EXPIRY (R24). The always-on watchdog expires after 500 ms without MP service; the device restarts and an Inclusion is latched. -/
  | watchdogExpiry (straps : Straps)
  /-- START_PHASE_COMPLETE (R528). A cold-start phase ends; the next phase begins, or a fallback, Safe or Commissioning follows on failure. -/
  | startPhaseComplete (report : PhaseReport)
  /-- DEEP_SLEEP_START_PHASE_COMPLETE (R529). A phase of the warm start from DeepSleep ends; on a digest mismatch the start continues as a cold start. -/
  | deepSleepStartPhaseComplete (report : PhaseReport)
  /-- REQUEST_RESTART (R24). A write of 0 to 2000h.02 restarts the device through Start. -/
  | requestRestart (ses : SessionNo) (straps : Straps)
  /-- REQUEST_COMMISSIONING (R24). A write of 1 to 2000h.02 takes the device from Normal to Commissioning. -/
  | requestCommissioning (ses : SessionNo)
  /-- REQUEST_NORMAL (R24). A write of 2 to 2000h.02 validates the configuration in force and enters Normal from Commissioning. -/
  | requestNormal (ses : SessionNo)
  /-- REQUEST_TEST (R24). A write of 3 to 2000h.02 by a Vendor session takes the device from Commissioning to Test. -/
  | requestTest (ses : SessionNo)
  /-- REQUEST_RECOVERY (R24). A write of 4 to 2000h.02 restarts the device into Recovery with cause 0x0014. -/
  | requestRecovery (ses : SessionNo) (straps : Straps)
  /-- REQUEST_SLEEP_STATE (R29). A write of 5 or 6 to 2000h.02 is always refused, because sleep is entered only through the ballot. -/
  | requestSleepState (ses : SessionNo) (deep : Bool)
  /-- REQUEST_SAFE (R436). A write of 7 to 2000h.02 stops the GP, after a resign frame if the device is Active, and enters Safe. -/
  | requestSafe (ses : SessionNo)
  /-- SAFE_AUTO_RESTART (R31). The Safe auto-restart delay expires and the device restarts, unless three Safe entries within 3,600 s suppress it.
  The straps as they stand then are not sampled (R527). -/
  | safeAutoRestart (straps : Straps)
  /-- RESIGN_FRAME_REPEAT (R434). The resign frame is sent again at 1 ms intervals, twice after the first. -/
  | resignFrameRepeat
  /-- OBJECT_READ (R43). An object read is served by the object dictionary server and answered with the value in force or a result code. -/
  | objectRead (ses : SessionNo) (index : BitVec 16) (sub : BitVec 8)
  /-- OBJECT_WRITE (R42). A write to an object with no row of its own is checked for length, type, role, state and range, and takes effect at once or is staged. -/
  | objectWrite (ses : SessionNo) (index : BitVec 16) (sub : BitVec 8) (value : Bytes)
  /-- COUNTER_CLEAR (R11). A write of 0 to an S32 counter clears it; any other value is refused with result 0x08. -/
  | counterClear (ses : SessionNo) (index : BitVec 16) (sub : BitVec 8) (value : Bytes)
  /-- COUNTER_LATCH (R76). A write to the Latch subindex takes or releases a per-session snapshot of the counter group. -/
  | counterLatch (ses : SessionNo) (index : BitVec 16) (value : Bytes)
  /-- DTLS_HANDSHAKE_COMPLETE (R47). A completed DTLS handshake opens a MOS session and decides its role, or is aborted beyond the session limit. -/
  | dtlsHandshakeComplete (cred : Credential)
  /-- DTLS_CLOSE (R47). A DTLS close ends a MOS session and discards its pending change set. -/
  | dtlsClose (slot : Fin 8)
  /-- MOS_IDLE_TIMEOUT (R47). A MOS session idle for 2100h.02 seconds is closed. -/
  | mosIdleTimeout (slot : Fin 8)
  /-- MOS_READ (R54). A MOS Read message reads an object or a DOM segment and is answered with type 0x81. -/
  | mosRead (slot : Fin 8) (msg : MosCall) (index : BitVec 16) (sub : BitVec 8) (offset : BitVec 32) (length : BitVec 16)
  /-- MOS_WRITE (R56). A MOS Write message writes a value or a DOM segment and is answered with type 0x82. -/
  | mosWrite (slot : Fin 8) (msg : MosCall) (index : BitVec 16) (sub : BitVec 8) (offset : BitVec 32) (last : Bool) (data : Bytes)
  /-- MOS_SUBSCRIBE (R54). A MOS Subscribe sets the session's minimum severity and read position for event delivery. -/
  | mosSubscribe (slot : Fin 8) (msg : MosCall) (severity : BitVec 8) (first : BitVec 32)
  /-- MOS_EVENT_ACK (R71). A MOS Event acknowledge confirms the records received up to a sequence number. -/
  | mosEventAck (slot : Fin 8) (ack : MosAck)
  /-- MOS_KEEPALIVE (R54). A MOS Keepalive is answered with a keepalive answer. -/
  | mosKeepalive (slot : Fin 8) (msg : MosCall)
  /-- MOS_EVENT_DELIVERY (R71). New event records are delivered to a MOS subscriber in Event delivery messages. -/
  | mosEventDelivery (slot : Fin 8)
  /-- MOS_EVENT_RESEND (R71). Records not acknowledged within 1 s are sent again, up to 5 times, and then passed over as lost. -/
  | mosEventResend (slot : Fin 8)
  /-- DOM_PARTIAL_TIMEOUT (R56). A partial DOM write not completed within 10 s is discarded. -/
  | domPartialTimeout (ses : SessionNo)
  /-- SDO_REQUEST (R52). An SDO request frame on a management CAN port is served by the SDO server. -/
  | sdoRequest (cn : Fin 8) (req : SdoRequest)
  /-- SDO_SEGMENT_TIMEOUT (R52). A gap of more than 1 s between SDO segments aborts the transfer with 0x0504_0000. -/
  | sdoSegmentTimeout (cn : Fin 8)
  /-- VENDOR_CHALLENGE_READ (R51). A read of 2120h.05 returns a new 16-byte challenge bound to the session for 60 s. -/
  | vendorChallengeRead (ses : SessionNo)
  /-- VENDOR_RESPONSE_WRITE (R48). A write of a signature to 2120h.06 raises the session to Vendor if it is valid, or counts an authentication failure. -/
  | vendorResponseWrite (ses : SessionNo) (signature : Bytes)
  /-- CS_APPLY_NOW (R65). Command 1 of 2200h.01 validates the pending set and applies it at once. -/
  | csApplyNow (ses : SessionNo)
  /-- CS_ARM_TIME (R63). Command 2 of 2200h.01 validates the pending set and arms it for the T32 apply time. -/
  | csArmTime (ses : SessionNo)
  /-- CS_ARM_POSITION (R64). Command 3 of 2200h.01 validates the pending set and arms it for a position event. -/
  | csArmPosition (ses : SessionNo)
  /-- CS_DISCARD_PENDING (R60). Command 4 of 2200h.01 discards the pending change set. -/
  | csDiscardPending (ses : SessionNo)
  /-- CS_CANCEL_ARMED (R60). Command 5 of 2200h.01 cancels the armed change set. -/
  | csCancelArmed (ses : SessionNo)
  /-- CS_VALIDATE_ONLY (R61). Command 6 of 2200h.01 validates the pending set without applying or arming it. -/
  | csValidateOnly (ses : SessionNo)
  /-- CHANGE_SET_FILE_WRITE (R68). An .mxc file written to 2200h.05 is checked and replaces the pending set. -/
  | changeSetFileWrite (ses : SessionNo) (file : Bytes)
  /-- CS_VALIDATION_COMPLETE (R61). GP validation of the pending set ends; the command is answered, and the set is applied, armed or left pending. -/
  | csValidationComplete (lost : Option Nat)
  /-- CS_APPLY_TIME_DUE (R65). The T32 target of an armed change set is reached and the set applies. -/
  | csApplyTimeDue
  /-- EVENT_RECORD_READ (R72). A read of 2301h.02 returns the record at the session's read position and advances it. -/
  | eventRecordRead (ses : SessionNo)
  /-- EVENT_READ_POSITION_WRITE (R71). A write of 2301h.01 sets the session's read position, or replaces an invalid one by the oldest record held. -/
  | eventReadPositionWrite (ses : SessionNo) (pos : BitVec 32)
  /-- EMCY_INHIBIT_EXPIRY (R73). The EMCY inhibit time expires and the next queued EMCY message is sent. -/
  | emcyInhibitExpiry (cn : Fin 8)
  /-- HEARTBEAT_TIMER (R45). The heartbeat producer time expires and a heartbeat is sent on every management CAN port. -/
  | heartbeatTimer
  /-- FRAME_HEAD_RECEIVED (R84). The first 128 bytes of a received frame, or the whole of a shorter frame, are in the staging buffer. -/
  | frameHeadReceived (port : Fin 38) (head : Bytes) (whole : Bool) (mark : RxMark)
  /-- LOOKUP_VERDICT (R119). Lookup classifies the frame, forms its destination set, stream, filter, traffic class, zone and mirrors, and admission follows. -/
  | lookupVerdict (srcs : List VerdictSource)
  /-- FRAME_END_RECEIVED (R85). A received frame ends; the provisional charge is corrected, meters charged, FCS judged, learning done and recovery decided. -/
  | frameEndReceived (port : Fin 38) (rest : FrameRest) (aborted : Bool)
  /-- TRANSMISSION_SELECTION (R157). A free egress MAC selects a queue by strict priority and deficit round robin and starts a frame. -/
  | transmissionSelection (port : Fin 39) (read : CellRead)
  /-- FRAME_TRANSMIT_END (R155). A frame finishes on its egress port, leaves its queue and returns its cells when its last destination in the column is done. -/
  | frameTransmitEnd (port : Fin 43) (reads : List CellRead)
  /-- CELL_TEST (R101). Every 10 us a column tests one free cell with a pattern and its complement. -/
  | cellTest (col : Fin 14) (probe : CellProbe)
  /-- BANK_DRAIN_TIMEOUT (R102). A bank still holding cells 1 s after draining began has its frames discarded and is retired. -/
  | bankDrainTimeout (col : Fin 14)
  /-- LINK_UP (R108). A port's link comes up at an allowed rate, or is refused with event 3002h. -/
  | linkUp (port : Fin 38) (rate : Fin 7)
  /-- LINK_DOWN (R99). A port's link goes down; queued frames are discarded and aggregation entries reassigned. -/
  | linkDown (port : Fin 38)
  /-- FORWARDING_AGEING_SCAN (R125). Every quarter of the ageing time, learned entries age and those already at Age 3 are removed. -/
  | forwardingAgeingScan
  /-- FLUSH_ALL_LEARNED (R148). Command 1 of 3510h.02 removes all learned entries. -/
  | flushAllLearned (ses : SessionNo)
  /-- FLUSH_PORT_LEARNED (R148). Command 2 of 3510h.02 removes the learned entries on the port in 3510h.03. -/
  | flushPortLearned (ses : SessionNo)
  /-- FLUSH_FID_LEARNED (R148). Command 3 of 3510h.02 removes the learned entries of the FID in 3510h.04. -/
  | flushFidLearned (ses : SessionNo)
  /-- MOVE_LOCK_EXPIRY (R128). The move hold of a locked forwarding entry expires and moves are accepted again. -/
  | moveLockExpiry (pos : Nat)
  /-- REOPEN_GATE (R132). A write to 3630h.02 reopens a permanently closed stream gate. -/
  | reopenGate (ses : SessionNo) (gate : BitVec 8)
  /-- CLEAR_ALL_RED (R133). A write of 1 to 3641h.07 clears the all-red state of the selected meter. -/
  | clearAllRed (ses : SessionNo) (value : BitVec 8)
  /-- STREAM_GATE_ENTRY_START (R132). A stream gate list reaches the start of its next entry and restarts the octet count. -/
  | streamGateEntryStart (gate : Fin 256)
  /-- RECOVERY_RESET_TIMEOUT (R138). A recovery function's reset timer expires; it takes any sequence next and raises event 3702h. -/
  | recoveryResetTimeout (fn : Fin 1024)
  /-- LATENT_ERROR_CHECK (R139). Every second each recovery function compares passed and duplicate counts and may raise event 3701h. -/
  | latentErrorCheck
  /-- PRP_ENTRY_FORGET (R140). A PRP duplicate table entry expires after the forget time. -/
  | prpEntryForget (mac : BitVec 48) (seq : BitVec 16)
  /-- GATE_LIST_ENTRY_START (R165). A gate control list entry takes effect at its start and sets the gate states and hold. -/
  | gateListEntryStart (port : Fin 38)
  /-- GATE_LIST_SWAP (R169). At the config change time the administrative list replaces the operational list, with event 3802h. -/
  | gateListSwap (port : Fin 38)
  /-- PREEMPTION_VERIFY_TIMER (R176). The verify time expires and a verify mPacket is sent, or verification fails after 3 attempts. -/
  | preemptionVerifyTimer (port : Fin 6)
  /-- RESPOND_MPACKET_RECEIVED (R176). A respond mPacket arrives and preemption becomes active. -/
  | respondMpacketReceived (port : Fin 6)
  /-- VERIFY_MPACKET_RECEIVED (R176). A verify mPacket arrives and is answered with a respond mPacket. -/
  | verifyMpacketReceived (port : Fin 6)
  /-- FIRST_PACKET_EVALUATION (R207). The GP evaluates the head first packet of a pair against the rule tree and gives an allow or deny verdict. -/
  | firstPacketEvaluation (dataLost : Bool)
  /-- FLOW_AGEING_SCAN (R193). Once per second every flow's Idle advances and flows past their timeout are removed. -/
  | flowAgeingScan
  /-- RULE_SWEEP_STEP (R213). Every 3 us the sweep applies the fate of one flow entry position after a rule swap. -/
  | ruleSweepStep
  /-- FRAGMENT_ENTRY_EXPIRY (R196). A fragment table entry expires 2 s after its first fragment. -/
  | fragmentEntryExpiry (key : FragmentKey)
  /-- FLOW_FLUSH_ALL (R232). Command 1 of 3D00h.03 removes all flows. -/
  | flowFlushAll (ses : SessionNo)
  /-- FLOW_FLUSH_PAIR (R232). Command 2 of 3D00h.03 removes the flows of the pair in 3D00h.04. -/
  | flowFlushPair (ses : SessionNo)
  /-- FLOW_FLUSH_DENIED (R232). Command 3 of 3D00h.03 removes all Denied entries. -/
  | flowFlushDenied (ses : SessionNo)
  /-- ZONE_LOG_RECORD_READ (R222). A read of 3D10h.02 returns the log record at the session's position and advances it. -/
  | zoneLogRecordRead (ses : SessionNo)
  /-- ZONE_LOG_POSITION_WRITE (R222). A write of 3D10h.01 sets the session's log read position or replaces it by the oldest record. -/
  | zoneLogPositionWrite (ses : SessionNo) (pos : BitVec 32)
  /-- PTP_SYNC_RECEIVED (R243). A Sync of the source instance gives an offset that the servo slews or steps, and updates the sync state. -/
  | ptpSyncReceived (inst : Fin 4) (port : Fin 38) (origin : Int) (stamp : T32)
  /-- PTP_MESSAGE_RECEIVED (R246). Another PTP message of an instance is processed under its profile. -/
  | ptpMessageReceived (inst : Fin 4) (port : Fin 38) (msg : PtpMessage)
  /-- SYNC_RECEIPT_TIMEOUT (R242). No Sync arrives within the receipt timeout; the device enters Holdover or Free-run. -/
  | syncReceiptTimeout
  /-- SOURCE_INSTANCE_CHANGE (R245). The source instance loses its last slave port and the next source is selected with event 4002h. -/
  | sourceInstanceChange
  /-- PRIMARY_REVERT (R245). The primary instance has held a slave port for the revert hold-off and becomes the source again. -/
  | primaryRevert
  /-- HOLDOVER_LIMIT_EXPIRY (R245). The holdover limit expires, the device enters Free-run and raises event 4004h. -/
  | holdoverLimitExpiry
  /-- SET_TIME (R244). A write to 4000h.0B steps T32 to the written TX and sets timescale 2. -/
  | setTime (ses : SessionNo) (value : Bytes)
  /-- EPOCH_ANCHOR_WRITE (R239). The MP writes a new epoch anchor every second. -/
  | epochAnchorWrite
  /-- PREVIOUS_ANCHOR_CLEAR (R239). 4.2 s after a step the previous anchor in 4020h.02 is cleared. -/
  | previousAnchorClear
  /-- TRIGGER_OCCURRENCE (R254). A time trigger reaches an occurrence and starts its ADC, engine, GP or media-clock target or a converter pulse. -/
  | triggerOccurrence (hit : TriggerHit)
  /-- CONVERTER_PULSE_END (R253). A converter-start pulse ends after its width. -/
  | converterPulseEnd (pin : Fin 4)
  /-- TPO_PROGRAM_PULSE (R255). A TPO pulse program reaches the start of a pulse. -/
  | tpoProgramPulse (pin : Fin 4)
  /-- TPO_PULSE_END (R255). A programmed TPO pulse ends after its width. -/
  | tpoPulseEnd (pin : Fin 4)
  /-- TPO_PROGRAM_WRITE (R255). A write to a TPO pulse program takes effect at once and restarts it. -/
  | tpoProgramWrite (ses : SessionNo) (pin : Fin 4) (sub : BitVec 8) (value : Bytes)
  /-- TPO_LOW_PERIOD_END (R256). The 1 ms low period after a state change ends and the pins take up their new function. -/
  | tpoLowPeriodEnd
  /-- TPI_EDGE_CAPTURE (R257). A filtered edge on TPI0 or TPI1 is stamped into the capture FIFO or lost on overflow. -/
  | tpiEdgeCapture (input : Fin 2) (rising : Bool)
  /-- CAPTURE_READ (R257). A read of 40A0h.05 returns and removes the oldest capture. -/
  | captureRead (ses : SessionNo) (input : Fin 2)
  /-- CAN_FRAME_RECEIVED (R272). A CAN frame received on a port is filtered into a FIFO, discarded, or taken by SDO or NMT handling. -/
  | canFrameReceived (cn : Fin 8) (frame : CanFrame) (arrival : CanArrival)
  /-- ENGINE_HANDOVER (R268). A port's engine hands a received message to BE3. -/
  | engineHandover (bus : BusPort)
  /-- CAN_FRAME_SENT (R274). A CAN transmission ends, with success, or with a retry or discard after arbitration loss or error. -/
  | canFrameSent (cn : Fin 8) (result : CanSendResult)
  /-- CAN_SLOT_GRID_POINT (R274). A cyclic slot reaches its grid point and places its message into arbitration. -/
  | canSlotGridPoint (cn : Fin 8) (slot : Fin 16)
  /-- BUS_OFF_HOLDOFF_EXPIRY (R276). The recovery hold-off after bus-off ends and the port watches for the recovery sequence. -/
  | busOffHoldoffExpiry (cn : Fin 8)
  /-- BUS_OFF_RECOVERY_COMPLETE (R276). 128 occurrences of 11 recessive bits are seen and the port becomes error active, or is held off. -/
  | busOffRecoveryComplete (cn : Fin 8)
  /-- CAN_RECOVER_COMMAND (R276). A write of 1 to 4400h.16 starts a bus-off recovery. -/
  | canRecoverCommand (ses : SessionNo) (cn : Fin 8) (value : BitVec 8)
  /-- CAN_PORT_RECONFIGURE (R277). A port stops after its current frame at the apply, discards queues and FIFOs and takes new settings. -/
  | canPortReconfigure (cn : Fin 8)
  /-- SERIAL_CHARACTER_RECEIVED (R280). A character received on a serial port enters its buffer and the message search, or is lost on overrun. -/
  | serialCharacterReceived (sp : Fin 6) (char : BitVec 9) (arrival : CharArrival)
  /-- SERIAL_IDLE_GAP (R282). An idle gap ends a raw message, or a gap interrupts a telegram or Modbus frame. -/
  | serialIdleGap (sp : Fin 6) (gap : Nat)
  /-- SERIAL_TRANSMIT (R281). After the turnaround a serial message is sent with DE lead and lag and echo check. -/
  | serialTransmit (sp : Fin 6) (echo : Bytes)
  /-- MODBUS_FRAME_END (R284). 3.5 character times of silence end a Modbus frame, which is checked as request or response. -/
  | modbusFrameEnd (sp : Fin 6)
  /-- MODBUS_RESPONSE_TIMEOUT (R284). No valid response arrives in time; the request is repeated or a timeout is reported. -/
  | modbusResponseTimeout (sp : Fin 6)
  /-- MVB_MASTER_FRAME (R285). A master frame is received and answered for device status or a source port. -/
  | mvbMasterFrame (sp : Fin 2) (fcode : BitVec 4) (address : BitVec 12) (collision : Bool)
  /-- MVB_SLAVE_FRAME (R285). A slave frame is received and captured into sink ports or the message queue. -/
  | mvbSlaveFrame (sp : Fin 2) (frame : MvbSlaveFrame)
  /-- SINK_TIME_LIMIT_EXPIRY (R289). A supervised sink reaches its time limit and becomes stale with event 4601h. -/
  | sinkTimeLimitExpiry (sp : Fin 2) (entry : Fin 256)
  /-- GATEWAY_ROUTE_MESSAGE (R303). BE3 matches a handed-over message against the routing entries and sends internal frames on BUSGW. -/
  | gatewayRouteMessage
  /-- GATEWAY_DESTINATION_DELIVERY (R306). An internal frame reaches its destination engine and is sent or replaces the held value. -/
  | gatewayDestinationDelivery
  /-- LATEST_VALUE_GRID_POINT (R307). A latest-value entry reaches its grid point and sends its held value by its stale action. -/
  | latestValueGridPoint (entry : Fin 4096)
  /-- SOURCE_TIMEOUT_EXPIRY (R308). A latest-value entry's source timeout runs out and its source becomes stale. -/
  | sourceTimeoutExpiry (entry : Fin 4096)
  /-- GATEWAY_DATAGRAM_RECEIVED (R311). A gateway datagram at BUSGW's address enters routing or is discarded. -/
  | gatewayDatagramReceived (port : Fin 38) (datagram : DatagramIn)
  /-- MODBUS_POLL_GRID_POINT (R312). A poll entry reaches its grid point and offers a read to the port's client queue, or is skipped. -/
  | modbusPollGridPoint (poll : Fin 256)
  /-- BRIDGE_HELD_READ (R320). A HOST read in BAR4 starts a far read or hits the cache and is held until completion or bound. -/
  | bridgeHeldRead (offset : BitVec 24) (length : Nat)
  /-- BRIDGE_POSTED_WRITE (R317). A HOST write in BAR4 is accepted at once and queued as a far transaction. -/
  | bridgePostedWrite (offset : BitVec 24) (data : Bytes)
  /-- BRIDGE_FAR_COMPLETION (R320). A far response or failure arrives and completes the read, or gives a stranded or late-fault record. -/
  | bridgeFarCompletion (tag : Fin 256) (result : FarResult)
  /-- BRIDGE_READ_BOUND_EXPIRY (R320). A held read's bound expires; it completes as all 0xFF and is cancelled or abandoned. -/
  | bridgeReadBoundExpiry (tag : Fin 256)
  /-- BRIDGE_ABANDONED_TIMEOUT (R320). An abandoned read receives no far response within 1 s and gives a late-fault record. -/
  | bridgeAbandonedTimeout (tag : Fin 256)
  /-- BRIDGE_LOCK_REQUEST (R322). A write of a page to 4801h.01 requests a lock on its far target. -/
  | bridgeLockRequest (ses : SessionNo) (page : BitVec 16)
  /-- BRIDGE_LOCK_RELEASE (R322). A write of 0xFFFF to 4801h.01 releases the lock. -/
  | bridgeLockRelease (ses : SessionNo)
  /-- BRIDGE_LOCK_GRANT (R322). The target's transaction in progress ends and the lock is granted. -/
  | bridgeLockGrant
  /-- BRIDGE_LOCK_EXPIRY (R322). The lock expires; queued transactions fail with cause 5 and event 4803h is raised. -/
  | bridgeLockExpiry
  /-- BRIDGE_STATUS_POLL (R323). A status poll interval expires and the slot is read, or the poll is skipped. -/
  | bridgeStatusPoll (poll : Fin 32)
  /-- BRIDGE_CACHE_EXPIRY (R319). A prefetched value's cache lifetime ends and it is discarded. -/
  | bridgeCacheExpiry (page : Fin 4096) (slot : Nat)
  /-- LATE_FAULT_READ (R321). A read of 4820h.01 returns and removes the oldest late-fault record. -/
  | lateFaultRead (ses : SessionNo)
  /-- STRANDED_READ_READ (R321). A read of 4830h.01 returns and removes the oldest stranded-read record. -/
  | strandedReadRead (ses : SessionNo)
  /-- AUDIO_BLOCK (R341). Every 125 us the AP mixes each output from its active inputs, calls, priorities and gains. -/
  | audioBlock (tdmIn : List (BitVec 24))
  /-- INPUT_STREAM_FRAME (R336). An input stream frame arrives and is buffered for presentation or discarded as late. -/
  | inputStreamFrame (stream : Fin 32) (frame : AudioFrame)
  /-- STREAM_LOSS_TIMEOUT (R336). An input stream has no valid frame for 10 ms and becomes lost with event 4A02h. -/
  | streamLossTimeout (stream : Fin 32)
  /-- AMBIENT_MEASURE_WINDOW (R344). A 1 s noise window ends and the ambient gain target is recomputed. -/
  | ambientMeasureWindow (output : Fin 64)
  /-- CALL_REQUEST (R346). A call request is refused, alerted, preempts a lower call, or is queued. -/
  | callRequest (req : CallRequest)
  /-- CALL_ANSWER (R346). An answer connects an alerting call at the next block. -/
  | callAnswer (answer : CallReply)
  /-- CALL_END (R346). An end frees the call and admits the queue head. -/
  | callEnd (ref : BitVec 16)
  /-- ALERTING_TIMEOUT (R346). A call still alerting after 4A00h.06 seconds ends with cause 2. -/
  | alertingTimeout (ref : BitVec 16)
  /-- CALL_QUEUE_TIMEOUT (R346). A queued request below priority 7 ends after 4A00h.0A seconds with cause 5. -/
  | callQueueTimeout (ref : BitVec 16)
  /-- PLAYER_START_CLIP (R338). A player command with a clip number starts that clip on the player. -/
  | playerStartClip (ses : SessionNo) (player : Fin 8) (clip : BitVec 8)
  /-- PLAYER_STOP (R338). A player command with clip 0xFF stops the player. -/
  | playerStop (ses : SessionNo) (player : Fin 8)
  /-- ODOMETRY_EDGE (R359). A counted odometry edge of the driving channel advances D32 and fires reached position events. -/
  | odometryEdge (channel : Fin 2) (edge : OdoEdge)
  /-- QUADRATURE_ERROR (R358). A and B change within one tick; the change adds no distance and is counted. -/
  | quadratureError (channel : Fin 2)
  /-- CROSS_CHECK_WINDOW_END (R360). A cross-check window ends and the slip, slide or failure state and driving channel are decided. -/
  | crossCheckWindowEnd
  /-- D64_EXTENSION (R361). The MP reads D32 and extends D64. -/
  | d64Extension
  /-- DISTANCE_CHARGE_JOURNAL (R362). Every 60 s the MP appends D64 and Q to the journal when changed. -/
  | distanceChargeJournal
  /-- SET_DISTANCE (R363). A write to 4C20h.02 steps D32 and re-evaluates armed position targets. -/
  | setDistance (ses : SessionNo) (value : Bytes)
  /-- SET_DOOR_SIDE (R368). A write to 4C40h.03 sets the door-side output levels in Normal. -/
  | setDoorSide (ses : SessionNo) (value : BitVec 8)
  /-- ADC_SEQUENCE_COMPLETE (R370). An ADC sequence finishes; results are stored, charge counted and Tj judged. -/
  | adcSequenceComplete (codes : List (BitVec 16))
  /-- HOUSEKEEPING_SEQUENCE (R371). Outside Normal the Position Unit starts the housekeeping conversion every 10 ms. -/
  | housekeepingSequence
  /-- ENERGY_BUDGET_EVALUATION (R374). Every 100 ms the GP computes the energy and engages or releases shed stages. -/
  | energyBudgetEvaluation
  /-- LOW_VOLTAGE_TIMER (R374). The battery voltage has stayed below the shed voltage for 2 s and the next stage engages. -/
  | lowVoltageTimer
  /-- CHARGE_RECALIBRATION (R373). The battery has stayed full for 300 s and Q becomes the capacity. -/
  | chargeRecalibration
  /-- SET_CHARGE (R373). A write to 4D00h.0B sets Q and the confidence 2. -/
  | setCharge (ses : SessionNo) (value : Bytes)
  /-- WAKE_SOURCE_ACCEPTED (R388). A wake source completes its filter and wakes the device or segments, aborts a ballot, is latched, or is counted. -/
  | wakeSourceAccepted (source : Fin 20)
  /-- QUARANTINE_END (R389). A quarantined source sees no activity for 3,600 s and leaves quarantine. -/
  | quarantineEnd (source : Fin 20)
  /-- QUARANTINE_CLEAR (R389). A write of 0 to 2420h.07 ends the quarantine. -/
  | quarantineClear (ses : SessionNo) (source : Fin 20) (value : Bytes)
  /-- PHY_RELEASE_STAGGER (R390). The release stagger expires and the next PHY reset pin is released. -/
  | phyReleaseStagger
  /-- IDLE_TIME_PROPOSAL (R395). A proposer's local reasons have been 0 for the idle time and it sends a Proposal. -/
  | idleTimeProposal
  /-- PROPOSE (R395). A write to 2400h.10 makes a proposer send a Proposal at once. -/
  | propose (ses : SessionNo) (kind : BitVec 8)
  /-- PROPOSAL_RECEIVED (R396). A voter receives a Proposal and votes yes, no or abstain, or resolves overlapping ballots. -/
  | proposalReceived (port : Fin 38) (frame : BallotFrame)
  /-- VOTE_RECEIVED (R395). A proposer receives a Vote and aborts on no, or commits when all have voted. -/
  | voteReceived (port : Fin 38) (frame : BallotFrame)
  /-- COMMIT_RECEIVED (R396). A voter receives a Commit and becomes committed, or aborts with cause 6. -/
  | commitReceived (port : Fin 38) (frame : BallotFrame)
  /-- ABORT_RECEIVED (R397). An Abort ends the ballot before C, or acts as a latched wake after C. -/
  | abortReceived (port : Fin 38) (frame : BallotFrame)
  /-- VOTE_WINDOW_EXPIRY (R395). At W a voter is still silent and the proposer sends Abort cause 4. -/
  | voteWindowExpiry
  /-- COMMIT_RESEND (R395). 5 ms after the first Commit it is sent again if before C. -/
  | commitResend
  /-- COMMIT_MISSING (R396). At C a voting device without Commit sends Abort cause 2, a CAN wake frame, and stays awake. -/
  | commitMissing
  /-- SLEEP_ENTRY (R384). At the commit time the device enters its sleep state and begins entry steps. -/
  | sleepEntry
  /-- SLEEP_ENTRY_COMPLETE (R397). Sleep entry completes; a latched wake then starts. -/
  | sleepEntryComplete
  /-- KEEP_AWAKE (R393). A write to 2400h.0F starts or cancels the keep-awake time. -/
  | keepAwake (ses : SessionNo) (seconds : BitVec 16)
  /-- KEEP_AWAKE_EXPIRY (R393). The keep-awake time runs out and clears its local reason. -/
  | keepAwakeExpiry
  /-- WAKE_HOLD_EXPIRY (R393). The wake hold runs out and clears its local reason. -/
  | wakeHoldExpiry
  /-- SEGMENT_WAKE_REQUEST (R400). A write of 1 to 2440h.06 wakes or renews a managed segment. -/
  | segmentWakeRequest (ses : SessionNo) (port : Fin 38)
  /-- SEGMENT_SLEEP_REQUEST (R401). A write of 2 to 2440h.06 sends a segment to Draining. -/
  | segmentSleepRequest (ses : SessionNo) (port : Fin 38)
  /-- SEGMENT_END_ISOLATION (R402). A write of 3 to 2440h.06 ends a segment's isolation and makes it Asleep. -/
  | segmentEndIsolation (ses : SessionNo) (port : Fin 38)
  /-- TS_SEGMENT_ENERGY (R400). Energy on an asleep TS segment wakes it. -/
  | tsSegmentEnergy (ts : Fin 8)
  /-- LEASE_EXPIRY (R401). A segment's awake lease expires and it enters Draining. -/
  | leaseExpiry (port : Fin 38)
  /-- DRAIN_QUIET_COMPLETE (R401). A draining segment receives nothing for the overrun grace and becomes Asleep. -/
  | drainQuietComplete (port : Fin 38)
  /-- SEGMENT_OVERRUN (R402). A segment still transmitting when its overrun grace ends is isolated with event 2407h. -/
  | segmentOverrun (port : Fin 38)
  /-- GP_PASS1_CLOSE (R411). Pass 1 closes its window at task end, 16,000 cycles, a full replay queue or a full output hold, and pass 2 starts. -/
  | gpPass1Close (cause : CloseCause) (count : GpCount) (work : GpPassOne)
  /-- GP_INTERRUPT (R420). An interrupt is taken in pass 1 and recorded in the replay queue. -/
  | gpInterrupt (vector : BitVec 32)
  /-- GP_WINDOW_COMPARE (R425). Pass 2 ends and the signatures are compared; the output hold is released or a GP fault follows. -/
  | gpWindowCompare (pass2 : PassTwoReport)
  /-- GP_PASS_TIMEOUT (R412). A pass has not ended 24 us after its start and is treated as a mismatch. -/
  | gpPassTimeout
  /-- COMPARATOR_PROBE (R426). Every 1 ms the comparator runs a probe and fails the GP if no mismatch appears. -/
  | comparatorProbe (mismatchSeen : Bool)
  /-- GP_CYCLE (R431). A GP cycle timer starts the energy budget, Pair, sleep or self-test task. -/
  | gpCycle (cycle : Fin 4)
  /-- DEBUG_HALT (R440). A debugger halt stops pass 1 at an instruction boundary with event 2904h. -/
  | debugHalt (breakpoint : Bool)
  /-- DEBUG_SINGLE_STEP (R440). A debugger single step advances pass 1 by one instruction. -/
  | debugSingleStep
  /-- DEBUG_RESUME (R440). A debugger resume restarts pass 1 with event 2904h. -/
  | debugResume
  /-- DEBUG_READ (R440). A debugger read returns pass-1 registers or region-1 memory without effect. -/
  | debugRead (target : DebugTarget)
  /-- DEBUG_WRITE (R440). A debugger register or memory write is replayed in pass 2 as a replay entry of kind 6. -/
  | debugWrite (target : DebugTarget) (value : BitVec 32)
  /-- DISCOVERY_TIMEOUT (R452). A Discovering device hears nothing in 300 ms and becomes Active. -/
  | discoveryTimeout
  /-- PRESENCE_FRAME_RECEIVED (R452). A presence frame decides roles between Discovering devices or confirms the Standby to the Active. -/
  | presenceFrameReceived (port : Fin 38) (hdr : PairHeader) (preferred : Bool)
  /-- PAIR_CYCLE_START (R458). A Pair cycle starts; at whole 100 ms the Active takes and sends a capsule. -/
  | pairCycleStart
  /-- PAIR_CYCLE_END (R460). A Pair cycle ends and the Active sends digest frames on each plane. -/
  | pairCycleEnd
  /-- DIGEST_FRAME_RECEIVED (R461). A digest frame is recorded, makes a Discovering device Syncing, or resolves a role conflict. -/
  | digestFrameReceived (port : Fin 38) (hdr : PairHeader) (digest : DigestBody)
  /-- CYCLE_JUDGEMENT (R461). 10 ms after a cycle end the Standby judges it failed or good and recognises failure after three. -/
  | cycleJudgement
  /-- CAPSULE_SEGMENT_RECEIVED (R457). A capsule segment is stored, and a complete checked capsule is accepted. -/
  | capsuleSegmentReceived (port : Fin 38) (hdr : PairHeader) (seg : CapsuleSegment)
  /-- CAPSULE_ACCEPT_TIMEOUT (R457). A capsule incomplete 50 ms after its instant is discarded with event 2A03h. -/
  | capsuleAcceptTimeout
  /-- RESIGN_FRAME_RECEIVED (R462). A resign frame makes the Standby recognise failure of the Active at once. -/
  | resignFrameReceived (port : Fin 38) (hdr : PairHeader) (cause : BitVec 8)
  /-- HEALTH_FRAME_SEND (R469). Every second a Standby sends a health frame. -/
  | healthFrameSend
  /-- HEALTH_FRAME_RECEIVED (R469). The Active stores the Standby's health flags. -/
  | healthFrameReceived (port : Fin 38) (hdr : PairHeader) (flags : BitVec 32) (margin : BitVec 8)
  /-- PEER_LOST_TIMEOUT (R465). The Active sees no presence or health for 3 s and raises event 2A05h. -/
  | peerLostTimeout
  /-- RETURN_HOLD_OFF_EXPIRY (R466). A revertive preferred Standby has held the role long enough and sends a claim frame. -/
  | returnHoldOffExpiry
  /-- SWAP (R467). A write of 1 to 2A00h.0E makes the Active send a claim request to its Standby. -/
  | swap (ses : SessionNo) (value : BitVec 8)
  /-- CLAIM_REQUEST_RECEIVED (R467). A Standby receives a claim request and answers with a claim frame of cause 2. -/
  | claimRequestReceived (port : Fin 38) (hdr : PairHeader)
  /-- CLAIM_FRAME_RECEIVED (R466). The Active receives a claim frame and schedules a handover capsule at instant H. -/
  | claimFrameReceived (port : Fin 38) (hdr : PairHeader) (cause : BitVec 8)
  /-- HANDOVER_INSTANT (R466). At H the Active stops its Pair outputs and becomes Syncing. -/
  | handoverInstant
  /-- HANDOVER_CAPSULE_TIMEOUT (R466). No handover capsule arrives within 50 ms of H and the claimant takes over from its last capsule. -/
  | handoverCapsuleTimeout
  /-- SCRUB_STEP (R479). The scrubber reads one DRAM page and corrects it in place. -/
  | scrubStep (errors : List (Fin 128 × SymbolErrors 36))
  /-- PAGE_COUNTS_DAILY_APPEND (R480). Every 24 h the page error counts are appended to the journal. -/
  | pageCountsDailyAppend
  /-- POOL_REQUEST (R487). A buffer request is granted from a minimum or the shared part, climbs, or fails. -/
  | poolRequest (reqs : List PoolReq)
  /-- POOL_FREE (R489). A free is checked and returns the buffer, or is rejected with a misuse record. -/
  | poolFree (owner : Fin 32) (handle : BitVec 32)
  /-- POOL_GIVE (R489). A give is checked and changes the buffer's owner, or is rejected with a misuse record. -/
  | poolGive (owner : Fin 32) (handle : BitVec 32) (dest : Fin 32)
  /-- MISUSE_RECORD_READ (R490). A read of 2B61h.02 returns the misuse record at the session's position and advances it. -/
  | misuseRecordRead (ses : SessionNo)
  /-- CVU_CONFIG_WRITE (R494). A write of CVCFG sets width, reflection and feed order, or sets the configuration error. -/
  | cvuConfigWrite (unit : Fin 4) (src : CvuSource) (reg : Fin 5) (value : BitVec 32)
  /-- CVU_START (R493). CVCTL bit 0 loads CVVAL with CVINIT. -/
  | cvuStart (unit : Fin 4) (src : CvuSource)
  /-- CVU_CLAIM (R496). CVCTL CLAIM 1 claims CVU2 or CVU3 for the writing interface. -/
  | cvuClaim (unit : Fin 4) (src : CvuSource)
  /-- CVU_RELEASE (R496). CVCTL CLAIM 0 from the holder releases the claim. -/
  | cvuRelease (unit : Fin 4) (src : CvuSource)
  /-- CVU_FEED_BYTE (R495). A write of CVD8 feeds one byte into the running value. -/
  | cvuFeedByte (unit : Fin 4) (src : CvuSource) (value : BitVec 8)
  /-- CVU_FEED_HALF_WORD (R495). A write of CVD16 feeds two bytes in the configured order. -/
  | cvuFeedHalfWord (unit : Fin 4) (src : CvuSource) (value : BitVec 16)
  /-- CVU_FEED_WORD (R495). A write of CVD32 feeds four bytes in the configured order. -/
  | cvuFeedWord (unit : Fin 4) (src : CvuSource) (value : BitVec 32)
  /-- JOURNAL_RECORD_WRITE (R512). A journal record is programmed, read back, and sealed, or rewritten after a failed read-back. -/
  | journalRecordWrite (readBackOk : Bool)
  /-- HEALTH_REPORT_UPDATE (R507). Every second the MP updates the health report and margins. -/
  | healthReportUpdate
  /-- HOURS_POWERED_APPEND (R517). Once per hour the powered hours are appended. -/
  | hoursPoweredAppend
  /-- INCLUSION_READ (R519). A read of 2620h.02 returns the next Inclusion record and advances the position. -/
  | inclusionRead (ses : SessionNo)
  /-- BEGIN_STAGING (R530). Command 1 of 2700h.01 erases the target bank and sets it to Staging. -/
  | beginStaging (ses : SessionNo)
  /-- STAGING_ERASE_COMPLETE (R530). The erase of the target bank ends and command 1 is answered. -/
  | stagingEraseComplete (failed : List Nat)
  /-- IMAGE_PART_WRITE (R530). A completed image part write is programmed into the target bank. -/
  | imagePartWrite (ses : SessionNo) (part : Fin 6) (data : Bytes) (failed : Option Nat)
  /-- VERIFY_IMAGE (R530). Command 2 verifies the target bank, making it Staged or Failed. -/
  | verifyImage (ses : SessionNo)
  /-- ACTIVATE_IMAGE (R532). Command 3 activates the Staged bank, after a handover if Active, or restarts from Recovery. -/
  | activateImage (ses : SessionNo)
  /-- CONFIRM_IMAGE (R537). Command 4 confirms the Trial bank and advances the rollback counter. -/
  | confirmImage (ses : SessionNo)
  /-- DISCARD_BANK (R531). Command 5 discards the target bank and sets it Empty. -/
  | discardBank (ses : SessionNo)
  /-- REVERT_TO_PREVIOUS (R532). Command 6 re-verifies and activates the Previous bank. -/
  | revertToPrevious (ses : SessionNo)
  /-- ACTIVATION_HANDOVER_TIMEOUT (R533). The handover before an activation has not completed within 1 s and the activation is refused. -/
  | activationHandoverTimeout
  /-- ACTIVATION_PAUSE_PHASE_COMPLETE (R534). A phase of the activation pause ends; the pause continues, falls back, or ends with event 2703h. -/
  | activationPausePhaseComplete (report : PhaseReport)
  /-- TRIAL_TIME_EXPIRY (R537). The device has been in Normal for the trial time and the Trial bank is confirmed. -/
  | trialTimeExpiry
  /-- FIELD_LOCK_REQUEST (R540). A write of 0x4C4F_434B to 2700h.0A in Commissioning blows the field-lock fuse. -/
  | fieldLockRequest (ses : SessionNo) (value : BitVec 32)
  /-- RECOVERY_TARGET_WRITE (R539). A write to 2700h.0B in Recovery names the target bank. -/
  | recoveryTargetWrite (ses : SessionNo) (value : BitVec 8)
  /-- MAILBOX_DOORBELL (R550). A write of 1 to HDBELL submits the mailbox request, or is refused while busy. -/
  | mailboxDoorbell (value : BitVec 32) (header : Bytes) (window : Bytes)
  /-- MAILBOX_ANSWER_READY (R550). The mailbox request has been executed; the answer is written and HSTS bit 0 set. -/
  | mailboxAnswerReady
  /-- HSTS_CLEAR (R549). Writing 1 to HSTS bits 0, 5, 6 or 7 clears them. -/
  | hstsClear (value : BitVec 32)
  /-- INTERFACE_RESET (R555). HCTL bit 1 resets every ring, clears the mailbox, releases PCIe CVU claims and reclaims owner 8. -/
  | interfaceReset
  /-- HPREQ_WRITE (R551). A write of HPREQ starts a pool request as owner 8. -/
  | hpreqWrite (value : BitVec 32)
  /-- HPFREE_WRITE (R551). A write of HPFREE frees a handle as owner 8. -/
  | hpfreeWrite (value : BitVec 32)
  /-- HPGIVE_WRITE (R551). A write of HPGIVE gives a handle from owner 8 to HPGTO. -/
  | hpgiveWrite (value : BitVec 32) (dest : BitVec 32)
  /-- HPADAT_READ (R551). A read of HPADAT returns 4 buffer bytes through the aperture and advances HPAOFF. -/
  | hpadatRead (aperture : Option (BitVec 32 × BitVec 32))
  /-- HPADAT_WRITE (R551). A write of HPADAT stores 4 buffer bytes through the aperture and advances HPAOFF. -/
  | hpadatWrite (aperture : Option (BitVec 32 × BitVec 32)) (value : BitVec 32)
  /-- RTAIL_WRITE (R552). A write of RTAIL posts descriptors to a TX or RX ring. -/
  | rtailWrite (ring : Fin 16) (value : BitVec 32)
  /-- RING_RESET (R555). RCTL bit 1 completes device-owned descriptors with code 5, zeroes the pointers and releases buffers. -/
  | ringReset (ring : Fin 16)
  /-- TX_DESCRIPTOR_PROCESS (R553). A posted TX descriptor's frame is read or given and handed to Lookup as a frame of port 38. -/
  | txDescriptorProcess (ring : Fin 8) (desc : TxDescriptor) (memory : HostMemory)
  /-- RX_FRAME_DELIVERY (R553). A frame in HOST queue c is written to a posted RX descriptor of ring c. -/
  | rxFrameDelivery (ring : Fin 8) (buffer : HostBuffer) (reads : List CellRead)
  /-- INTERRUPT_MODERATION_EXPIRY (R554). The moderation time of a ring's vector has passed and its MSI-X message is sent. -/
  | interruptModerationExpiry (ring : Fin 16)
  /-- PCIE_LINK_UP (R557). The PCIe link trains and session 17 opens. -/
  | pcieLinkUp (rate : Fin 4)
  /-- PCIE_LINK_DOWN (R557). Link down or PERST_N closes session 17, resets the interface and reclaims the host owners. -/
  | pcieLinkDown
  /-- SPI_STATUS (R559). SPI command 0x00 returns the status byte only. -/
  | spiStatus
  /-- SPI_READ (R559). SPI command 0x01 starts an object read whose answer is fetched later. -/
  | spiRead (frame : Bytes)
  /-- SPI_WRITE (R559). SPI command 0x02 starts an object write whose answer is fetched later. -/
  | spiWrite (frame : Bytes)
  /-- SPI_FETCH_ANSWER (R559). SPI command 0x10 returns the waiting answer and removes it when fully clocked. -/
  | spiFetchAnswer (frame : Bytes) (clocked : Nat)
  /-- SPI_REGISTER_WRITE (R559). SPI command 0x20 writes a CVU2 or CVU3 register as claim holder 2. -/
  | spiRegisterWrite (frame : Bytes)
  /-- SPI_REGISTER_READ (R559). SPI command 0x21 returns a CVU2 or CVU3 register. -/
  | spiRegisterRead (frame : Bytes)
  /-- SPI_TARGET_RESET (R559). SPI command 0x7F discards the request, answer and partial DOM value and releases SPI claims. -/
  | spiTargetReset (frame : Bytes)
  /-- SPI_ANSWER_READY (R560). An SPI read or write completes and its answer waits, with HIRQ_N low. -/
  | spiAnswerReady
  /-- EXTEST (R601). The EXTEST instruction drives the boundary-scan register while RESET_N is low. -/
  | extest (held : Bool) (pins : BitVec 139)
  /-- SAMPLE_PRELOAD (R601). SAMPLE/PRELOAD captures or loads the boundary-scan register. -/
  | samplePreload (load : Option (BitVec 139)) (pins : BitVec 139)
  /-- IDCODE (R600). IDCODE selects the 32-bit identification register. -/
  | idcode
  /-- CLAMP (R601). CLAMP holds the boundary outputs and selects bypass while RESET_N is low. -/
  | clamp (held : Bool)
  /-- HIGHZ (R601). HIGHZ floats the boundary outputs and selects bypass while RESET_N is low. -/
  | highz (held : Bool)
  /-- DBGCHAL (R602). Capture-DR under DBGCHAL loads a new 16-byte debug challenge. -/
  | dbgchal
  /-- DBGTOKEN (R602). Update-DR under DBGTOKEN submits a 96-byte token for checking. -/
  | dbgtoken (token : Bytes)
  /-- DEBUG_TOKEN_CHECK_COMPLETE (R602). The token check ends; debug opens, or the invalid token is counted and may block further tokens. -/
  | debugTokenCheckComplete
  /-- DBGSTAT (R601). DBGSTAT returns the debug status byte. -/
  | dbgstat
  /-- DBGACC (R601). DBGACC gives processor debug access while debug is open. -/
  | dbgacc
  /-- BYPASS (R601). BYPASS, or any unknown code, selects the 1-bit bypass register. -/
  | bypass (code : BitVec 8)
  /-- WAKE_LEVEL_END (R387). The input of a level-triggered wake source leaves its level, so the source is no longer active and local reason bit 3 clears. -/
  | wakeLevelEnd (source : Fin 4)
  /-- PTP_MESSAGE_INTERVAL (R261). A PTP instance's sync, announce or delay interval expires and the device sends the message of that interval as master or slave. -/
  | ptpMessageInterval (inst : Fin 4) (port : Fin 38) (due : PtpDue)
  /-- JOURNAL_COMPACTION_COMPLETE (R513). A journal compaction finishes erasing the blocks older than its checkpoint, and freed blocks become available, including the one an image bank waits for. -/
  | journalCompactionComplete
  /-- RING_ENABLE (R552). A host write to RCTL bit 0, HCTL bit 0 or the Bus Master bit starts or stops a DMA ring, so queued HOST frames start to leave or are discarded at egress. -/
  | ringEnable (change : RingEnableChange)
  /-- NO_CAPSULE_ACCEPTED (R457). No capsule has been accepted for 1 s, so 1001h bit 4 becomes 1, with EMCY and ALERT_N following. -/
  | noCapsuleAccepted
  /-- PCIE_POWER_STATE_CHANGE (R576). The host moves the endpoint between D0 and D3hot, switching the PCIe endpoint domain off or on. -/
  | pciePowerStateChange (d3hot : Bool)
deriving DecidableEq, Repr

end Sys2Proof
end

