-- ==== Sys2Proof/Machine/ObjectTable.lean ====
section
/-! DEFINITION. The object dictionary as a table (R36 to R42, R75): for every object the device has, its index and
subindex range, type, access code, default, persistence, apply class, the range its Meaning column states, and the role
its write needs (R40). A default that the spec leaves to the state of the device ("—") stands here as 0 or as zero
bytes and is never read: such an object's value is computed (Live.lean). -/

namespace Sys2Proof.Machine

/-- The data types of R38, with the two counter kinds of R10 that the object tables use as types. -/
inductive ObjType where
  | bool | u8 | u16 | u32 | u64 | i16 | i32 | i64 | str | dom | t32 | tx | d32 | s32 | w64
  /-- A byte string of the stated length. -/
  | oct (len : Nat)
deriving DecidableEq, Repr

/-- The access codes of R39. -/
inductive ObjAcc where
  | const | ro | rw | wo | rwc
deriving DecidableEq, Repr

/-- A default: a number, n equal bytes, or given bytes. -/
inductive ObjDflt where
  | num (v : Int)
  | fill (n : Nat) (b : Byte)
  | raw (b : Bytes)
deriving DecidableEq, Repr

/-- The persistence codes of R41. -/
inductive ObjPers where
  | v | p | f
deriving DecidableEq, Repr

/-- The apply classes of R42: immediate, staged, not writable. -/
inductive ObjApply where
  | i | s | no
deriving DecidableEq, Repr

/-- The range a Meaning column states (R609): anything, an interval, an interval or one further value, or a set of
bits that may be 1. -/
inductive ObjRange where
  | any
  | span (lo hi : Int)
  | spanOr (lo hi other : Int)
  | bits (mask : Nat)
deriving DecidableEq, Repr

/-- One row of the object tables: indices lo to hi, subindices slo to shi. -/
structure ObjRow where
  lo : Nat
  hi : Nat
  slo : Nat
  shi : Nat
  ty : ObjType
  acc : ObjAcc
  dflt : ObjDflt
  pers : ObjPers
  apply : ObjApply
  range : ObjRange
  /-- The role a write needs: 0 Observer, 1 Operator, 2 Maintainer, 3 Vendor (R40). -/
  wrole : Nat
deriving DecidableEq, Repr

/-- A row whose write needs Maintainer (R40). -/
def row (lo hi slo shi : Nat) (ty : ObjType) (acc : ObjAcc) (d : ObjDflt) (pe : ObjPers) (a : ObjApply) (g : ObjRange) : ObjRow :=
  ObjRow.mk lo hi slo shi ty acc d pe a g 2

/-- A row whose Meaning column lets an Operator write. -/
def rowOp (lo hi slo shi : Nat) (ty : ObjType) (acc : ObjAcc) (d : ObjDflt) (pe : ObjPers) (a : ObjApply) (g : ObjRange) : ObjRow :=
  ObjRow.mk lo hi slo shi ty acc d pe a g 1

/-- The factory VLAN image (R121, 3500h.01): entry 0 invalid; VID 1 valid, Learn 1, Flood 1, FID 0, all ports members and
untagged; every other entry absent, hence invalid. -/
def factoryVlanImage : Bytes :=
  List.replicate 16 0 ++ [0xE0, 0x00, 0x00, 0x00, 0x00, 0x3F, 0xFF, 0xFF, 0xFF, 0xFF, 0xFF, 0xFF, 0xFF, 0xFF, 0xFF, 0xFF]

/-- Objects 1000h to 10FFh, part 1. -/
def rows10p1 : List ObjRow := [
  row 0x1000 0x1000 0 0 .u32 .const (.num 0) .f .no (.any),
  row 0x1001 0x1001 0 0 .u8 .ro (.num 0) .v .no (.any),
  row 0x1008 0x1008 0 0 .str .const (.raw [0x4D, 0x58, 0x47, 0x37, 0x32, 0x36, 0x30]) .f .no (.any),
  row 0x1009 0x1009 0 0 .str .const (.raw [0x42, 0x31]) .f .no (.any),
  row 0x100A 0x100A 0 0 .str .ro (.fill 0 0) .v .no (.any),
  rowOp 0x1017 0x1017 0 0 .u16 .rw (.num 0) .p .i (.any),
  row 0x1018 0x1018 1 1 .u32 .const (.num 1280069197) .f .no (.any),
  row 0x1018 0x1018 2 2 .u32 .const (.num 29280) .f .no (.any),
  row 0x1018 0x1018 3 3 .u32 .ro (.num 0) .v .no (.any),
  row 0x1018 0x1018 4 4 .u32 .const (.num 0) .f .no (.any),
  row 0x1018 0x1018 0 0 .u8 .const (.num 4) .f .no (.any)]

/-- Objects 2000h to 20FFh, part 1. -/
def rows20p1 : List ObjRow := [
  row 0x2000 0x2000 1 1 .u8 .ro (.num 0) .v .no (.any),
  row 0x2000 0x2000 2 2 .u8 .wo (.num 0) .v .i (.any),
  row 0x2000 0x2000 3 3 .u8 .ro (.num 0) .v .no (.any),
  row 0x2000 0x2000 4 4 .u16 .ro (.num 1) .v .no (.any),
  row 0x2000 0x2000 5 5 .tx .ro (.num 0) .v .no (.any),
  row 0x2000 0x2000 6 6 .bool .rw (.num 1) .p .s (.any),
  row 0x2000 0x2000 7 7 .u16 .rw (.num 0) .p .s (.span 0 3600),
  row 0x2000 0x2000 8 8 .s32 .rw (.num 0) .p .i (.any),
  row 0x2000 0x2000 0 0 .u8 .const (.num 8) .f .no (.any)]

/-- Objects 2100h to 21FFh, part 1. -/
def rows21p1 : List ObjRow := [
  row 0x2100 0x2100 1 1 .u8 .ro (.num 0) .v .no (.any),
  row 0x2100 0x2100 2 2 .u16 .rw (.num 60) .p .i (.span 10 3600),
  row 0x2100 0x2100 3 3 .s32 .rw (.num 0) .p .i (.any),
  row 0x2100 0x2100 4 4 .u8 .ro (.num 0) .v .no (.any),
  row 0x2100 0x2100 5 5 .u8 .ro (.num 0) .v .no (.any),
  row 0x2100 0x2100 6 6 .u32 .ro (.num 0) .v .no (.any),
  row 0x2110 0x2110 1 1 .bool .rw (.num 1) .p .s (.any),
  row 0x2110 0x2110 2 2 .bool .rwc (.num 0) .p .s (.any),
  row 0x2110 0x2110 3 3 .u8 .rwc (.num 2) .p .s (.span 0 2),
  row 0x2110 0x2110 4 4 .u8 .rwc (.num 2) .p .s (.span 0 2),
  row 0x2110 0x2110 5 5 .u8 .rwc (.num 32) .p .s (.span 1 127),
  row 0x2111 0x2111 1 8 .u8 .rwc (.num 255) .p .s (.spanOr 0 2 255),
  row 0x2120 0x2120 1 1 .dom .ro (.fill 0 0) .f .no (.any),
  row 0x2120 0x2120 2 2 .dom .rwc (.fill 0 0) .p .s (.any),
  row 0x2120 0x2120 3 3 .dom .wo (.fill 0 0) .p .s (.any),
  row 0x2120 0x2120 4 4 .bool .ro (.num 0) .f .no (.any),
  row 0x2120 0x2120 5 5 (.oct 16) .ro (.fill 16 0) .v .no (.any),
  row 0x2120 0x2120 6 6 (.oct 96) .wo (.fill 96 0) .v .i (.any),
  row 0x2100 0x2100 0 0 .u8 .const (.num 6) .f .no (.any),
  row 0x2110 0x2110 0 0 .u8 .const (.num 5) .f .no (.any),
  row 0x2111 0x2111 0 0 .u8 .const (.num 8) .f .no (.any),
  row 0x2120 0x2120 0 0 .u8 .const (.num 6) .f .no (.any)]

/-- Objects 2200h to 22FFh, part 1. -/
def rows22p1 : List ObjRow := [
  row 0x2200 0x2200 1 1 .u8 .wo (.num 0) .v .i (.span 1 6),
  row 0x2200 0x2200 2 2 .t32 .rw (.num 0) .v .i (.any),
  row 0x2200 0x2200 3 3 .u8 .rw (.num 0) .v .i (.span 0 63),
  row 0x2200 0x2200 4 4 .u8 .ro (.num 255) .v .no (.any),
  row 0x2200 0x2200 5 5 .dom .wo (.fill 0 0) .v .i (.any),
  row 0x2200 0x2200 6 6 .u16 .ro (.num 0) .v .no (.any),
  row 0x2200 0x2200 7 7 .u8 .ro (.num 0) .v .no (.any),
  row 0x2200 0x2200 8 8 .u32 .ro (.num 0) .v .no (.any),
  row 0x2200 0x2200 9 9 .u8 .ro (.num 0) .v .no (.any),
  row 0x2200 0x2200 10 10 .u8 .ro (.num 0) .v .no (.any),
  row 0x2200 0x2200 11 11 .u32 .ro (.num 0) .v .no (.any),
  row 0x2200 0x2200 12 12 .u32 .ro (.num 0) .p .no (.any),
  row 0x2200 0x2200 13 13 .t32 .ro (.num 0) .v .no (.any),
  row 0x2200 0x2200 14 14 .s32 .rw (.num 0) .p .i (.any),
  row 0x2200 0x2200 0 0 .u8 .const (.num 14) .f .no (.any)]

/-- Objects 2300h to 23FFh, part 1. -/
def rows23p1 : List ObjRow := [
  row 0x2300 0x2300 1 1 .u16 .const (.num 1024) .f .no (.any),
  row 0x2300 0x2300 2 2 .s32 .rw (.num 0) .p .i (.any),
  row 0x2300 0x2300 3 3 .u8 .rw (.num 2) .p .i (.span 0 5),
  row 0x2300 0x2300 4 4 .u16 .rw (.num 100) .p .i (.any),
  row 0x2300 0x2300 5 5 .u32 .ro (.num 0) .v .no (.any),
  row 0x2301 0x2301 1 1 .u32 .rw (.num 0) .v .i (.any),
  row 0x2301 0x2301 2 2 (.oct 32) .ro (.fill 32 0) .v .no (.any),
  row 0x2300 0x2300 0 0 .u8 .const (.num 5) .f .no (.any),
  row 0x2301 0x2301 0 0 .u8 .const (.num 2) .f .no (.any)]

/-- Objects 2400h to 24FFh, part 1. -/
def rows24p1 : List ObjRow := [
  row 0x2400 0x2400 1 1 .bool .rw (.num 0) .p .s (.any),
  row 0x2400 0x2400 2 2 .u8 .rw (.num 1) .p .s (.span 1 2),
  row 0x2400 0x2400 3 3 .u8 .rw (.num 0) .p .s (.span 0 5),
  row 0x2400 0x2400 4 4 .bool .rw (.num 1) .p .s (.any),
  row 0x2400 0x2400 5 5 .u16 .rw (.num 60) .p .s (.span 10 65535),
  row 0x2400 0x2400 6 6 .u16 .rw (.num 30) .p .s (.span 0 3600),
  row 0x2400 0x2400 7 7 .u8 .rw (.num 20) .p .s (.span 10 100),
  row 0x2400 0x2400 8 8 .u64 .rw (.num 0) .p .s (.bits 0x3FFFFFFFFF),
  row 0x2400 0x2400 9 9 .u16 .rw (.num 1) .p .s (.span 1 4094),
  row 0x2400 0x2400 10 10 (.oct 6) .rw (.raw [0x03, 0x4C, 0x4C, 0x4E, 0x00, 0x01]) .p .s (.any),
  row 0x2400 0x2400 11 11 .u16 .rw (.num 2) .p .s (.span 1 60),
  row 0x2400 0x2400 12 12 .u64 .rw (.num 0) .p .s (.bits 0x3FFFFFFFFF),
  row 0x2400 0x2400 13 13 .u8 .rw (.num 0) .p .s (.span 0 10),
  row 0x2400 0x2400 14 14 .u8 .rw (.num 10) .p .s (.any),
  rowOp 0x2400 0x2400 15 15 .u16 .wo (.num 0) .v .i (.any),
  rowOp 0x2400 0x2400 16 16 .u8 .wo (.num 0) .v .i (.span 1 2),
  row 0x2400 0x2400 17 17 .u8 .ro (.num 0) .v .no (.any),
  row 0x2400 0x2400 18 18 .u16 .ro (.num 0) .v .no (.any),
  row 0x2400 0x2400 19 19 .t32 .ro (.num 0) .v .no (.any),
  row 0x2400 0x2400 20 20 .u16 .ro (.num 0) .v .no (.any),
  row 0x2400 0x2400 21 21 .u8 .rw (.num 0) .p .s (.any),
  row 0x2400 0x2400 22 22 .u32 .rw (.num 2046) .p .s (.any),
  row 0x2401 0x2401 1 16 .u64 .rw (.num 0) .p .s (.any),
  row 0x2402 0x2402 1 1 .u8 .ro (.num 255) .p .no (.any),
  row 0x2402 0x2402 2 2 .t32 .ro (.num 0) .p .no (.any),
  row 0x2402 0x2402 3 3 .bool .ro (.num 0) .p .no (.any),
  row 0x2402 0x2402 4 4 .u16 .ro (.num 0) .p .no (.any),
  row 0x2402 0x2402 5 5 .u32 .ro (.num 0) .p .no (.any),
  row 0x2402 0x2402 6 6 .u32 .ro (.num 0) .p .no (.any),
  row 0x2402 0x2402 7 7 .u8 .ro (.num 0) .p .no (.any),
  row 0x2420 0x2433 1 1 .bool .rw (.num 0) .p .s (.any),
  row 0x2420 0x2423 2 2 .u8 .rw (.num 1) .p .s (.span 1 5),
  row 0x2424 0x2433 2 2 .u8 .ro (.num 1) .p .s (.span 1 5),
  row 0x2420 0x2423 3 3 .u16 .rw (.num 10) .p .s (.span 1 255),
  row 0x2424 0x242B 3 3 .u16 .ro (.num 0) .p .s (.any),
  row 0x242C 0x2433 3 3 .u16 .rw (.num 50) .p .s (.span 8 1000),
  row 0x2420 0x2433 4 4 .bool .rw (.num 1) .p .s (.any),
  row 0x2420 0x2433 5 5 .u64 .rw (.num 0) .p .s (.bits 0x3FFFFFFFFF),
  row 0x2420 0x2433 6 6 .s32 .rw (.num 0) .p .i (.any),
  row 0x2420 0x2433 7 7 .bool .rw (.num 0) .p .i (.any)]

/-- Objects 2400h to 24FFh, part 2. -/
def rows24p2 : List ObjRow := [
  row 0x2420 0x2433 8 8 .bool .ro (.num 0) .v .no (.any),
  row 0x2440 0x2465 1 1 .bool .rw (.num 0) .p .s (.any),
  row 0x2440 0x2465 2 2 .u16 .rw (.num 600) .p .s (.span 1 65535),
  row 0x2440 0x2465 3 3 .bool .rw (.num 1) .p .s (.any),
  row 0x2440 0x2465 4 4 .u8 .ro (.num 0) .v .no (.any),
  row 0x2440 0x2465 5 5 .u16 .ro (.num 0) .v .no (.any),
  rowOp 0x2440 0x2465 6 6 .u8 .wo (.num 0) .v .i (.span 1 3),
  row 0x2440 0x2465 7 7 .s32 .rw (.num 0) .p .i (.any),
  row 0x2470 0x2470 3 3 .s32 .rw (.num 0) .p .i (.any),
  row 0x2470 0x2470 4 4 .s32 .rw (.num 0) .p .i (.any),
  row 0x2470 0x2470 5 5 .s32 .rw (.num 0) .p .i (.any),
  row 0x2470 0x2470 6 6 .s32 .rw (.num 0) .p .i (.any),
  row 0x2470 0x2470 7 7 .s32 .rw (.num 0) .p .i (.any),
  row 0x2470 0x2470 8 8 .s32 .rw (.num 0) .p .i (.any),
  row 0x2470 0x2470 9 9 .s32 .rw (.num 0) .p .i (.any),
  row 0x2470 0x2470 10 10 .s32 .rw (.num 0) .p .i (.any),
  row 0x2470 0x2470 11 11 .s32 .rw (.num 0) .p .i (.any),
  row 0x2470 0x2470 12 12 .s32 .rw (.num 0) .p .i (.any),
  row 0x2470 0x2470 1 1 .u8 .rw (.num 0) .v .i (.span 0 1),
  row 0x2470 0x2470 2 2 .t32 .ro (.num 0) .v .no (.any),
  row 0x2400 0x2400 0 0 .u8 .const (.num 22) .f .no (.any),
  row 0x2401 0x2401 0 0 .u8 .const (.num 16) .f .no (.any),
  row 0x2402 0x2402 0 0 .u8 .const (.num 7) .f .no (.any),
  row 0x2420 0x2433 0 0 .u8 .const (.num 8) .f .no (.any),
  row 0x2440 0x2465 0 0 .u8 .const (.num 7) .f .no (.any),
  row 0x2470 0x2470 0 0 .u8 .const (.num 12) .f .no (.any)]

/-- Objects 2500h to 25FFh, part 1. -/
def rows25p1 : List ObjRow := [
  row 0x2500 0x2500 1 1 .u16 .ro (.num 0) .v .no (.any),
  row 0x2500 0x2500 2 2 .u16 .ro (.num 0) .v .no (.any),
  row 0x2500 0x2500 3 3 .u16 .ro (.num 65535) .v .no (.any),
  row 0x2500 0x2500 4 4 .u16 .ro (.num 0) .v .no (.any),
  row 0x2500 0x2500 5 5 .i16 .ro (.num 0) .v .no (.any),
  row 0x2500 0x2500 6 6 .i16 .rw (.num 1100) .p .s (.span 600 1250),
  row 0x2500 0x2500 7 7 .u8 .rw (.num 50) .p .s (.span 10 200),
  row 0x2500 0x2500 8 8 .u16 .ro (.num 0) .v .no (.any),
  row 0x2500 0x2500 9 9 .u32 .ro (.num 0) .v .no (.any),
  row 0x2500 0x2500 10 10 .u32 .ro (.num 0) .p .no (.any),
  row 0x2560 0x2560 3 3 .s32 .rw (.num 0) .p .i (.any),
  row 0x2560 0x2560 4 4 .s32 .rw (.num 0) .p .i (.any),
  row 0x2560 0x2560 5 5 .s32 .rw (.num 0) .p .i (.any),
  row 0x2560 0x2560 6 6 .s32 .rw (.num 0) .p .i (.any),
  row 0x2560 0x2560 1 1 .u8 .rw (.num 0) .v .i (.span 0 1),
  row 0x2560 0x2560 2 2 .t32 .ro (.num 0) .v .no (.any),
  row 0x2500 0x2500 0 0 .u8 .const (.num 10) .f .no (.any),
  row 0x2560 0x2560 0 0 .u8 .const (.num 6) .f .no (.any)]

/-- Objects 2600h to 26FFh, part 1. -/
def rows26p1 : List ObjRow := [
  row 0x2600 0x2600 1 1 .u16 .rw (.num 64) .p .s (.span 1 65535),
  row 0x2600 0x2600 2 2 .u8 .rw (.num 8) .p .s (.span 1 255),
  row 0x2600 0x2600 3 3 .u32 .rw (.num 90000) .p .s (.span 10000 100000),
  row 0x2600 0x2600 4 4 .u8 .ro (.num 100) .v .no (.any),
  row 0x2600 0x2600 5 5 .u8 .ro (.num 100) .v .no (.any),
  row 0x2600 0x2600 6 6 .u8 .ro (.num 100) .v .no (.any),
  row 0x2600 0x2600 7 7 .u8 .ro (.num 100) .v .no (.any),
  row 0x2600 0x2600 8 8 .u32 .ro (.num 0) .p .no (.any),
  row 0x2600 0x2600 9 9 .u8 .ro (.num 32) .v .no (.any),
  row 0x2600 0x2600 10 10 .u8 .ro (.num 96) .v .no (.any),
  row 0x2610 0x2610 1 1 .u32 .ro (.num 0) .v .no (.any),
  row 0x2610 0x2610 2 2 .u16 .ro (.num 0) .v .no (.any),
  row 0x2610 0x2610 3 3 .i16 .ro (.num 0) .v .no (.any),
  row 0x2610 0x2610 4 4 .u32 .ro (.num 4294967295) .v .no (.any),
  row 0x2610 0x2610 5 5 .t32 .ro (.num 0) .v .no (.any),
  row 0x2620 0x2620 1 1 .u32 .rw (.num 0) .v .i (.any),
  row 0x2620 0x2620 2 2 (.oct 48) .ro (.fill 48 0) .v .no (.any),
  row 0x2620 0x2620 3 3 .u32 .ro (.num 0) .p .no (.any),
  row 0x2620 0x2620 4 4 .u16 .ro (.num 0) .v .no (.any),
  row 0x2640 0x2640 1 1 .u8 .ro (.num 0) .v .no (.any),
  row 0x2640 0x2640 2 2 .u8 .ro (.num 0) .v .no (.any),
  row 0x2640 0x2640 3 3 .u32 .ro (.num 0) .v .no (.any),
  row 0x2640 0x2640 4 4 .tx .ro (.num 0) .v .no (.any),
  row 0x2660 0x2660 3 3 .w64 .ro (.num 0) .v .no (.any),
  row 0x2660 0x2660 4 4 .s32 .rw (.num 0) .p .i (.any),
  row 0x2660 0x2660 5 5 .s32 .rw (.num 0) .p .i (.any),
  row 0x2660 0x2660 6 6 .s32 .rw (.num 0) .p .i (.any),
  row 0x2660 0x2660 7 7 .s32 .rw (.num 0) .p .i (.any),
  row 0x2660 0x2660 8 8 .s32 .rw (.num 0) .p .i (.any),
  row 0x2660 0x2660 1 1 .u8 .rw (.num 0) .v .i (.span 0 1),
  row 0x2660 0x2660 2 2 .t32 .ro (.num 0) .v .no (.any),
  row 0x2600 0x2600 0 0 .u8 .const (.num 10) .f .no (.any),
  row 0x2610 0x2610 0 0 .u8 .const (.num 5) .f .no (.any),
  row 0x2620 0x2620 0 0 .u8 .const (.num 4) .f .no (.any),
  row 0x2640 0x2640 0 0 .u8 .const (.num 4) .f .no (.any),
  row 0x2660 0x2660 0 0 .u8 .const (.num 8) .f .no (.any)]

/-- Objects 2700h to 27FFh, part 1. -/
def rows27p1 : List ObjRow := [
  row 0x2700 0x2700 1 1 .u8 .wo (.num 0) .v .i (.span 1 6),
  row 0x2700 0x2700 2 2 .u8 .ro (.num 0) .v .no (.any),
  row 0x2700 0x2700 3 3 .u8 .ro (.num 0) .v .no (.any),
  row 0x2700 0x2700 4 4 .u8 .ro (.num 0) .v .no (.any),
  row 0x2700 0x2700 5 5 .u8 .ro (.num 0) .v .no (.any),
  row 0x2700 0x2700 6 6 .u8 .ro (.num 0) .v .no (.any),
  row 0x2700 0x2700 7 7 .u8 .ro (.num 0) .f .no (.any),
  row 0x2700 0x2700 8 8 .u16 .rw (.num 600) .p .s (.spanOr 60 65535 0),
  row 0x2700 0x2700 9 9 .u16 .ro (.num 0) .v .no (.any),
  row 0x2700 0x2700 10 10 .u32 .wo (.num 0) .v .i (.any),
  row 0x2700 0x2700 11 11 .u8 .wo (.num 0) .v .i (.any),
  row 0x2700 0x2700 12 12 .u16 .ro (.num 0) .v .no (.any),
  row 0x2700 0x2700 13 13 .u16 .ro (.num 0) .v .no (.any),
  row 0x2700 0x2700 14 14 .u8 .ro (.num 0) .v .no (.any),
  row 0x2701 0x2702 1 1 .u8 .ro (.num 0) .v .no (.any),
  row 0x2701 0x2702 2 2 .str .ro (.fill 0 0) .v .no (.any),
  row 0x2701 0x2702 3 3 .u8 .ro (.num 0) .v .no (.any),
  row 0x2701 0x2702 4 4 .u32 .ro (.num 0) .v .no (.any),
  row 0x2701 0x2702 5 5 .u32 .ro (.num 0) .v .no (.any),
  row 0x2701 0x2702 6 6 .u8 .ro (.num 0) .v .no (.any),
  row 0x2710 0x2710 1 6 .dom .wo (.fill 0 0) .v .i (.any),
  row 0x2700 0x2700 0 0 .u8 .const (.num 14) .f .no (.any),
  row 0x2701 0x2702 0 0 .u8 .const (.num 6) .f .no (.any),
  row 0x2710 0x2710 0 0 .u8 .const (.num 6) .f .no (.any)]

/-- Objects 2800h to 28FFh, part 1. -/
def rows28p1 : List ObjRow := [
  row 0x2800 0x2800 1 1 .u8 .ro (.num 0) .v .no (.any),
  row 0x2800 0x2800 2 2 .u8 .ro (.num 0) .v .no (.any),
  row 0x2800 0x2800 3 3 .u8 .rw (.num 160) .p .s (.any),
  row 0x2800 0x2800 4 4 .bool .rw (.num 1) .p .s (.any),
  row 0x2800 0x2800 5 5 .u16 .ro (.num 0) .v .no (.any),
  row 0x2810 0x2810 3 3 .w64 .ro (.num 0) .v .no (.any),
  row 0x2810 0x2810 4 4 .s32 .rw (.num 0) .v .i (.any),
  row 0x2810 0x2810 5 5 .w64 .ro (.num 0) .v .no (.any),
  row 0x2810 0x2810 6 6 .s32 .rw (.num 0) .v .i (.any),
  row 0x2810 0x2810 7 7 .s32 .rw (.num 0) .v .i (.any),
  row 0x2810 0x2810 8 8 .s32 .rw (.num 0) .v .i (.any),
  row 0x2810 0x2810 9 9 .s32 .rw (.num 0) .v .i (.any),
  row 0x2810 0x2810 10 10 .s32 .rw (.num 0) .v .i (.any),
  row 0x2810 0x2810 11 11 .s32 .rw (.num 0) .v .i (.any),
  row 0x2810 0x2810 12 12 .s32 .rw (.num 0) .v .i (.any),
  row 0x2810 0x2810 1 1 .u8 .rw (.num 0) .v .i (.span 0 1),
  row 0x2810 0x2810 2 2 .t32 .ro (.num 0) .v .no (.any),
  row 0x2800 0x2800 0 0 .u8 .const (.num 5) .f .no (.any),
  row 0x2810 0x2810 0 0 .u8 .const (.num 12) .f .no (.any)]

/-- Objects 2900h to 29FFh, part 1. -/
def rows29p1 : List ObjRow := [
  row 0x2900 0x2900 1 1 .u8 .ro (.num 0) .v .no (.any),
  row 0x2900 0x2900 2 2 .u8 .ro (.num 255) .v .no (.any),
  row 0x2900 0x2900 3 3 .u8 .ro (.num 0) .v .no (.any),
  row 0x2900 0x2900 4 4 .u16 .ro (.num 0) .v .no (.any),
  row 0x2900 0x2900 5 5 .u16 .rw (.num 100) .p .s (.span 10 1000),
  row 0x2900 0x2900 6 6 .t32 .ro (.num 0) .v .no (.any),
  row 0x2900 0x2900 7 7 .u8 .ro (.num 0) .v .no (.any),
  row 0x2900 0x2900 8 8 .t32 .ro (.num 0) .v .no (.any),
  row 0x2900 0x2900 9 9 .str .ro (.fill 0 0) .v .no (.any),
  row 0x2910 0x2910 1 1 .u8 .ro (.num 0) .p .no (.any),
  row 0x2910 0x2910 2 2 .tx .ro (.num 0) .p .no (.any),
  row 0x2910 0x2910 3 3 .t32 .ro (.num 0) .p .no (.any),
  row 0x2910 0x2910 4 4 .u8 .ro (.num 255) .p .no (.any),
  row 0x2910 0x2910 5 5 .u32 .ro (.num 0) .p .no (.any),
  row 0x2910 0x2910 6 6 .u64 .ro (.num 0) .p .no (.any),
  row 0x2910 0x2910 7 7 .u64 .ro (.num 0) .p .no (.any),
  row 0x2910 0x2910 8 8 .u32 .ro (.num 0) .p .no (.any),
  row 0x2910 0x2910 9 9 .u8 .ro (.num 255) .p .no (.any),
  row 0x2920 0x2920 1 1 .u8 .const (.num 0) .f .no (.any),
  row 0x2921 0x2921 1 1 .u8 .const (.num 0) .f .no (.any),
  row 0x2922 0x2922 1 1 .u8 .const (.num 0) .f .no (.any),
  row 0x2923 0x2923 1 1 .u8 .const (.num 0) .f .no (.any),
  row 0x2924 0x2924 1 1 .u8 .const (.num 0) .f .no (.any),
  row 0x2925 0x2925 1 1 .u8 .const (.num 0) .f .no (.any),
  row 0x2926 0x2926 1 1 .u8 .const (.num 0) .f .no (.any),
  row 0x2920 0x2926 2 2 .t32 .ro (.num 0) .v .no (.any),
  row 0x2920 0x2926 3 3 .u32 .ro (.num 0) .v .no (.any),
  row 0x2920 0x2926 4 4 .bool .ro (.num 0) .v .no (.any),
  row 0x2940 0x2940 3 3 .w64 .ro (.num 0) .v .no (.any),
  row 0x2940 0x2940 4 4 .w64 .ro (.num 0) .v .no (.any),
  row 0x2940 0x2940 5 5 .w64 .ro (.num 0) .v .no (.any),
  row 0x2940 0x2940 6 6 .w64 .ro (.num 0) .v .no (.any),
  row 0x2940 0x2940 7 7 .w64 .ro (.num 0) .v .no (.any),
  row 0x2940 0x2940 8 8 .w64 .ro (.num 0) .v .no (.any),
  row 0x2940 0x2940 9 9 .w64 .ro (.num 0) .v .no (.any),
  row 0x2940 0x2940 10 10 .s32 .rw (.num 0) .p .i (.any),
  row 0x2940 0x2940 1 1 .u8 .rw (.num 0) .v .i (.span 0 1),
  row 0x2940 0x2940 2 2 .t32 .ro (.num 0) .v .no (.any),
  row 0x2900 0x2900 0 0 .u8 .const (.num 9) .f .no (.any),
  row 0x2910 0x2910 0 0 .u8 .const (.num 9) .f .no (.any)]

/-- Objects 2900h to 29FFh, part 2. -/
def rows29p2 : List ObjRow := [
  row 0x2920 0x2926 0 0 .u8 .const (.num 4) .f .no (.any),
  row 0x2940 0x2940 0 0 .u8 .const (.num 10) .f .no (.any)]

/-- Objects 2A00h to 2AFFh, part 1. -/
def rows2Ap1 : List ObjRow := [
  row 0x2A00 0x2A00 1 1 .bool .rw (.num 0) .p .s (.any),
  row 0x2A00 0x2A00 2 2 .u8 .ro (.num 0) .v .no (.any),
  row 0x2A00 0x2A00 3 3 .bool .rw (.num 0) .p .s (.any),
  row 0x2A00 0x2A00 4 4 .u8 .rw (.num 0) .p .s (.span 0 1),
  row 0x2A00 0x2A00 5 5 .u16 .rw (.num 300) .p .s (.span 10 65535),
  row 0x2A00 0x2A00 6 6 .u32 .rw (.num 0) .p .s (.any),
  row 0x2A00 0x2A00 7 7 .u64 .rw (.num 0) .p .s (.any),
  row 0x2A00 0x2A00 8 8 .u16 .rw (.num 1) .p .s (.span 1 4094),
  row 0x2A00 0x2A00 9 9 (.oct 6) .rw (.raw [0x03, 0x4C, 0x4C, 0x4E, 0x00, 0x02]) .p .s (.any),
  row 0x2A00 0x2A00 10 10 .u16 .rw (.num 60) .p .s (.span 0 3600),
  row 0x2A00 0x2A00 11 11 .u32 .ro (.num 0) .p .no (.any),
  row 0x2A00 0x2A00 12 12 .t32 .ro (.num 0) .v .no (.any),
  row 0x2A00 0x2A00 13 13 .u16 .ro (.num 0) .v .no (.any),
  row 0x2A00 0x2A00 14 14 .u8 .wo (.num 0) .v .i (.span 1 1),
  row 0x2A00 0x2A00 15 15 .u64 .ro (.num 0) .v .no (.any),
  row 0x2A00 0x2A00 16 16 .u32 .ro (.num 0) .v .no (.any),
  row 0x2A01 0x2A01 1 6 .u8 .rw (.num 0) .p .s (.span 0 2),
  row 0x2A01 0x2A01 7 7 .u8 .ro (.num 0) .v .no (.any),
  row 0x2A01 0x2A01 8 8 .u8 .ro (.num 0) .v .no (.any),
  row 0x2A02 0x2A02 1 8 .bool .rw (.num 0) .p .s (.any),
  row 0x2A02 0x2A02 9 14 .bool .rw (.num 0) .p .s (.any),
  row 0x2A10 0x2A10 3 3 .w64 .ro (.num 0) .v .no (.any),
  row 0x2A10 0x2A10 4 4 .w64 .ro (.num 0) .v .no (.any),
  row 0x2A10 0x2A10 5 5 .s32 .rw (.num 0) .v .i (.any),
  row 0x2A10 0x2A10 6 6 .s32 .rw (.num 0) .v .i (.any),
  row 0x2A10 0x2A10 7 7 .s32 .rw (.num 0) .v .i (.any),
  row 0x2A10 0x2A10 8 8 .s32 .rw (.num 0) .p .i (.any),
  row 0x2A10 0x2A10 9 9 .s32 .rw (.num 0) .p .i (.any),
  row 0x2A10 0x2A10 10 10 .s32 .rw (.num 0) .v .i (.any),
  row 0x2A10 0x2A10 11 11 .s32 .rw (.num 0) .v .i (.any),
  row 0x2A10 0x2A10 12 12 .s32 .rw (.num 0) .v .i (.any),
  row 0x2A10 0x2A10 13 13 .s32 .rw (.num 0) .v .i (.any),
  row 0x2A10 0x2A10 1 1 .u8 .rw (.num 0) .v .i (.span 0 1),
  row 0x2A10 0x2A10 2 2 .t32 .ro (.num 0) .v .no (.any),
  row 0x2A00 0x2A00 0 0 .u8 .const (.num 16) .f .no (.any),
  row 0x2A01 0x2A01 0 0 .u8 .const (.num 8) .f .no (.any),
  row 0x2A02 0x2A02 0 0 .u8 .const (.num 14) .f .no (.any),
  row 0x2A10 0x2A10 0 0 .u8 .const (.num 13) .f .no (.any)]

/-- Objects 2B00h to 2BFFh, part 1. -/
def rows2Bp1 : List ObjRow := [
  row 0x2B00 0x2B00 1 1 .u32 .const (.num 455) .f .no (.any),
  row 0x2B00 0x2B00 2 2 .u16 .ro (.num 512) .v .no (.any),
  row 0x2B00 0x2B00 3 3 .u16 .ro (.num 0) .v .no (.any),
  row 0x2B00 0x2B00 4 4 .u32 .ro (.num 0) .p .no (.any),
  row 0x2B00 0x2B00 5 5 .u32 .ro (.num 0) .v .no (.any),
  row 0x2B00 0x2B00 6 6 .tx .ro (.num 0) .v .no (.any),
  row 0x2B00 0x2B00 7 7 .u32 .rw (.num 0) .v .i (.span 0 116479),
  row 0x2B00 0x2B00 8 8 .u8 .ro (.num 0) .v .no (.any),
  row 0x2B10 0x2B10 1 1 .u32 .rw (.num 65536) .p .s (.any),
  row 0x2B10 0x2B10 2 2 .u32 .rw (.num 32768) .p .s (.any),
  row 0x2B10 0x2B10 3 3 .u32 .rw (.num 32768) .p .s (.any),
  row 0x2B10 0x2B10 4 4 .u32 .rw (.num 8192) .p .s (.any),
  row 0x2B10 0x2B10 5 5 .u32 .rw (.num 512) .p .s (.any),
  row 0x2B10 0x2B10 6 6 .u32 .rw (.num 48) .p .s (.any),
  row 0x2B11 0x2B11 1 1 .u32 .ro (.num 65536) .v .no (.any),
  row 0x2B11 0x2B11 2 2 .u32 .ro (.num 32768) .v .no (.any),
  row 0x2B11 0x2B11 3 3 .u32 .ro (.num 32768) .v .no (.any),
  row 0x2B11 0x2B11 4 4 .u32 .ro (.num 8192) .v .no (.any),
  row 0x2B11 0x2B11 5 5 .u32 .ro (.num 512) .v .no (.any),
  row 0x2B11 0x2B11 6 6 .u32 .ro (.num 48) .v .no (.any),
  row 0x2B11 0x2B11 7 7 .u32 .ro (.num 65536) .v .no (.any),
  row 0x2B11 0x2B11 8 8 .u32 .ro (.num 32768) .v .no (.any),
  row 0x2B11 0x2B11 9 9 .u32 .ro (.num 32768) .v .no (.any),
  row 0x2B11 0x2B11 10 10 .u32 .ro (.num 8192) .v .no (.any),
  row 0x2B11 0x2B11 11 11 .u32 .ro (.num 512) .v .no (.any),
  row 0x2B11 0x2B11 12 12 .u32 .ro (.num 48) .v .no (.any),
  row 0x2B11 0x2B11 13 18 .u32 .ro (.num 0) .v .no (.any),
  row 0x2B11 0x2B11 19 19 .u32 .rw (.num 0) .v .i (.any),
  row 0x2B11 0x2B11 20 20 .u64 .ro (.num 0) .v .no (.any),
  row 0x2B40 0x2B40 1 1 .u32 .rw (.num 2048) .p .s (.any),
  row 0x2B40 0x2B40 2 2 .u32 .rw (.num 1024) .p .s (.any),
  row 0x2B40 0x2B40 3 3 .u32 .rw (.num 1024) .p .s (.any),
  row 0x2B40 0x2B40 4 4 .u32 .rw (.num 256) .p .s (.any),
  row 0x2B40 0x2B40 5 5 .u32 .rw (.num 16) .p .s (.any),
  row 0x2B40 0x2B40 6 6 .u32 .rw (.num 8) .p .s (.any),
  row 0x2B41 0x2B41 1 1 .u32 .rw (.num 512) .p .s (.any),
  row 0x2B41 0x2B41 2 2 .u32 .rw (.num 256) .p .s (.any),
  row 0x2B41 0x2B41 3 3 .u32 .rw (.num 1024) .p .s (.any),
  row 0x2B41 0x2B41 4 4 .u32 .rw (.num 256) .p .s (.any),
  row 0x2B41 0x2B41 6 6 .u32 .rw (.num 2) .p .s (.any)]

/-- Objects 2B00h to 2BFFh, part 2. -/
def rows2Bp2 : List ObjRow := [
  row 0x2B42 0x2B42 1 1 .u32 .rw (.num 512) .p .s (.any),
  row 0x2B42 0x2B42 2 2 .u32 .rw (.num 512) .p .s (.any),
  row 0x2B42 0x2B42 3 3 .u32 .rw (.num 256) .p .s (.any),
  row 0x2B42 0x2B42 5 5 .u32 .rw (.num 8) .p .s (.any),
  row 0x2B42 0x2B42 6 6 .u32 .rw (.num 4) .p .s (.any),
  row 0x2B43 0x2B43 1 1 .u32 .rw (.num 1024) .p .s (.any),
  row 0x2B43 0x2B43 2 2 .u32 .rw (.num 512) .p .s (.any),
  row 0x2B43 0x2B43 3 3 .u32 .rw (.num 256) .p .s (.any),
  row 0x2B44 0x2B44 1 1 .u32 .rw (.num 1024) .p .s (.any),
  row 0x2B44 0x2B44 2 2 .u32 .rw (.num 512) .p .s (.any),
  row 0x2B44 0x2B44 3 3 .u32 .rw (.num 256) .p .s (.any),
  row 0x2B45 0x2B45 1 1 .u32 .rw (.num 1024) .p .s (.any),
  row 0x2B45 0x2B45 2 2 .u32 .rw (.num 512) .p .s (.any),
  row 0x2B45 0x2B45 3 3 .u32 .rw (.num 256) .p .s (.any),
  row 0x2B46 0x2B46 1 1 .u32 .rw (.num 1024) .p .s (.any),
  row 0x2B46 0x2B46 2 2 .u32 .rw (.num 512) .p .s (.any),
  row 0x2B46 0x2B46 3 3 .u32 .rw (.num 256) .p .s (.any),
  row 0x2B47 0x2B47 3 3 .u32 .rw (.num 1024) .p .s (.any),
  row 0x2B47 0x2B47 4 4 .u32 .rw (.num 256) .p .s (.any),
  row 0x2B4A 0x2B4F 1 12 .u32 .rw (.num 0) .p .s (.span 0 0),
  row 0x2B40 0x2B5F 1 6 .u32 .rw (.num 0) .p .s (.any),
  row 0x2B40 0x2B5F 7 7 .u32 .rw (.num 65536) .p .s (.any),
  row 0x2B40 0x2B5F 8 8 .u32 .rw (.num 32768) .p .s (.any),
  row 0x2B40 0x2B5F 9 9 .u32 .rw (.num 32768) .p .s (.any),
  row 0x2B40 0x2B5F 10 10 .u32 .rw (.num 8192) .p .s (.any),
  row 0x2B40 0x2B5F 11 11 .u32 .rw (.num 512) .p .s (.any),
  row 0x2B40 0x2B5F 12 12 .u32 .rw (.num 48) .p .s (.any),
  row 0x2B40 0x2B5F 13 18 .u32 .ro (.num 0) .v .no (.any),
  row 0x2B40 0x2B5F 19 19 .u8 .ro (.num 0) .v .no (.any),
  row 0x2B20 0x2B20 3 3 .w64 .ro (.num 0) .v .no (.any),
  row 0x2B20 0x2B20 4 4 .w64 .ro (.num 0) .v .no (.any),
  row 0x2B20 0x2B20 5 5 .s32 .rw (.num 0) .v .i (.any),
  row 0x2B20 0x2B20 6 6 .s32 .rw (.num 0) .v .i (.any),
  row 0x2B20 0x2B20 7 7 .w64 .ro (.num 0) .v .no (.any),
  row 0x2B20 0x2B20 8 8 .s32 .rw (.num 0) .v .i (.any),
  row 0x2B60 0x2B60 3 3 .w64 .ro (.num 0) .v .no (.any),
  row 0x2B60 0x2B60 4 4 .s32 .rw (.num 0) .v .i (.any),
  row 0x2B60 0x2B60 5 5 .s32 .rw (.num 0) .v .i (.any),
  row 0x2B60 0x2B60 6 6 .w64 .ro (.num 0) .v .no (.any),
  row 0x2B60 0x2B60 7 7 .s32 .rw (.num 0) .v .i (.any)]

/-- Objects 2B00h to 2BFFh, part 3. -/
def rows2Bp3 : List ObjRow := [
  row 0x2B60 0x2B60 8 8 .s32 .rw (.num 0) .v .i (.any),
  row 0x2B60 0x2B60 9 9 .s32 .rw (.num 0) .v .i (.any),
  row 0x2B60 0x2B60 10 10 .s32 .rw (.num 0) .v .i (.any),
  row 0x2B60 0x2B60 11 11 .w64 .ro (.num 0) .v .no (.any),
  row 0x2B61 0x2B61 1 1 .u32 .rw (.num 0) .v .i (.any),
  row 0x2B61 0x2B61 2 2 (.oct 16) .ro (.fill 16 0) .v .no (.any),
  row 0x2B20 0x2B20 1 1 .u8 .rw (.num 0) .v .i (.span 0 1),
  row 0x2B20 0x2B20 2 2 .t32 .ro (.num 0) .v .no (.any),
  row 0x2B60 0x2B60 1 1 .u8 .rw (.num 0) .v .i (.span 0 1),
  row 0x2B60 0x2B60 2 2 .t32 .ro (.num 0) .v .no (.any),
  row 0x2B00 0x2B00 0 0 .u8 .const (.num 8) .f .no (.any),
  row 0x2B10 0x2B10 0 0 .u8 .const (.num 6) .f .no (.any),
  row 0x2B11 0x2B11 0 0 .u8 .const (.num 20) .f .no (.any),
  row 0x2B20 0x2B20 0 0 .u8 .const (.num 8) .f .no (.any),
  row 0x2B40 0x2B5F 0 0 .u8 .const (.num 19) .f .no (.any),
  row 0x2B60 0x2B60 0 0 .u8 .const (.num 11) .f .no (.any),
  row 0x2B61 0x2B61 0 0 .u8 .const (.num 2) .f .no (.any)]

/-- Objects 3000h to 30FFh, part 1. -/
def rows30p1 : List ObjRow := [
  row 0x3040 0x3040 1 6 .u8 .rw (.num 0) .p .s (.span 0 2),
  row 0x3040 0x3040 7 12 .u8 .rw (.num 0) .p .s (.span 0 3),
  row 0x3000 0x3025 1 1 .bool .rw (.num 0) .p .s (.any),
  row 0x3026 0x302A 1 1 .bool .rw (.num 1) .p .s (.any),
  row 0x3000 0x302A 2 2 .u8 .ro (.num 4) .v .no (.any),
  row 0x3000 0x302A 3 3 .u8 .rw (.num 0) .p .s (.span 0 6),
  row 0x3000 0x302A 4 4 .u8 .ro (.num 0) .v .no (.any),
  row 0x3000 0x302A 5 5 .u16 .rw (.num 2048) .p .s (.span 1518 9216),
  row 0x3000 0x302A 6 6 .bool .rw (.num 1) .p .s (.any),
  row 0x3000 0x3000 7 7 .u8 .const (.num 0) .f .no (.any),
  row 0x3001 0x3001 7 7 .u8 .const (.num 1) .f .no (.any),
  row 0x3002 0x3002 7 7 .u8 .const (.num 2) .f .no (.any),
  row 0x3003 0x3003 7 7 .u8 .const (.num 3) .f .no (.any),
  row 0x3004 0x3004 7 7 .u8 .const (.num 4) .f .no (.any),
  row 0x3005 0x3005 7 7 .u8 .const (.num 5) .f .no (.any),
  row 0x3006 0x3006 7 7 .u8 .const (.num 6) .f .no (.any),
  row 0x3007 0x3007 7 7 .u8 .const (.num 6) .f .no (.any),
  row 0x3008 0x3008 7 7 .u8 .const (.num 6) .f .no (.any),
  row 0x3009 0x3009 7 7 .u8 .const (.num 6) .f .no (.any),
  row 0x300A 0x300A 7 7 .u8 .const (.num 7) .f .no (.any),
  row 0x300B 0x300B 7 7 .u8 .const (.num 7) .f .no (.any),
  row 0x300C 0x300C 7 7 .u8 .const (.num 7) .f .no (.any),
  row 0x300D 0x300D 7 7 .u8 .const (.num 7) .f .no (.any),
  row 0x300E 0x300E 7 7 .u8 .const (.num 8) .f .no (.any),
  row 0x300F 0x300F 7 7 .u8 .const (.num 8) .f .no (.any),
  row 0x3010 0x3010 7 7 .u8 .const (.num 8) .f .no (.any),
  row 0x3011 0x3011 7 7 .u8 .const (.num 8) .f .no (.any),
  row 0x3012 0x3012 7 7 .u8 .const (.num 9) .f .no (.any),
  row 0x3013 0x3013 7 7 .u8 .const (.num 9) .f .no (.any),
  row 0x3014 0x3014 7 7 .u8 .const (.num 9) .f .no (.any),
  row 0x3015 0x3015 7 7 .u8 .const (.num 9) .f .no (.any),
  row 0x3016 0x3016 7 7 .u8 .const (.num 10) .f .no (.any),
  row 0x3017 0x3017 7 7 .u8 .const (.num 10) .f .no (.any),
  row 0x3018 0x3018 7 7 .u8 .const (.num 10) .f .no (.any),
  row 0x3019 0x3019 7 7 .u8 .const (.num 10) .f .no (.any),
  row 0x301A 0x301A 7 7 .u8 .const (.num 11) .f .no (.any),
  row 0x301B 0x301B 7 7 .u8 .const (.num 11) .f .no (.any),
  row 0x301C 0x301C 7 7 .u8 .const (.num 11) .f .no (.any),
  row 0x301D 0x301D 7 7 .u8 .const (.num 11) .f .no (.any),
  row 0x301E 0x301E 7 7 .u8 .const (.num 12) .f .no (.any)]

/-- Objects 3000h to 30FFh, part 2. -/
def rows30p2 : List ObjRow := [
  row 0x301F 0x301F 7 7 .u8 .const (.num 12) .f .no (.any),
  row 0x3020 0x3020 7 7 .u8 .const (.num 12) .f .no (.any),
  row 0x3021 0x3021 7 7 .u8 .const (.num 12) .f .no (.any),
  row 0x3022 0x3022 7 7 .u8 .const (.num 12) .f .no (.any),
  row 0x3023 0x3023 7 7 .u8 .const (.num 12) .f .no (.any),
  row 0x3024 0x3024 7 7 .u8 .const (.num 12) .f .no (.any),
  row 0x3025 0x3025 7 7 .u8 .const (.num 12) .f .no (.any),
  row 0x3026 0x3026 7 7 .u8 .const (.num 13) .f .no (.any),
  row 0x3027 0x3027 7 7 .u8 .const (.num 13) .f .no (.any),
  row 0x3028 0x3028 7 7 .u8 .const (.num 13) .f .no (.any),
  row 0x3029 0x3029 7 7 .u8 .const (.num 13) .f .no (.any),
  row 0x302A 0x302A 7 7 .u8 .const (.num 12) .f .no (.any),
  row 0x3000 0x3000 8 8 .u8 .const (.num 255) .f .no (.any),
  row 0x3001 0x3001 8 8 .u8 .const (.num 255) .f .no (.any),
  row 0x3002 0x3002 8 8 .u8 .const (.num 255) .f .no (.any),
  row 0x3003 0x3003 8 8 .u8 .const (.num 255) .f .no (.any),
  row 0x3004 0x3004 8 8 .u8 .const (.num 255) .f .no (.any),
  row 0x3005 0x3005 8 8 .u8 .const (.num 255) .f .no (.any),
  row 0x3006 0x3006 8 8 .u8 .const (.num 0) .f .no (.any),
  row 0x3007 0x3007 8 8 .u8 .const (.num 1) .f .no (.any),
  row 0x3008 0x3008 8 8 .u8 .const (.num 2) .f .no (.any),
  row 0x3009 0x3009 8 8 .u8 .const (.num 3) .f .no (.any),
  row 0x300A 0x300A 8 8 .u8 .const (.num 0) .f .no (.any),
  row 0x300B 0x300B 8 8 .u8 .const (.num 1) .f .no (.any),
  row 0x300C 0x300C 8 8 .u8 .const (.num 2) .f .no (.any),
  row 0x300D 0x300D 8 8 .u8 .const (.num 3) .f .no (.any),
  row 0x300E 0x300E 8 8 .u8 .const (.num 0) .f .no (.any),
  row 0x300F 0x300F 8 8 .u8 .const (.num 1) .f .no (.any),
  row 0x3010 0x3010 8 8 .u8 .const (.num 2) .f .no (.any),
  row 0x3011 0x3011 8 8 .u8 .const (.num 3) .f .no (.any),
  row 0x3012 0x3012 8 8 .u8 .const (.num 0) .f .no (.any),
  row 0x3013 0x3013 8 8 .u8 .const (.num 1) .f .no (.any),
  row 0x3014 0x3014 8 8 .u8 .const (.num 2) .f .no (.any),
  row 0x3015 0x3015 8 8 .u8 .const (.num 3) .f .no (.any),
  row 0x3016 0x3016 8 8 .u8 .const (.num 0) .f .no (.any),
  row 0x3017 0x3017 8 8 .u8 .const (.num 1) .f .no (.any),
  row 0x3018 0x3018 8 8 .u8 .const (.num 2) .f .no (.any),
  row 0x3019 0x3019 8 8 .u8 .const (.num 3) .f .no (.any),
  row 0x301A 0x301A 8 8 .u8 .const (.num 0) .f .no (.any),
  row 0x301B 0x301B 8 8 .u8 .const (.num 1) .f .no (.any)]

/-- Objects 3000h to 30FFh, part 3. -/
def rows30p3 : List ObjRow := [
  row 0x301C 0x301C 8 8 .u8 .const (.num 2) .f .no (.any),
  row 0x301D 0x301D 8 8 .u8 .const (.num 3) .f .no (.any),
  row 0x301E 0x301E 8 8 .u8 .const (.num 255) .f .no (.any),
  row 0x301F 0x301F 8 8 .u8 .const (.num 255) .f .no (.any),
  row 0x3020 0x3020 8 8 .u8 .const (.num 255) .f .no (.any),
  row 0x3021 0x3021 8 8 .u8 .const (.num 255) .f .no (.any),
  row 0x3022 0x3022 8 8 .u8 .const (.num 255) .f .no (.any),
  row 0x3023 0x3023 8 8 .u8 .const (.num 255) .f .no (.any),
  row 0x3024 0x3024 8 8 .u8 .const (.num 255) .f .no (.any),
  row 0x3025 0x3025 8 8 .u8 .const (.num 255) .f .no (.any),
  row 0x3026 0x3026 8 8 .u8 .const (.num 255) .f .no (.any),
  row 0x3027 0x3027 8 8 .u8 .const (.num 255) .f .no (.any),
  row 0x3028 0x3028 8 8 .u8 .const (.num 255) .f .no (.any),
  row 0x3029 0x3029 8 8 .u8 .const (.num 255) .f .no (.any),
  row 0x302A 0x302A 8 8 .u8 .const (.num 255) .f .no (.any),
  row 0x3000 0x302A 9 9 .s32 .rw (.num 0) .v .i (.any),
  row 0x3000 0x302A 10 10 .tx .ro (.num 0) .v .no (.any),
  row 0x3000 0x302A 0 0 .u8 .const (.num 10) .f .no (.any),
  row 0x3040 0x3040 0 0 .u8 .const (.num 12) .f .no (.any)]

/-- Objects 3100h to 31FFh, part 1. -/
def rows31p1 : List ObjRow := [
  row 0x3100 0x312A 3 3 .w64 .ro (.num 0) .v .no (.any),
  row 0x3100 0x312A 4 4 .w64 .ro (.num 0) .v .no (.any),
  row 0x3100 0x312A 5 5 .w64 .ro (.num 0) .v .no (.any),
  row 0x3100 0x312A 6 6 .w64 .ro (.num 0) .v .no (.any),
  row 0x3100 0x312A 7 7 .s32 .rw (.num 0) .v .i (.any),
  row 0x3100 0x312A 8 8 .s32 .rw (.num 0) .v .i (.any),
  row 0x3100 0x312A 9 9 .s32 .rw (.num 0) .v .i (.any),
  row 0x3100 0x312A 10 10 .s32 .rw (.num 0) .v .i (.any),
  row 0x3100 0x312A 11 11 .s32 .rw (.num 0) .v .i (.any),
  row 0x3100 0x312A 12 12 .w64 .ro (.num 0) .v .no (.any),
  row 0x3100 0x312A 13 13 .s32 .rw (.num 0) .v .i (.any),
  row 0x3100 0x312A 14 14 .s32 .rw (.num 0) .v .i (.any),
  row 0x3100 0x312A 15 15 .s32 .rw (.num 0) .v .i (.any),
  row 0x3100 0x312A 16 16 .s32 .rw (.num 0) .v .i (.any),
  row 0x3100 0x312A 1 1 .u8 .rw (.num 0) .v .i (.span 0 1),
  row 0x3100 0x312A 2 2 .t32 .ro (.num 0) .v .no (.any),
  row 0x3100 0x312A 0 0 .u8 .const (.num 16) .f .no (.any)]

/-- Objects 3200h to 32FFh, part 1. -/
def rows32p1 : List ObjRow := [
  row 0x3200 0x320D 1 14 .u16 .rw (.num 128) .p .s (.span 64 512),
  row 0x3200 0x320D 17 30 .u16 .rw (.num 2048) .p .s (.span 0 6144),
  row 0x3200 0x320D 33 36 .u8 .rw (.num 12) .p .s (.span 1 16),
  row 0x3200 0x320D 37 40 .u8 .rw (.num 16) .p .s (.span 1 16),
  row 0x3200 0x320D 49 54 .u8 .rw (.num 6) .p .s (.span 0 7),
  row 0x3200 0x320D 55 60 .u8 .rw (.num 3) .p .s (.span 0 7),
  row 0x3200 0x320D 61 61 .u8 .rw (.num 5) .p .s (.span 0 7),
  row 0x3200 0x320D 62 62 .u8 .rw (.num 7) .p .s (.span 0 7),
  row 0x3220 0x322D 1 1 .u16 .ro (.num 8192) .v .no (.any),
  row 0x3220 0x322D 2 2 .u16 .ro (.num 6144) .v .no (.any),
  row 0x3220 0x322D 3 3 .u16 .ro (.num 0) .v .no (.any),
  row 0x3220 0x322D 4 4 .u16 .ro (.num 0) .v .no (.any),
  row 0x3220 0x322D 5 5 .u8 .ro (.num 0) .v .no (.any),
  row 0x3220 0x322D 6 6 .u8 .ro (.num 0) .v .no (.any),
  row 0x3220 0x322D 7 7 .u8 .ro (.num 255) .v .no (.any),
  row 0x3220 0x322D 8 8 .u8 .ro (.num 0) .v .no (.any),
  row 0x3220 0x322D 17 30 .u16 .ro (.num 0) .v .no (.any),
  row 0x3220 0x322D 33 46 .u16 .ro (.num 0) .v .no (.any),
  row 0x3240 0x324D 3 3 .w64 .ro (.num 0) .v .no (.any),
  row 0x3240 0x324D 4 4 .s32 .rw (.num 0) .v .i (.any),
  row 0x3240 0x324D 5 12 .s32 .rw (.num 0) .v .i (.any),
  row 0x3240 0x324D 13 13 .w64 .ro (.num 0) .v .no (.any),
  row 0x3240 0x324D 14 14 .s32 .rw (.num 0) .v .i (.any),
  row 0x3260 0x3260 1 1 .bool .rw (.num 1) .p .s (.any),
  row 0x3260 0x3260 2 2 .u16 .ro (.num 0) .v .no (.any),
  row 0x3260 0x3260 3 3 .bool .rw (.num 1) .p .s (.any),
  row 0x3280 0x3287 1 1 .u8 .rw (.num 0) .p .s (.bits 0x3F),
  row 0x3280 0x3287 2 2 .u16 .rw (.num 499) .p .s (.bits 0x07FF),
  row 0x3280 0x3287 3 3 .u32 .rw (.num 0) .p .s (.any),
  row 0x3280 0x3287 4 4 .bool .rw (.num 1) .p .s (.any),
  row 0x3280 0x3287 5 5 .u8 .ro (.num 0) .v .no (.any),
  row 0x3280 0x3287 6 6 (.oct 64) .ro (.fill 64 0) .v .no (.any),
  row 0x3240 0x324D 1 1 .u8 .rw (.num 0) .v .i (.span 0 1),
  row 0x3240 0x324D 2 2 .t32 .ro (.num 0) .v .no (.any),
  row 0x3200 0x320D 0 0 .u8 .const (.num 62) .f .no (.any),
  row 0x3220 0x322D 0 0 .u8 .const (.num 46) .f .no (.any),
  row 0x3240 0x324D 0 0 .u8 .const (.num 14) .f .no (.any),
  row 0x3260 0x3260 0 0 .u8 .const (.num 3) .f .no (.any),
  row 0x3280 0x3287 0 0 .u8 .const (.num 6) .f .no (.any)]

/-- Objects 3400h to 34FFh, part 1. -/
def rows34p1 : List ObjRow := [
  row 0x3400 0x3400 1 1 .u32 .rw (.num 300) .p .s (.span 10 1000000),
  row 0x3400 0x3400 2 2 .bool .rw (.num 1) .p .s (.any),
  row 0x3400 0x3400 3 3 (.oct 24) .rw (.raw [0xFF, 0xFF, 0xFF, 0xDB, 0x6D, 0xB6, 0xB6, 0xDB, 0x6D, 0x92, 0x49, 0x24, 0x6D, 0xB6, 0xDB, 0x49, 0x24, 0x92, 0x24, 0x92, 0x49, 0x00, 0x00, 0x00]) .p .s (.any),
  row 0x3400 0x3400 4 4 .u8 .rw (.num 10) .p .s (.any),
  row 0x3400 0x3400 5 5 .u16 .rw (.num 10) .p .s (.span 1 3600),
  row 0x3400 0x3400 6 6 .u32 .rw (.num 2500) .p .s (.any),
  row 0x3400 0x3400 7 7 .u32 .rw (.num 2500) .p .s (.any),
  row 0x3400 0x3400 8 8 .u8 .ro (.num 0) .v .no (.any),
  row 0x3400 0x3400 9 9 (.oct 6) .const (.fill 6 0) .f .no (.any),
  row 0x3400 0x3400 10 10 (.oct 6) .const (.fill 6 0) .f .no (.any),
  row 0x3440 0x346A 1 1 .u16 .rw (.num 1) .p .s (.span 1 4094),
  row 0x3440 0x346A 2 2 .u8 .rw (.num 0) .p .s (.span 0 2),
  row 0x3440 0x346A 3 3 .bool .rw (.num 1) .p .s (.any),
  row 0x3440 0x346A 4 4 .u16 .rw (.num 33024) .p .s (.spanOr 0x8100 0x8100 0x88A8),
  row 0x3440 0x346A 5 5 .u8 .rw (.num 0) .p .s (.span 0 2),
  row 0x3440 0x346A 6 6 .u8 .rw (.num 0) .p .s (.span 0 7),
  row 0x3440 0x346A 7 7 .u32 .rw (.num 16434824) .p .s (.any),
  row 0x3440 0x3466 8 8 .bool .rw (.num 0) .p .s (.any),
  row 0x3467 0x3469 8 8 .bool .rw (.num 1) .p .s (.any),
  row 0x346A 0x346A 8 8 .bool .rw (.num 0) .p .s (.any),
  row 0x3440 0x346A 9 9 .u16 .rw (.num 0) .p .s (.span 0 16640),
  row 0x3440 0x346A 10 10 .bool .rw (.num 1) .p .s (.any),
  row 0x3440 0x346A 11 11 .u8 .rw (.num 0) .p .s (.span 0 2),
  row 0x3440 0x346A 12 12 .bool .rw (.num 1) .p .s (.any),
  row 0x3440 0x346A 13 13 .bool .rw (.num 1) .p .s (.any),
  row 0x3440 0x346A 14 14 .u16 .rw (.num 4095) .p .s (.spanOr 0 2047 0x0FFF),
  row 0x3480 0x34AA 3 3 .w64 .ro (.num 0) .v .no (.any),
  row 0x3480 0x34AA 4 4 .s32 .rw (.num 0) .v .i (.any),
  row 0x3480 0x34AA 5 5 .s32 .rw (.num 0) .v .i (.any),
  row 0x3480 0x34AA 6 6 .s32 .rw (.num 0) .v .i (.any),
  row 0x3480 0x34AA 7 7 .s32 .rw (.num 0) .v .i (.any),
  row 0x3480 0x34AA 8 8 .w64 .ro (.num 0) .v .no (.any),
  row 0x3480 0x34AA 9 9 .w64 .ro (.num 0) .v .no (.any),
  row 0x3480 0x34AA 10 10 .s32 .rw (.num 0) .v .i (.any),
  row 0x3480 0x34AA 11 11 .s32 .rw (.num 0) .v .i (.any),
  row 0x3480 0x34AA 12 12 .s32 .rw (.num 0) .v .i (.any),
  row 0x3480 0x34AA 13 13 .s32 .rw (.num 0) .v .i (.any),
  row 0x3480 0x34AA 14 14 .s32 .rw (.num 0) .v .i (.any),
  row 0x3480 0x34AA 1 1 .u8 .rw (.num 0) .v .i (.span 0 1),
  row 0x3480 0x34AA 2 2 .t32 .ro (.num 0) .v .no (.any)]

/-- Objects 3400h to 34FFh, part 2. -/
def rows34p2 : List ObjRow := [
  row 0x3400 0x3400 0 0 .u8 .const (.num 10) .f .no (.any),
  row 0x3440 0x346A 0 0 .u8 .const (.num 14) .f .no (.any),
  row 0x3480 0x34AA 0 0 .u8 .const (.num 14) .f .no (.any)]

/-- Objects 3500h to 35FFh, part 1. -/
def rows35p1 : List ObjRow := [
  row 0x3500 0x3500 1 1 .dom .rw (.raw factoryVlanImage) .p .s (.any),
  row 0x3510 0x3510 1 1 .dom .rw (.fill 0 0) .p .s (.any),
  row 0x3510 0x3510 2 2 .u8 .wo (.num 0) .v .i (.span 1 3),
  row 0x3510 0x3510 3 3 .u8 .rw (.num 0) .v .i (.any),
  row 0x3510 0x3510 4 4 .u16 .rw (.num 0) .v .i (.any),
  row 0x3510 0x3510 5 5 .dom .rw (.fill 0 0) .p .s (.any),
  row 0x3510 0x3510 6 6 .u16 .ro (.num 0) .v .no (.any),
  row 0x3511 0x3511 1 1 .u16 .rw (.num 0) .v .i (.span 0 16639),
  row 0x3511 0x3511 2 2 (.oct 16) .ro (.fill 16 0) .v .no (.any),
  row 0x3520 0x3520 3 3 .w64 .ro (.num 0) .v .no (.any),
  row 0x3520 0x3520 4 4 .s32 .rw (.num 0) .v .i (.any),
  row 0x3520 0x3520 5 5 .s32 .rw (.num 0) .v .i (.any),
  row 0x3520 0x3520 6 6 .w64 .ro (.num 0) .v .no (.any),
  row 0x3520 0x3520 7 7 .s32 .rw (.num 0) .v .i (.any),
  row 0x3520 0x3520 8 8 .s32 .rw (.num 0) .v .i (.any),
  row 0x3520 0x3520 1 1 .u8 .rw (.num 0) .v .i (.span 0 1),
  row 0x3520 0x3520 2 2 .t32 .ro (.num 0) .v .no (.any),
  row 0x3500 0x3500 0 0 .u8 .const (.num 1) .f .no (.any),
  row 0x3510 0x3510 0 0 .u8 .const (.num 6) .f .no (.any),
  row 0x3511 0x3511 0 0 .u8 .const (.num 2) .f .no (.any),
  row 0x3520 0x3520 0 0 .u8 .const (.num 8) .f .no (.any)]

/-- Objects 3600h to 36FFh, part 1. -/
def rows36p1 : List ObjRow := [
  row 0x3600 0x3600 1 1 .dom .rw (.fill 0 0) .p .s (.any),
  row 0x3610 0x3610 1 1 .dom .rw (.fill 0 0) .p .s (.any),
  row 0x3620 0x3620 1 1 .dom .rw (.fill 0 0) .p .s (.any),
  row 0x3630 0x3630 1 1 .dom .rw (.fill 0 0) .p .s (.any),
  row 0x3630 0x3630 2 2 .u8 .wo (.num 0) .v .i (.any),
  row 0x3630 0x3630 3 3 (.oct 32) .ro (.fill 32 0) .v .no (.any),
  row 0x3641 0x3641 1 1 .u16 .rw (.num 0) .v .i (.any),
  row 0x3641 0x3641 2 2 .u16 .rw (.num 0) .v .i (.any),
  row 0x3641 0x3641 3 3 .u16 .rw (.num 0) .v .i (.any),
  row 0x3641 0x3641 4 4 .i32 .ro (.num 0) .v .no (.any),
  row 0x3641 0x3641 5 5 .i32 .ro (.num 0) .v .no (.any),
  row 0x3641 0x3641 6 6 .bool .ro (.num 0) .v .no (.any),
  row 0x3641 0x3641 7 7 .u8 .wo (.num 0) .v .i (.span 1 1),
  row 0x3640 0x3640 3 3 .w64 .ro (.num 0) .v .no (.any),
  row 0x3640 0x3640 4 4 .w64 .ro (.num 0) .v .no (.any),
  row 0x3640 0x3640 5 5 .s32 .rw (.num 0) .v .i (.any),
  row 0x3640 0x3640 6 6 .s32 .rw (.num 0) .v .i (.any),
  row 0x3640 0x3640 7 7 .s32 .rw (.num 0) .v .i (.any),
  row 0x3640 0x3640 8 8 .w64 .ro (.num 0) .v .no (.any),
  row 0x3640 0x3640 1 1 .u8 .rw (.num 0) .v .i (.span 0 1),
  row 0x3640 0x3640 2 2 .t32 .ro (.num 0) .v .no (.any),
  row 0x3600 0x3600 0 0 .u8 .const (.num 1) .f .no (.any),
  row 0x3610 0x3610 0 0 .u8 .const (.num 1) .f .no (.any),
  row 0x3620 0x3620 0 0 .u8 .const (.num 1) .f .no (.any),
  row 0x3630 0x3630 0 0 .u8 .const (.num 3) .f .no (.any),
  row 0x3640 0x3640 0 0 .u8 .const (.num 8) .f .no (.any),
  row 0x3641 0x3641 0 0 .u8 .const (.num 7) .f .no (.any)]

/-- Objects 3700h to 37FFh, part 1. -/
def rows37p1 : List ObjRow := [
  row 0x3700 0x3700 1 1 .dom .rw (.fill 0 0) .p .s (.any),
  row 0x3700 0x3700 2 2 .dom .rw (.fill 0 0) .p .s (.any),
  row 0x3700 0x3700 3 3 .u16 .rw (.num 10) .p .s (.any),
  row 0x3720 0x3720 1 3 .u16 .rw (.num 65535) .p .s (.any),
  row 0x3720 0x3720 4 4 .u16 .rw (.num 400) .p .s (.span 10 2000),
  row 0x3720 0x3720 5 5 .u16 .ro (.num 0) .v .no (.any),
  row 0x3710 0x3710 3 3 .w64 .ro (.num 0) .v .no (.any),
  row 0x3710 0x3710 4 4 .w64 .ro (.num 0) .v .no (.any),
  row 0x3710 0x3710 5 5 .s32 .rw (.num 0) .v .i (.any),
  row 0x3710 0x3710 6 6 .s32 .rw (.num 0) .v .i (.any),
  row 0x3710 0x3710 7 7 .s32 .rw (.num 0) .v .i (.any),
  row 0x3710 0x3710 8 8 .s32 .rw (.num 0) .v .i (.any),
  row 0x3710 0x3710 9 9 .s32 .rw (.num 0) .v .i (.any),
  row 0x3721 0x3721 3 3 .w64 .ro (.num 0) .v .no (.any),
  row 0x3721 0x3721 4 4 .s32 .rw (.num 0) .v .i (.any),
  row 0x3721 0x3721 5 5 .s32 .rw (.num 0) .v .i (.any),
  row 0x3721 0x3721 6 6 .w64 .ro (.num 0) .v .no (.any),
  row 0x3740 0x3743 1 1 .bool .rw (.num 0) .p .s (.any),
  row 0x3740 0x3743 2 2 .u64 .rw (.num 0) .p .s (.any),
  row 0x3740 0x3743 3 3 .u64 .rw (.num 0) .p .s (.any),
  row 0x3740 0x3743 4 4 .u16 .rw (.num 2047) .p .s (.any),
  row 0x3740 0x3743 5 5 .u8 .rw (.num 0) .p .s (.span 0 37),
  row 0x3740 0x3743 6 6 .bool .rw (.num 0) .p .s (.any),
  row 0x3740 0x3743 7 7 .u16 .rw (.num 0) .p .s (.spanOr 64 512 0),
  row 0x3740 0x3743 8 8 .u8 .rw (.num 0) .p .s (.span 0 6),
  row 0x3740 0x3743 9 9 .s32 .rw (.num 0) .v .i (.any),
  row 0x3710 0x3710 1 1 .u8 .rw (.num 0) .v .i (.span 0 1),
  row 0x3710 0x3710 2 2 .t32 .ro (.num 0) .v .no (.any),
  row 0x3721 0x3721 1 1 .u8 .rw (.num 0) .v .i (.span 0 1),
  row 0x3721 0x3721 2 2 .t32 .ro (.num 0) .v .no (.any),
  row 0x3700 0x3700 0 0 .u8 .const (.num 3) .f .no (.any),
  row 0x3710 0x3710 0 0 .u8 .const (.num 9) .f .no (.any),
  row 0x3720 0x3720 0 0 .u8 .const (.num 5) .f .no (.any),
  row 0x3721 0x3721 0 0 .u8 .const (.num 6) .f .no (.any),
  row 0x3740 0x3743 0 0 .u8 .const (.num 9) .f .no (.any)]

/-- Objects 3800h to 38FFh, part 1. -/
def rows38p1 : List ObjRow := [
  row 0x3800 0x382A 1 1 .u8 .rw (.num 6) .p .s (.span 0 8),
  row 0x3800 0x382A 2 2 .i16 .rw (.num 20) .p .s (.span (-32) 63),
  row 0x3800 0x382A 3 10 .u32 .rw (.num 2048) .p .s (.span 64 65536),
  row 0x3800 0x382A 11 18 .u16 .rw (.num 4096) .p .s (.span 16 8192),
  row 0x3800 0x382A 19 19 .u8 .rw (.num 0) .p .s (.span 0 1),
  row 0x3800 0x382A 20 27 .u16 .ro (.num 0) .v .no (.any),
  row 0x3840 0x3865 1 8 .u32 .rw (.num 0) .p .s (.span 0 1250000),
  row 0x3840 0x3865 17 24 .i32 .ro (.num 0) .v .no (.any),
  row 0x3880 0x38A5 1 1 .bool .rw (.num 0) .p .s (.any),
  row 0x3880 0x38A5 2 2 .dom .rw (.fill 0 0) .p .s (.any),
  row 0x3880 0x38A5 3 3 .u8 .rw (.num 0) .p .s (.span 0 1),
  row 0x3880 0x38A5 4 4 .tx .rw (.num 0) .p .s (.any),
  row 0x3880 0x38A5 5 5 .u8 .rw (.num 255) .p .s (.any),
  row 0x3880 0x38A5 6 6 .dom .ro (.fill 0 0) .v .no (.any),
  row 0x3880 0x38A5 7 7 .u8 .ro (.num 0) .v .no (.any),
  row 0x3880 0x38A5 8 8 .t32 .ro (.num 0) .v .no (.any),
  row 0x3880 0x38A5 9 9 .u16 .ro (.num 0) .v .no (.any),
  row 0x3880 0x38A5 10 10 .t32 .ro (.num 0) .v .no (.any),
  row 0x3880 0x38A5 11 11 .s32 .rw (.num 0) .v .i (.any),
  row 0x3880 0x38A5 12 12 .u8 .ro (.num 255) .v .no (.any),
  row 0x38C0 0x38EA 3 10 .w64 .ro (.num 0) .v .no (.any),
  row 0x38C0 0x38EA 11 18 .s32 .rw (.num 0) .v .i (.any),
  row 0x38C0 0x38EA 19 19 .s32 .rw (.num 0) .v .i (.any),
  row 0x38C0 0x38EA 20 20 .w64 .ro (.num 0) .v .no (.any),
  row 0x38C0 0x38EA 21 21 .w64 .ro (.num 0) .v .no (.any),
  row 0x38C0 0x38EA 22 22 .w64 .ro (.num 0) .v .no (.any),
  row 0x38C0 0x38EA 23 23 .s32 .rw (.num 0) .v .i (.any),
  row 0x38C0 0x38EA 24 24 .s32 .rw (.num 0) .v .i (.any),
  row 0x38C0 0x38EA 1 1 .u8 .rw (.num 0) .v .i (.span 0 1),
  row 0x38C0 0x38EA 2 2 .t32 .ro (.num 0) .v .no (.any),
  row 0x3800 0x382A 0 0 .u8 .const (.num 27) .f .no (.any),
  row 0x3840 0x3865 0 0 .u8 .const (.num 24) .f .no (.any),
  row 0x3880 0x38A5 0 0 .u8 .const (.num 12) .f .no (.any),
  row 0x38C0 0x38EA 0 0 .u8 .const (.num 24) .f .no (.any)]

/-- Objects 3900h to 39FFh, part 1. -/
def rows39p1 : List ObjRow := [
  row 0x3900 0x3905 1 1 .bool .rw (.num 0) .p .s (.any),
  row 0x3900 0x3905 2 2 .u8 .rw (.num 31) .p .s (.bits 0x7F),
  row 0x3900 0x3905 3 3 .u8 .rw (.num 0) .p .s (.span 0 3),
  row 0x3900 0x3905 4 4 .bool .rw (.num 0) .p .s (.any),
  row 0x3900 0x3905 5 5 .u8 .rw (.num 10) .p .s (.span 1 128),
  row 0x3900 0x3905 6 6 .u8 .ro (.num 0) .v .no (.any),
  row 0x3900 0x3905 7 7 .bool .ro (.num 0) .v .no (.any),
  row 0x3900 0x3905 0 0 .u8 .const (.num 7) .f .no (.any)]

/-- Objects 3C00h to 3CFFh, part 1. -/
def rows3Cp1 : List ObjRow := [
  row 0x3C00 0x3C00 1 1 .bool .rw (.num 1) .p .s (.any),
  row 0x3C00 0x3C00 2 2 .u16 .rw (.num 2) .p .s (.span 1 60),
  row 0x3C00 0x3C00 3 3 .u16 .rw (.num 256) .p .s (.span 16 1024),
  row 0x3C00 0x3C00 4 4 .u8 .rw (.num 4) .p .s (.span 0 8),
  row 0x3C00 0x3C00 5 5 .u32 .rw (.num 10000) .p .s (.span 100 1000000),
  row 0x3C00 0x3C00 6 6 .bool .rw (.num 1) .p .s (.any),
  row 0x3C00 0x3C00 7 7 .u16 .ro (.num 0) .v .no (.any),
  row 0x3C00 0x3C00 8 8 .u16 .ro (.num 0) .v .no (.any),
  row 0x3C00 0x3C00 9 9 .bool .ro (.num 0) .v .no (.any),
  row 0x3C00 0x3C00 10 10 .u16 .ro (.num 0) .v .no (.any),
  row 0x3C10 0x3C10 1 1 .dom .rw (.fill 0 0) .p .s (.any),
  row 0x3C10 0x3C10 2 2 .u32 .ro (.num 4294967295) .v .no (.any),
  row 0x3C10 0x3C10 3 3 .u16 .ro (.num 0) .v .no (.any),
  row 0x3C10 0x3C10 4 4 .bool .ro (.num 0) .v .no (.any),
  row 0x3C10 0x3C10 5 5 .t32 .ro (.num 0) .v .no (.any),
  row 0x3C10 0x3C10 6 6 .u16 .ro (.num 0) .v .no (.any),
  row 0x3C10 0x3C10 7 7 .u16 .ro (.num 0) .v .no (.any),
  row 0x3C20 0x3C2F 1 1 .u16 .rw (.num 10) .p .s (.span 1 65535),
  row 0x3C20 0x3C2F 2 2 .u16 .rw (.num 3600) .p .s (.any),
  row 0x3C20 0x3C2F 3 3 .u16 .rw (.num 10) .p .s (.any),
  row 0x3C20 0x3C2F 4 4 .u16 .rw (.num 60) .p .s (.any),
  row 0x3C40 0x3C65 1 1 .u8 .rw (.num 1) .p .s (.span 0 15),
  row 0x3C66 0x3C68 1 1 .u8 .rw (.num 0) .p .s (.span 0 15),
  row 0x3C69 0x3C69 1 1 .u8 .rw (.num 4) .p .s (.span 0 15),
  row 0x3C6A 0x3C6A 1 1 .u8 .rw (.num 5) .p .s (.span 0 15),
  row 0x3C40 0x3C6A 2 2 .u8 .rw (.num 0) .p .s (.span 0 1),
  row 0x3C70 0x3C70 1 8 .u8 .rw (.num 5) .p .s (.span 0 15),
  row 0x3C70 0x3C70 9 14 .u8 .rw (.num 5) .p .s (.span 0 15),
  row 0x3C80 0x3C80 1 1 .dom .rw (.fill 4096 0xFF) .p .s (.any),
  row 0x3C80 0x3C80 2 2 .dom .rw (.fill 2048 0xFF) .p .s (.any),
  row 0x3CA0 0x3CA3 3 3 .w64 .ro (.num 0) .v .no (.any),
  row 0x3CA0 0x3CA3 4 4 .w64 .ro (.num 0) .v .no (.any),
  row 0x3CA0 0x3CA3 5 5 .s32 .rw (.num 0) .v .i (.any),
  row 0x3CA0 0x3CA3 6 6 .s32 .rw (.num 0) .v .i (.any),
  row 0x3CA0 0x3CA3 7 7 .s32 .rw (.num 0) .v .i (.any),
  row 0x3CA0 0x3CA3 8 8 .s32 .rw (.num 0) .v .i (.any),
  row 0x3CA0 0x3CA3 9 9 .s32 .rw (.num 0) .v .i (.any),
  row 0x3CA0 0x3CA3 10 10 .s32 .rw (.num 0) .v .i (.any),
  row 0x3CC0 0x3CC0 3 3 .w64 .ro (.num 0) .v .no (.any),
  row 0x3CC0 0x3CC0 4 4 .w64 .ro (.num 0) .v .no (.any)]

/-- Objects 3C00h to 3CFFh, part 2. -/
def rows3Cp2 : List ObjRow := [
  row 0x3CC0 0x3CC0 5 5 .w64 .ro (.num 0) .v .no (.any),
  row 0x3CC0 0x3CC0 6 6 .s32 .rw (.num 0) .v .i (.any),
  row 0x3CC0 0x3CC0 7 7 .s32 .rw (.num 0) .v .i (.any),
  row 0x3CC0 0x3CC0 8 8 .s32 .rw (.num 0) .v .i (.any),
  row 0x3CC0 0x3CC0 9 9 .s32 .rw (.num 0) .v .i (.any),
  row 0x3CC0 0x3CC0 10 10 .w64 .ro (.num 0) .v .no (.any),
  row 0x3CC0 0x3CC0 11 11 .s32 .rw (.num 0) .v .i (.any),
  row 0x3CC1 0x3CC1 1 1 .u8 .rw (.num 0) .v .i (.span 0 255),
  row 0x3CC1 0x3CC1 2 2 .u16 .ro (.num 0) .v .no (.any),
  row 0x3CC1 0x3CC1 3 3 .u16 .ro (.num 0) .v .no (.any),
  row 0x3C01 0x3C01 1 1 .str .rw (.raw [0x6D, 0x61, 0x6E, 0x61, 0x67, 0x65, 0x6D, 0x65, 0x6E, 0x74]) .p .i (.any),
  row 0x3C01 0x3C01 2 2 .str .rw (.raw [0x6F, 0x70, 0x65, 0x72, 0x61, 0x74, 0x6F, 0x72, 0x2F, 0x62, 0x61, 0x63, 0x6B, 0x62, 0x6F, 0x6E, 0x65]) .p .i (.any),
  row 0x3C01 0x3C01 3 3 .str .rw (.raw [0x70, 0x61, 0x73, 0x73, 0x65, 0x6E, 0x67, 0x65, 0x72, 0x2D, 0x66, 0x61, 0x63, 0x69, 0x6E, 0x67]) .p .i (.any),
  row 0x3C01 0x3C01 4 4 .str .rw (.raw [0x43, 0x43, 0x54, 0x56]) .p .i (.any),
  row 0x3C01 0x3C01 5 5 .str .rw (.raw [0x50, 0x41, 0x2F, 0x69, 0x6E, 0x74, 0x65, 0x72, 0x63, 0x6F, 0x6D]) .p .i (.any),
  row 0x3C01 0x3C01 6 6 .str .rw (.raw [0x76, 0x65, 0x68, 0x69, 0x63, 0x6C, 0x65, 0x20, 0x63, 0x6F, 0x6E, 0x74, 0x72, 0x6F, 0x6C]) .p .i (.any),
  row 0x3C01 0x3C01 7 7 .str .rw (.raw [0x66, 0x72, 0x65, 0x65]) .p .i (.any),
  row 0x3C01 0x3C01 8 8 .str .rw (.raw [0x66, 0x72, 0x65, 0x65]) .p .i (.any),
  row 0x3C01 0x3C01 9 9 .str .rw (.raw [0x66, 0x72, 0x65, 0x65]) .p .i (.any),
  row 0x3C01 0x3C01 10 10 .str .rw (.raw [0x66, 0x72, 0x65, 0x65]) .p .i (.any),
  row 0x3C01 0x3C01 11 11 .str .rw (.raw [0x66, 0x72, 0x65, 0x65]) .p .i (.any),
  row 0x3C01 0x3C01 12 12 .str .rw (.raw [0x66, 0x72, 0x65, 0x65]) .p .i (.any),
  row 0x3C01 0x3C01 13 13 .str .rw (.raw [0x66, 0x72, 0x65, 0x65]) .p .i (.any),
  row 0x3C01 0x3C01 14 14 .str .rw (.raw [0x66, 0x72, 0x65, 0x65]) .p .i (.any),
  row 0x3C01 0x3C01 15 15 .str .rw (.raw [0x66, 0x72, 0x65, 0x65]) .p .i (.any),
  row 0x3C01 0x3C01 16 16 .str .rw (.raw [0x66, 0x72, 0x65, 0x65]) .p .i (.any),
  row 0x3CA0 0x3CA3 1 1 .u8 .rw (.num 0) .v .i (.span 0 1),
  row 0x3CA0 0x3CA3 2 2 .t32 .ro (.num 0) .v .no (.any),
  row 0x3CC0 0x3CC0 1 1 .u8 .rw (.num 0) .v .i (.span 0 1),
  row 0x3CC0 0x3CC0 2 2 .t32 .ro (.num 0) .v .no (.any),
  row 0x3C00 0x3C00 0 0 .u8 .const (.num 10) .f .no (.any),
  row 0x3C01 0x3C01 0 0 .u8 .const (.num 16) .f .no (.any),
  row 0x3C10 0x3C10 0 0 .u8 .const (.num 7) .f .no (.any),
  row 0x3C20 0x3C2F 0 0 .u8 .const (.num 4) .f .no (.any),
  row 0x3C40 0x3C6A 0 0 .u8 .const (.num 2) .f .no (.any),
  row 0x3C70 0x3C70 0 0 .u8 .const (.num 14) .f .no (.any),
  row 0x3C80 0x3C80 0 0 .u8 .const (.num 2) .f .no (.any),
  row 0x3CA0 0x3CA3 0 0 .u8 .const (.num 10) .f .no (.any),
  row 0x3CC0 0x3CC0 0 0 .u8 .const (.num 11) .f .no (.any),
  row 0x3CC1 0x3CC1 0 0 .u8 .const (.num 3) .f .no (.any)]

/-- Objects 3D00h to 3DFFh, part 1. -/
def rows3Dp1 : List ObjRow := [
  row 0x3D00 0x3D00 1 1 .u16 .rw (.num 0) .v .i (.span 0 32767),
  row 0x3D00 0x3D00 2 2 (.oct 64) .ro (.fill 64 0) .v .no (.any),
  row 0x3D00 0x3D00 3 3 .u8 .wo (.num 0) .v .i (.span 1 3),
  row 0x3D00 0x3D00 4 4 .u8 .rw (.num 0) .v .i (.any),
  row 0x3D10 0x3D10 1 1 .u32 .rw (.num 0) .v .i (.any),
  row 0x3D10 0x3D10 2 2 (.oct 64) .ro (.fill 64 0) .v .no (.any),
  row 0x3D10 0x3D10 3 3 .s32 .rw (.num 0) .v .i (.any),
  row 0x3D10 0x3D10 4 4 .u32 .ro (.num 0) .v .no (.any),
  row 0x3D10 0x3D10 5 5 .s32 .rw (.num 0) .v .i (.any),
  row 0x3D00 0x3D00 0 0 .u8 .const (.num 4) .f .no (.any),
  row 0x3D10 0x3D10 0 0 .u8 .const (.num 5) .f .no (.any)]

/-- Objects 4000h to 40FFh, part 1. -/
def rows40p1 : List ObjRow := [
  row 0x4000 0x4000 1 1 .t32 .ro (.num 0) .v .no (.any),
  row 0x4000 0x4000 2 2 .tx .ro (.num 0) .v .no (.any),
  row 0x4000 0x4000 3 3 .u8 .ro (.num 0) .v .no (.any),
  row 0x4000 0x4000 4 4 .u8 .ro (.num 0) .v .no (.any),
  row 0x4000 0x4000 5 5 .u8 .ro (.num 255) .v .no (.any),
  row 0x4000 0x4000 6 6 .i64 .ro (.num 0) .v .no (.any),
  row 0x4000 0x4000 7 7 .u64 .ro (.num 17179869184) .v .no (.any),
  row 0x4000 0x4000 8 8 .i32 .ro (.num 0) .v .no (.any),
  row 0x4000 0x4000 9 9 .i64 .ro (.num 0) .v .no (.any),
  row 0x4000 0x4000 10 10 .t32 .ro (.num 0) .v .no (.any),
  row 0x4000 0x4000 11 11 .tx .wo (.num 0) .v .i (.any),
  row 0x4010 0x4010 1 1 .u8 .rw (.num 0) .p .s (.span 0 3),
  row 0x4010 0x4010 2 2 .u16 .rw (.num 65535) .p .s (.any),
  row 0x4010 0x4010 3 3 .u32 .rw (.num 1000000) .p .s (.span 1000 1000000000),
  row 0x4010 0x4010 4 4 .bool .rw (.num 0) .p .s (.any),
  row 0x4010 0x4010 5 5 .u16 .rw (.num 100) .p .s (.span 1 500),
  row 0x4010 0x4010 6 6 .u32 .rw (.num 100) .p .s (.span 10 100000),
  row 0x4010 0x4010 7 7 .u16 .rw (.num 600) .p .s (.span 10 65535),
  row 0x4010 0x4010 8 8 .u16 .rw (.num 30) .p .s (.any),
  row 0x4030 0x4033 1 1 .bool .rw (.num 0) .p .s (.any),
  row 0x4030 0x4033 2 2 .u8 .rw (.num 0) .p .s (.span 0 2),
  row 0x4030 0x4030 3 3 .u8 .rw (.num 0) .p .s (.span 0 127),
  row 0x4031 0x4031 3 3 .u8 .rw (.num 1) .p .s (.span 0 127),
  row 0x4032 0x4032 3 3 .u8 .rw (.num 2) .p .s (.span 0 127),
  row 0x4033 0x4033 3 3 .u8 .rw (.num 3) .p .s (.span 0 127),
  row 0x4030 0x4033 4 4 .u64 .rw (.num 0) .p .s (.bits 0x3FFFFFFFFF),
  row 0x4030 0x4033 5 5 .u8 .rw (.num 0) .p .s (.span 0 1),
  row 0x4030 0x4033 6 6 (.oct 38) .rw (.fill 38 0) .p .s (.any),
  row 0x4030 0x4033 7 7 .u8 .rw (.num 246) .p .s (.any),
  row 0x4030 0x4033 8 8 .u8 .rw (.num 248) .p .s (.any),
  row 0x4030 0x4033 9 9 .u8 .rw (.num 248) .p .s (.any),
  row 0x4030 0x4033 10 10 .i16 .rw (.num (-3)) .p .s (.span (-7) 3),
  row 0x4030 0x4033 11 11 .i16 .rw (.num 0) .p .s (.span (-3) 4),
  row 0x4030 0x4033 12 12 .i16 .rw (.num 0) .p .s (.span (-7) 5),
  row 0x4030 0x4033 13 13 .u8 .rw (.num 3) .p .s (.span 2 255),
  row 0x4030 0x4033 14 14 (.oct 8) .ro (.fill 8 0) .v .no (.any),
  row 0x4030 0x4033 15 15 .i64 .ro (.num 0) .v .no (.any),
  row 0x4030 0x4033 16 16 .u32 .ro (.num 0) .v .no (.any),
  row 0x4030 0x4033 17 17 .u8 .ro (.num 0) .v .no (.any),
  row 0x4060 0x406F 1 1 .bool .rw (.num 0) .p .s (.any)]

/-- Objects 4000h to 40FFh, part 2. -/
def rows40p2 : List ObjRow := [
  row 0x4060 0x406F 2 2 .u8 .rw (.num 0) .p .s (.span 0 5),
  row 0x4060 0x406F 3 3 .u8 .rw (.num 0) .p .s (.any),
  row 0x4060 0x406F 4 4 .u8 .rw (.num 0) .p .s (.span 0 1),
  row 0x4060 0x406F 5 5 .t32 .rw (.num 0) .p .s (.any),
  row 0x4060 0x406F 6 6 .tx .rw (.num 0) .p .s (.any),
  row 0x4060 0x406F 7 7 .u32 .rw (.num 1000000) .p .s (.span 1000 1000000000),
  row 0x4060 0x406F 8 8 .t32 .ro (.num 0) .v .no (.any),
  row 0x4080 0x4083 1 1 .u16 .rw (.num 100) .p .s (.span 20 65535),
  row 0x4080 0x4083 2 2 .u8 .rw (.num 0) .p .i (.span 0 2),
  row 0x4080 0x4083 3 3 .u8 .rw (.num 1) .p .i (.span 0 1),
  row 0x4080 0x4083 4 4 .u32 .rw (.num 1000000) .p .i (.any),
  row 0x4080 0x4083 5 5 .u32 .rw (.num 100000000) .p .i (.span 2000 1000000000),
  row 0x4080 0x4083 6 6 .u32 .rw (.num 1000000) .p .i (.any),
  row 0x4080 0x4083 7 7 .u32 .rw (.num 0) .p .i (.any),
  row 0x4080 0x4083 8 8 .u8 .rw (.num 0) .p .i (.bits 0x1B),
  row 0x4080 0x4083 9 9 .bool .ro (.num 0) .v .no (.any),
  row 0x40A0 0x40A1 1 1 .bool .rw (.num 0) .p .s (.any),
  row 0x40A0 0x40A1 2 2 .u8 .rw (.num 1) .p .s (.span 1 3),
  row 0x40A0 0x40A1 3 3 .u16 .rw (.num 0) .p .s (.span 0 10000),
  row 0x40A0 0x40A1 4 4 .bool .rw (.num 0) .p .s (.any),
  row 0x40A0 0x40A1 5 5 (.oct 8) .ro (.fill 8 0) .v .no (.any),
  row 0x40A0 0x40A1 6 6 .u8 .ro (.num 0) .v .no (.any),
  row 0x40C0 0x40E5 1 1 .i32 .ro (.num 0) .f .no (.any),
  row 0x40C0 0x40E5 2 2 .i32 .ro (.num 0) .f .no (.any),
  row 0x40C0 0x40E5 3 3 .i32 .rw (.num 0) .p .s (.any),
  row 0x40C0 0x40E5 4 4 .i32 .rw (.num 0) .p .s (.any),
  row 0x40C0 0x40E5 5 5 .i32 .rw (.num 0) .p .s (.any),
  row 0x40C0 0x40C5 6 6 .u8 .rw (.num 0) .p .s (.span 0 1),
  row 0x40C6 0x40DD 6 6 .u8 .ro (.num 0) .p .s (.span 0 1),
  row 0x40DE 0x40E5 6 6 .u8 .ro (.num 1) .p .s (.span 0 1),
  row 0x40C0 0x40C5 7 7 .bool .rw (.num 0) .p .s (.any),
  row 0x40C6 0x40DD 7 7 .bool .ro (.num 0) .p .s (.any),
  row 0x40DE 0x40E5 7 7 .bool .ro (.num 0) .p .s (.any),
  row 0x40C0 0x40C5 8 8 .u16 .rw (.num 2000) .p .s (.span 100 10000),
  row 0x40C6 0x40DD 8 8 .u16 .ro (.num 2000) .p .s (.span 100 10000),
  row 0x40DE 0x40E5 8 8 .u16 .ro (.num 2000) .p .s (.span 100 10000),
  row 0x40C0 0x40C5 9 9 .i32 .rw (.num 0) .p .s (.any),
  row 0x40C6 0x40DD 9 9 .i32 .ro (.num 0) .p .s (.any),
  row 0x40DE 0x40E5 9 9 .i32 .ro (.num 0) .p .s (.any),
  row 0x4020 0x4020 1 2 (.oct 32) .ro (.fill 32 0) .v .no (.any)]

/-- Objects 4000h to 40FFh, part 3. -/
def rows40p3 : List ObjRow := [
  row 0x4000 0x4000 0 0 .u8 .const (.num 11) .f .no (.any),
  row 0x4010 0x4010 0 0 .u8 .const (.num 8) .f .no (.any),
  row 0x4020 0x4020 0 0 .u8 .const (.num 2) .f .no (.any),
  row 0x4030 0x4033 0 0 .u8 .const (.num 17) .f .no (.any),
  row 0x4060 0x406F 0 0 .u8 .const (.num 8) .f .no (.any),
  row 0x4080 0x4083 0 0 .u8 .const (.num 9) .f .no (.any),
  row 0x40A0 0x40A1 0 0 .u8 .const (.num 6) .f .no (.any),
  row 0x40C0 0x40E5 0 0 .u8 .const (.num 9) .f .no (.any)]

/-- Objects 4100h to 41FFh, part 1. -/
def rows41p1 : List ObjRow := [
  row 0x4100 0x4100 3 3 .s32 .rw (.num 0) .v .i (.any),
  row 0x4100 0x4100 4 4 .s32 .rw (.num 0) .v .i (.any),
  row 0x4100 0x4100 5 5 .s32 .rw (.num 0) .v .i (.any),
  row 0x4100 0x4100 6 6 .s32 .rw (.num 0) .v .i (.any),
  row 0x4100 0x4100 7 7 .s32 .rw (.num 0) .v .i (.any),
  row 0x4100 0x4100 8 8 .s32 .rw (.num 0) .v .i (.any),
  row 0x4100 0x4100 9 9 .s32 .rw (.num 0) .v .i (.any),
  row 0x4100 0x4100 10 10 .s32 .rw (.num 0) .v .i (.any),
  row 0x4100 0x4100 1 1 .u8 .rw (.num 0) .v .i (.span 0 1),
  row 0x4100 0x4100 2 2 .t32 .ro (.num 0) .v .no (.any),
  row 0x4100 0x4100 0 0 .u8 .const (.num 10) .f .no (.any)]

/-- Objects 4400h to 44FFh, part 1. -/
def rows44p1 : List ObjRow := [
  row 0x4400 0x4407 1 1 .u8 .rw (.num 0) .p .s (.span 0 2),
  row 0x4400 0x4407 2 2 .u8 .rw (.num 1) .p .s (.span 0 2),
  row 0x4400 0x4407 3 3 .u32 .rw (.num 58605180) .p .s (.any),
  row 0x4400 0x4407 4 4 .u32 .rw (.num 262000704) .p .s (.any),
  row 0x4400 0x4407 5 5 .u32 .rw (.num 151274304) .p .s (.any),
  row 0x4400 0x4407 6 6 .bool .rw (.num 1) .p .s (.any),
  row 0x4400 0x4407 7 7 .u8 .rw (.num 0) .p .s (.any),
  row 0x4400 0x4407 8 8 .u8 .rw (.num 0) .p .s (.span 0 1),
  row 0x4400 0x4407 9 9 .u16 .rw (.num 100) .p .s (.span 0 65535),
  row 0x4400 0x4407 10 10 .u8 .rw (.num 5) .p .s (.any),
  row 0x4400 0x4407 11 11 .u8 .rw (.num 1) .p .s (.span 0 1),
  row 0x4400 0x4407 12 12 .u8 .rw (.num 0) .p .s (.bits 3),
  row 0x4400 0x4407 13 13 .u8 .rw (.num 0) .p .s (.span 0 1),
  row 0x4400 0x4407 14 14 .dom .rw (.fill 0 0) .p .s (.any),
  row 0x4400 0x4407 15 15 .bool .rw (.num 1) .p .s (.any),
  row 0x4400 0x4407 16 16 .u8 .rw (.num 0) .p .s (.span 0 2),
  row 0x4400 0x4407 17 17 .u16 .rw (.num 1000) .p .s (.span 500 5000),
  row 0x4400 0x4407 18 18 .u8 .rw (.num 2) .p .s (.span 1 10),
  row 0x4400 0x4407 19 19 .u8 .ro (.num 0) .v .no (.any),
  row 0x4400 0x4407 20 20 .u8 .ro (.num 0) .v .no (.any),
  row 0x4400 0x4407 21 21 .u8 .ro (.num 0) .v .no (.any),
  row 0x4400 0x4407 22 22 .u8 .wo (.num 0) .v .i (.span 1 1),
  row 0x4420 0x4427 3 3 .w64 .ro (.num 0) .v .no (.any),
  row 0x4420 0x4427 4 4 .w64 .ro (.num 0) .v .no (.any),
  row 0x4420 0x4427 5 5 .s32 .rw (.num 0) .v .i (.any),
  row 0x4420 0x4427 6 6 .s32 .rw (.num 0) .v .i (.any),
  row 0x4420 0x4427 7 7 .w64 .ro (.num 0) .v .no (.any),
  row 0x4420 0x4427 8 8 .s32 .rw (.num 0) .v .i (.any),
  row 0x4420 0x4427 9 9 .s32 .rw (.num 0) .v .i (.any),
  row 0x4420 0x4427 10 10 .s32 .rw (.num 0) .v .i (.any),
  row 0x4420 0x4427 11 11 .s32 .rw (.num 0) .v .i (.any),
  row 0x4420 0x4427 12 12 .s32 .rw (.num 0) .v .i (.any),
  row 0x4420 0x4427 13 13 .s32 .rw (.num 0) .v .i (.any),
  row 0x4420 0x4427 14 14 .s32 .rw (.num 0) .v .i (.any),
  row 0x4420 0x4427 15 15 .s32 .rw (.num 0) .v .i (.any),
  row 0x4420 0x4427 1 1 .u8 .rw (.num 0) .v .i (.span 0 1),
  row 0x4420 0x4427 2 2 .t32 .ro (.num 0) .v .no (.any),
  row 0x4400 0x4407 0 0 .u8 .const (.num 22) .f .no (.any),
  row 0x4420 0x4427 0 0 .u8 .const (.num 15) .f .no (.any)]

/-- Objects 4500h to 45FFh, part 1. -/
def rows45p1 : List ObjRow := [
  row 0x4500 0x4505 1 1 .u8 .rw (.num 0) .p .s (.span 0 4),
  row 0x4500 0x4505 2 2 .u32 .rw (.num 115200) .p .s (.span 300 10000000),
  row 0x4500 0x4505 3 3 .u8 .rw (.num 64) .p .s (.any),
  row 0x4500 0x4505 4 4 .u8 .rw (.num 0) .p .s (.span 0 3),
  row 0x4500 0x4505 5 5 .u16 .rw (.num 16) .p .s (.span 0 4095),
  row 0x4500 0x4505 6 6 .u16 .rw (.num 16) .p .s (.span 0 4095),
  row 0x4500 0x4505 7 7 .u16 .rw (.num 100) .p .s (.span 0 65535),
  row 0x4500 0x4505 8 8 .bool .rw (.num 1) .p .s (.any),
  row 0x4500 0x4505 9 9 .u8 .rw (.num 4) .p .s (.span 1 255),
  row 0x4500 0x4505 10 10 .u16 .rw (.num 256) .p .s (.span 1 256),
  row 0x4500 0x4505 11 11 .u16 .rw (.num 0) .p .s (.spanOr 0x0100 0x01FF 0),
  row 0x4500 0x4505 12 12 .dom .rw (.fill 0 0) .p .s (.any),
  row 0x4500 0x4505 13 13 .u8 .rw (.num 1) .p .s (.span 1 247),
  row 0x4500 0x4505 14 14 .u16 .rw (.num 100) .p .s (.span 1 65535),
  row 0x4500 0x4505 15 15 .u8 .rw (.num 1) .p .s (.span 0 3),
  row 0x4500 0x4505 16 16 .u32 .ro (.num 0) .v .no (.any),
  row 0x4500 0x4505 17 17 .bool .rw (.num 1) .p .s (.any),
  row 0x4510 0x4515 3 3 .w64 .ro (.num 0) .v .no (.any),
  row 0x4510 0x4515 4 4 .w64 .ro (.num 0) .v .no (.any),
  row 0x4510 0x4515 5 5 .w64 .ro (.num 0) .v .no (.any),
  row 0x4510 0x4515 6 6 .s32 .rw (.num 0) .v .i (.any),
  row 0x4510 0x4515 7 7 .s32 .rw (.num 0) .v .i (.any),
  row 0x4510 0x4515 8 8 .s32 .rw (.num 0) .v .i (.any),
  row 0x4510 0x4515 9 9 .s32 .rw (.num 0) .v .i (.any),
  row 0x4510 0x4515 10 10 .s32 .rw (.num 0) .v .i (.any),
  row 0x4510 0x4515 11 11 .s32 .rw (.num 0) .v .i (.any),
  row 0x4510 0x4515 12 12 .s32 .rw (.num 0) .v .i (.any),
  row 0x4510 0x4515 13 13 .s32 .rw (.num 0) .v .i (.any),
  row 0x4510 0x4515 14 14 .s32 .rw (.num 0) .v .i (.any),
  row 0x4510 0x4515 1 1 .u8 .rw (.num 0) .v .i (.span 0 1),
  row 0x4510 0x4515 2 2 .t32 .ro (.num 0) .v .no (.any),
  row 0x4500 0x4505 0 0 .u8 .const (.num 17) .f .no (.any),
  row 0x4510 0x4515 0 0 .u8 .const (.num 14) .f .no (.any)]

/-- Objects 4600h to 46FFh, part 1. -/
def rows46p1 : List ObjRow := [
  row 0x4600 0x4601 1 1 .u8 .rw (.num 0) .p .s (.span 0 1),
  row 0x4600 0x4601 2 2 .u16 .rw (.num 0) .p .s (.span 0 4095),
  row 0x4600 0x4601 3 3 .dom .rw (.fill 0 0) .p .s (.any),
  row 0x4600 0x4601 4 4 .u16 .ro (.num 0) .v .no (.any),
  row 0x4600 0x4601 5 5 (.oct 32) .ro (.fill 32 0) .v .no (.any),
  row 0x4600 0x4601 6 6 .u8 .ro (.num 0) .v .no (.any),
  row 0x4600 0x4601 7 7 .u8 .rw (.num 0) .v .i (.any),
  row 0x4600 0x4601 8 8 (.oct 0) .ro (.fill 0 0) .v .no (.any),
  row 0x4600 0x4601 9 9 .u16 .ro (.num 0) .v .no (.any),
  row 0x4610 0x4611 3 3 .w64 .ro (.num 0) .v .no (.any),
  row 0x4610 0x4611 4 4 .w64 .ro (.num 0) .v .no (.any),
  row 0x4610 0x4611 5 5 .w64 .ro (.num 0) .v .no (.any),
  row 0x4610 0x4611 6 6 .s32 .rw (.num 0) .v .i (.any),
  row 0x4610 0x4611 7 7 .s32 .rw (.num 0) .v .i (.any),
  row 0x4610 0x4611 8 8 .s32 .rw (.num 0) .v .i (.any),
  row 0x4610 0x4611 9 9 .s32 .rw (.num 0) .v .i (.any),
  row 0x4610 0x4611 10 10 .s32 .rw (.num 0) .v .i (.any),
  row 0x4610 0x4611 1 1 .u8 .rw (.num 0) .v .i (.span 0 1),
  row 0x4610 0x4611 2 2 .t32 .ro (.num 0) .v .no (.any),
  row 0x4600 0x4601 0 0 .u8 .const (.num 9) .f .no (.any),
  row 0x4610 0x4611 0 0 .u8 .const (.num 10) .f .no (.any)]

/-- Objects 4700h to 47FFh, part 1. -/
def rows47p1 : List ObjRow := [
  row 0x4700 0x4700 1 1 .dom .rw (.fill 0 0) .p .s (.any),
  row 0x4700 0x4700 2 2 .u32 .ro (.num 0) .v .no (.any),
  row 0x4700 0x4700 3 3 .u16 .ro (.num 0) .v .no (.any),
  row 0x4700 0x4700 4 4 .u16 .rw (.num 0) .v .i (.any),
  row 0x4700 0x4700 5 5 (.oct 0) .ro (.fill 0 0) .v .no (.any),
  row 0x4710 0x4710 3 3 .w64 .ro (.num 0) .v .no (.any),
  row 0x4710 0x4710 4 4 .w64 .ro (.num 0) .v .no (.any),
  row 0x4710 0x4710 5 5 .s32 .rw (.num 0) .v .i (.any),
  row 0x4710 0x4710 6 6 .s32 .rw (.num 0) .v .i (.any),
  row 0x4710 0x4710 7 7 .s32 .rw (.num 0) .v .i (.any),
  row 0x4710 0x4710 8 8 .s32 .rw (.num 0) .v .i (.any),
  row 0x4710 0x4710 9 9 .s32 .rw (.num 0) .v .i (.any),
  row 0x4710 0x4710 10 10 .s32 .rw (.num 0) .v .i (.any),
  row 0x4710 0x4710 1 1 .u8 .rw (.num 0) .v .i (.span 0 1),
  row 0x4710 0x4710 2 2 .t32 .ro (.num 0) .v .no (.any),
  row 0x4700 0x4700 0 0 .u8 .const (.num 5) .f .no (.any),
  row 0x4710 0x4710 0 0 .u8 .const (.num 10) .f .no (.any)]

/-- Objects 4800h to 48FFh, part 1. -/
def rows48p1 : List ObjRow := [
  row 0x4800 0x4800 1 1 .bool .rw (.num 0) .p .s (.any),
  row 0x4800 0x4800 2 2 .dom .rw (.fill 0 0) .p .s (.any),
  row 0x4800 0x4800 3 3 .dom .rw (.fill 0 0) .p .s (.any),
  row 0x4800 0x4800 4 4 .dom .rw (.fill 0 0) .p .s (.any),
  row 0x4800 0x4800 5 5 .u16 .ro (.num 0) .v .no (.any),
  row 0x4801 0x4801 1 1 .u16 .wo (.num 0) .v .i (.any),
  row 0x4801 0x4801 2 2 .u8 .ro (.num 0) .v .no (.any),
  row 0x4801 0x4801 3 3 .u8 .rw (.num 100) .p .s (.span 1 100),
  row 0x4802 0x4802 1 1 .u8 .ro (.num 0) .v .no (.any),
  row 0x4802 0x4802 2 2 .u32 .ro (.num 0) .v .no (.any),
  row 0x4820 0x4820 1 1 (.oct 32) .ro (.fill 32 0) .v .no (.any),
  row 0x4820 0x4820 2 2 .u8 .ro (.num 0) .v .no (.any),
  row 0x4830 0x4830 1 1 (.oct 40) .ro (.fill 40 0) .v .no (.any),
  row 0x4830 0x4830 2 2 .u8 .ro (.num 0) .v .no (.any),
  row 0x4840 0x4840 1 1 .u8 .rw (.num 0) .v .i (.any),
  row 0x4840 0x4840 2 2 (.oct 0) .ro (.fill 0 0) .v .no (.any),
  row 0x4840 0x4840 3 3 .t32 .ro (.num 0) .v .no (.any),
  row 0x4810 0x4810 3 3 .w64 .ro (.num 0) .v .no (.any),
  row 0x4810 0x4810 4 4 .w64 .ro (.num 0) .v .no (.any),
  row 0x4810 0x4810 5 5 .w64 .ro (.num 0) .v .no (.any),
  row 0x4810 0x4810 6 6 .s32 .rw (.num 0) .v .i (.any),
  row 0x4810 0x4810 7 7 .s32 .rw (.num 0) .v .i (.any),
  row 0x4810 0x4810 8 8 .s32 .rw (.num 0) .v .i (.any),
  row 0x4810 0x4810 9 9 .s32 .rw (.num 0) .v .i (.any),
  row 0x4810 0x4810 10 10 .s32 .rw (.num 0) .v .i (.any),
  row 0x4810 0x4810 11 11 .s32 .rw (.num 0) .v .i (.any),
  row 0x4810 0x4810 1 1 .u8 .rw (.num 0) .v .i (.span 0 1),
  row 0x4810 0x4810 2 2 .t32 .ro (.num 0) .v .no (.any),
  row 0x4800 0x4800 0 0 .u8 .const (.num 5) .f .no (.any),
  row 0x4801 0x4801 0 0 .u8 .const (.num 3) .f .no (.any),
  row 0x4802 0x4802 0 0 .u8 .const (.num 2) .f .no (.any),
  row 0x4810 0x4810 0 0 .u8 .const (.num 11) .f .no (.any),
  row 0x4820 0x4820 0 0 .u8 .const (.num 2) .f .no (.any),
  row 0x4830 0x4830 0 0 .u8 .const (.num 2) .f .no (.any),
  row 0x4840 0x4840 0 0 .u8 .const (.num 3) .f .no (.any)]

/-- Objects 4A00h to 4AFFh, part 1. -/
def rows4Ap1 : List ObjRow := [
  row 0x4A00 0x4A00 1 1 .u16 .rw (.num 1000) .p .s (.span 500 2000),
  row 0x4A00 0x4A00 2 2 .bool .ro (.num 0) .v .no (.any),
  row 0x4A00 0x4A00 3 3 .u8 .ro (.num 0) .v .no (.any),
  row 0x4A00 0x4A00 4 4 .u8 .ro (.num 0) .v .no (.any),
  row 0x4A00 0x4A00 5 5 .dom .rw (.fill 0 0) .p .s (.any),
  row 0x4A00 0x4A00 6 6 .u16 .rw (.num 60) .p .s (.span 5 600),
  row 0x4A00 0x4A00 7 7 .u8 .rw (.num 30) .p .s (.span 1 30),
  row 0x4A00 0x4A00 8 8 .u16 .rw (.num 10) .p .s (.span 1 1000),
  row 0x4A00 0x4A00 9 9 .dom .rw (.fill 4096 0) .p .s (.any),
  row 0x4A00 0x4A00 10 10 .u16 .rw (.num 120) .p .s (.span 10 3600),
  row 0x4A00 0x4A00 11 11 .u8 .rw (.num 0) .p .s (.span 0 10),
  row 0x4A40 0x4A7F 1 1 .u8 .rw (.num 0) .p .s (.span 0 3),
  row 0x4A40 0x4A7F 2 2 .u8 .rw (.num 0) .p .s (.any),
  row 0x4A40 0x4A7F 3 3 .u8 .rw (.num 0) .p .s (.any),
  row 0x4A40 0x4A7F 4 4 .u8 .rw (.num 0) .p .s (.span 0 7),
  row 0x4A40 0x4A7F 5 5 .i16 .rw (.num (-500)) .p .s (.any),
  row 0x4A40 0x4A7F 6 6 .i16 .ro (.num 0) .v .no (.any),
  row 0x4A40 0x4A7F 7 7 .bool .ro (.num 0) .v .no (.any),
  row 0x4A80 0x4ABF 1 1 .u8 .rw (.num 0) .p .s (.span 0 2),
  row 0x4A80 0x4ABF 2 2 .u8 .rw (.num 0) .p .s (.any),
  row 0x4A80 0x4ABF 3 3 .u8 .rw (.num 0) .p .s (.any),
  row 0x4A80 0x4ABF 4 4 .u8 .rw (.num 255) .p .s (.any),
  row 0x4A80 0x4ABF 5 5 .u8 .rw (.num 20) .p .s (.spanOr 0 60 255),
  row 0x4A80 0x4ABF 6 6 .u64 .rw (.num 0) .p .s (.any),
  row 0x4A80 0x4ABF 7 7 .i16 .rw (.num (-400)) .p .s (.any),
  row 0x4A80 0x4ABF 8 8 .u8 .rw (.num 10) .p .s (.span 1 20),
  row 0x4A80 0x4ABF 9 9 .u8 .ro (.num 0) .v .no (.any),
  row 0x4A80 0x4ABF 10 10 .u8 .ro (.num 255) .v .no (.any),
  row 0x4A80 0x4ABF 11 11 .u8 .rw (.num 243) .p .s (.any),
  row 0x4A80 0x4ABF 12 12 .u8 .ro (.num 255) .v .no (.any),
  row 0x4AC0 0x4ADF 1 1 .bool .rw (.num 0) .p .s (.any),
  row 0x4AC0 0x4ADF 2 2 .u8 .rw (.num 0) .p .s (.span 0 1),
  row 0x4AC0 0x4ADF 3 3 .u8 .rw (.num 2) .p .s (.span 1 8),
  row 0x4AC0 0x4ADF 4 4 (.oct 8) .rw (.fill 8 0) .p .s (.any),
  row 0x4AC0 0x4ADF 5 5 (.oct 6) .rw (.fill 6 0) .p .s (.any),
  row 0x4AC0 0x4ADF 6 6 (.oct 4) .rw (.fill 4 0) .p .s (.any),
  row 0x4AC0 0x4ADF 7 7 .u16 .rw (.num 5004) .p .s (.any),
  row 0x4AC0 0x4ADF 8 8 .u8 .rw (.num 97) .p .s (.span 96 127),
  row 0x4AC0 0x4ADF 9 9 .bool .rw (.num 0) .p .s (.any),
  row 0x4AC0 0x4ADF 10 10 .u8 .ro (.num 0) .v .no (.any)]

/-- Objects 4A00h to 4AFFh, part 2. -/
def rows4Ap2 : List ObjRow := [
  row 0x4AC0 0x4ADF 11 11 .u16 .rw (.num 1) .p .s (.span 1 4094),
  row 0x4AC0 0x4ADF 12 12 .u8 .rw (.num 5) .p .s (.span 0 7),
  row 0x4A00 0x4A00 0 0 .u8 .const (.num 11) .f .no (.any),
  row 0x4A40 0x4A7F 0 0 .u8 .const (.num 7) .f .no (.any),
  row 0x4A80 0x4ADF 0 0 .u8 .const (.num 12) .f .no (.any)]

/-- Objects 4B00h to 4BFFh, part 1. -/
def rows4Bp1 : List ObjRow := [
  row 0x4B00 0x4B03 1 1 .bool .rw (.num 0) .p .s (.any),
  row 0x4B00 0x4B03 2 2 .u8 .rw (.num 0) .p .s (.span 0 1),
  row 0x4B00 0x4B03 3 3 .u8 .rw (.num 1) .p .s (.span 0 1),
  row 0x4B10 0x4B10 1 1 .dom .rw (.fill 0 0) .p .s (.any),
  row 0x4B10 0x4B10 2 2 (.oct 128) .ro (.fill 128 0) .v .no (.any),
  rowOp 0x4B10 0x4B10 3 3 (.oct 8) .wo (.fill 8 0) .v .i (.any),
  row 0x4B10 0x4B10 4 4 (.oct 256) .ro (.fill 256 0) .v .no (.any),
  rowOp 0x4B10 0x4B10 5 5 .u16 .wo (.num 0) .v .i (.any),
  row 0x4B20 0x4B20 3 3 .w64 .ro (.num 0) .v .no (.any),
  row 0x4B20 0x4B20 4 4 .s32 .rw (.num 0) .v .i (.any),
  row 0x4B20 0x4B20 5 5 .s32 .rw (.num 0) .v .i (.any),
  row 0x4B20 0x4B20 6 6 .s32 .rw (.num 0) .v .i (.any),
  row 0x4B20 0x4B20 7 7 .w64 .ro (.num 0) .v .no (.any),
  row 0x4B20 0x4B20 8 8 .s32 .rw (.num 0) .v .i (.any),
  row 0x4B20 0x4B20 9 9 .s32 .rw (.num 0) .v .i (.any),
  row 0x4B20 0x4B20 10 10 .s32 .rw (.num 0) .v .i (.any),
  row 0x4B20 0x4B20 1 1 .u8 .rw (.num 0) .v .i (.span 0 1),
  row 0x4B20 0x4B20 2 2 .t32 .ro (.num 0) .v .no (.any),
  row 0x4B00 0x4B03 0 0 .u8 .const (.num 3) .f .no (.any),
  row 0x4B10 0x4B10 0 0 .u8 .const (.num 5) .f .no (.any),
  row 0x4B20 0x4B20 0 0 .u8 .const (.num 10) .f .no (.any)]

/-- Objects 4C00h to 4CFFh, part 1. -/
def rows4Cp1 : List ObjRow := [
  row 0x4C00 0x4C00 1 1 .u8 .rw (.num 0) .p .s (.span 0 1),
  row 0x4C00 0x4C00 2 2 .u8 .rw (.num 0) .p .s (.span 0 1),
  row 0x4C00 0x4C00 3 3 .bool .rw (.num 0) .p .s (.any),
  row 0x4C00 0x4C00 4 4 .u16 .rw (.num 100) .p .s (.span 10 1000),
  row 0x4C00 0x4C00 5 5 .u8 .rw (.num 10) .p .s (.span 1 50),
  row 0x4C00 0x4C00 6 6 .u16 .rw (.num 100) .p .s (.any),
  row 0x4C00 0x4C00 7 7 .d32 .ro (.num 0) .v .no (.any),
  row 0x4C00 0x4C00 8 8 .u32 .ro (.num 0) .v .no (.any),
  row 0x4C00 0x4C00 9 9 .u8 .ro (.num 0) .v .no (.any),
  row 0x4C00 0x4C00 10 10 .u8 .ro (.num 0) .v .no (.any),
  row 0x4C00 0x4C00 11 11 .u8 .ro (.num 0) .v .no (.any),
  row 0x4C10 0x4C11 1 1 .u8 .rw (.num 0) .p .s (.span 0 4),
  row 0x4C10 0x4C11 2 2 .u32 .rw (.num 65536) .p .s (.any),
  row 0x4C10 0x4C11 3 3 .u16 .rw (.num 10) .p .s (.span 1 10000),
  row 0x4C10 0x4C11 4 4 .u32 .ro (.num 0) .v .no (.any),
  row 0x4C20 0x4C20 1 1 .u64 .ro (.num 0) .p .no (.any),
  rowOp 0x4C20 0x4C20 2 2 .u64 .wo (.num 0) .v .i (.any),
  row 0x4C20 0x4C20 3 3 .i64 .ro (.num 0) .v .no (.any),
  row 0x4C40 0x4C40 1 1 .u8 .rw (.num 0) .p .s (.bits 0x0F),
  row 0x4C40 0x4C40 2 2 .u8 .ro (.num 0) .v .no (.any),
  rowOp 0x4C40 0x4C40 3 3 .u8 .wo (.num 0) .v .i (.any),
  row 0x4C60 0x4C9F 1 1 .bool .rw (.num 0) .p .s (.any),
  row 0x4C60 0x4C9F 2 2 .d32 .rw (.num 0) .p .s (.any),
  row 0x4C60 0x4C9F 3 3 .u8 .rw (.num 0) .p .s (.span 0 6),
  row 0x4C60 0x4C9F 4 4 .u16 .rw (.num 0) .p .s (.any),
  row 0x4C60 0x4C9F 5 5 .u32 .rw (.num 0) .p .s (.spanOr 1000 0xFFFFFFFF 0),
  row 0x4C60 0x4C9F 6 6 .u8 .rw (.num 0) .p .s (.span 0 1),
  row 0x4C60 0x4C9F 7 7 .u8 .ro (.num 0) .v .no (.any),
  row 0x4C60 0x4C9F 8 8 .t32 .ro (.num 0) .v .no (.any),
  row 0x4CA0 0x4CA3 1 1 (.oct 8) .rw (.fill 8 0) .p .s (.any),
  row 0x4CA0 0x4CA3 2 2 .u8 .rw (.num 0) .p .s (.span 0 8),
  row 0x4CA0 0x4CA3 3 3 (.oct 16) .ro (.fill 16 0) .v .no (.any),
  row 0x4CA0 0x4CA3 4 4 .t32 .ro (.num 0) .v .no (.any),
  row 0x4CB0 0x4CB0 1 6 .u16 .ro (.num 0) .v .no (.any),
  row 0x4CB0 0x4CB0 7 7 .i32 .ro (.num 0) .v .no (.any),
  row 0x4CB0 0x4CB0 8 8 .i16 .ro (.num 0) .v .no (.any),
  row 0x4CB0 0x4CB0 9 9 .u16 .ro (.num 0) .v .no (.any),
  row 0x4CB0 0x4CB0 10 10 .u16 .ro (.num 0) .v .no (.any),
  row 0x4C30 0x4C30 3 3 .s32 .rw (.num 0) .v .i (.any),
  row 0x4C30 0x4C30 4 4 .s32 .rw (.num 0) .v .i (.any)]

/-- Objects 4C00h to 4CFFh, part 2. -/
def rows4Cp2 : List ObjRow := [
  row 0x4C30 0x4C30 5 5 .s32 .rw (.num 0) .v .i (.any),
  row 0x4C30 0x4C30 6 6 .s32 .rw (.num 0) .v .i (.any),
  row 0x4C30 0x4C30 7 7 .s32 .rw (.num 0) .v .i (.any),
  row 0x4C30 0x4C30 8 8 .s32 .rw (.num 0) .v .i (.any),
  row 0x4C30 0x4C30 9 9 .s32 .rw (.num 0) .v .i (.any),
  row 0x4C30 0x4C30 10 10 .s32 .rw (.num 0) .v .i (.any),
  row 0x4C30 0x4C30 11 11 .w64 .ro (.num 0) .v .no (.any),
  row 0x4C30 0x4C30 1 1 .u8 .rw (.num 0) .v .i (.span 0 1),
  row 0x4C30 0x4C30 2 2 .t32 .ro (.num 0) .v .no (.any),
  row 0x4C00 0x4C00 0 0 .u8 .const (.num 11) .f .no (.any),
  row 0x4C10 0x4C11 0 0 .u8 .const (.num 4) .f .no (.any),
  row 0x4C20 0x4C20 0 0 .u8 .const (.num 3) .f .no (.any),
  row 0x4C30 0x4C30 0 0 .u8 .const (.num 11) .f .no (.any),
  row 0x4C40 0x4C40 0 0 .u8 .const (.num 3) .f .no (.any),
  row 0x4C60 0x4C9F 0 0 .u8 .const (.num 8) .f .no (.any),
  row 0x4CA0 0x4CA3 0 0 .u8 .const (.num 4) .f .no (.any),
  row 0x4CB0 0x4CB0 0 0 .u8 .const (.num 10) .f .no (.any)]

/-- Objects 4D00h to 4DFFh, part 1. -/
def rows4Dp1 : List ObjRow := [
  row 0x4D00 0x4D00 1 1 .u16 .rw (.num 0) .p .s (.any),
  row 0x4D00 0x4D00 2 2 .u8 .rw (.num 80) .p .s (.span 10 100),
  row 0x4D00 0x4D00 3 3 .u16 .rw (.num 24000) .p .s (.any),
  row 0x4D00 0x4D00 4 4 .u32 .rw (.num 100) .p .s (.span 10 100000),
  row 0x4D00 0x4D00 5 5 .u8 .rw (.num 0) .p .s (.span 0 6),
  row 0x4D00 0x4D00 6 6 .u16 .rw (.num 100) .p .s (.any),
  row 0x4D00 0x4D00 7 7 .u16 .rw (.num 28200) .p .s (.any),
  row 0x4D00 0x4D00 8 8 .u16 .rw (.num 2000) .p .s (.any),
  row 0x4D00 0x4D00 9 9 .u16 .rw (.num 50) .p .s (.any),
  row 0x4D00 0x4D00 10 10 .i32 .ro (.num 0) .p .no (.any),
  row 0x4D00 0x4D00 11 11 .i32 .wo (.num 0) .v .i (.any),
  row 0x4D00 0x4D00 12 12 .i32 .ro (.num 0) .v .no (.any),
  row 0x4D00 0x4D00 13 13 .u16 .ro (.num 0) .v .no (.any),
  row 0x4D00 0x4D00 14 14 .u16 .ro (.num 0) .v .no (.any),
  row 0x4D00 0x4D00 15 15 .u8 .ro (.num 0) .v .no (.any),
  row 0x4D20 0x4D20 1 1 .u16 .rw (.num 60) .p .s (.any),
  row 0x4D20 0x4D20 2 2 .u16 .rw (.num 30) .p .s (.any),
  row 0x4D20 0x4D20 3 3 .u16 .ro (.num 0) .v .no (.any),
  row 0x4D20 0x4D20 4 4 .u16 .rw (.num 600) .p .s (.any),
  row 0x4D20 0x4D20 5 5 .u16 .rw (.num 400) .p .s (.any),
  row 0x4D20 0x4D20 6 6 .u16 .rw (.num 250) .p .s (.any),
  row 0x4D20 0x4D20 7 7 .u16 .rw (.num 120) .p .s (.any),
  row 0x4D20 0x4D20 8 8 .u16 .rw (.num 60) .p .s (.any),
  row 0x4D20 0x4D20 9 9 .u16 .rw (.num 20) .p .s (.any),
  row 0x4D20 0x4D20 10 10 .u16 .rw (.num 22000) .p .s (.any),
  row 0x4D20 0x4D20 11 11 .u8 .rw (.num 31) .p .s (.bits 0x1F),
  row 0x4D20 0x4D20 12 12 .u8 .ro (.num 0) .v .no (.any),
  row 0x4D20 0x4D20 13 13 .u64 .rw (.num 0) .p .s (.bits 0x3FFFFFFFFF),
  row 0x4D20 0x4D20 14 14 .u64 .rw (.num 0) .p .s (.bits 0x3FFFFFFFFF),
  row 0x4D60 0x4D60 3 3 .s32 .rw (.num 0) .v .i (.any),
  row 0x4D60 0x4D60 4 4 .s32 .rw (.num 0) .v .i (.any),
  row 0x4D60 0x4D60 5 5 .s32 .rw (.num 0) .v .i (.any),
  row 0x4D60 0x4D60 6 6 .s32 .rw (.num 0) .v .i (.any),
  row 0x4D60 0x4D60 1 1 .u8 .rw (.num 0) .v .i (.span 0 1),
  row 0x4D60 0x4D60 2 2 .t32 .ro (.num 0) .v .no (.any),
  row 0x4D00 0x4D00 0 0 .u8 .const (.num 15) .f .no (.any),
  row 0x4D20 0x4D20 0 0 .u8 .const (.num 14) .f .no (.any),
  row 0x4D60 0x4D60 0 0 .u8 .const (.num 6) .f .no (.any)]

/-- The rows whose index has the high byte h (R36). -/
def objRows (h : Nat) : List ObjRow :=
  match h with
  | 0x10 => rows10p1
  | 0x20 => rows20p1
  | 0x21 => rows21p1
  | 0x22 => rows22p1
  | 0x23 => rows23p1
  | 0x24 => rows24p1 ++ rows24p2
  | 0x25 => rows25p1
  | 0x26 => rows26p1
  | 0x27 => rows27p1
  | 0x28 => rows28p1
  | 0x29 => rows29p1 ++ rows29p2
  | 0x2A => rows2Ap1
  | 0x2B => rows2Bp1 ++ rows2Bp2 ++ rows2Bp3
  | 0x30 => rows30p1 ++ rows30p2 ++ rows30p3
  | 0x31 => rows31p1
  | 0x32 => rows32p1
  | 0x34 => rows34p1 ++ rows34p2
  | 0x35 => rows35p1
  | 0x36 => rows36p1
  | 0x37 => rows37p1
  | 0x38 => rows38p1
  | 0x39 => rows39p1
  | 0x3C => rows3Cp1 ++ rows3Cp2
  | 0x3D => rows3Dp1
  | 0x40 => rows40p1 ++ rows40p2 ++ rows40p3
  | 0x41 => rows41p1
  | 0x44 => rows44p1
  | 0x45 => rows45p1
  | 0x46 => rows46p1
  | 0x47 => rows47p1
  | 0x48 => rows48p1
  | 0x4A => rows4Ap1 ++ rows4Ap2
  | 0x4B => rows4Bp1
  | 0x4C => rows4Cp1 ++ rows4Cp2
  | 0x4D => rows4Dp1
  | _ => []

/-- The row of an object, if the device has it (R37); the first row that names it stands. -/
def objRow? (idx sub : Nat) : Option ObjRow :=
  (objRows (idx / 256)).find? (fun x => decide (x.lo ≤ idx) && decide (idx ≤ x.hi) && decide (x.slo ≤ sub) && decide (sub ≤ x.shi))

/-- Is the index one that some row of the tables names (R37: else result 0x01)? -/
def objIndexKnown (idx : Nat) : Bool :=
  (objRows (idx / 256)).any (fun x => decide (x.lo ≤ idx) && decide (idx ≤ x.hi))

end Sys2Proof.Machine
end

