-- ==== Sys2Proof/Config.lean ====
section
/-! DEFINITION. What a single device fixes, and the free values: constants without a body, so that nothing in Lean can
learn a value of theirs. Each stands for something the manual names and does not state. -/

namespace Sys2Proof.Config

/-- The Unit ID in OTP (00 Terms, R45). -/
opaque unitId : BitVec 64

/-- The part is an engineering sample, MXG7260-ES, and not an MXG7260-E (R1). -/
opaque engineeringSample : Bool

/-- A fresh random byte string of the stated length: challenges (R51, R602). The first argument is the count of free
values drawn before. -/
opaque random : Nat → Nat → Bytes

/-- Is this signature over this challenge and the Unit ID valid under the Llynem key (R48, R51)? -/
opaque vendorSignatureValid : Bytes → Bytes → Bool

/-- Is this debug token an ECDSA P-384 signature of the Llynem debug key over the SHA-384 of these bytes, the challenge and the Unit ID (R602)? -/
opaque debugTokenValid : Bytes → Bytes → Bool

/-- Does this signature over these bytes verify against the Llynem image key in OTP (R523, R524)? -/
opaque imageSignatureValid : Bytes → Bytes → Bool

/-- The image that the factory has put into bank A (R522). -/
opaque factoryImage : Bytes

/-- SHA-384 (R523, R529): the standard's function, not written out here. -/
opaque sha384 : Bytes → Bytes

/-- A value that the manual leaves open: its key in the assumption log, and the count of free values drawn before. -/
opaque freeNat : Nat → Nat → Nat

/-- A free value that depends on operands: its key in the assumption log, and the operands. -/
opaque freeOf : Nat → List Int → Int

/-- A free byte string that depends on operands. -/
opaque freeBytesOf : Nat → List Int → Bytes → Bytes

/-- The device certificate (2120h.01). -/
opaque deviceCertificate : Bytes

/-- Is this sequence of bytes a well-formed list of DER certificates (2120h.02)? -/
opaque certificatesValid : Bytes → Bool

end Sys2Proof.Config
end

