-- ==== Sys2Proof/Machine/BlocksCore.lean ====
section
/-! DEFINITION. The parts of the state, first half: operating state, sessions, change sets, events, time, legacy buses,
wear and journal (chapters 01, 02, 07, 08 and 16). Plain data throughout. -/

namespace Sys2Proof.Machine

/-- The operating states of R22, in the order of their codes. -/
inductive OpState where
  | start | commissioning | normal | test | recovery | lightSleep | deepSleep | safe
deriving DecidableEq, Repr

/-- The operating-state block (R22 to R35, R527, R528). -/
structure OpBlock where
  state : OpState
  previous : BitVec 8
  cause : BitVec 16
  /-- TX at entry, in nanoseconds. -/
  enteredAt : Nat
  /-- MODE1–MODE0 as sampled at the last reset release. -/
  straps : Fin 4
  /-- The start phase under way, 1 to 8; 0 outside Start. -/
  phase : Nat
  /-- A start from Deep Sleep (R529). -/
  warm : Bool
  /-- The start was requested by a write of 4 to 2000h.02. -/
  recoveryAsked : Bool
  /-- DRAM training failures of this start (R528). -/
  trainFails : Nat
  /-- The state that this start goes to, with its cause, as far as its phases have decided it (R24, R528). -/
  target : Option (OpState × BitVec 16)
  /-- A start with MODE1–MODE0 = 01 has left the journal as it was, until the first write to a P object (R528). -/
  frozen : Bool
  /-- This start follows a Recovery activation (R526, R536). -/
  afterRecovery : Bool
  /-- Counted Safe entries as TX seconds and a run mark, newest first (R31). -/
  safeTimes : List Nat
  /-- The device is in Safe and will restart by itself (R31). -/
  autoRestart : Bool
  /-- A watchdog expiry latched by the always-on domain (R508). -/
  watchdogLatched : Bool
  /-- The last reset release or wake, on the device's monotonic count (2700h.0C). -/
  startedAt : Nat
  startDuration : Nat
deriving DecidableEq, Repr

/-- A kept answer of a MOS session (R55). -/
structure KeptAnswer where
  tag : BitVec 16
  kind : BitVec 8
  index : BitVec 16
  sub : BitVec 8
  offset : BitVec 32
  code : BitVec 8
  data : Bytes
deriving DecidableEq, Repr

/-- A request of a MOS session that is not answered yet. -/
structure OpenRequest where
  tag : BitVec 16
  kind : BitVec 8
  index : BitVec 16
  sub : BitVec 8
deriving DecidableEq, Repr

/-- A counter snapshot of a session (R76): the group, and the selection it was taken of (R149, R231). -/
structure Snapshot where
  index : Nat
  sel : Nat
  stamp : T32
  values : List (Nat × Nat)
deriving DecidableEq, Repr

/-- A MOS subscription (R54, R71): minimum severity, records sent and not acknowledged, resends made. -/
structure Subscription where
  severity : BitVec 8
  unacked : List Nat
  resends : Nat
deriving DecidableEq, Repr

/-- A partial DOM value (R56). -/
structure PartialDom where
  index : Nat
  sub : Nat
  data : Bytes
deriving DecidableEq, Repr

/-- The state of the SDO server channel of one port (R52). -/
inductive SdoTransfer where
  | idle
  | upload (index sub : Nat) (rest : Bytes) (toggle : Bool)
  | download (index sub : Nat) (got : Bytes) (size : Option Nat) (toggle : Bool)
  | blockDownload (index sub : Nat) (got : Bytes) (size : Option Nat) (crc : Bool) (next : Nat) (ended : Bool)
  /-- The bytes not yet acknowledged and the whole value; stage 0 initiated, 1 sending, 2 ended. -/
  | blockUpload (index sub : Nat) (rest whole : Bytes) (stage blksize : Nat) (crc : Bool)
  /-- The whole value has come, and the write's answer is not there yet; the frame that confirms it. -/
  | answering (index sub : Nat) (confirm : Bytes)
deriving DecidableEq, Repr

/-- One session (R47, R48). -/
structure Session where
  isOpen : Bool
  role : Nat
  /-- A MOS session whose certificate names Moaxia-Vendor (R48). -/
  vendor : Bool
  /-- Objects that stand once per session (selectors, read positions), by object key. -/
  own : Tbl Nat
  lostFlag : Bool
  inclLost : Bool
  logLost : Bool
  misuseLost : Bool
  subscription : Option Subscription
  kept : List KeptAnswer
  outstanding : List OpenRequest
  snapshots : List Snapshot
  /-- The partial DOM values it holds, the oldest first (R56). -/
  dom : List PartialDom
  challenge : Option (Bytes × Nat)
  sdo : SdoTransfer
  /-- SDO response frames that wait for room in the port's transmit queue. -/
  sdoOut : List Bytes
deriving DecidableEq, Repr

/-- The commands of 2200h.01 that validate (R61). -/
inductive CsCommand where
  | applyNow | armTime
  /-- For the position event of 2200h.03 as it was when the command was given (R64). -/
  | armPosition (event : Nat)
  | validateOnly
deriving DecidableEq, Repr

/-- The pending change set (R58, R68). Entries are object keys with values, in the order they entered; a file's entries
carry their type codes. -/
structure PendingSet where
  owner : SessionNo
  role : Nat
  entries : List (Nat × Bytes)
  /-- The type codes of the entries in order: those of a file have one, those that a write has staged have none. -/
  types : List (Option Nat)
  base : BitVec 32
deriving DecidableEq, Repr

/-- The armed change set (R60, R63, R64). -/
structure ArmedSet where
  entries : List (Nat × Bytes)
  /-- The T32 target, or none for a position event. -/
  target : Option T32
  event : Nat
deriving DecidableEq, Repr

/-- A set that has applied and whose commit mark is not sealed (R66): its generation, its entries, and the values in force that it
replaced. -/
structure Uncommitted where
  gen : BitVec 32
  entries : List (Nat × Bytes)
  old : List (Nat × Bytes)
deriving DecidableEq, Repr

/-- The change-set block (R58 to R69). -/
structure CsBlock where
  pending : Option PendingSet
  validating : Option (CsCommand × ReplyTo)
  armed : Option ArmedSet
  gen : BitVec 32
  committed : BitVec 32
  appliedAt : T32
  lastResult : BitVec 8
  failing : BitVec 32
  reason : BitVec 8
  /-- An armed set fell due during the activation pause, at this monotonic time (R67). -/
  dueInPause : Option Nat
  /-- Sets in force without a sealed commit mark, oldest first. -/
  uncommitted : List Uncommitted
deriving DecidableEq, Repr

/-- One event record (R70). -/
structure EventRec where
  code : BitVec 16
  severity : BitVec 8
  stamp : T32
  secs : BitVec 16
  source : BitVec 8
  inStart : Bool
  seq : BitVec 32
  data : Bytes
deriving DecidableEq, Repr

/-- The event block (R70 to R73). -/
structure EventBlock where
  /-- Records held, oldest first; at most 1,024. -/
  ring : List EventRec
  next : BitVec 32
  /-- Records counted lost since the last event 2301h. -/
  lostSince : Nat
  /-- Last raising of each event that is limited to once per second, by its key, in monotonic nanoseconds. -/
  limits : Tbl Nat
  /-- Per CAN port: EMCY messages held back, and whether the inhibit time runs (R73). -/
  emcy : Vector (List Bytes) 8
  inhibit : Vector Bool 8
  /-- 1001h was not 0 when the clearing of its last condition was last judged (R73). -/
  errSeen : Bool
deriving DecidableEq, Repr

/-- An epoch anchor (R239). -/
structure Anchor where
  tx : Nat
  t32 : T32
  seq : BitVec 16
  timescale : BitVec 8
  sync : BitVec 8
  stepInstant : T32
  lastStep : Int
deriving DecidableEq, Repr

/-- A PTP instance (R246, R247, R261). -/
structure PtpInst where
  /-- The clock announced last on each port that hears one. -/
  heard : List (Fin 38 × ClockRank)
  offset : Int
  /-- Mean delay of the slave port's link in ps. -/
  delay : Int
  /-- TX in ps at which the last delay request left each port. -/
  asked : List (Fin 38 × Int)
  /-- Receipt of the last Sync less its origin, in ps. -/
  syncDiff : Option Int
  state : BitVec 8
  sequence : BitVec 16
deriving DecidableEq, Repr

/-- A TPO pin (R253 to R256). -/
structure TpoPin where
  level : Bool
  /-- The next pulse of the program that runs; none where none runs. -/
  next : Option T32
  /-- Pulses given by the program since it was started. -/
  given : Nat
  /-- An absolute program has run to its end. -/
  ended : Bool
  /-- Grid points of a periodic program that lie behind it (R244). -/
  passed : Nat
deriving DecidableEq, Repr

/-- The grid of a time trigger (R250): its next occurrence, and how many lie behind it. -/
structure TriggerGrid where
  next : T32
  passed : Nat
deriving DecidableEq, Repr

/-- A capture input (R257): the FIFO (stamp, rising, running count), oldest first, and the capture count. -/
structure TpiInput where
  fifo : List (T32 × Bool × BitVec 16)
  count : BitVec 16
deriving DecidableEq, Repr

/-- The Time Unit and the servo (R234 to R257). -/
structure TimeBlock where
  t32 : T32
  acc : BitVec 32
  inc : BitVec 40
  /-- TX now, in nanoseconds. -/
  tx : Nat
  /-- Nanoseconds counted since the model began, never stepped. -/
  mono : Nat
  timescale : BitVec 8
  sync : BitVec 8
  anchor : Option Anchor
  prevAnchor : Option Anchor
  anchorSeq : BitVec 16
  source : Option (Fin 4)
  offset : Int
  lockedOnce : Bool
  goodRun : Nat
  badRun : Nat
  lastLockedInc : BitVec 40
  stepInstant : T32
  lastStep : Int
  holdoverSince : Option Nat
  /-- The present state was entered at this monotonic time (R255). -/
  entered : Nat
  inst : Vector PtpInst 4
  /-- The grid of each trigger (R250); none where no grid runs. -/
  triggers : Vector (Option TriggerGrid) 16
  tpo : Vector TpoPin 4
  /-- The 1 ms low period of R256 runs. -/
  lowPeriod : Bool
  tpi : Vector TpiInput 2
deriving DecidableEq, Repr

/-- A message in a CAN receive FIFO (R273). -/
structure CanRx where
  frame : CanFrame
  stamp : T32
  /-- The Pool Manager buffer that holds a long XL data field. -/
  buffer : Option (BitVec 32)
deriving DecidableEq, Repr

/-- A message waiting to be sent on CAN (R274); management messages are marked. -/
structure CanTx where
  frame : CanFrame
  attempts : Nat
  mgmt : Bool
  /-- The bridge transaction whose request it is. -/
  bridge : Option Nat
  /-- Its place in the order of entry. -/
  order : Nat
deriving DecidableEq, Repr

/-- The CAN controller states of 4400h.13. -/
inductive CanCtl where
  | off | integrating | active | passive | busOff | recovering | heldOff
deriving DecidableEq, Repr

/-- A CAN port (R270 to R279). -/
structure CanPort where
  ctl : CanCtl
  txErr : Nat
  rxErr : Nat
  fifo0 : List CanRx
  fifo1 : List CanRx
  /-- Up to 32 messages, in the order they entered. -/
  queue : List CanTx
  /-- The slots whose message waits in arbitration, by slot number. -/
  slotsWaiting : List (Nat × CanTx)
  slotsPaused : Bool
  /-- Messages entered so far. -/
  entered : Nat
  /-- Times of the automatic recoveries, monotonic nanoseconds, newest first. -/
  recoveries : List Nat
  /-- The running recovery was started by a write to 4400h.16. -/
  commanded : Bool
  /-- A reconfiguration waits for the frame in progress (R277). -/
  reconfigure : Bool
  /-- While it waits: the values that still hold, by object key, and the monotonic time of the apply. -/
  oldCfg : List (Nat × Bytes)
  stoppedAt : Nat
  /-- The port last began to integrate at this monotonic time (R277). -/
  since : Nat
deriving DecidableEq, Repr

/-- A Modbus request of the client (R284), with the poll or bridge access that asked for it. -/
structure ModbusReq where
  address : BitVec 8
  function : BitVec 8
  pdu : Bytes
  poll : Option Nat
  bridgeTag : Option Nat
deriving DecidableEq, Repr

/-- A serial port (R280 to R284). -/
structure SerialPort where
  /-- Characters received and not yet searched (the 4 KiB buffer fills only while BE2 stands still). -/
  buffer : List (BitVec 9 × CharError × T32)
  /-- The message being collected, with the stamp of each character. -/
  msg : List (BitVec 9 × T32)
  /-- The template of the telegram being collected (R283). -/
  template : Option Nat
  /-- The message has been discarded by an error: its characters are ignored until its end. -/
  bad : Bool
  /-- Messages ready for the hand-over: identifier (R298), bytes, stamp. In MVB mode, sink updates. -/
  ready : List (Nat × Bytes × T32)
  /-- Messages to be sent, with the identifier each was sent under. -/
  txQueue : List (Nat × Bytes)
  /-- The Modbus request that is out, and the repeats it has left. -/
  client : Option (ModbusReq × Nat)
  clientQueue : List ModbusReq
  /-- The client's request has been transmitted. -/
  clientSent : Bool
  /-- The monotonic time at which the last received character ended, and until which SPn_DE stands for a transmission (R281). -/
  lastRx : Option Nat
  busyUntil : Nat
  /-- The level of SPn_DE (R280). -/
  de : Bool
deriving DecidableEq, Repr

/-- An MVB segment (R285 to R289): by port address, the value, the monotonic time of the last update, and which sinks are
stale or sources written. -/
structure MvbSeg where
  values : Tbl Bytes
  updated : Tbl Nat
  stale : List Nat
  written : List Nat
  lineB : Bool
  rxMsgs : List Bytes
  txMsgs : List Bytes
deriving DecidableEq, Repr

/-- What a journal record carries (R511). Counts are object keys with their values. -/
inductive JBody where
  | value (key : Nat) (v : Bytes)
  /-- A counter of persistence P cleared, by its counter key. -/
  | cleared (key : Nat)
  | armed (entries : List (Nat × Bytes))
  | commit (gen : BitVec 32)
  | checkpointStart
  | checkpointEnd
  | inclusion (number : Nat) (rec : Bytes)
  /-- The generation, TX at C, D64, Q, and the sources' quarantine and acceptance times (R386). -/
  | sleepSnapshot (gen : BitVec 32) (tx : Nat) (d64 : Int) (q : Int) (sources : List (Bool × List Nat))
  /-- D64 and Q (R362), of type 8 like the three that follow. -/
  | distance (d64 : Int) (q : Int)
  | pageCounts (counts : Tbl Nat)
  | pageRetired (page spare : Nat)
  /-- A column's bank map: the state and the corrected symbols of its 17 banks (R105). -/
  | bankMap (col : Nat) (banks : List (Nat × Nat))
  /-- Counted Safe entries, as TX seconds (R31). -/
  | safeEntries (times : List Nat)
  | hours (n : Nat)
  /-- An activation of a bank, or a debug unlock (R534, R541). -/
  | note (kind : Nat) (data : Bytes)
deriving DecidableEq, Repr

/-- A journal record in flash (R511, R512): its sequence, body, flash block, and whether it is sealed. -/
structure JRec where
  seq : BitVec 32
  body : JBody
  block : Nat
  sealed : Bool
deriving DecidableEq, Repr

/-- The journal (R511 to R515). -/
structure JournalBlock where
  /-- Records in flash, oldest first. -/
  recs : List JRec
  /-- Records that wait to be written, oldest first, each with the answer that waits for it (R42). -/
  waiting : List (JBody × ReplyTo)
  seq : BitVec 32
  /-- Flash blocks of the journal in the order they are filled: blocks in use first, erased blocks after. -/
  blocks : List Nat
  /-- Blocks in use, and bytes used in the last of them. -/
  inUse : Nat
  fill : Nat
  /-- 0 normal; 1 compacting; 2 failed. -/
  state : BitVec 8
  checkpointSize : Nat
  checkpointAt : Nat
  /-- Blocks that the running compaction frees. -/
  freeing : Nat
deriving DecidableEq, Repr

/-- Wear, spares and Inclusions (R502 to R510). -/
structure WearBlock where
  /-- Erase counts of the 512 flash blocks. -/
  erases : Tbl Nat
  retired : List Nat
  /-- Spares in service: spare block and the block it replaces. -/
  spares : List (Nat × Nat)
  /-- Image-bank blocks that wait for a journal block (R504). -/
  bankWaiting : List Nat
  /-- Inclusions held, oldest first: number and the 48 bytes. -/
  inclusions : List (Nat × Bytes)
  inclusionNo : Nat
  sinceStart : Nat
  /-- Inclusions that wait for the journal to open (R510): source, kind, detail, stamp. -/
  held : List (Nat × Nat × Bytes × T32)
  heldLost : Bool
  /-- Event 2602h and 2603h latches per class: column, DRAM, flash. -/
  lowLatched : Vector Bool 3
  spentLatched : Vector Bool 3
  report : BitVec 32
  reportAt : T32
  uncertainty : BitVec 32
  hours : Nat
deriving DecidableEq, Repr

end Sys2Proof.Machine
end

