-- ==== Sys2Proof/Machine/BlocksData.lean ====
section
/-! DEFINITION. The parts of the state, second half of the frame path: ports, fabric columns, lookup, streams, egress and
the Zone Gate (chapters 03 to 06). Plain data throughout. -/

namespace Sys2Proof.Machine

/-- How a frame's reception ended (R93, R177): with its last byte, by an abort of the PHY or a cut link, or torn in reassembly. -/
inductive FrameEnd where
  | complete | aborted | torn
deriving DecidableEq, Repr

/-- The 192-byte staging buffer of an external port (R84): the bytes that have arrived, how they ended if they did, and the ingress
stamp. -/
structure Staged where
  bytes : Bytes
  ended : Option FrameEnd
  stamp : T32
deriving DecidableEq, Repr

/-- The budgets of a column (R82). -/
inductive Budget where
  | minimum | pool | reserve
deriving DecidableEq, Repr

/-- What a frame holds in one column (R85, R86): the column, the budget its charge is taken from, the charge, and the positions of
its cells in frame order (bank × 512 + cell). -/
structure Holding where
  col : Nat
  budget : Budget
  charge : Nat
  places : List Nat
deriving DecidableEq, Repr

/-- The verdict on a frame that the later steps need (R119). -/
structure Verdict where
  vid : Nat
  fid : Nat
  pcp : Nat
  tc : Nat
  handle : Nat
  yellow : Bool
  tagged : Bool
  /-- The meters that coloured it, with the bucket charged (true for committed). -/
  meters : List (Nat × Bool)
  gate : Option Nat
  lenLimit : Nat
  streamLimit : Bool
  /-- Learning is allowed by VLAN, port and state (R125). -/
  learn : Bool
  /-- The recovery function that decides at the end, if any (R138); the R-tag sequence. -/
  recover : Option Nat
  recoverInvalid : Bool
  rseq : Option Nat
  /-- The number generated or recovered for the R-tag (R136). -/
  seqNo : Option Nat
  /-- PRP pairs the frame is sent on, with its sequence number; and a PRP trail as received, to be removed (R140). -/
  prp : List (Nat × Nat)
  prpCut : Bool
  /-- The reduced destination set before inspection (R126, R141). -/
  set : List Nat
  /-- The inspection lanes that took it, with the bytes reckoned (R194). -/
  lanes : List (Nat × Nat)
  /-- Flow positions hit, with direction A to B (R192). -/
  flows : List (Nat × Bool)
  /-- The frame's source zone, and its destination zone by port where the Zone Gate judged it (R186). -/
  zone : Nat
  /-- Destinations whose crossing waits for the Guard Processor: zone and ports. -/
  waiting : List (Nat × List Nat)
  /-- Trapped, with the bucket (0 MGMT, 1 GUARD). -/
  trap : Option Nat
  /-- Lookup discarded it; its rest is only counted, charged and learned from. -/
  dropped : Bool
deriving DecidableEq, Repr

/-- A copy of a frame for an egress queue (R153). -/
structure Copy where
  frame : Nat
  mirror : Option Nat
  /-- The frame's charge, for the queue's depth (R154). -/
  cells : Nat
  /-- Admitted for cut-through (R92); any other copy is queued when its frame has ended and is checked. -/
  cut : Bool
deriving DecidableEq, Repr

/-- A frame in the fabric. -/
structure Frame where
  id : Nat
  ingress : Nat
  bytes : Bytes
  ended : Bool
  bad : Bool
  stamp : T32
  verdict : Verdict
  holdings : List Holding
  /-- Destination ports admitted and not done; a mirror session stands beside a mirrored port. -/
  dests : List (Nat × Option Nat)
  /-- Copies that are queued when the frame has ended and is checked (R92), by queue number. -/
  held : List (Nat × Copy)
  /-- The frame's internal header, for ports 38 to 42. -/
  header : Bytes
deriving DecidableEq, Repr

/-- The state of a column bank (R102, R612). -/
inductive BankState where
  | service | spare | draining | retired | lost
deriving DecidableEq, Repr

/-- A column of the fabric (R82 to R106). -/
structure Column where
  banks : Vector BankState 17
  symbols : Vector Nat 17
  /-- The cells in use, by position (R101, R102). -/
  inUse : BitVec 8704
  /-- The Facet minima in force (reduced under R103), and what is used of each budget, by input row. -/
  minimum : Vector Nat 14
  minUsed : Vector Nat 14
  poolUsed : Vector Nat 14
  reserveUsed : Vector Nat 14
  highWater : Vector Nat 14
  pool : Nat
  reserve : Nat
  /-- When the column was last started or ungated, which its rotation pointer counts from (R87). -/
  since : Nat
  gated : Bool
  failed : Bool
  degraded : Bool
  testPos : Nat
  /-- The banks that drain, and since when, oldest first (R102). -/
  draining : List (Nat × Nat)
deriving DecidableEq, Repr

/-- A link (R108). -/
structure PortLink where
  link : BitVec 8
  rate : BitVec 8
  changedAt : Nat
  /-- The frame being received after its verdict; and a preempted frame whose reception an express frame interrupts (R177). -/
  receiving : Option Nat
  suspended : Option Nat
deriving DecidableEq, Repr

/-- A dynamic forwarding entry (R124): position, key, destination, age, and its moves (R128). -/
structure FwdEntry where
  fid : Nat
  mac : Nat
  static : Bool
  discard : Bool
  group : Bool
  dest : Nat
  age : Nat
  port : Nat
  moves : List Nat
  locked : Bool
deriving DecidableEq, Repr

/-- A meter (R133): buckets in 2⁻¹⁶ byte, last refill on the monotonic count. -/
structure Meter where
  c : Int
  e : Int
  last : Nat
  allRed : Bool
deriving DecidableEq, Repr

/-- A running timed list: entries (word, interval), cycle start, position in it, cycle time and extension (R132, R165). -/
structure TimedList where
  entries : List (Nat × Nat)
  cycle : Nat
  extension : Nat
  cycleStart : T32
  entryStart : T32
  index : Nat
deriving DecidableEq, Repr

/-- A list that waits for its first cycle start (R166, R168): the list, its grid point or C once fixed, the position event it
waits for, the moment C was fixed, and the image it came from. -/
structure PendingList where
  list : TimedList
  c : T32
  event : Option Nat
  fixedAt : T32
  image : Bytes
deriving DecidableEq, Repr

/-- A stream gate (R132). -/
structure StreamGate where
  running : Option TimedList
  pending : Option PendingList
  octets : Nat
  closed : Bool
deriving DecidableEq, Repr

/-- A recovery function (R138, R139): history newest first. -/
structure Recovery where
  takeAny : Bool
  /-- The reset timer runs: a frame has passed since the last reset (R138). -/
  timed : Bool
  recov : Nat
  history : List Bool
  passed : Nat
  dups : Nat
  latent : Bool
deriving DecidableEq, Repr

/-- Lookup and streams (R118 to R143). -/
structure LookupBlock where
  /-- Trap buckets MGMT and GUARD in 2⁻¹⁶ byte, and their last refill. -/
  trapLevel : Vector Int 2
  trapLast : Vector Nat 2
  fwd : Tbl FwdEntry
  meters : Tbl Meter
  gates : Tbl StreamGate
  generators : Tbl Nat
  recoveries : Tbl Recovery
  prpSeq : Vector Nat 3
  /-- The duplicate table, oldest first: source address and sequence. -/
  prpKeys : List (Nat × Nat)
deriving DecidableEq, Repr

/-- What a port is sending (R156, R160, R177): the copy, its class, the bytes of its first cell as read, the bytes that earlier fragments
have sent, when the present fragment began (monotonic), and the nanoseconds its shaper has been charged for. -/
structure Sending where
  frame : Nat
  mirror : Option Nat
  cls : Nat
  first : Bytes
  sent : Nat
  since : Nat
  spent : Nat
  /-- Sent to its end with a tail mark (R93). -/
  mark : Bool
  /-- Cut through: it started before the frame had ended. -/
  cut : Bool
  fragments : Nat
deriving DecidableEq, Repr

/-- Egress of one port (R156 to R178). -/
structure PortEgress where
  ptr : Nat
  deficit : Vector Int 8
  topped : Vector Bool 8
  /-- Credits in 2⁻¹⁶ bit and the monotonic times they stand for. -/
  credit : Vector Int 8
  creditAt : Vector Int 8
  sending : Option Sending
  preempted : Option Sending
  /-- The operational and the administrative list. -/
  oper : Option TimedList
  operImage : Bytes
  pending : Option PendingList
  c : T32
  hold : Bool
  preemption : BitVec 8
  attempts : Nat
deriving DecidableEq, Repr

/-- The two endpoints and the rest of a flow's key as it stands in the entry (R191). -/
structure FlowKey where
  kind : Nat
  vid : Nat
  ipv6 : Bool
  proto : Nat
  zoneA : Nat
  zoneB : Nat
  addrA : Nat
  addrB : Nat
  portA : Nat
  portB : Nat
deriving DecidableEq, Repr

/-- A flow entry (R191, R192). -/
structure Flow where
  key : FlowKey
  state : Nat
  recheck : Bool
  lane : Nat
  logClose : Bool
  ruleId : Nat
  generation : BitVec 16
  profile : Nat
  idle : Nat
  created : Nat
  frames : Nat
  seen : T32
deriving DecidableEq, Repr

/-- What the Guard Processor's tests read of a first packet (R206), by field code; an absent field is not listed. -/
abbrev FieldList := Tbl Nat

/-- A stored first packet or follower (R197). -/
structure FirstFrame where
  bytes : Bytes
  /-- Its internal header, if it came from a processor or engine. -/
  header : Bytes
  ingress : Nat
  stamp : T32
  verdict : Verdict
  ports : List Nat
  /-- The Pool Manager buffer it occupies. -/
  handle : Nat
deriving DecidableEq, Repr

/-- An entry of the first-packet queue (R198). -/
structure FirstEntry where
  pair : Nat
  canon : Bytes
  key : FlowKey
  fields : FieldList
  head : FirstFrame
  followers : List FirstFrame
  recheck : Option Nat
deriving DecidableEq, Repr

/-- A verdict that waits for its window to compare equal (R200). -/
structure GpVerdict where
  entry : FirstEntry
  action : Nat
  logVerdict : Bool
  logClose : Bool
  profile : Nat
  ruleId : Nat
  noTree : Bool
  /-- 3C00h.0A when the verdict was given. -/
  gen : BitVec 16
deriving DecidableEq, Repr

/-- A fragment entry (R196): its key and the flow position it maps to. -/
structure FragEntry where
  key : FragmentKey
  flow : Nat
deriving DecidableEq, Repr

/-- A Zone Gate log record (R221). -/
structure ZoneRec where
  typ : Nat
  reason : Nat
  key : FlowKey
  lane : Nat
  oneWay : Bool
  stamp : T32
  secs : BitVec 16
  ingress : Nat
  seq : BitVec 32
  ruleId : Nat
  frames : Nat
deriving DecidableEq, Repr

/-- The Zone Gate (R186 to R222). -/
structure ZoneBlock where
  flows : Tbl Flow
  fragments : List FragEntry
  /-- Frames in each lane's hold buffer: when the lane takes them (monotonic), and their bytes (R194). -/
  hold : Vector (List (Nat × Nat)) 4
  /-- When each lane can take a further frame. -/
  laneFree : Vector Nat 4
  queue : List FirstEntry
  lastPair : Nat
  credit : Nat
  verdicts : List GpVerdict
  generation : BitVec 16
  fateUsed : Bool
  lastSwap : T32
  revoked : Nat
  marked : Nat
  /-- The sweep position; none when no sweep runs. -/
  sweep : Option Nat
  sweepFrom : Nat
  log : List ZoneRec
  logNext : BitVec 32
  /-- Records written in the current second, and that second. -/
  logSecond : Nat
  logCount : Nat
  logSuppressed : Nat
deriving DecidableEq, Repr

/-- The frame path as a whole. -/
structure FabricBlock where
  links : Vector PortLink 43
  staging : Vector (Option Staged) 38
  columns : Vector Column 14
  frames : List Frame
  nextId : Nat
  queues : Vector (List Copy) 320
  egress : Vector PortEgress 43
  /-- Distribution tables of the aggregation groups (R97, R99). -/
  lag : Vector Bytes 8
deriving DecidableEq, Repr

end Sys2Proof.Machine
end

