-- ==== Sys2Proof/Machine/BlocksBus.lean ====
section
/-! DEFINITION. The parts of the state: gateway, bridge, audio, position, battery and power (chapters 09, 10, 11). Plain
data throughout. -/

namespace Sys2Proof.Machine

/-- A message at the hand-over FIFO (R303) or on its way over BUSGW: source bus code, identifier, data, stamp, and the
Pool Manager buffer of a long XL message. -/
structure GwMsg where
  bus : Nat
  ident : Nat
  /-- A datagram message gives its own destination. -/
  data : Bytes
  stamp : T32
  buffer : Option (BitVec 32)
  /-- The fields of a CAN XL message (R270). -/
  xl : Option XlFields
deriving DecidableEq, Repr

/-- An internal frame to a destination engine (R304): routing entry, destination bus, identifier and data. -/
structure GwOut where
  entry : Nat
  dest : Nat
  ident : Nat
  /-- Latest-value mode of the entry that routed it. -/
  latest : Bool
  data : Bytes
  stamp : T32
  /-- The Pool Manager buffer BUSGW took it in. -/
  buffer : Option (BitVec 32)
  /-- The fields of a CAN XL source. -/
  xl : Option XlFields
deriving DecidableEq, Repr

/-- The held value of a latest-value entry (R307, R308). -/
structure HeldValue where
  value : Bytes
  /-- The fields of a CAN XL source. -/
  xl : Option XlFields
  stamp : T32
  /-- The source timeout has run since the last frame. -/
  timedOut : Bool
  /-- The stale condition has been reported by a stale point. -/
  reported : Bool
deriving DecidableEq, Repr

/-- Gateway routing (R302 to R315). -/
structure GatewayBlock where
  /-- Messages handed over and not yet matched, oldest first; at most 1,024. -/
  fifo : List GwMsg
  /-- Internal frames that stand before a destination engine. -/
  internal : List GwOut
  held : Tbl HeldValue
  /-- Datagram sequences by Ethernet destination. -/
  seqs : Tbl Nat
  /-- Modbus register map: port, type and register to value. -/
  modbus : Tbl Nat
  /-- The apply instant of the image in TX nanoseconds, from which its grids count (R307). -/
  base : Nat
  /-- The next grid point of each latest-value entry and of each poll with a period, in TX nanoseconds. -/
  next : Tbl Nat
  pollNext : Tbl Nat
deriving DecidableEq, Repr

/-- How far a bridge transaction has come (R318, R320): it waits, its request stands in a port's queue, or the request is
sent; an abandoned read keeps the time of its abandonment, and whether a
later answer is recorded. -/
inductive BridgeState where
  | queued | issued | sent
  | abandoned (at_ : BitVec 32) (record : Bool)
deriving DecidableEq, Repr

/-- Who waits for a bridge transaction: a held read, a posted write, a prefetch (R319) or a status poll (R323). -/
inductive BridgeUse where
  | held | write | prefetch
  | poll (n : Nat)
deriving DecidableEq, Repr

/-- A bridge transaction (R318 to R321). -/
structure BridgeTx where
  tag : Nat
  seq : BitVec 32
  page : Nat
  offset : Nat
  length : Nat
  /-- None for a read; the data of a write. -/
  data : Option Bytes
  state : BridgeState
  use_ : BridgeUse
  target : Nat
  /-- Accepted under the lock of its target (R322). -/
  locked : Bool
deriving DecidableEq, Repr

/-- The lock (R322): its page, far target and tag; a waiting one since when. -/
inductive BridgeLock where
  | none
  | waiting (page target tag since : Nat)
  | held (page target tag : Nat)
deriving DecidableEq, Repr

/-- A status poll (R323). -/
structure PollValue where
  value : Bytes
  changedAt : T32
deriving DecidableEq, Repr

/-- The Remote Access Bridge (R316 to R329). -/
structure BridgeBlock where
  /-- Transactions in the order they were accepted. -/
  txs : List BridgeTx
  seq : BitVec 32
  /-- Cached prefetch values by page and slot. -/
  cache : List (Nat × Nat × Bytes)
  lock : BridgeLock
  polls : Tbl PollValue
  lateFaults : List Bytes
  stranded : List Bytes
  lateLost : Bool
  strandedLost : Bool
  /-- Objects of the last read: sequence number and result. -/
  lastSeq : BitVec 32
  lastResult : BitVec 8
deriving DecidableEq, Repr

/-- An audio input (R340 to R342): whether it is active and since which block, when its level last reached the threshold, its
level in 0.1 dBFS, its priority in the last block, and its samples of that block. -/
structure AudioInput where
  active : Bool
  since : Nat
  lastActive : Option Nat
  level : Int
  priority : Nat
  samples : List Int
deriving DecidableEq, Repr

/-- A call (R345, R346). -/
structure Call where
  ref : BitVec 16
  priority : Nat
  caller : Nat
  callee : Nat
  /-- False while it alerts. -/
  connected : Bool
  order : Nat
  /-- The last command about it, and the queue position last told. -/
  command : Nat
  position : Nat
  /-- Where the caller and the callee have spoken from (R345). -/
  callerAt : Option Contact
  calleeAt : Option Contact
deriving DecidableEq, Repr

/-- An output stream or an input stream's state (R334 to R336). -/
structure AudioStream where
  state : Nat
  frames : List AudioFrame
  /-- The samples of the last block, channel by channel, and the priority and channel mask its extension carried. -/
  last : List Int
  mark : Option (Nat × Nat)
  lastAt : Nat
  concealed : Nat
deriving DecidableEq, Repr

/-- Audio (R333 to R353). -/
structure AudioBlock where
  inputs : Vector AudioInput 64
  /-- Input granted to each output, 0xFF none. -/
  grants : Vector Nat 64
  /-- Ambient gain of each output in tenths of a decibel, and the measured noise. -/
  ambient : Vector Int 64
  noise : Vector (Option Int) 64
  /-- What each output mixed in the last block (input, gain in tenths of a decibel), since which block, and its priority. -/
  mix : Vector (List (Nat × Int)) 64
  mixAt : Vector Nat 64
  current : Vector Nat 64
  /-- The samples each output gave in the last block, and the frames each output stream has sent. -/
  given : Vector (List Int) 64
  sent : Vector Nat 32
  streams : Vector AudioStream 32
  /-- Players: the clip that runs and its position. -/
  players : Vector (Option (Nat × Nat)) 8
  calls : List Call
  callQueue : List Call
  /-- Requests that wait while a debugger halts the Guard Processor (R440), oldest first. -/
  mailbox : List CallRequest
  callOrder : Nat
  emergency : Bool
  blocks : Nat
  /-- Status datagrams sent on channel 0x0002, by the address they go to (R309). -/
  statusSeqs : Tbl Nat
  /-- The occurrence that the sample grid was last aligned to (R251). -/
  grid : Option T32
deriving DecidableEq, Repr

/-- An odometry channel (R357 to R360): levels of its inputs, distance of the running window in 2⁻¹⁶ mm, windows without an
edge, speed of the last window in mm/s, and the monotonic time of its last counted edge. -/
structure OdoChannel where
  aLevel : Bool
  bLevel : Bool
  dist : Nat
  silent : Nat
  speed : Nat
  lastEdge : Option Nat
deriving DecidableEq, Repr

/-- A position event (R364): live target, state (0 disabled, 1 armed, 2 fired) and the stamp of its last firing. -/
structure PosEvent where
  target : BitVec 32
  state : Nat
  firedAt : T32
deriving DecidableEq, Repr

/-- Position and door side (R356 to R368). -/
structure PositionBlock where
  d32 : BitVec 32
  /-- The fraction of a millimetre, in 2⁻¹⁶ mm. -/
  acc : BitVec 16
  /-- Direction of the driving channel's last edge: 0 forward, 1 reverse. -/
  direction : Nat
  channels : Vector OdoChannel 2
  /-- The cross-check state, and windows within the limit while it is 3. -/
  check : Nat
  agree : Nat
  drive : Nat
  /-- Speeds of the last two windows in state 0, newest first. -/
  zeroSpeeds : List Nat
  d64 : Int
  lastD32 : BitVec 32
  /-- D64 and Q as last appended to the journal (R362, R373). -/
  saved : Option (Int × Int)
  lastStep : Int
  events : Vector PosEvent 64
  doors : BitVec 4
deriving DecidableEq, Repr

/-- Battery, analogue inputs and load shedding (R369 to R375). -/
structure PowerBlock where
  /-- Sequences that convert or wait, the converting one first, with the T32 of each start; 4 is the housekeeping sequence. -/
  sequences : List (Nat × T32)
  /-- Q in mA·ns, and its confidence. -/
  charge : Int
  confidence : Nat
  /-- E ≤ Rsv at the last evaluation (R374). -/
  reserve : Bool
  /-- The previous shunt conversion, on the monotonic count. -/
  lastShunt : Option Nat
  /-- mA, and mV once measured. -/
  current : Int
  voltage : Option Nat
  /-- Stages engaged, bit k − 1 for stage k, and those of them that low voltage engaged. -/
  stages : Nat
  voltageStages : Nat
deriving DecidableEq, Repr

end Sys2Proof.Machine
end

