-- ==== Sys2Proof/Machine/BlocksSystem.lean ====
section
/-! DEFINITION. The parts of the state: sleep and wake, Guard Processor, Pair, memory and pools, check-value units,
images, host interface, SPI, pins and test access (chapters 12 to 15 and 17 to 20). Plain data throughout. -/

namespace Sys2Proof.Machine

/-- A wake source (R387 to R389): acceptance times within the hour, quarantine, and an active level. -/
structure WakeSource where
  times : List Nat
  quarantined : Bool
  active : Bool
deriving DecidableEq, Repr

/-- The wake cause (R391, R405). -/
structure WakeCause where
  source : BitVec 8
  at_ : T32
  latched : Bool
  ballot : BitVec 16
  seen : BitVec 32
  slept : BitVec 32
  state : BitVec 8
deriving DecidableEq, Repr

/-- The sleep ballot (R394 to R398). -/
structure Ballot where
  /-- 0 idle; 1 proposed; 2 voting; 3 committed; 4 aborted (2400h.11). -/
  state : Nat
  number : BitVec 16
  /-- The proposer's Unit ID. -/
  proposer : Nat
  /-- 1 Light Sleep, 2 Deep Sleep. -/
  kind : Nat
  commitAt : T32
  /-- W, the end of the vote window of an own proposal (R395). -/
  window : T32
  /-- Unit IDs of the voters that have voted yes or abstain. -/
  votes : List Nat
  /-- The second Commit is still to be sent. -/
  resend : Bool
  /-- Frames already acted on: number, proposer, sender, type; newest first. -/
  copies : List (Nat × Nat × Nat × Nat)
deriving DecidableEq, Repr

/-- A managed segment (R399 to R403). -/
structure Segment where
  /-- 0 not managed; 1 asleep; 2 awake; 3 draining; 4 isolated. -/
  state : Nat
  /-- The end of the lease, on the monotonic count. -/
  lease : Nat
deriving DecidableEq, Repr

/-- Sleep and wake (R379 to R408). -/
structure SleepBlock where
  sources : Vector WakeSource 20
  cause : WakeCause
  /-- A wake is latched and starts as soon as the entry is complete (R397). -/
  latched : Bool
  /-- The entry of R384 runs. -/
  entering : Bool
  /-- C, on the monotonic count. -/
  sleptFrom : Nat
  keepAwake : Bool
  wakeHold : Bool
  ballot : Ballot
  ballotNo : BitVec 16
  phyWait : List Nat
  segments : Vector Segment 38
deriving DecidableEq, Repr

/-- A replay-queue entry (R419): kind, the point it was taken at, its value, and for a debugger action its target. -/
structure ReplayEntry where
  kind : Nat
  point : Nat
  value : BitVec 32
  target : Option DebugTarget
deriving DecidableEq, Repr

/-- An entry of the output hold (R422); its parity is formed from it. -/
structure HoldEntry where
  address : BitVec 32
  data : BitVec 32
  enables : BitVec 4
deriving DecidableEq, Repr

/-- The last GP fault (R444). -/
structure GpFault where
  cause : BitVec 8
  tx : Nat
  stamp : T32
  task : BitVec 8
  window : BitVec 32
  sig1 : BitVec 64
  sig2 : BitVec 64
  retired : BitVec 32
  entry : BitVec 8
deriving DecidableEq, Repr

/-- The Guard Processor (R409 to R446). Zone Gate verdicts wait beside the output hold (ZoneBlock.verdicts). -/
structure GpBlock where
  /-- The GP runs: not in reset, not stopped. -/
  running : Bool
  halted : Bool
  /-- The task whose window is open. -/
  task : Option Nat
  /-- 0 no window, 1 pass 1 open, 2 pass 2 open. -/
  pass : Nat
  /-- Windows since start. -/
  window : BitVec 32
  retired : BitVec 32
  nextPc : BitVec 26
  /-- The open pass started at this monotonic time. -/
  opened : Nat
  /-- The task of the window ends with it. -/
  ended : Bool
  replay : List ReplayEntry
  /-- Interrupts and debugger actions that wait for the next pass 1. -/
  later : List ReplayEntry
  /-- The output writes of the window (R422), what pass 2 is to do again in its order (none: an input), and pass 1's signature. -/
  hold : List HoldEntry
  again : List (Option GpCommit)
  sig1 : BitVec 64
  /-- When a debugger halted pass 1. -/
  haltedAt : Nat
  /-- Tasks that wait for a window. -/
  waiting : List Nat
  /-- Windows since the last of task 5 (R430), and when task 6 last completed a run. -/
  sinceFive : Nat
  testDoneAt : Nat
  lastTest : T32
  /-- The windows of the running task so far, and when it started. -/
  part : Nat
  taskSince : Nat
  starts : Vector T32 7
  longestRun : Vector Nat 7
  longestPass : Nat
  probeBit : Nat
  lastProbe : T32
  /-- The resign template (R434) and the frames of it still to be sent. -/
  resignTemplate : Bytes
  resignLeft : Nat
  /-- The GP component as it was loaded into both regions (R417). -/
  code : Bytes
  /-- Words stored since: region 1, region 2, registers and breakpoints. -/
  region1 : Tbl Nat
  region2 : Tbl Nat
  regs : Tbl Nat
  breakpoints : Tbl Nat
  fault : GpFault
deriving DecidableEq, Repr

/-- The roles of the Pair (R451). -/
inductive PairRole where
  | solo | discovering | syncing | standby | active
deriving DecidableEq, Repr

/-- An output digest (R460): count, sum, exclusive-or. -/
structure Digest where
  count : BitVec 32
  sum : BitVec 32
  xor : BitVec 32
deriving DecidableEq, Repr

/-- A capsule being received (R457): its sequence, instant, segment count, check, flag and segments; a rejected one stays
so that its further segments are ignored. -/
structure CapsuleIn where
  seq : BitVec 16
  instant : T32
  total : Nat
  check : BitVec 32
  handover : Bool
  segments : Tbl Bytes
  dead : Bool
deriving DecidableEq, Repr

/-- An accepted capsule (R457). -/
structure Capsule where
  seq : BitVec 16
  instant : T32
  body : Bytes
deriving DecidableEq, Repr

/-- The Pair (R447 to R473). -/
structure PairBlock where
  role : PairRole
  epoch : BitVec 32
  activeUnit : BitVec 64
  /-- A Discovering device has lost the rule of R452 to its peer. -/
  yielded : Bool
  /-- The role is held since this monotonic time. -/
  roleAt : Nat
  /-- The epoch of another Active that a conflict has been reported with (R465). -/
  conflict : Option Nat
  /-- G_k of the running cycle and its digest so far; the cycles that ended and wait for their judgement, with their digests, newest last. -/
  cycleStart : T32
  own : Digest
  ownDone : List (T32 × Digest)
  /-- Digests received: cycle start, plane (0 A, 1 B), digest; newest last. -/
  digests : List (T32 × Nat × Digest)
  /-- A digest has come since the last judgement. -/
  heard : Bool
  /-- Consecutive failed cycles. -/
  failed : Nat
  capsules : List CapsuleIn
  lastCapsule : Option Capsule
  /-- The last capsule was accepted at this monotonic time. -/
  acceptedAt : Option Nat
  /-- The last capsule sent or accepted: instant and sequence; the sequence of the next capsule follows the one sent. -/
  shownInstant : T32
  shownSeq : BitVec 16
  capsuleSeq : BitVec 16
  noCapsule : Bool
  /-- The handover instant H and its cause (R466), and a handover deferred by an emergency. -/
  handover : Option (T32 × Nat)
  deferred : Option Nat
  /-- The expected handover instant and the cause of the claim frame sent (R466). -/
  claim : Option (T32 × Nat)
  takeoverAt : Option Nat
  /-- Standby with accepted capsules since this monotonic time (R466). -/
  standbySince : Option Nat
  /-- The peer's last health frame, the role it was last seen in, and its loss (R465, R469). -/
  healthAt : Option Nat
  /-- Its last presence or health frame. -/
  peerAt : Option Nat
  peerRole : Nat
  peerLost : Bool
  peerHealth : BitVec 32
  peerMargin : BitVec 8
  /-- Frames already acted on (R450): type, epoch, Sent at and part, each with the monotonic time of its first copy; newest first. -/
  copies : List ((Nat × Nat × Nat × Nat) × Nat)
deriving DecidableEq, Repr

/-- DRAM (R474 to R481). -/
structure DramBlock where
  /-- Pages written since the last training; every other page is uninitialised (R478). -/
  touched : List Nat
  /-- Corrected symbols by page, at most 255. -/
  counts : Tbl Nat
  /-- Worn page and the spare that replaces it, oldest first. -/
  remap : List (Nat × Nat)
  spares : List Nat
  /-- Pages whose retirement waits for a withdrawn buffer, with true for an uncorrectable codeword. -/
  waiting : List (Nat × Bool)
  retiredTotal : Nat
  position : Nat
  /-- TX of the last completed pass, in nanoseconds; 0 before the first. -/
  lastPass : Nat
deriving DecidableEq, Repr

/-- A buffer the Pool Manager has given out (R484). -/
structure PoolTag where
  /-- 0 free, 1 in use, 2 withdrawing, 3 out of service. -/
  state : Nat
  poisoned : Bool
  owner : Nat
  gen : Nat
  prev : Nat
  keep : Bool
  stamp : T32
deriving DecidableEq, Repr

/-- A size class of the Pool Manager (R483 to R492): buffers laid out at the start, count in force, free buffers in
hand-out order before the ones never handed out (from `fresh` on), and the tags that differ from a fresh one. -/
structure PoolClass where
  laid : Nat
  count : Nat
  free : List Nat
  fresh : Nat
  tags : Tbl PoolTag
deriving DecidableEq, Repr

/-- The Pool Manager. -/
structure PoolBlock where
  classes : Vector PoolClass 6
  /-- What a cut has left of minima (R492), by 8 times the owner plus the class. -/
  cuts : Tbl Nat
  misuse : List Bytes
  misuseNext : BitVec 32
deriving DecidableEq, Repr

/-- A check-value unit (R493 to R496). -/
structure Cvu where
  cfg : BitVec 32
  poly : BitVec 32
  init : BitVec 32
  xor : BitVec 32
  value : BitVec 32
  cfgError : Bool
  /-- Ignored writes, saturating. -/
  ignored : Nat
  claim : BitVec 2
deriving DecidableEq, Repr

/-- The states of an image bank (R525). -/
inductive ImageState where
  | empty | staging | staged | active | trial | previous | failed
deriving DecidableEq, Repr

/-- An image bank (R524, R525): its state, the parts written into it (none: the image of the factory), its activation number. -/
structure ImageBank where
  state : ImageState
  parts : Tbl Bytes
  actNo : BitVec 32
deriving DecidableEq, Repr

/-- Images and activation (R522 to R541). -/
structure UpdateBlock where
  banks : Vector ImageBank 2
  running : Nat
  target : Nat
  erasing : Option ReplyTo
  /-- 0 idle, 1 handover, 2 pause. -/
  activating : Nat
  /-- The phase of the activation pause, 1 to 6; 0 outside it. -/
  phase : Nat
  /-- The bank that is being activated, and the bank that ran before. -/
  newBank : Nat
  oldBank : Nat
  /-- The new bank did not verify, and the old one is loaded instead (R535). -/
  fellBack : Bool
  /-- Where the answer to the activation command goes. -/
  activator : ReplyTo
  lastResult : BitVec 8
  failReason : BitVec 8
  /-- The command under way (3 or 6), 0 for none. -/
  lastCommand : BitVec 8
  /-- The rollback counter (R538). -/
  fuses : Nat
  lockFuse : Bool
  /-- The device has been in Normal without interruption since this monotonic time (R537). -/
  normalSince : Option Nat
  /-- The handover or the pause of an activation began at this monotonic time. -/
  pauseStart : Nat
  lastPause : Nat
deriving DecidableEq, Repr

/-- A DMA ring (R552). -/
structure Ring where
  basl : BitVec 32
  bash : BitVec 32
  size : BitVec 32
  ctl : BitVec 32
  head : Nat
  tail : Nat
  sts : BitVec 32
  /-- Eligible completions that no message has signalled, and the monotonic time of the first (R554). -/
  unsignalled : Nat
  since : Nat
deriving DecidableEq, Repr

/-- The PCIe host interface (R545 to R557, R576). -/
structure HostBlock where
  ctl : BitVec 32
  sts : BitVec 32
  ien : BitVec 32
  mailbox : Bytes
  window : Bytes
  answer : Bytes
  busy : Bool
  /-- The result and data of the request that is being executed, once it has them. -/
  result : Option (Byte × Bytes)
  pres : BitVec 32
  phdl : BitVec 32
  pgto : BitVec 32
  pfst : BitVec 32
  pasel : BitVec 32
  paoff : BitVec 32
  /-- Buffer contents written through the aperture, by handle and offset. -/
  buffers : Tbl Byte
  rings : Vector Ring 16
  /-- The TX ring that had the last turn (R553). -/
  lastTx : Nat
  link : BitVec 8
  rate : BitVec 8
  /-- HSTS bits 1 to 4 as they stood when vector 0 was last judged. -/
  seen : Nat
  d3hot : Bool
  busMaster : Bool
  pendingMsix : List Nat
deriving DecidableEq, Repr

/-- The SPI target (R558 to R560). -/
structure SpiBlock where
  /-- The frame of the request that is being executed. -/
  request : Option Bytes
  /-- Its result and data, once it has them. -/
  result : Option (Byte × Bytes)
  answer : Option Bytes
  crcError : Bool
  refused : Bool
  /-- CRC errors of the last second, as monotonic times. -/
  crcTimes : List Nat
deriving DecidableEq, Repr

/-- Pins and package (R556, R570 to R597): levels that the device drives, supply and temperature records. -/
structure PinBlock where
  rstoutN : Bool
  inh : Bool
  lso : BitVec 4
  phyReset : BitVec 12
  stb : BitVec 8
  porArmed : Bool
  porCount : BitVec 32
  vin : Nat
  v5in : Nat
  vinMin : Nat
  vinMax : Nat
  v5Min : Nat
  v5Max : Nat
  tj : Int
  tjMax : Int
  tjWarn : Bool
deriving DecidableEq, Repr

/-- The test access port (R600 to R602). -/
structure TapBlock where
  ir : BitVec 8
  dr : BitVec 192
  bsr : BitVec 139
  resetLow : Bool
  challenge : Option (Bytes × Nat)
  /-- The token under check, with the monotonic time of its Update-DR. -/
  token : Option (Bytes × Nat)
  failures : Nat
  blocked : Bool
  invalid : Bool
  isOpen : Bool
  challengeNo : Nat
deriving DecidableEq, Repr

end Sys2Proof.Machine
end

