-- ==== Sys2Proof/Machine/State.lean ====
section
/-! DEFINITION. The machine state as plain data, how a step can stop, and the state after reset. Each field is a block of
one chapter; the values in force and the counters stand in tables keyed by object. -/

namespace Sys2Proof.Machine

/-- How the block can stop with a fault. The manual names no condition in which the device stops taking commands; the one
constructor is here because the type is asked for, and no meaning raises it (safe). -/
inductive Fault where
  /-- Raised by nothing; safe. -/
  | none
deriving DecidableEq, Repr

/-- Why a command has no meaning here. -/
inductive Refusal where
  /-- The command's row of the table has no meaning yet; raised by exec's arm; safe. -/
  | notModelled (mnemonic : String)
  /-- A Vendor session touched an object in 5F00h to 5FFFh, which the manual leaves undocumented (R36); raised by the object
  access commands; safe. -/
  | undocumentedVendorObject (index : BitVec 16)
deriving DecidableEq, Repr

/-- What the device has sent, newest first in State.out (the model's own record of its outputs). -/
inductive Out where
  /-- The answer to an access (R44). -/
  | answer (dest : ReplyTo) (code : Byte) (data : Bytes)
  /-- A MOS message: its 16-byte header and its data (R53, R54). -/
  | mos (slot : Nat) (message : Bytes)
  /-- A DTLS handshake aborted, or a session closed by the device. -/
  | dtlsEnd (slot : Nat)
  /-- A frame sent to its end on a port; true when its FCS is the complement. -/
  | frame (port : Nat) (data : Bytes) (mark : Bool)
  /-- A verify (0) or respond (1) mPacket (R176). -/
  | mpacket (port : Nat) (kind : Nat)
  | can (cn : Nat) (f : CanFrame)
  | serial (sp : Nat) (data : Bytes)
  | mvb (sp : Nat) (data : Bytes)
  /-- A message of the device itself, with its port and kind: 3 PTP on Layer 2, 4 the sleep ballot, 5 the Pair, 6 PTP on UDP
  over IPv4. -/
  | own (port : Nat) (kind : Nat) (data : Bytes)
  /-- A frame that the Zone Gate or Lookup hands to a processor. -/
  | deliver (port : Nat) (data : Bytes)
  /-- A pulse or level on a pin: 0 to 3 for TPO0 to TPO3, 4 to 9 for SP0_DE to SP5_DE. -/
  | pin (name : Nat) (level : Bool)
  /-- A trigger started its target (R250). -/
  | trigger (target : Nat)
  /-- A wake signal on a bus or port (R390, R400). -/
  | wake (port : Nat)
  /-- A far access of the bridge: target and request. -/
  | far (tag : Nat) (target : Nat) (request : Bytes)
  /-- The completion of a held read in BAR4. -/
  | bridge (data : Bytes)
  /-- An audio block's output: output and sample block. -/
  | audio (output : Nat) (samples : List Int)
  /-- The Pool Manager's answer to a request: owner and handle, none for a failure (R487). -/
  | pool (owner : Nat) (handle : Option (BitVec 32))
  /-- An MSI-X message (R554). -/
  | msix (vector : Nat)
  /-- Bytes written to the host buffer of a posted RX descriptor, by ring and descriptor (R553). -/
  | hostBuffer (ring : Nat) (index : Nat) (data : Bytes)
  /-- A fragment of a preempted frame, with its mCRC or, the last one, the frame's FCS (R177). -/
  | fragment (port : Nat) (data : Bytes)
  /-- Bytes written to host memory (R553). -/
  | dma (address : Nat) (data : Bytes)
  /-- The value a register read returns (R547, R551). -/
  | register (value : BitVec 32)
  | spi (data : Bytes)
  | tdo (bits : BitVec 192)
  | debug (value : BitVec 32)
  /-- An output write of the Guard Processor, released to its target (R423). -/
  | guard (address data : BitVec 32) (enables : BitVec 4)
  /-- A line of the start log on DTX (R603): the phase completed and the cause code. -/
  | console (phase : Nat) (cause : BitVec 16)
deriving DecidableEq, Repr

/-- The machine. -/
structure State where
  op : OpBlock
  /-- Values in force of rw and rwc objects by object key (index × 256 + subindex); an absent key holds its default. -/
  cfg : Tbl Bytes
  /-- Counters by object key × 65,536 + selector; an absent key holds 0. -/
  cnt : Tbl Nat
  /-- Status values that the device stores for a later read, by object key × 65,536 + selector; absent: the default. -/
  store : Tbl Bytes
  sessions : Vector Session 18
  cs : CsBlock
  ev : EventBlock
  time : TimeBlock
  can : Vector CanPort 8
  serial : Vector SerialPort 6
  mvb : Vector MvbSeg 2
  jour : JournalBlock
  wear : WearBlock
  fab : FabricBlock
  look : LookupBlock
  zone : ZoneBlock
  gw : GatewayBlock
  br : BridgeBlock
  aud : AudioBlock
  pos : PositionBlock
  pow : PowerBlock
  slp : SleepBlock
  gp : GpBlock
  pair : PairBlock
  dram : DramBlock
  pool : PoolBlock
  cvu : Vector Cvu 4
  upd : UpdateBlock
  host : HostBlock
  spi : SpiBlock
  pins : PinBlock
  tap : TapBlock
  /-- The model's own: what has been sent, newest first. -/
  out : List Out
  /-- The model's own: free values drawn so far. -/
  drawn : Nat
  /-- The commands that wait, first in, first out. -/
  pending : List Instr
deriving DecidableEq, Repr

/-- The operating state right after a power-on reset release (R24, R28, R33, R34). -/
def OpBlock.reset : OpBlock :=
  { state := .start, previous := 0, cause := 1, enteredAt := 0, straps := 0, phase := 1, warm := false,
    recoveryAsked := false, trainFails := 0, target := none, frozen := false, afterRecovery := false, safeTimes := [],
    autoRestart := false, watchdogLatched := false, startedAt := 0, startDuration := 0 }

/-- A session that is not open. -/
def Session.closed : Session :=
  { isOpen := false, role := 0, vendor := false, own := [], lostFlag := false, inclLost := false, logLost := false, misuseLost := false,
    subscription := none, kept := [], outstanding := [], snapshots := [], dom := [], challenge := none, sdo := .idle, sdoOut := [] }

/-- The SPI session is always open (R47), with the default of 2110h.03; the next Inclusion is number 1 (R519). -/
def sessionsReset : Vector Session 18 :=
  (Vector.replicate 18 Session.closed).set 16 { Session.closed with isOpen := true, role := 2, own := [(0x262001, 1)] }

def CsBlock.reset : CsBlock :=
  { pending := none, validating := none, armed := none, gen := 0, committed := 0, appliedAt := 0, lastResult := 0,
    failing := 0, reason := 0, dueInPause := none, uncommitted := [] }

def EventBlock.reset : EventBlock :=
  { ring := [], next := 0, lostSince := 0, limits := [], emcy := Vector.replicate 8 [], inhibit := Vector.replicate 8 false,
    errSeen := false }

def PtpInst.reset : PtpInst :=
  { heard := [], offset := 0, delay := 0, asked := [], syncDiff := none, state := 0, sequence := 0 }

def TimeBlock.reset : TimeBlock :=
  { t32 := 0, acc := 0, inc := 0x0400000000, tx := 0, mono := 0, timescale := 0, sync := 0, anchor := none,
    prevAnchor := none, anchorSeq := 0, source := none, offset := 0, lockedOnce := false, goodRun := 0, badRun := 0,
    lastLockedInc := 0x0400000000, stepInstant := 0, lastStep := 0, holdoverSince := none, entered := 0,
    inst := Vector.replicate 4 PtpInst.reset,
    triggers := Vector.replicate 16 none,
    tpo := Vector.replicate 4 { level := false, next := none, given := 0, ended := false, passed := 0 }, lowPeriod := false,
    tpi := Vector.replicate 2 { fifo := [], count := 0 } }

def CanPort.reset : CanPort :=
  { ctl := .off, txErr := 0, rxErr := 0, fifo0 := [], fifo1 := [], queue := [], slotsWaiting := [], slotsPaused := true,
    entered := 0, recoveries := [], commanded := false, reconfigure := false, oldCfg := [], stoppedAt := 0, since := 0 }

def SerialPort.reset : SerialPort :=
  { buffer := [], msg := [], template := none, bad := false, ready := [], txQueue := [], client := none,
    clientQueue := [], clientSent := false, lastRx := none, busyUntil := 0, de := false }

def MvbSeg.reset : MvbSeg :=
  { values := [], updated := [], stale := [], written := [], lineB := false, rxMsgs := [], txMsgs := [] }

def JournalBlock.reset : JournalBlock :=
  { recs := [], waiting := [], seq := 0, blocks := List.range' 384 96, inUse := 1, fill := 16, state := 0,
    checkpointSize := 0, checkpointAt := 0, freeing := 0 }

def WearBlock.reset : WearBlock :=
  { erases := [], retired := [], spares := [], bankWaiting := [], inclusions := [], inclusionNo := 0, sinceStart := 0,
    held := [], heldLost := false, lowLatched := Vector.replicate 3 false, spentLatched := Vector.replicate 3 false,
    report := 0, reportAt := 0, uncertainty := 0xFFFFFFFF, hours := 0 }

def Column.reset (gated : Bool) : Column :=
  { banks := (Vector.replicate 17 BankState.service).set 16 .spare, symbols := Vector.replicate 17 0,
    inUse := 0, minimum := Vector.replicate 14 128, minUsed := Vector.replicate 14 0,
    poolUsed := Vector.replicate 14 0, reserveUsed := Vector.replicate 14 0, highWater := Vector.replicate 14 0,
    pool := 6144, reserve := 256, since := 0, gated := gated, failed := false, degraded := false, testPos := 0,
    draining := [] }

def PortEgress.reset : PortEgress :=
  { ptr := 0, deficit := Vector.replicate 8 0, topped := Vector.replicate 8 false, credit := Vector.replicate 8 0,
    creditAt := Vector.replicate 8 0, sending := none, preempted := none, oper := none, operImage := [], pending := none, c := 0,
    hold := false, preemption := 0, attempts := 0 }

def FabricBlock.reset : FabricBlock :=
  { links := Vector.replicate 43 { link := 4, rate := 0, changedAt := 0, receiving := none, suspended := none },
    staging := Vector.replicate 38 none, columns := Vector.ofFn (fun (j : Fin 14) => Column.reset (decide (j.val < 12))), frames := [], nextId := 0,
    queues := Vector.replicate 320 [], egress := Vector.replicate 43 PortEgress.reset,
    lag := Vector.replicate 8 (List.replicate 64 0xFF) }

def LookupBlock.reset : LookupBlock :=
  { trapLevel := Vector.replicate 2 (65536 * 65536), trapLast := Vector.replicate 2 0, fwd := [], meters := [], gates := [],
    generators := [], recoveries := [], prpSeq := Vector.replicate 3 0, prpKeys := [] }

def ZoneBlock.reset : ZoneBlock :=
  { flows := [], fragments := [], hold := Vector.replicate 4 [], laneFree := Vector.replicate 4 0, queue := [], lastPair := 255, credit := 0, verdicts := [],
    generation := 0, fateUsed := false, lastSwap := 0, revoked := 0, marked := 0,
    sweep := none, sweepFrom := 0, log := [], logNext := 0, logSecond := 0, logCount := 0, logSuppressed := 0 }

def GatewayBlock.reset : GatewayBlock := { fifo := [], internal := [], held := [], seqs := [], modbus := [], base := 0, next := [], pollNext := [] }

def BridgeBlock.reset : BridgeBlock :=
  { txs := [], seq := 0, cache := [], lock := .none, polls := [], lateFaults := [], stranded := [], lateLost := false,
    strandedLost := false, lastSeq := 0, lastResult := 0 }

def AudioBlock.reset : AudioBlock :=
  { inputs := Vector.replicate 64 { active := false, since := 0, lastActive := none, level := -32768, priority := 0, samples := [] },
    grants := Vector.replicate 64 0xFF, ambient := Vector.replicate 64 0,
    noise := Vector.replicate 64 none, mix := Vector.replicate 64 [], mixAt := Vector.replicate 64 0,
    current := Vector.replicate 64 0xFF, given := Vector.replicate 64 [], sent := Vector.replicate 32 0,
    streams := Vector.replicate 32 { state := 0, frames := [], last := [], mark := none, lastAt := 0, concealed := 0 },
    players := Vector.replicate 8 none, calls := [], callQueue := [], mailbox := [], callOrder := 0, emergency := false, blocks := 0, statusSeqs := [],
    grid := none }

def PositionBlock.reset : PositionBlock :=
  { d32 := 0, acc := 0, direction := 0,
    channels := Vector.replicate 2 { aLevel := false, bLevel := false, dist := 0, silent := 0, speed := 0, lastEdge := none },
    check := 0, agree := 0, drive := 0, zeroSpeeds := [], d64 := 0, lastD32 := 0, saved := none, lastStep := 0,
    events := Vector.replicate 64 { target := 0, state := 0, firedAt := 0 }, doors := 0 }

def PowerBlock.reset : PowerBlock :=
  { sequences := [], charge := 0, confidence := 0, reserve := false, lastShunt := none, current := 0, voltage := none,
    stages := 0, voltageStages := 0 }

def SleepBlock.reset : SleepBlock :=
  { sources := Vector.replicate 20 { times := [], quarantined := false, active := false },
    cause := { source := 0xFF, at_ := 0, latched := false, ballot := 0, seen := 0, slept := 0, state := 0 }, latched := false,
    entering := false, sleptFrom := 0, keepAwake := false, wakeHold := false,
    ballot := { state := 0, number := 0, proposer := 0, kind := 0, commitAt := 0, window := 0, votes := [], resend := false, copies := [] },
    ballotNo := 0, phyWait := [], segments := Vector.replicate 38 { state := 0, lease := 0 } }

def GpFault.none : GpFault :=
  { cause := 0, tx := 0, stamp := 0, task := 0xFF, window := 0, sig1 := 0, sig2 := 0, retired := 0, entry := 0xFF }

def GpBlock.reset : GpBlock :=
  { running := false, halted := false, task := none, pass := 0, window := 0, retired := 0, nextPc := 0, opened := 0, ended := false,
    replay := [], later := [], hold := [], again := [], sig1 := 0, haltedAt := 0, waiting := [], sinceFive := 0, testDoneAt := 0, lastTest := 0, part := 0, taskSince := 0,
    starts := Vector.replicate 7 0, longestRun := Vector.replicate 7 0, longestPass := 0, probeBit := 0, lastProbe := 0,
    resignTemplate := [], resignLeft := 0, code := [], region1 := [], region2 := [], regs := [], breakpoints := [], fault := GpFault.none }

def Digest.zero : Digest := { count := 0, sum := 0, xor := 0 }

def PairBlock.reset : PairBlock :=
  { role := .solo, epoch := 0, activeUnit := 0, yielded := false, roleAt := 0, conflict := none, cycleStart := 0, own := Digest.zero, ownDone := [], digests := [],
    heard := false, failed := 0, capsules := [], lastCapsule := none, acceptedAt := none, shownInstant := 0, shownSeq := 0,
    capsuleSeq := 0, noCapsule := false, handover := none, deferred := none, claim := none, takeoverAt := none, standbySince := none,
    healthAt := none, peerAt := none, peerRole := 0, peerLost := false, peerHealth := 0, peerMargin := 0, copies := [] }

def DramBlock.reset : DramBlock :=
  { touched := [], counts := [], remap := [], spares := List.range' 107520 512, waiting := [], retiredTotal := 0,
    position := 0, lastPass := 0 }

def PoolClass.ofCount (n : Nat) : PoolClass := { laid := n, count := n, free := [], fresh := 0, tags := [] }

/-- The Pool Manager after reset, with the default counts of R483. -/
def PoolBlock.reset : PoolBlock :=
  { classes := #v[PoolClass.ofCount 65536, PoolClass.ofCount 32768, PoolClass.ofCount 32768, PoolClass.ofCount 8192,
      PoolClass.ofCount 512, PoolClass.ofCount 48],
    cuts := [], misuse := [], misuseNext := 0 }

def Cvu.reset : Cvu :=
  { cfg := 0, poly := 0, init := 0, xor := 0, value := 0, cfgError := false, ignored := 0, claim := 0 }

def ImageBank.absent : ImageBank := { state := .empty, parts := [], actNo := 0 }

def UpdateBlock.reset : UpdateBlock :=
  { banks := (Vector.replicate 2 ImageBank.absent).set 0 { ImageBank.absent with state := .active, actNo := 1 },
    running := 0, target := 1, erasing := none, activating := 0, phase := 0, newBank := 0, oldBank := 0, fellBack := false,
    activator := .nobody, lastResult := 0, failReason := 0, lastCommand := 0, fuses := 0, lockFuse := false, normalSince := none,
    pauseStart := 0, lastPause := 0 }

def HostBlock.reset : HostBlock :=
  { ctl := 0, sts := 0, ien := 0, mailbox := List.replicate 16 0, window := List.replicate 1200 0, answer := List.replicate 16 0, busy := false, result := none,
    pres := 0, phdl := 0, pgto := 0, pfst := 0, pasel := 0, paoff := 0, buffers := [],
    rings := Vector.replicate 16 { basl := 0, bash := 0, size := 0, ctl := 0, head := 0, tail := 0, sts := 0, unsignalled := 0, since := 0 },
    lastTx := 7, link := 0, rate := 0, seen := 0, d3hot := false, busMaster := false, pendingMsix := [] }

def SpiBlock.reset : SpiBlock := { request := none, result := none, answer := none, crcError := false, refused := false, crcTimes := [] }

def PinBlock.reset : PinBlock :=
  { rstoutN := true, inh := true, lso := 0, phyReset := 0, stb := 0xFF, porArmed := false,
    porCount := 0, vin := 0, v5in := 0, vinMin := 0xFFFF, vinMax := 0, v5Min := 0xFFFF, v5Max := 0, tj := 0, tjMax := -32768,
    tjWarn := false }

def TapBlock.reset : TapBlock :=
  { ir := 0x02, dr := 0, bsr := 0, resetLow := false, challenge := none, token := none, failures := 0, blocked := false,
    invalid := false, isOpen := false, challengeNo := 0 }

/-- The machine right after a power-on reset release: state Start, phase 1 (R24, R527, R528), every table at its default,
nothing waiting. -/
def State.reset : State :=
  { op := OpBlock.reset, cfg := [], cnt := [], store := [], sessions := sessionsReset, cs := CsBlock.reset,
    ev := EventBlock.reset, time := TimeBlock.reset, can := Vector.replicate 8 CanPort.reset,
    serial := Vector.replicate 6 SerialPort.reset, mvb := Vector.replicate 2 MvbSeg.reset, jour := JournalBlock.reset,
    wear := WearBlock.reset, fab := FabricBlock.reset, look := LookupBlock.reset, zone := ZoneBlock.reset,
    gw := GatewayBlock.reset, br := BridgeBlock.reset, aud := AudioBlock.reset, pos := PositionBlock.reset,
    pow := PowerBlock.reset, slp := SleepBlock.reset, gp := GpBlock.reset, pair := PairBlock.reset,
    dram := DramBlock.reset, pool := PoolBlock.reset, cvu := Vector.replicate 4 Cvu.reset, upd := UpdateBlock.reset,
    host := HostBlock.reset, spi := SpiBlock.reset, pins := PinBlock.reset, tap := TapBlock.reset, out := [], drawn := 0,
    pending := [] }

end Sys2Proof.Machine
end

