-- ==== Sys2Proof/Machine/Operands.lean ====
section
/-! DEFINITION. Reading and building byte strings (R6, R38), sparse tables, fixed tables, and the values of objects: how
an operand of any command is taken apart and how a value in force is found. -/

namespace Sys2Proof.Machine

/-- Byte i of a string; 0 beyond its end. -/
def byteAt (b : Bytes) (i : Nat) : Nat :=
  match b[i]? with
  | some x => x.toNat
  | none => 0

/-- n bytes from an offset, fewer where the string ends. -/
def slice (b : Bytes) (off n : Nat) : Bytes := (b.drop off).take n

/-- The value of a byte string, most significant byte first (R6). -/
def beNat (b : Bytes) : Nat := b.foldl (fun acc x => acc * 256 + x.toNat) 0

/-- The big-endian field of n bytes at an offset. -/
def beAt (b : Bytes) (off n : Nat) : Nat := beNat (slice b off n)

/-- n bytes of a number, most significant byte first; higher bits are dropped. -/
def be (n v : Nat) : Bytes :=
  match n with
  | 0 => []
  | k + 1 => be k (v / 256) ++ [BitVec.ofNat 8 v]

/-- n bytes of a number, least significant byte first. -/
def le (n v : Nat) : Bytes :=
  match n with
  | 0 => []
  | k + 1 => BitVec.ofNat 8 v :: le k (v / 256)

/-- The value of a byte string, least significant byte first. -/
def leNat (b : Bytes) : Nat :=
  match b with
  | [] => 0
  | x :: r => x.toNat + 256 * leNat r

/-- Two's complement in n bytes. -/
def beInt (n : Nat) (v : Int) : Bytes := be n (v % (256 ^ n : Nat)).toNat

/-- A number read as two's complement of n bytes. -/
def signed (n v : Nat) : Int := if v < 256 ^ n / 2 then (v : Int) else (v : Int) - (256 ^ n : Nat)

def zeros (n : Nat) : Bytes := List.replicate n 0

/-- A string cut or padded with zero bytes to n. -/
def padTo (n : Nat) (b : Bytes) : Bytes := b.take n ++ zeros (n - b.length)

/-- Bit i of a number. -/
def bitOf (v i : Nat) : Bool := decide (v / 2 ^ i % 2 = 1)

/-- Bits hi down to lo of a number. -/
def bitsOf (v hi lo : Nat) : Nat := v / 2 ^ lo % 2 ^ (hi + 1 - lo)

def boolNat (b : Bool) : Nat := if b then 1 else 0

/-- The text of a string as bytes. -/
def strBytes (s : String) : Bytes := s.toUTF8.toList.map (fun b => BitVec.ofNat 8 b.toNat)

/-- The entry of a sparse table. -/
def tget {α : Type} (t : Tbl α) (k : Nat) : Option α :=
  match t with
  | [] => none
  | (j, v) :: r => if j = k then some v else if k < j then none else tget r k

/-- The table with an entry written; keys stay strictly rising. -/
def tput {α : Type} (t : Tbl α) (k : Nat) (v : α) : Tbl α :=
  match t with
  | [] => [(k, v)]
  | (j, w) :: r => if k < j then (k, v) :: (j, w) :: r else if j = k then (k, v) :: r else (j, w) :: tput r k v

/-- The table without an entry. -/
def tdel {α : Type} (t : Tbl α) (k : Nat) : Tbl α :=
  match t with
  | [] => []
  | (j, w) :: r => if j = k then r else if k < j then (j, w) :: r else (j, w) :: tdel r k

/-- A counter table's number; an absent key holds 0. -/
def tnat (t : Tbl Nat) (k : Nat) : Nat := (tget t k).getD 0

/-- One more in a counter table. -/
def tinc (t : Tbl Nat) (k n : Nat) : Tbl Nat := tput t k (tnat t k + n)

/-- Keys strictly rising: the canonical form of a sparse table. -/
def sortedKeys {α : Type} (t : Tbl α) : Bool :=
  match t with
  | [] => true
  | [_] => true
  | (j, _) :: (k, w) :: r => decide (j < k) && sortedKeys ((k, w) :: r)

/-- A fixed table with one entry changed; an index beyond its end changes nothing. -/
def vmod {α : Type} {n : Nat} (v : Vector α n) (i : Nat) (f : α → α) : Vector α n :=
  match v[i]? with
  | some x => v.setIfInBounds i (f x)
  | none => v

/-- The key of an object in the tables: index × 256 + subindex. -/
def okey (idx sub : Nat) : Nat := idx * 256 + sub

/-- The key of a counter of an object that stands once per selected thing. -/
def ckey (idx sub sel : Nat) : Nat := okey idx sub * 65536 + sel

/-- The size of a type, none for STR and DOM (R38). -/
def ObjType.size? : ObjType → Option Nat
  | .bool | .u8 => some 1
  | .u16 | .i16 => some 2
  | .u32 | .i32 | .t32 | .d32 | .s32 => some 4
  | .u64 | .i64 | .w64 => some 8
  | .tx => some 10
  | .str | .dom => none
  | .oct n => some n

/-- Is the type signed? -/
def ObjType.isSigned : ObjType → Bool
  | .i16 | .i32 | .i64 => true
  | _ => false

/-- The bytes of a default. -/
def ObjRow.defaultBytes (x : ObjRow) : Bytes :=
  match x.dflt with
  | .num v =>
    match x.ty.size? with
    | some n => beInt n v
    | none => []
  | .fill n b => List.replicate n b
  | .raw b => b

/-- The object is a DOM value, which travels in segments (R56). -/
def isDomObject (idx sub : Nat) : Bool := match objRow? idx sub with | some x => x.ty == .dom | none => false

/-- Does the object live in the journal (R41)? -/
def isPersistent (key : Nat) : Bool :=
  match objRow? (key / 256) (key % 256) with
  | some x => x.pers == .p
  | none => false

/-- The object is an S32 counter (R10). -/
def isS32 (key : Nat) : Bool :=
  match objRow? (key / 256) (key % 256) with
  | some x => x.ty == .s32
  | none => false

/-- The default of an object. -/
def defaultOf (idx sub : Nat) : Bytes :=
  match objRow? idx sub with
  | some x => x.defaultBytes
  | none => []

/-- The value of a configuration object in a table of values. -/
def cfgBytes (t : Tbl Bytes) (idx sub : Nat) : Bytes := (tget t (okey idx sub)).getD (defaultOf idx sub)

/-- The same as an unsigned number. -/
def cfgNat (t : Tbl Bytes) (idx sub : Nat) : Nat := beNat (cfgBytes t idx sub)

/-- The same as a signed number of its own width. -/
def cfgInt (t : Tbl Bytes) (idx sub : Nat) : Int :=
  let b := cfgBytes t idx sub
  signed b.length (beNat b)

/-- A value written in canonical form: a default is not listed. -/
def cfgPut (t : Tbl Bytes) (idx sub : Nat) (v : Bytes) : Tbl Bytes :=
  if v = defaultOf idx sub then tdel t (okey idx sub) else tput t (okey idx sub) v

/-- The value in force, as a number. -/
def State.val (s : State) (idx sub : Nat) : Nat := cfgNat s.cfg idx sub

/-- The value in force, as a signed number. -/
def State.ival (s : State) (idx sub : Nat) : Int := cfgInt s.cfg idx sub

/-- The value in force is not 0. -/
def State.on (s : State) (idx sub : Nat) : Bool := decide (s.val idx sub ≠ 0)

/-- CRC-32/ISO-HDLC, one byte. -/
def crc32Byte (c : BitVec 32) (b : BitVec 8) : BitVec 32 :=
  let rec go (n : Nat) (x : BitVec 32) : BitVec 32 :=
    match n with
    | 0 => x
    | k + 1 => go k (if x.getLsbD 0 then (x >>> 1) ^^^ 0xEDB88320#32 else x >>> 1)
  go 8 (c ^^^ b.setWidth 32)

/-- CRC-32/ISO-HDLC of a byte string. -/
def crc32 (b : Bytes) : BitVec 32 := ~~~ (b.foldl crc32Byte 0xFFFFFFFF#32)

/-- Time on T32: d = (t − n) mod 2³² is 0 or beyond the half-range (R9). -/
def dueT32 (t n : BitVec 32) : Bool :=
  let d := (t - n).toNat
  decide (d = 0) || decide (d > 2147483648)

/-- Strictly past under R9. -/
def pastT32 (t n : BitVec 32) : Bool := decide ((t - n).toNat > 2147483648)

end Sys2Proof.Machine
end

