-- ==== Sys2Proof/Machine/Flags.lean ====
section
/-! DEFINITION. The flags that are computed from the state: the error register 1001h (R46) and the planes (R448). -/

namespace Sys2Proof.Machine

/-- A plane (1 A, 2 B): 0 no ports, 1 up, 2 down (R448, 2A01h.07–08). -/
def planeState (s : State) (plane : Nat) : Nat :=
  let ports := (List.range 6).filter (fun p => s.val 0x2A01 (p + 1) == plane)
  if ports.isEmpty then 0
  else if ports.any (fun p => match s.fab.links[p]? with | some l => l.link == 1 | none => false) then 1 else 2

/-- A plane is down while the Pair is enabled (R448). -/
def planeDown (s : State) : Bool :=
  s.on 0x2A00 1 && (planeState s 1 != 1 || planeState s 2 != 1)

/-- A configuration mismatch of Pair frames lasts (R450): 10 s after its last frame. -/
def pairMismatch (s : State) : Bool :=
  match tget s.ev.limits 0x2A060001 with
  | some t => decide (s.time.mono < t + 10000000000)
  | none => false

/-- Some CAN port is bus-off (R275). -/
def anyBusOff (s : State) : Bool :=
  s.can.toList.any (fun c => match c.ctl with | .busOff | .recovering | .heldOff => true | _ => false)

/-- The communication condition, bit 4 (R46, R275, R448, R450, R457, R465). -/
def commCondition (s : State) : Bool :=
  anyBusOff s || planeDown s || pairMismatch s || s.pair.noCapsule || s.pair.peerLost

/-- 1001h (R46). -/
def errorRegister (s : State) : Nat :=
  let manu := decide (0 < s.wear.sinceStart)
  let prof := decide (s.op.state = .safe)
  let comm := commCondition s
  let temp := s.pins.tjWarn
  let volt := s.pow.reserve
  let curr := decide (0 < s.pow.stages)
  let any := manu || prof || comm || temp || volt || curr
  boolNat manu * 128 + boolNat prof * 32 + boolNat comm * 16 + boolNat temp * 8 + boolNat volt * 4 + boolNat curr * 2 +
    boolNat any

/-- ALERT_N is low (R556): a masked bit of 1001h, Recovery, or a boot ROM that has stopped in phase 1. -/
def alertLow (s : State) : Bool :=
  decide (errorRegister s &&& s.val 0x2800 3 ≠ 0) || decide (s.op.state = .recovery) || (decide (s.op.state = .start) && decide (s.op.phase = 0))

/-- A session's read position is below the next sequence number (R549, R560). -/
def eventPending (s : State) (ses : Nat) : Bool :=
  match s.sessions[ses]? with
  | some x => x.isOpen && (tget x.own (okey 0x2301 1)).getD 0 != s.ev.next.toNat
  | none => false

/-- HSTS bits 1 to 4, which follow their conditions (R549). -/
def hostConditions (s : State) : Nat :=
  2 * boolNat s.host.busy + 4 * boolNat (eventPending s 17) + 8 * boolNat (alertLow s) + 16 * boolNat (decide (s.upd.activating = 2))

end Sys2Proof.Machine
end

