-- ==== Sys2Proof/Machine/ReedSolomon.lean ====
section
/-! DEFINITION. The Reed–Solomon code of the column memories and of the DRAM (R80, R476): symbols are bytes, elements of GF(2⁸)
with α = 0x02; four check symbols follow the data. The first byte of a word is its highest coefficient (DEDUCED, log entry 181). -/

namespace Sys2Proof.Machine

/-- A symbol times α; the field polynomial is x⁸ + x⁴ + x³ + x² + 1 (R80). -/
def gfDouble (a : Byte) : Byte := if a.getLsbD 7 then (a <<< 1) ^^^ 0x1D#8 else a <<< 1

/-- The product of two symbols. -/
def gfMul (a b : Byte) : Byte :=
  ((List.range 8).foldl (fun (acc : Byte × Byte) i => (if b.getLsbD i then acc.1 ^^^ acc.2 else acc.1, gfDouble acc.2)) (0, a)).1

/-- α to a power. -/
def gfExp (n : Nat) : Byte := (List.range n).foldl (fun a _ => gfDouble a) 1

/-- The inverse of a symbol: its power 254; of 0 it is 0. -/
def gfInv (a : Byte) : Byte := (List.range 253).foldl (fun x _ => gfMul x a) a

/-- A polynomial times (x + r), coefficients highest first. -/
def polyTimesRoot (p : Bytes) (r : Byte) : Bytes := List.zipWith (· ^^^ ·) (p ++ [0]) (0 :: p.map (gfMul r))

/-- The generator polynomial: the product of x − αⁱ for i = 0 to 3 (R80). -/
def rsGenerator : Bytes := [gfExp 0, gfExp 1, gfExp 2, gfExp 3].foldl polyTimesRoot [1]

/-- The four check symbols of a data string: the remainder of data · x⁴ by the generator (R80). -/
def rsCheck (d : Bytes) : Bytes :=
  d.foldl (fun r b =>
    let q := b ^^^ r.headD 0
    List.zipWith (· ^^^ ·) (r.drop 1 ++ [0]) ((rsGenerator.drop 1).map (gfMul q))) [0, 0, 0, 0]

/-- A word as it is stored: the data, then the check symbols. -/
def rsWord (d : Bytes) : Bytes := d ++ rsCheck d

/-- A stored word as a read returns it. -/
def disturb {n : Nat} (w : Bytes) (e : SymbolErrors n) : Bytes :=
  e.foldl (fun v x => v.modify x.1.val (· ^^^ x.2)) w

/-- Syndrome j: the value of the word's polynomial at αʲ. -/
def syndrome (w : Bytes) (j : Nat) : Byte := w.foldl (fun a b => gfMul a (gfExp j) ^^^ b) 0

/-- What the decoder says of a word (R80). -/
inductive Decoded where
  /-- The word, and how many symbols were corrected: 0, 1 or 2. -/
  | word (w : Bytes) (corrected : Nat)
  /-- No pattern of two or fewer symbol errors explains the syndromes. -/
  | uncorrectable
deriving DecidableEq, Repr

/-- The locator of a place in a word of n symbols. -/
def locator (n i : Nat) : Byte := gfExp (n - 1 - i)

/-- The decoder (R80): zero syndromes pass the word; one or two symbol errors are located by the error-locator polynomial
and corrected; anything else is uncorrectable. -/
def rsDecode (w : Bytes) : Decoded :=
  let n := w.length
  let s0 := syndrome w 0
  let s1 := syndrome w 1
  let s2 := syndrome w 2
  let s3 := syndrome w 3
  if s0 = 0 ∧ s1 = 0 ∧ s2 = 0 ∧ s3 = 0 then .word w 0
  else
    let det := gfMul s1 s1 ^^^ gfMul s0 s2
    if det = 0 then
      match (List.range n).find? (fun i => let x := locator n i
          s1 == gfMul s0 x && s2 == gfMul s1 x && s3 == gfMul s2 x) with
      | some i => if s0 = 0 then .uncorrectable else .word (w.modify i (· ^^^ s0)) 1
      | none => .uncorrectable
    else
      let d := gfInv det
      let l1 := gfMul d (gfMul s0 s3 ^^^ gfMul s1 s2)
      let l2 := gfMul d (gfMul s1 s3 ^^^ gfMul s2 s2)
      let isRoot := fun (i : Nat) => let x := locator n i
        gfMul x x ^^^ gfMul l1 x ^^^ l2 == 0
      match (List.range n).filter isRoot with
      | [i, k] =>
        let y := gfMul (s1 ^^^ gfMul s0 (locator n k)) (gfInv (locator n i ^^^ locator n k))
        .word ((w.modify i (· ^^^ y)).modify k (· ^^^ (s0 ^^^ y))) 2
      | _ => .uncorrectable

/-- A stored word read through the decoder; a read without an error has zero syndromes. -/
def readWord {n : Nat} (d : Bytes) (e : SymbolErrors n) : Decoded :=
  match e with
  | [] => .word (rsWord d) 0
  | _ => rsDecode (disturb (rsWord d) e)

end Sys2Proof.Machine
end

