-- ==== Sys2Proof/Machine/Ops.lean ====
section
/-! DEFINITION. The named operations that every meaning is built from: outputs, counters (R10), events and EMCY (R70 to
R73), journal records (R511, R512), Inclusions (R509, R510), stored status values and answers (R44, R55). -/

namespace Sys2Proof.Machine

/-- Something leaves the device. -/
def emit (s : State) (o : Out) : State := { s with out := o :: s.out }

/-- A fresh free value of the stated kind. -/
def drawNat (s : State) (kind : Nat) : State × Nat := ({ s with drawn := s.drawn + 1 }, Config.freeNat kind s.drawn)

/-- A fresh random string of n bytes. -/
def drawBytes (s : State) (n : Nat) : State × Bytes :=
  ({ s with drawn := s.drawn + 1 }, padTo n (Config.random s.drawn n))

/-- A code in an event's data whose numbers the manual does not give: one byte, free, for the event's field and the case that the
model numbers (DESIGN CHOICE, log entry 73). -/
def openCode (field which : Nat) : Bytes := be 1 (Config.freeOf 73 [(field : Int), (which : Int)]).toNat

/-- The operating state's code (R22). -/
def OpState.code : OpState → Nat
  | .start => 0
  | .commissioning => 1
  | .normal => 2
  | .test => 3
  | .recovery => 4
  | .lightSleep => 5
  | .deepSleep => 6
  | .safe => 7

/-- T32 now. -/
def State.now (s : State) : T32 := s.time.t32

/-- TX seconds as records carry them: 0 before the first anchor of the current start (R70, R239). -/
def txSecondsOf (s : State) : Nat :=
  match s.time.anchor with
  | some _ => s.time.tx / 1000000000
  | none => 0

/-- TX as a ten-byte value (R38). -/
def txBytes (ns : Nat) : Bytes := be 6 (ns / 1000000000) ++ be 4 (ns % 1000000000)

/-- A status value is stored for a later read. -/
def putStore (s : State) (idx sub sel : Nat) (v : Bytes) : State := { s with store := tput s.store (ckey idx sub sel) v }

/-- The largest value of an S32 counter (R10). -/
def s32Max : Nat := 0xFFFFFFFF

/-- One more on an S32 counter, without its event; it holds at its largest value (R10). -/
def rawBump (s : State) (idx sub sel : Nat) : State :=
  let k := ckey idx sub sel
  if tnat s.cnt k < s32Max then { s with cnt := tinc s.cnt k 1 } else s

/-- A journal record waits to be written (R512); in a failed journal nothing is kept (R515). -/
def jAppend (s : State) (body : JBody) (dest : ReplyTo) : State :=
  if s.jour.state = 2 then s else { s with jour := { s.jour with waiting := s.jour.waiting ++ [(body, dest)] } }

/-- The journal takes Inclusions once replay has ended: phase 6 of a cold start has passed (R510, R528). -/
def journalOpen (s : State) : Bool := !(decide (s.op.state = .start) && decide (s.op.phase ≤ 5))

/-- A counter of persistence P counts into the journal (R41): its new value is appended as an object value, but for a journal that is
not open yet or that a start has left as it was (R528) (DESIGN CHOICE, log entry 19). -/
def keepCount (s : State) (idx sub sel : Nat) : State :=
  if isPersistent (okey idx sub) && journalOpen s && !s.op.frozen then
    jAppend s (.value (okey idx sub) (be 4 (tnat s.cnt (ckey idx sub sel)))) .nobody
  else s

/-- One more on an S32 counter, with its journal record where its persistence is P, without its event. -/
def tally (s : State) (idx sub sel : Nat) : State :=
  if tnat s.cnt (ckey idx sub sel) < s32Max then keepCount (rawBump s idx sub sel) idx sub sel else s

/-- n more on a W64 counter; it wraps (R10). -/
def bumpW (s : State) (idx sub sel n : Nat) : State :=
  let k := ckey idx sub sel
  { s with cnt := tput s.cnt k ((tnat s.cnt k + n) % 2 ^ 64) }

/-- A CAN port carries management: its number has a 2111h entry other than 0xFF (R52). -/
def isMgmtCan (s : State) (cn : Nat) : Bool := decide (s.val 0x2111 (cn + 1) ≠ 0xFF)

/-- The node-ID of every management CAN port. -/
def nodeId (s : State) : Nat := s.val 0x2110 5

/-- The controller of a CAN port runs. -/
def canRunning (c : CanPort) : Bool :=
  match c.ctl with
  | .active | .passive => true
  | _ => false

/-- A CAN port takes messages into its queue: every state but off (R274, R276). -/
def canOn (c : CanPort) : Bool :=
  match c.ctl with
  | .off => false
  | _ => true

/-- A legacy port is shared with the peer (2A02h: CN0 to CN7, then SP0 to SP5). -/
def sharedPort (s : State) (n : Nat) : Bool := s.on 0x2A00 1 && s.on 0x2A02 (n + 1)

/-- The role is Discovering, Syncing or Standby (R451). -/
def pairPassive (s : State) : Bool :=
  match s.pair.role with
  | .discovering | .syncing | .standby => true
  | _ => false

/-- A shared port that only receives, by the role (R454). -/
def pairQuiet (s : State) (n : Nat) : Bool := sharedPort s n && pairPassive s

/-- A classical CAN frame with an 11-bit identifier. -/
def classicFrame (id : Nat) (data : Bytes) : CanFrame :=
  { kind := .classical, ext := false, id := BitVec.ofNat 29 id, brs := false, esi := false, xl := { sdt := 0, vcid := 0, af := 0 },
    data := data }

/-- The Guard Processor takes work: it runs, no debugger has halted it, and no activation pause holds it (R438, R440). -/
def gpWorks (s : State) : Bool := s.gp.running && !s.gp.halted && !(decide (s.upd.activating = 2))

/-- A management frame enters the transmit queue of a running CAN port; a full queue refuses and counts it (R274, R278). -/
def canMgmtSend (s : State) (cn : Nat) (f : CanFrame) : State :=
  match s.can[cn]? with
  | none => s
  | some c =>
    if canOn c && !(pairQuiet s cn) && !(decide (s.upd.activating = 2)) then
      if c.queue.length < 32 then
        { s with can := s.can.setIfInBounds cn { c with
          queue := c.queue ++ [{ frame := f, attempts := 0, mgmt := true, bridge := none, order := c.entered }],
          entered := c.entered + 1 } }
      else rawBump s (0x4420 + cn) 8 0
    else s

/-- The emergency error code of an event (R73). -/
def emcyCode (code : Nat) : Nat :=
  let h := code / 256
  if h = 0x25 then 0x3000
  else if h = 0x26 ∨ h = 0x29 then 0x5000
  else if h = 0x2A ∨ h = 0x44 ∨ h = 0x45 ∨ h = 0x46 then 0x8100
  else 0xFF00

/-- The eight bytes of an EMCY message (R73): the error code most significant byte first (R6), the event code and the stamp low byte
first, as the layout says. -/
def emcyBytes (err reg code : Nat) (stamp : T32) : Bytes :=
  be 2 err ++ [BitVec.ofNat 8 reg] ++ le 2 code ++ le 3 stamp.toNat

/-- An EMCY message on one management CAN port: sent, or held back by the inhibit time, at most 16 (R73). -/
def emcyOn (s : State) (data : Bytes) (cn : Nat) : State :=
  if isMgmtCan s cn then
    match s.ev.inhibit[cn]?, s.ev.emcy[cn]? with
    | some true, some q =>
      { s with ev := { s.ev with emcy := s.ev.emcy.setIfInBounds cn ((q ++ [data]).drop ((q.length + 1) - 16)) } }
    | _, _ =>
      let s1 := canMgmtSend s cn (classicFrame (0x080 + nodeId s) data)
      if s.val 0x2300 4 = 0 then s1 else { s1 with ev := { s1.ev with inhibit := s1.ev.inhibit.setIfInBounds cn true } }
  else s

/-- An EMCY message on every management CAN port (R73). -/
def emcyAll (s : State) (data : Bytes) : State := (List.range 8).foldl (fun t cn => emcyOn t data cn) s

/-- The key of a session's own value of an object. -/
def ownNat (x : Session) (idx sub : Nat) : Nat := (tget x.own (okey idx sub)).getD 0

/-- A record that the ring overwrites is counted for every open session that has not received it (R71). -/
def loseRecord (s : State) (gone : BitVec 32) : State :=
  let hit := fun (x : Session) => x.isOpen && ownNat x 0x2301 1 == gone.toNat
  let n := (s.sessions.toList.filter hit).length
  let s1 := { s with
    sessions := s.sessions.map (fun x => if hit x then
      { x with own := tput x.own (okey 0x2301 1) ((gone.toNat + 1) % 2 ^ 32), lostFlag := true } else x),
    ev := { s.ev with lostSince := s.ev.lostSince + n } }
  (List.range n).foldl (fun t _ => tally t 0x2300 2 0) s1

/-- One record enters the ring, and goes out as EMCY from the configured severity (R70 to R73). -/
def pushRecord (s : State) (code sev src : Nat) (data : Bytes) : State :=
  let rec0 : EventRec :=
    { code := BitVec.ofNat 16 code, severity := BitVec.ofNat 8 sev, stamp := s.now, secs := BitVec.ofNat 16 (txSecondsOf s),
      source := BitVec.ofNat 8 src, inStart := decide (s.op.state = .start), seq := s.ev.next, data := data.take 16 }
  let s1 :=
    match s.ev.ring with
    | [] => { s with ev := { s.ev with ring := [rec0], next := s.ev.next + 1 } }
    | old :: rest =>
      if s.ev.ring.length < 1024 then { s with ev := { s.ev with ring := s.ev.ring ++ [rec0], next := s.ev.next + 1 } }
      else loseRecord { s with ev := { s.ev with ring := rest ++ [rec0], next := s.ev.next + 1 } } old.seq
  if s.val 0x2300 3 ≤ sev then emcyAll s1 (emcyBytes (emcyCode code) (errorRegister s1) code s.now) else s1

/-- Has at least so long passed since the event with this key was last raised? -/
def limitOpen (s : State) (key period : Nat) : Bool :=
  match tget s.ev.limits key with
  | some t => decide (t + period ≤ s.time.mono)
  | none => true

/-- The time of a limited event is noted. -/
def noteLimit (s : State) (key : Nat) : State := { s with ev := { s.ev with limits := tput s.ev.limits key s.time.mono } }

/-- What the counters that an event itself may move call for, 2300h.02 and 4420h.08: their saturation and refusals since the state
before are reported (R10, R71, R274). -/
def afterRound (before s : State) : State :=
  let sat := fun (t : State) (k idx sub : Nat) =>
    if tnat before.cnt k < s32Max ∧ tnat s.cnt k = s32Max then pushRecord t 0x2302 2 0xFF (be 2 idx ++ be 1 sub) else t
  let s1 := sat s (ckey 0x2300 2 0) 0x2300 2
  let s2 := (List.range 8).foldl (fun t cn => sat t (ckey (0x4420 + cn) 8 0) (0x4420 + cn) 8) s1
  let s3 := (List.range 8).foldl (fun t cn =>
    if tnat before.cnt (ckey (0x4420 + cn) 8 0) < tnat s.cnt (ckey (0x4420 + cn) 8 0) ∧ limitOpen t (0x44060000 + cn) 1000000000 then
      noteLimit (pushRecord t 0x4406 2 0xFF (be 1 cn)) (0x44060000 + cn) else t) s2
  if before.ev.lostSince < s3.ev.lostSince ∧ limitOpen s3 0x23010000 1000000000 then
    noteLimit (pushRecord { s3 with ev := { s3.ev with lostSince := 0 } } 0x2301 2 0xFF (be 4 s3.ev.lostSince)) 0x23010000
  else s3

/-- Rounds until one raises nothing: a record raised for a count may move the counters again. -/
def afterRounds (fuel : Nat) (before s : State) : State :=
  match fuel with
  | 0 => s
  | k + 1 =>
    let t := afterRound before s
    if t.ev.next = s.ev.next then t else afterRounds k s t

/-- The counters that an event itself may move, once its record stands (R10, R71, R274). Each of the nine saturates once, and each
of the nine limited events is raised once at one moment, so that twenty rounds are enough. -/
def afterRecord (before s : State) : State := afterRounds 20 before s

/-- Vector 0 leaves where an enabled condition bit of HSTS has become 1 since it was last judged (R549, R554, DEDUCED, log entry 9). -/
def hostEdges (s : State) : State :=
  let now := hostConditions s
  let fresh := (List.range 5).any (fun b => bitOf now b && !(bitOf s.host.seen b) && s.host.ien.getLsbD b)
  let s1 := { s with host := { s.host with seen := now } }
  if fresh && s.host.ctl.getLsbD 2 && s.host.link != 0 then emit s1 (.msix 0) else s1

/-- What a management frame has counted is reported: 2302h and 4406h (R10, R274). -/
def settle (before s : State) : State := if s.cnt = before.cnt then s else hostEdges (afterRecord before s)

/-- A management frame of the device itself outside an event (R45, R73): sent, or refused and reported. -/
def canMgmt (s : State) (cn : Nat) (f : CanFrame) : State := settle s (canMgmtSend s cn f)

/-- The clearing of the last condition sends error code 0x0000 (R73): the last one that stood before, or when this was last judged. -/
def emcyCleared (before after : State) : State :=
  let now := errorRegister after
  if (after.ev.errSeen ∨ errorRegister before ≠ 0) ∧ now = 0 then
    let t := { after with ev := { after.ev with errSeen := false } }
    settle t (emcyAll t (emcyBytes 0 0 0 t.now))
  else if after.ev.errSeen = decide (now ≠ 0) then after
  else { after with ev := { after.ev with errSeen := decide (now ≠ 0) } }

/-- An event is raised (R70 to R73): code, severity, source port or 0xFF, data. -/
def raise (s : State) (code sev src : Nat) (data : Bytes) : State := hostEdges (afterRecord s (pushRecord s code sev src data))

/-- An event that is raised at most once in a period, by its code and a selector. -/
def raiseLimited (s : State) (sel period code sev src : Nat) (data : Bytes) : State :=
  let key := code * 65536 + sel
  if limitOpen s key period then noteLimit (raise s code sev src data) key else s

/-- One more on an S32 counter; the count that brings it to its largest value raises 2302h once (R10, R11). The object
carries its own index, the selector the thing it counts for. -/
def bumpAt (s : State) (idx sub sel shown : Nat) : State :=
  let k := ckey idx sub sel
  let s1 := tally s idx sub sel
  if tnat s.cnt k < s32Max ∧ tnat s1.cnt k = s32Max then raise s1 0x2302 2 0xFF (be 2 shown ++ be 1 sub) else s1

/-- One more on an S32 counter that stands once. -/
def bump (s : State) (idx sub : Nat) : State := bumpAt s idx sub 0 idx

/-- One more on an S32 counter of a group that stands at base plus number. -/
def bumpN (s : State) (base n sub : Nat) : State := bumpAt s (base + n) sub 0 (base + n)

/-- n more on a W64 counter of a group at base plus number. -/
def wideN (s : State) (base n sub amount : Nat) : State := bumpW s (base + n) sub 0 amount

/-- The bytes of an Inclusion record (R509). -/
def inclusionBytes (s : State) (no src kind : Nat) (lost : Bool) (stamp : T32) (detail : Bytes) : Bytes :=
  be 4 no ++ be 1 src ++ be 1 kind ++ be 1 s.op.state.code ++
    be 1 (boolNat (decide (s.op.state = .start)) + 2 * boolNat lost) ++ be 4 stamp.toNat ++
    be 6 (txSecondsOf s) ++ be 4 (if txSecondsOf s = 0 then 0 else s.time.tx % 1000000000) ++ zeros 2 ++ padTo 16 detail ++
    be 8 Config.unitId.toNat

/-- A hardware fault becomes an Inclusion (R508 to R510): numbered, appended to the journal, with event 2607h; during Start
it is held, at most 32. -/
def recordInclusion (s : State) (src kind : Nat) (detail : Bytes) : State :=
  if journalOpen s then
    let no := s.wear.inclusionNo + 1
    let b := inclusionBytes s no src kind s.wear.heldLost s.now detail
    let w := { s.wear with
      inclusions := (s.wear.inclusions ++ [(no, b)]).drop ((s.wear.inclusions.length + 1) - 1024),
      inclusionNo := no, sinceStart := min 65535 (s.wear.sinceStart + 1), heldLost := false }
    raise (jAppend { s with wear := w } (.inclusion no b) .nobody) 0x2607 3 0xFF (be 4 no ++ be 1 src ++ be 1 kind)
  else
    let h := s.wear.held ++ [(src, kind, detail, s.now)]
    let w := { s.wear with
      held := h.drop (h.length - 32), heldLost := s.wear.heldLost || decide (32 < h.length),
      sinceStart := min 65535 (s.wear.sinceStart + 1) }
    { s with wear := w }

/-- The SDO abort code of a result (R44). -/
def abortCode (code : Nat) : Nat :=
  match code with
  | 1 => 0x06020000
  | 2 => 0x06090011
  | 3 => 0x06010002
  | 4 => 0x06010001
  | 5 => 0x06010000
  | 6 => 0x08000022
  | 7 => 0x06070010
  | 8 => 0x06090030
  | 9 => 0x08000020
  | 0x0A => 0x05040005
  | 0x0B => 0x08000020
  | 0x0E => 0x06090030
  | 0x0F => 0x08000022
  | _ => 0x08000000

/-- An SDO response frame of one port (R52, R298). -/
def sdoSend (s : State) (cn : Nat) (data : Bytes) : State := canMgmt s cn (classicFrame (0x580 + nodeId s) (padTo 8 data))

/-- Has the transmit queue of a port room for one more frame (R274)? -/
def canRoom (s : State) (cn : Nat) : Bool := match s.can[cn]? with | some c => decide (c.queue.length < 32) | none => false

/-- The SDO server's next waiting frames enter the transmit queue as far as it has room. -/
def sdoPump (s : State) (cn fuel : Nat) : State :=
  match fuel with
  | 0 => s
  | k + 1 =>
    match s.sessions[8 + cn]? with
    | some x =>
      match x.sdoOut with
      | b :: rest =>
        if canRoom s cn then
          sdoPump (sdoSend { s with sessions := vmod s.sessions (8 + cn) (fun y => { y with sdoOut := rest }) } cn b) cn k
        else s
      | [] => s
    | none => s

/-- A response frame of the SDO server (R52), after those that wait. -/
def sdoFrame (s : State) (cn : Nat) (data : Bytes) : State :=
  sdoPump { s with sessions := vmod s.sessions (8 + cn) (fun y => { y with sdoOut := y.sdoOut ++ [data] }) } cn 128

/-- The SDO server channel of a port takes another state. -/
def setSdo (s : State) (cn : Nat) (x : SdoTransfer) : State :=
  { s with sessions := vmod s.sessions (8 + cn) (fun y => { y with sdo := x }) }

/-- The SDO server aborts the transfer of a port. -/
def sdoAbort (s : State) (cn idx sub code : Nat) : State :=
  let t := { s with sessions := vmod s.sessions (8 + cn) (fun y => { y with sdo := .idle, sdoOut := [] }) }
  sdoFrame t cn ([0x80] ++ le 2 idx ++ le 1 sub ++ le 4 code)

/-- The answer to a completed SDO download (R52): its confirmation, or the abort that stands for the result (R44). -/
def sdoReply (s : State) (cn idx sub code : Nat) : State :=
  match s.sessions[8 + cn]? with
  | some x =>
    match x.sdo with
    | .answering _ _ confirm => if code = 0 then sdoFrame (setSdo s cn .idle) cn confirm else sdoAbort s cn idx sub (abortCode code)
    | _ => s
  | none => s

/-- A MOS message (R53): its 16-byte header and its data. -/
def mosMessage (typ tag idx sub code offset : Nat) (data : Bytes) : Bytes :=
  be 1 1 ++ be 1 typ ++ be 2 tag ++ be 2 idx ++ be 1 sub ++ be 1 code ++ be 4 offset ++ be 2 data.length ++ zeros 2 ++ data

/-- The answer to a MOS request (R53, R54): its tag, index and subindex echoed; the offset of a DOM object too (DEDUCED, log entry 172),
0 for other types. -/
def mosAnswer (kind : BitVec 8) (tag index : BitVec 16) (sub : BitVec 8) (offset : BitVec 32) (code : Byte) (data : Bytes) : Bytes :=
  mosMessage (0x80 + kind.toNat) tag.toNat index.toNat sub.toNat code.toNat
    (if isDomObject index.toNat sub.toNat then offset.toNat else 0) data

/-- An answer leaves (R44). An answer to a MOS request is kept for a repetition, the last 32, and closes the request
(R55); the answer to a request on SPI or the mailbox waits there until it is ready (R550, R560). -/
def reply (s : State) (dest : ReplyTo) (code : Byte) (data : Bytes) : State :=
  match dest with
  | .nobody | .gone => s
  | .sdo cn index sub => sdoReply s cn.val index.toNat sub.toNat code.toNat
  | .spi => { s with spi := { s.spi with result := some (code, data) } }
  | .mailbox => { s with host := { s.host with result := some (code, data) } }
  | .mos slot kind tag index sub offset =>
    let keep : KeptAnswer := { tag := tag, kind := kind, index := index, sub := sub, offset := offset, code := code, data := data }
    let upd := fun (x : Session) => { x with
      kept := (keep :: x.kept).take 32,
      outstanding := x.outstanding.erase { tag := tag, kind := kind, index := index, sub := sub } }
    emit { s with sessions := vmod s.sessions slot.val upd } (.mos slot.val (mosAnswer kind tag index sub offset code data))
  | .session _ => emit s (.answer dest code data)

/-- The session an answer goes to. -/
def replySession : ReplyTo → Option Nat
  | .session n => some n.val
  | .mos slot _ _ _ _ _ => some slot.val
  | .sdo cn _ _ => some (8 + cn.val)
  | .spi => some 16
  | .mailbox => some 17
  | .nobody | .gone => none

/-- Every partial DOM value of a session is discarded. -/
def dropPartials (s : State) (ses : Nat) : State := { s with sessions := vmod s.sessions ses (fun x => { x with dom := [] }) }

/-- Answers that are still to come and that nobody waits for any more. -/
def forgetReplies (s : State) (gone : ReplyTo → Bool) : State :=
  let f := fun (r : ReplyTo) => if gone r then ReplyTo.gone else r
  { s with
    jour := { s.jour with waiting := s.jour.waiting.map (fun e => (e.1, f e.2)) },
    cs := { s.cs with validating := s.cs.validating.map (fun e => (e.1, f e.2)) },
    upd := { s.upd with activator := f s.upd.activator, erasing := s.upd.erasing.map f } }

/-- Nobody is answered any more: the server stops for a sleep state (R610). Requests that went unanswered are sent again. -/
def dropReplies (s : State) : State :=
  let t := forgetReplies s (fun _ => true)
  { t with sessions := t.sessions.map (fun x => { x with
      outstanding := [], sdo := match x.sdo with | .answering .. => .idle | y => y }) }

/-- The role code a session holds. -/
def roleOf (s : State) (n : Nat) : Nat :=
  match s.sessions[n]? with
  | some x => x.role
  | none => 0

/-- Is a session open? -/
def isOpen (s : State) (n : Nat) : Bool :=
  match s.sessions[n]? with
  | some x => x.isOpen
  | none => false

/-- A session's own value is set. -/
def setOwn (s : State) (n idx sub v : Nat) : State :=
  { s with sessions := vmod s.sessions n (fun x => { x with own := tput x.own (okey idx sub) v }) }

/-- A session's own value. -/
def getOwn (s : State) (n idx sub : Nat) : Nat :=
  match s.sessions[n]? with
  | some x => ownNat x idx sub
  | none => 0

end Sys2Proof.Machine
end

