-- ==== Sys2Proof/Machine/Guard.lean ====
section
/-! DEFINITION. What the object dictionary server checks before a write (R37 to R44, R58, R59, R609), the staging of
S-class writes, and the frame of every session command. The order of the checks is the model's (DEDUCED, log entry 12). -/

namespace Sys2Proof.Machine

/-- Vendor objects, not documented (R36, R40). -/
def isVendorObject (idx : Nat) : Bool := decide (0x5F00 ≤ idx) && decide (idx ≤ 0x5FFF)

/-- The server runs: not in LightSleep or DeepSleep (R610). -/
def served (s : State) : Bool :=
  match s.op.state with
  | .lightSleep | .deepSleep => false
  | _ => true

/-- Is the string valid UTF-8 (R38, R609)? The argument n is the number of continuation bytes still due. -/
def utf8From (n : Nat) (b : Bytes) : Bool :=
  match b with
  | [] => decide (n = 0)
  | x :: r =>
    let v := x.toNat
    if n = 0 then
      if v < 0x80 then utf8From 0 r
      else if 0xC2 ≤ v ∧ v ≤ 0xDF then utf8From 1 r
      else if 0xE0 ≤ v ∧ v ≤ 0xEF then
        (if v = 0xE0 then decide (0xA0 ≤ byteAt r 0) else if v = 0xED then decide (byteAt r 0 ≤ 0x9F) else true) && utf8From 2 r
      else if 0xF0 ≤ v ∧ v ≤ 0xF4 then
        (if v = 0xF0 then decide (0x90 ≤ byteAt r 0) else if v = 0xF4 then decide (byteAt r 0 ≤ 0x8F) else true) && utf8From 3 r
      else false
    else decide (0x80 ≤ v) && decide (v ≤ 0xBF) && utf8From (n - 1) r

/-- The file check of a routing image (R299): result 0x07 where it fails. -/
def routeFileOk (v : Bytes) : Bool :=
  v.isEmpty ||
    (decide (32 ≤ v.length) && decide (beAt v 0 4 = 0x4D475231) && decide (beAt v 4 4 = 0x72600001) && decide (beAt v 20 4 = v.length) &&
      decide (v.length = 32 + 32 * beAt v 12 2 + 64 * beAt v 14 2 + 16 * byteAt v 16 + 16 * beAt v 18 2) &&
      decide (beAt v 28 4 = (crc32 (v.take 28 ++ zeros 4 ++ v.drop 32)).toNat))

/-- The length checks of tables and images (R51, R148, R165, R203, R272, R283, R287, R302, R316, R323, R338, R339): entries of a fixed
size up to a capacity. -/
def imageLengthOk (idx sub : Nat) (v : Bytes) : Bool :=
  let len := v.length
  let mult := fun (size cap : Nat) => decide (len % size = 0) && decide (len / size ≤ cap)
  if idx = 0x2120 ∧ sub = 3 then mult 65 8
  else if idx = 0x3500 ∧ sub = 1 then mult 16 4096
  else if idx = 0x3510 ∧ sub = 1 then mult 16 16640
  else if idx = 0x3510 ∧ sub = 5 then mult 8 1024
  else if idx = 0x3600 ∧ sub = 1 then mult 64 2048
  else if idx = 0x3610 ∧ sub = 1 then mult 8 2047
  else if idx = 0x3620 ∧ sub = 1 then mult 16 2048
  else if idx = 0x3630 ∧ sub = 1 then mult 528 256
  else if idx = 0x3700 ∧ sub = 1 then mult 4 2047
  else if idx = 0x3700 ∧ sub = 2 then mult 8 1024
  else if idx = 0x3C80 ∧ sub = 1 then decide (len = 4096)
  else if idx = 0x3C80 ∧ sub = 2 then decide (len = 2048)
  else if idx = 0x3C10 ∧ sub = 1 then
    decide (len = 0) ||
      (decide (2080 ≤ len) && decide (beAt v 0 4 = 0x4D5A5231) && decide (beAt v 4 4 = 0x72600001) && decide (beAt v 20 4 = len) &&
        decide (len = 2080 + 16 * beAt v 16 2 + 4 * beAt v 18 2) &&
        decide (beAt v 28 4 = (crc32 (v.take 28 ++ zeros 4 ++ v.drop 32)).toNat))
  else if idx = 0x4700 ∧ sub = 1 then routeFileOk v
  else if 0x4400 ≤ idx ∧ idx ≤ 0x4407 ∧ sub = 0x0E then mult 8 64
  else if 0x4500 ≤ idx ∧ idx ≤ 0x4505 ∧ sub = 0x0C then mult 32 8
  else if (idx = 0x4600 ∨ idx = 0x4601) ∧ sub = 3 then mult 8 256
  else if idx = 0x4800 ∧ sub = 2 then mult 16 4096
  else if idx = 0x4800 ∧ sub = 3 then mult 20 16
  else if idx = 0x4800 ∧ sub = 4 then decide (len % 16 = 0)
  else if idx = 0x4A00 ∧ sub = 5 then decide (len ≤ 1048576)
  else if idx = 0x4A00 ∧ sub = 9 then decide (len = 4096)
  else if idx = 0x4B10 ∧ sub = 1 then decide (len = 256)
  else if 0x3880 ≤ idx ∧ idx ≤ 0x38A5 ∧ sub = 2 then
    decide (len = 0) || (decide (16 ≤ len) && decide (len = 16 + 8 * (beAt v 2 2 % 512)))
  else true

/-- The length of a value fits its object (R609 step 1). -/
def lengthOk (x : ObjRow) (idx sub : Nat) (v : Bytes) : Bool :=
  match x.ty with
  | .str => decide (1 ≤ v.length) && decide (v.length ≤ (if idx = 0x3C01 then 32 else 255))
  | .dom => decide (v.length ≤ 2097152) && imageLengthOk idx sub v
  | .oct n => if n = 0 then decide (1 ≤ v.length) && decide (v.length ≤ 255) else decide (v.length = n)
  | t =>
    match t.size? with
    | some n => decide (v.length = n)
    | none => true

/-- The type allows the value (R609 step 2). -/
def typeOk (x : ObjRow) (v : Bytes) : Bool :=
  match x.ty with
  | .bool => decide (beNat v ≤ 1)
  | .tx => decide (beAt v 6 4 ≤ 999999999)
  | .str => utf8From 0 v
  | _ => true

/-- The number a value stands for. -/
def numOf (x : ObjRow) (v : Bytes) : Int := if x.ty.isSigned then signed v.length (beNat v) else (beNat v : Int)

/-- The range of the Meaning column (R609). -/
def rangeOk (x : ObjRow) (v : Bytes) : Bool :=
  let n := numOf x v
  match x.range with
  | .any => true
  | .span lo hi => decide (lo ≤ n) && decide (n ≤ hi)
  | .spanOr lo hi o => (decide (lo ≤ n) && decide (n ≤ hi)) || decide (n = o)
  | .bits m => decide (beNat v &&& m = beNat v)

/-- Writes to objects of the internal ports that stand fixed (3000h.01 and .03 of ports 38 to 42, R108). -/
def fixedObject (idx sub : Nat) : Bool :=
  (decide (0x3026 ≤ idx) && decide (idx ≤ 0x302A) && (sub == 1 || sub == 3)) ||
  (decide (0x3827 ≤ idx) && decide (idx ≤ 0x382A) && ((decide (1 ≤ sub) && decide (sub ≤ 0x0A)) || (decide (0x0D ≤ sub) && decide (sub ≤ 0x13)) ||
      (decide (0x16 ≤ sub) && decide (sub ≤ 0x1B)))) || (decide (0x4AC0 ≤ idx) && decide (idx ≤ 0x4ADF) && (sub == 9 || sub == 0x0B || sub == 0x0C)) || ((idx == 0x3C67 || idx == 0x3C68) && (sub == 1 || sub == 2)) ||
  (decide (0x40C6 ≤ idx) && decide (idx ≤ 0x40E5) && decide (6 ≤ sub) && decide (sub ≤ 9))

/-- The result with which the host interface itself answers the accesses of the SPI target and the PCIe window: in Start, and in
the activation pause (R534, R557, R561). -/
def transportBar (s : State) (ses : Nat) : Option Nat :=
  if ses < 16 then none
  else if s.op.state = .start then some 6
  else if s.upd.activating = 2 then some 0x0F
  else none

/-- The row of an object, or the result 0x01 or 0x02 (R37, R40). -/
def findRow (s : State) (ses idx sub : Nat) : ObjRow ⊕ Nat :=
  if isVendorObject idx ∧ roleOf s ses < 3 then .inr 1
  else match objRow? idx sub with
  | some x => .inl x
  | none => if objIndexKnown idx then .inr 2 else .inr 1

/-- May this object be written in the present state (R23, R39, R24)? -/
def stateAllows (s : State) (x : ObjRow) (ses idx sub : Nat) (v : Bytes) : Option Nat :=
  let request := idx == 0x2000 && sub == 2
  let wide := request && (beNat v == 0 || beNat v == 4 || beNat v == 7)
  let rwc : Bool := match x.acc with | .rwc => s.op.state != .commissioning | _ => false
  match s.op.state with
  | .start => some 6
  | .commissioning => none
  | .normal => if rwc then some 6 else none
  | .test => if wide then none else if roleOf s ses < 3 then some 5 else if rwc then some 6 else none
  | .recovery => if (decide (0x2700 ≤ idx) && decide (idx ≤ 0x27FF)) || (request && beNat v == 0) then none else some 6
  | .safe => if request then none else some 6
  | .lightSleep | .deepSleep => some 6

/-- The checks of a write that come before its effect; the first failed check's result, or the row (R37 to R44). Length and type come
before everything that the object itself is asked (R609). -/
def writeCheck (s : State) (ses idx sub : Nat) (v : Bytes) : ObjRow ⊕ Nat :=
  match transportBar s ses with
  | some c => .inr c
  | none =>
  match findRow s ses idx sub with
  | .inr c => .inr c
  | .inl x =>
    let writable := match x.acc with | .rw | .wo | .rwc => true | _ => false
    if !lengthOk x idx sub v then .inr 7
    else if !typeOk x v then .inr 8
    else if !writable || fixedObject idx sub then .inr 3
    else if roleOf s ses < x.wrole then .inr 5
    else match stateAllows s x ses idx sub v with
    | some c => .inr c
    | none =>
      match x.apply with
      | .s => .inl x
      | _ => if rangeOk x v then .inl x else .inr 8

/-- The checks of a write that come before its length can be judged: the interface serves it, and the object is defined. Length and
type come before the rest (R609), and the whole value is needed for them. -/
def segmentCheck (s : State) (ses idx sub : Nat) : Option Nat :=
  match transportBar s ses with
  | some c => some c
  | none => match findRow s ses idx sub with | .inr c => some c | .inl _ => none

/-- The object belongs to the armed set (R59), or to the position event it waits for (R64). -/
def inArmed (s : State) (idx sub : Nat) : Bool :=
  match s.cs.armed with
  | none => false
  | some a =>
    a.entries.any (fun e => e.1 == okey idx sub) ||
      (a.target.isNone && ((idx == 0x4C60 && sub == 0) || (decide (0x4C60 ≤ idx) && decide (idx ≤ 0x4C9F) && idx == 0x4C60 + a.event && (sub == 2 || sub == 3))))

/-- An S-class write joins or opens the pending set (R58, R59, R61); the result code. -/
def stage (s : State) (ses : SessionNo) (idx sub : Nat) (v : Bytes) : State × Nat :=
  if inArmed s idx sub then (s, 0x0B)
  else match s.cs.pending with
  | none =>
    if v.length ≤ 2097152 then
      ({ s with cs := { s.cs with pending := some { owner := ses, role := roleOf s ses.val, entries := [(okey idx sub, v)], types := [none], base := 0 } } }, 0)
    else (s, 0x0A)
  | some p =>
    if p.owner ≠ ses then (s, 9)
    else if s.cs.validating.isSome then (s, 0x0B)
    else
      let known := p.entries.any (fun e => e.1 == okey idx sub)
      let es : List (Nat × Bytes) := if known then p.entries.map (fun e => if e.1 == okey idx sub then (e.1, v) else e) else p.entries ++ [(okey idx sub, v)]
      let ts : List (Option Nat) := if known then (p.entries.zip p.types).map (fun e => if e.1.1 == okey idx sub then none else e.2) else p.types ++ [none]
      let total : Nat := es.foldl (fun n e => n + e.2.length) 0
      if 4096 < es.length ∨ 2097152 < total then (s, 0x0A)
      else ({ s with cs := { s.cs with pending := some { p with entries := es, types := ts } } }, 0)

/-- The frame of a session command on an object: not served while asleep or for a session that is not open (R47, R610),
refused by the first failed check, else its own action with its result (R42, R44). -/
def command (s : State) (ses : SessionNo) (idx sub : Nat) (v : Bytes) (act : State → State × Nat) : State :=
  if served s && isOpen s ses.val then
    match writeCheck s ses.val idx sub v with
    | .inr c => reply s (.session ses) (BitVec.ofNat 8 c) []
    | .inl _ =>
      if inArmed s idx sub then reply s (.session ses) 0x0B []
      else reply (act s).1 (.session ses) (BitVec.ofNat 8 (act s).2) []
  else s

/-- What may be read in Recovery (R539). -/
def recoveryReads (idx sub : Nat) : Bool :=
  idx == 0x1008 || idx == 0x1009 || idx == 0x1018 || (idx == 0x2000 && sub == 1) || (decide (0x2700 ≤ idx) && decide (idx ≤ 0x27FF))

/-- The result of a read before its value: none where the object may be read (R37, R39, R40, R539). -/
def readCheck (s : State) (ses idx sub : Nat) : ObjRow ⊕ Nat :=
  match transportBar s ses with
  | some c => .inr c
  | none =>
  match findRow s ses idx sub with
  | .inr c => .inr c
  | .inl x =>
    if x.acc == .wo then .inr 4
    else if s.op.state = .recovery ∧ !(recoveryReads idx sub) then .inr 6
    else .inl x

/-- The frame of a read that has an action of its own. -/
def readCommand (s : State) (ses : SessionNo) (idx sub : Nat) (act : State → State × Bytes) : State :=
  if served s && isOpen s ses.val then
    match readCheck s ses.val idx sub with
    | .inr c => reply s (.session ses) (BitVec.ofNat 8 c) []
    | .inl _ => reply (act s).1 (.session ses) 0 (act s).2
  else s

end Sys2Proof.Machine
end

