-- ==== Sys2Proof/Machine/WearOps.lean ====
section
/-! DEFINITION. Spare margins and their events (R505, R506), and the flash blocks (R503, R504). -/

namespace Sys2Proof.Machine

/-- The spare bank of a column has not been used. -/
def spareUnused (c : Column) : Bool :=
  match c.banks[16] with
  | .spare => true
  | _ => false

/-- The spare flash blocks that stand for none and have not worn (R503). -/
def sparesLeft (s : State) : List Nat :=
  (List.range' 480 32).filter (fun b => !(s.wear.spares.any (fun e => e.1 == b)) && !(s.wear.retired.contains b))

/-- The margin of a class in whole percent: 0 column memory, 1 DRAM, 2 NOR flash (R505). -/
def margin (s : State) (cls : Nat) : Nat :=
  if cls = 0 then
    let act := s.fab.columns.toList.filter (fun c => !c.gated)
    if act.isEmpty then 100 else 100 * (act.filter spareUnused).length / act.length
  else if cls = 1 then
    let a := 100 * s.dram.spares.length / 512
    let b := 100 * (4096 - s.dram.remap.length) / 4096
    min 100 (min a b)
  else 100 * (sparesLeft s).length / 32

/-- The lowest of the three margins. -/
def lowestMargin (s : State) : Nat := min (margin s 0) (min (margin s 1) (margin s 2))

/-- A latch of the wear block set. -/
def setLatch (v : Vector Bool 3) (i : Nat) (b : Bool) : Vector Bool 3 := v.setIfInBounds i b

/-- The margin events of one class after a change; the flag says that a part wore while the margin was 0 (R506). -/
def marginEvents (s : State) (cls : Nat) (wornAtZero : Bool) : State :=
  let m := margin s cls
  let low := (s.wear.lowLatched[cls]?).getD false
  let spent := (s.wear.spentLatched[cls]?).getD false
  let s1 :=
    if m < 25 ∧ !low then
      raise { s with wear := { s.wear with lowLatched := setLatch s.wear.lowLatched cls true } } 0x2602 3 0xFF (be 1 (cls + 1) ++ be 1 m)
    else if 25 ≤ m ∧ low then { s with wear := { s.wear with lowLatched := setLatch s.wear.lowLatched cls false } }
    else s
  if m = 0 ∧ wornAtZero ∧ !spent then
    raise { s1 with wear := { s1.wear with spentLatched := setLatch s1.wear.spentLatched cls true } } 0x2603 3 0xFF (be 1 (cls + 1))
  else if 0 < m ∧ spent then { s1 with wear := { s1.wear with spentLatched := setLatch s1.wear.spentLatched cls false } }
  else s1

/-- A flash block's erase count. -/
def eraseCount (s : State) (block : Nat) : Nat := tnat s.wear.erases block

/-- The spare that stands for a block, or the block itself. -/
def physicalBlock (s : State) (block : Nat) : Nat :=
  match s.wear.spares.find? (fun e => e.2 == block) with
  | some e => e.1
  | none => block

/-- The first spare block not yet used (480 to 511). -/
def nextSpare (s : State) : Option Nat := (sparesLeft s).head?

/-- Journal blocks in service (2600h.0A). -/
def journalBlocks (s : State) : Nat := s.jour.blocks.length

/-- The journal fails below 32 blocks (R515). -/
def journalCheck (s : State) : State :=
  if journalBlocks s < 32 ∧ s.jour.state ≠ 2 then
    raise { s with jour := { s.jour with state := 2 } } 0x2606 4 0xFF (be 1 (journalBlocks s) ++ be 4 s.jour.checkpointSize)
  else s

/-- A bank state's number in a bank map. -/
def BankState.code : BankState → Nat
  | .service => 0
  | .spare => 1
  | .draining => 2
  | .retired => 3
  | .lost => 4

/-- A column's bank map with the counts of its banks (R105). -/
def bankMapOf (c : Column) : List (Nat × Nat) :=
  (List.range 17).map (fun b => (((c.banks[b]?).getD .retired).code, (c.symbols[b]?).getD 0))

/-- The values of the last committed generation: a set in force without its commit mark does not count (R66). -/
def committedValues (s : State) : Tbl Bytes :=
  s.cs.uncommitted.reverse.foldl (fun t u => u.old.foldl (fun r e => cfgPut r (e.1 / 256) (e.1 % 256) e.2) t) s.cfg

/-- The set whose commit mark is still to come: one that has applied before one that is armed. -/
def markedSet (s : State) : Option (List (Nat × Bytes)) :=
  match s.cs.uncommitted, s.cs.armed with
  | u :: _, _ => some u.entries
  | [], some a => some a.entries
  | [], none => none

/-- The records of a checkpoint over a table of values: every P value, counters among them, and the wear counts (R41, R513), with the
record of the set that a commit mark is still to find (R66). -/
def checkpointOf (s : State) (t : Tbl Bytes) : List JBody :=
  [JBody.checkpointStart] ++ (t.filter (fun e => isPersistent e.1)).map (fun e => JBody.value e.1 e.2) ++
    (s.cnt.filter (fun e => isPersistent (e.1 / 65536))).map (fun e => JBody.value (e.1 / 65536) (be 4 e.2)) ++
    [JBody.commit s.cs.committed, JBody.distance s.pos.d64 s.pow.charge, JBody.pageCounts s.dram.counts] ++
    s.dram.remap.map (fun e => JBody.pageRetired e.1 e.2) ++
    (List.range 14).map (fun j => JBody.bankMap j (match s.fab.columns[j]? with | some c => bankMapOf c | none => [])) ++
    (match markedSet s with | some l => [JBody.armed l] | none => []) ++
    [JBody.safeEntries s.op.safeTimes, JBody.hours s.wear.hours] ++ s.wear.inclusions.map (fun e => JBody.inclusion e.1 e.2) ++
    [JBody.checkpointEnd]

/-- The records of a checkpoint (R513). -/
def checkpointRecords (s : State) : List JBody := checkpointOf s (committedValues s)

/-- A checkpoint is to be written before everything that waits. -/
def queueCheckpoint (s : State) : State :=
  { s with jour := { s.jour with waiting := (checkpointRecords s).map (fun b => (b, ReplyTo.nobody)) ++ s.jour.waiting } }

/-- The first write to a P object, or the first apply, after a start that left the journal as it was (R528): a checkpoint with
the defaults comes first. -/
def thaw (s : State) : State := if s.op.frozen then queueCheckpoint { s with op := { s.op with frozen := false } } else s

/-- A compaction starts: the checkpoint records wait to be written, and the blocks older than it will be freed (R513). -/
def startCompaction (s : State) : State :=
  if s.jour.state = 0 then
    queueCheckpoint (bump { s with jour := { s.jour with state := 1, freeing := s.jour.inUse - 1 } } 0x2660 6)
  else s

/-- A flash block wears (R503, R504): a spare replaces it, or capacity is lost. Cause 1 limit, 2 verify; the Inclusion's kind
and what its detail carries beyond block and erase count. -/
def flashWorn (s : State) (block cause : Nat) (inclKind : Nat) (extra : Bytes) : State :=
  let isBank := decide (block < 384)
  let atZero := decide (margin s 2 = 0)
  match nextSpare s with
  | some sp =>
    let old := physicalBlock s block
    let s1 := { s with wear := { s.wear with
      retired := if s.wear.retired.contains old then s.wear.retired else s.wear.retired ++ [old],
      spares := (s.wear.spares.filter (fun e => e.2 != block)) ++ [(sp, block)] } }
    let s2 := raise (bump s1 0x2660 7) 0x2601 2 0xFF (be 2 block ++ be 2 sp ++ be 1 cause)
    marginEvents (recordInclusion s2 3 inclKind (be 2 old ++ be 4 (eraseCount s old) ++ extra)) 2 atZero
  | none =>
    let s1 := { s with wear := { s.wear with retired := if s.wear.retired.contains block then s.wear.retired else s.wear.retired ++ [block] } }
    let s0 := if inclKind = 4 then recordInclusion s1 3 4 (be 2 block ++ be 4 (eraseCount s block) ++ extra) else s1
    let s2 := recordInclusion (bump s0 0x2660 8) 3 3 (be 2 block ++ be 4 (eraseCount s block))
    let s3 :=
      if isBank then startCompaction { s2 with wear := { s2.wear with bankWaiting := s2.wear.bankWaiting ++ [block] } }
      else { s2 with jour := { s2.jour with blocks := s2.jour.blocks.filter (fun b => b != block), inUse := min s2.jour.inUse (s2.jour.blocks.length - 1) } }
    let s4 := raise s3 0x2605 2 0xFF (be 1 (journalBlocks s3))
    journalCheck (marginEvents s4 2 true)

/-- An erase of a flash block: its count advances, and at the limit the block is worn (R502). -/
def eraseBlock (s : State) (block : Nat) : State :=
  let ph := physicalBlock s block
  let s1 := { s with wear := { s.wear with erases := tinc s.wear.erases ph 1 } }
  if s1.val 0x2600 3 ≤ eraseCount s1 ph ∧ !(s1.wear.retired.contains ph) then flashWorn s1 block 1 2 [] else s1

end Sys2Proof.Machine
end

