-- ==== Sys2Proof/Machine/Memory.lean ====
section
/-! DEFINITION. DRAM pages and the Pool Manager (R478 to R492), and the commands SCRUB_STEP, PAGE_COUNTS_DAILY_APPEND,
POOL_REQUEST, POOL_FREE, POOL_GIVE and MISUSE_RECORD_READ. -/

namespace Sys2Proof.Machine

/-- The buffer size of a class (R483). -/
def classSize (c : Nat) : Nat :=
  match c with
  | 0 => 128 | 1 => 512 | 2 => 2048 | 3 => 9472 | 4 => 65536 | 5 => 1048576 | _ => 0

/-- The smallest class that holds so many bytes. -/
def classFor (size : Nat) : Nat := ((List.range 6).find? (fun c => decide (size ≤ classSize c))).getD 5

/-- A class record. -/
def poolClass (s : State) (c : Nat) : PoolClass := (s.pool.classes[c]?).getD (PoolClass.ofCount 0)

def setClass (s : State) (c : Nat) (x : PoolClass) : State :=
  { s with pool := { s.pool with classes := s.pool.classes.setIfInBounds c x } }

/-- A buffer's tag; a buffer never granted has the fresh tag. -/
def tagOf (x : PoolClass) (i : Nat) : PoolTag :=
  (tget x.tags i).getD { state := 0, poisoned := false, owner := 0, gen := 0, prev := 0, keep := false, stamp := 0 }

/-- Free buffers of a class. -/
def freeCount (x : PoolClass) : Nat := x.free.length + (x.laid - x.fresh)

/-- Is the buffer in use (states 1 and 2)? -/
def tagUsed (t : PoolTag) : Bool := t.state == 1 || t.state == 2

/-- Buffers of a class held by an owner. -/
def usedBy (x : PoolClass) (o : Nat) : Nat := (x.tags.filter (fun e => tagUsed e.2 && e.2.owner == o)).length

/-- The minimum in force (R485): that of the configuration, or what a cut has left of it (R492). -/
def minOf (s : State) (o c : Nat) : Nat := min (s.val (0x2B40 + o) (c + 1)) ((tget s.pool.cuts (8 * o + c)).getD 0xFFFFFFFF)

/-- A cap in a table of values (R485): a default one equals the class count. -/
def capIn (t : Tbl Bytes) (o c : Nat) : Nat :=
  if (tget t (okey (0x2B40 + o) (c + 7))).isNone ∧ (o < 10 ∨ 15 < o) then cfgNat t 0x2B10 (c + 1) else cfgNat t (0x2B40 + o) (c + 7)

/-- The cap in force. -/
def capOf (s : State) (o c : Nat) : Nat := capIn s.cfg o c

/-- unmet[c] (R487). -/
def unmet (s : State) (c : Nat) : Nat :=
  (List.range 32).foldl (fun n o => n + (minOf s o c - usedBy (poolClass s c) o)) 0

/-- The 32-bit handle of a buffer (R484). -/
def handleOf (c gen i : Nat) : BitVec 32 := BitVec.ofNat 32 (c * 2 ^ 29 + gen % 256 * 2 ^ 21 + i % 2 ^ 20)

/-- The tag as 64 bits (R484). -/
def tagBits (t : PoolTag) : Nat :=
  t.state * 2 ^ 62 + boolNat t.poisoned * 2 ^ 61 + t.owner * 2 ^ 56 + t.gen * 2 ^ 48 + t.prev * 2 ^ 43 + boolNat t.keep * 2 ^ 42 + t.stamp.toNat

/-- May the owner be granted a buffer of the class now (R487)? -/
def mayGrant (s : State) (o c : Nat) : Bool :=
  let x := poolClass s c
  (decide (0 < freeCount x) && decide (usedBy x o < minOf s o c)) ||
    (decide (unmet s c < freeCount x) && decide (usedBy x o < capOf s o c))

/-- A free buffer of the class is granted (R487): its generation advances, its tag takes owner and time. -/
def grantFrom (s : State) (o c : Nat) : State × BitVec 32 :=
  let x := poolClass s c
  let i := match x.free with | j :: _ => j | [] => x.fresh
  let x1 : PoolClass := match x.free with | _ :: r => { x with free := r } | [] => { x with fresh := x.fresh + 1 }
  let gen := ((tagOf x i).gen + 1) % 256
  let t : PoolTag := { state := 1, poisoned := false, owner := o, gen := gen, prev := (tagOf x i).prev, keep := false, stamp := s.now }
  (bumpW (setClass s c { x1 with tags := tput x1.tags i t }) 0x2B60 3 0 1, handleOf c gen i)

/-- Why a request failed (R501): 1 no buffer, 2 cap, 3 too many outstanding, 4 bad size, for which 2B60h has no counter (DEDUCED, log entry
203). -/
def poolFail (s : State) (o c cause : Nat) : State :=
  let s1 := if cause = 3 then bump s 0x2B60 0x0A else if cause = 4 then s else bump s 0x2B60 4
  raiseLimited s1 o 1000000000 0x2B05 2 0xFF (be 1 o ++ be 1 c ++ be 1 cause)

/-- A single request decided at once (R487): from the class upwards while it may climb. -/
def poolTry (s : State) (o c : Nat) (climb : Bool) (fuel : Nat) : State × Option (BitVec 32) :=
  match fuel with
  | 0 => (s, none)
  | n + 1 =>
    if mayGrant s o c then ((grantFrom s o c).1, some (grantFrom s o c).2)
    else if climb ∧ c < 5 then poolTry (bumpW s 0x2B60 6 0 1) o (c + 1) climb n
    else (poolFail s o c (if unmet s c < freeCount (poolClass s c) then 2 else 1), none)

/-- A request of one owner (R487). -/
def poolRequestOne (s : State) (o size : Nat) (climb : Bool) : State × Option (BitVec 32) :=
  if size = 0 ∨ 1048576 < size then (poolFail s o 0 4, none) else poolTry s o (classFor size) climb 6

/-- A request of the same cycle that waits for its decision: owner, class, climb, and its place in the command. -/
structure PoolWait where
  owner : Nat
  cls : Nat
  climb : Bool
  place : Nat

/-- Of the requests that wait for a class, the one of the lowest owner, then the earliest (R488). -/
def nextFor (c : Nat) (ws : List PoolWait) : Option PoolWait :=
  (ws.filter (fun w => w.cls == c)).foldl (fun (b : Option PoolWait) w =>
    match b with
    | none => some w
    | some x => if w.owner < x.owner then some w else b) none

/-- One cycle: at most one request of each class is decided (R488). A request that a class would have met at the start of
the command, and that it no longer meets, has lost a race. -/
def poolCycle (start : State) (acc : State × List PoolWait × List PoolWait) (c : Nat) : State × List PoolWait × List PoolWait :=
  match nextFor c acc.2.1 with
  | none => acc
  | some w =>
    let s := acc.1
    let rest := acc.2.1.filter (fun x => x.place != w.place)
    if mayGrant s w.owner c then
      let r := grantFrom s w.owner c
      (emit r.1 (.pool w.owner (some r.2)), rest, acc.2.2)
    else
      let s1 := if mayGrant start w.owner c then bump s 0x2B60 5 else s
      if w.climb ∧ c < 5 then (bumpW s1 0x2B60 6 0 1, rest, acc.2.2 ++ [{ w with cls := c + 1 }])
      else
        (emit (poolFail s1 w.owner c (if unmet s1 c < freeCount (poolClass s1 c) then 2 else 1)) (.pool w.owner none), rest, acc.2.2)

/-- Cycles until every request is decided. -/
def poolCycles (start : State) (s : State) (ws : List PoolWait) (fuel : Nat) : State :=
  match fuel with
  | 0 => s
  | n + 1 =>
    match ws with
    | [] => s
    | _ =>
      let r := (List.range 6).foldl (poolCycle start) (s, ws, [])
      poolCycles start r.1 (r.2.1 ++ r.2.2) n

/-- POOL_REQUEST (R487, R488): the requests of one cycle. -/
def execPoolRequest (reqs : List PoolReq) (s : State) : Host.Outcome State Fault Refusal :=
  let place := fun (acc : State × List PoolWait × Nat) (r : PoolReq) =>
    let o := r.owner.val
    let out := (acc.2.1.filter (fun w => w.owner == o)).length
    if 64 ≤ out then (emit (poolFail acc.1 o 0 3) (.pool o none), acc.2.1, acc.2.2 + 1)
    else if r.size = 0 ∨ 1048576 < r.size.toNat then (emit (poolFail acc.1 o 0 4) (.pool o none), acc.2.1, acc.2.2 + 1)
    else (acc.1, acc.2.1 ++ [{ owner := o, cls := classFor r.size.toNat, climb := r.climb, place := acc.2.2 }], acc.2.2 + 1)
  let a := reqs.foldl place (s, [], 0)
  .next (poolCycles s a.1 a.2.1 (6 * reqs.length + 1))

/-- A misuse record enters its ring (R490), with event 2B06h. -/
def misuse (s : State) (kind who : Nat) (owner state : Nat) (h : BitVec 32) : State :=
  let b := be 4 s.now.toNat ++ be 1 kind ++ be 1 who ++ be 1 owner ++ be 1 state ++ be 4 h.toNat ++ be 2 (txSecondsOf s) ++ zeros 2
  let gone := (s.pool.misuseNext - 64).toNat
  let full := decide (64 ≤ s.pool.misuse.length)
  let s1 := { s with
    pool := { s.pool with misuse := (s.pool.misuse ++ [b]).drop ((s.pool.misuse.length + 1) - 64), misuseNext := s.pool.misuseNext + 1 },
    sessions := s.sessions.map (fun x => if full && x.isOpen && ownNat x 0x2B61 1 == gone then
      { x with own := tput x.own (okey 0x2B61 1) ((gone + 1) % 2 ^ 32), misuseLost := true } else x) }
  raiseLimited s1 0 1000000000 0x2B06 2 0xFF (be 1 kind ++ be 1 who ++ be 4 h.toNat)

/-- The class, generation and index a handle names. -/
def handleClass (h : BitVec 32) : Nat := bitsOf h.toNat 31 29
def handleGen (h : BitVec 32) : Nat := bitsOf h.toNat 28 21
def handleIndex (h : BitVec 32) : Nat := bitsOf h.toNat 19 0

/-- The checks of R489 in their order: the misuse kind and counter, or the tag. -/
def handleCheck (s : State) (who : Nat) (h : BitVec 32) (give : Bool) : (Nat × Nat) ⊕ PoolTag :=
  let c := handleClass h
  if 6 ≤ c ∨ (poolClass s c).laid ≤ handleIndex h then .inl (4, 9)
  else
    let t := tagOf (poolClass s c) (handleIndex h)
    if !tagUsed t then .inl (1, 7)
    else if t.gen ≠ handleGen h then .inl (2, 7)
    else if t.owner ≠ who then .inl (if give then 5 else 3, 8)
    else .inr t

/-- A rejected free or give. -/
def rejectHandle (s : State) (who : Nat) (h : BitVec 32) (kind ctr : Nat) : State :=
  let t := tagOf (poolClass s (handleClass h)) (handleIndex h)
  let s1 := bump s 0x2B60 ctr
  if kind = 4 then misuse s1 kind who 0xFF 0xFF h else misuse s1 kind who t.owner t.state h

/-- The region a page lies in, numbered as R477 lists them. -/
def regionOf (page : Nat) : Nat :=
  if page < 32768 then 1 else if page < 38912 then 2 else if page < 41984 then 3 else if page < 107520 then 4
  else if page < 108032 then 5 else 6

/-- The first byte of a buffer within the pool region: classes stand one after the other (DEDUCED, log entry 21). -/
def bufferBase (s : State) (c i : Nat) : Nat :=
  (List.range c).foldl (fun n k => n + (poolClass s k).laid * classSize k) 0 + i * classSize c

/-- The pages a buffer covers wholly. -/
def pagesOfBuffer (s : State) (c i : Nat) : List Nat :=
  let b := bufferBase s c i
  let first := (b + 4095) / 4096
  let last := (b + classSize c) / 4096
  (List.range' first (last - first)).map (fun p => 41984 + p)

/-- The class count in force falls below the sum of minima: minima are cut from the highest owner downwards, by what is missing, each to 0
before the next, with an event for each (R492). -/
def cutMinima (s : State) (c : Nat) : State :=
  (List.range 32).reverse.foldl (fun t o =>
    let sum := (List.range 32).foldl (fun n k => n + minOf t k c) 0
    let left := minOf t o c - (sum - (poolClass t c).count)
    if (poolClass t c).count < sum ∧ 0 < minOf t o c then
      raise { t with pool := { t.pool with cuts := tput t.pool.cuts (8 * o + c) left } } 0x2B03 3 0xFF
        (be 1 c ++ be 4 (poolClass t c).count ++ be 1 o ++ be 4 left)
    else t) s

/-- The apply of a set that passed validation: its minima fit the counts in force (R485), and no cut stands. -/
def applyPool (s : State) : State := { s with pool := { s.pool with cuts := [] } }

/-- A page has been written (R478). -/
def touchPage (s : State) (page : Nat) : State :=
  if s.dram.touched.contains page then s else { s with dram := { s.dram with touched := s.dram.touched ++ [page] } }

/-- A page is retired onto a spare page (R480): remap, journal, counter, event 2B02h; cause 1 threshold, 2 uncorrectable. -/
def remapPage (s : State) (page spare : Nat) (rest : List Nat) (uncorr : Bool) : State :=
  let s0 := touchPage s spare
  let s1 := { s0 with dram := { s0.dram with remap := s.dram.remap ++ [(page, spare)], spares := rest, retiredTotal := s.dram.retiredTotal + 1 } }
  let s2 := bump (jAppend s1 (.pageRetired page spare) .nobody) 0x2B20 6
  marginEvents (raise s2 0x2B02 2 0xFF (be 4 page ++ be 4 spare ++ be 1 (if uncorr then 2 else 1))) 1 false

/-- A buffer is in state 3: it leaves service, the count in force falls, and its sound pages become spares (R481, R492). With a full remap table
its pages are mapped out with the worn one, and none becomes a spare. -/
def bufferGone (s : State) (c i : Nat) : State :=
  let x := poolClass s c
  let t := { tagOf x i with state := 3, stamp := s.now }
  let s1 := setClass s c { x with tags := tput x.tags i t, count := x.count - 1 }
  let sound := if 4096 ≤ s.dram.remap.length then [] else
    (pagesOfBuffer s c i).filter (fun p => !(s.dram.remap.any (fun e => e.1 == p)) && !(s.dram.waiting.any (fun e => e.1 == p)))
  let s2 := { s1 with dram := { s1.dram with spares := s1.dram.spares ++ sound } }
  cutMinima (raise s2 0x2B03 3 0xFF (be 1 c ++ be 4 (poolClass s2 c).count)) c

/-- The retirements that waited for a withdrawn buffer proceed (R492). -/
def retireWaiting (s : State) : State :=
  s.dram.waiting.foldl (fun t e =>
    match t.dram.spares with
    | sp :: rest => remapPage { t with dram := { t.dram with waiting := t.dram.waiting.filter (fun w => w.1 != e.1) } } e.1 sp rest e.2
    | [] => t) s

/-- The buffer that a withdrawal takes (R492): a free one, else the one in use with the oldest change. -/
def withdrawFrom (s : State) (c : Nat) : State :=
  let x := poolClass s c
  match x.free with
  | i :: r => retireWaiting (bufferGone (setClass s c { x with free := r }) c i)
  | [] =>
    if x.fresh < x.laid then retireWaiting (bufferGone (setClass s c { x with fresh := x.fresh + 1 }) c x.fresh)
    else
      let oldest := (x.tags.filter (fun e => e.2.state == 1)).foldl (fun (b : Option (Nat × PoolTag)) e =>
        match b with
        | none => some e
        | some y => if (s.now - y.2.stamp).toNat < (s.now - e.2.stamp).toNat then some e else b) none
      match oldest with
      | some e => setClass s c { x with tags := tput x.tags e.1 { e.2 with state := 2 } }
      | none => s

/-- A buffer is withdrawing (R492). -/
def withdrawing (s : State) : Bool := s.pool.classes.toList.any (fun x => x.tags.any (fun e => e.2.state == 2))

/-- The Pool Manager withdraws one buffer of the largest class with buffers in service (R481), counted in 2B20h.08; one more while those
withdrawn gave no page to the retirement that waits, as the buffers of the small classes do. -/
def withdrawLargest (s : State) (fuel : Nat) : State :=
  match fuel with
  | 0 => s
  | n + 1 =>
    if s.dram.waiting.isEmpty ∨ withdrawing s then s
    else match (List.range 6).reverse.find? (fun c => decide (0 < (poolClass s c).count)) with
    | some c => withdrawLargest (withdrawFrom (bump s 0x2B20 8) c) n
    | none => s

/-- The buffers that cover a page of the pool region leave service (R481, second row). -/
def withdrawCovering (s : State) (page : Nat) : State :=
  let lo := (page - 41984) * 4096
  let hi := lo + 4096
  (List.range 6).foldl (fun t c =>
    let base := bufferBase t c 0
    let n := (poolClass t c).laid
    let first := if lo < base then 0 else (lo - base) / classSize c
    let count := if hi ≤ base then 0 else (hi - base + classSize c - 1) / classSize c - first
    (List.range' first (min count (n - min n first))).foldl (fun u i =>
      let x := poolClass u c
      let tag := tagOf x i
      if tag.state = 0 then
        let x1 := if i < x.fresh then { x with free := x.free.filter (fun j => j != i) } else { x with free := x.free ++ (List.range' x.fresh (i - x.fresh)), fresh := i + 1 }
        bufferGone (bump (setClass u c x1) 0x2B20 8) c i
      else if tag.state = 1 then bump (setClass u c { x with tags := tput x.tags i { tag with state := 2 } }) 0x2B20 8
      else u) t) s

/-- A worn page is retired (R480, R481). -/
def retirePage (s : State) (page : Nat) (uncorr : Bool) : State :=
  if s.dram.remap.any (fun e => e.1 == page) ∨ s.dram.waiting.any (fun e => e.1 == page) then s
  else if 4096 ≤ s.dram.remap.length then
    let s1 := if regionOf page = 4 then withdrawCovering s page else s
    marginEvents (raise s1 0x2B04 4 0xFF (be 4 page ++ be 1 (regionOf page))) 1 true
  else match s.dram.spares with
  | sp :: rest => remapPage s page sp rest uncorr
  | [] => marginEvents (withdrawLargest { s with dram := { s.dram with waiting := s.dram.waiting ++ [(page, uncorr)] } } 64) 1 true

/-- A read returned an uncorrectable codeword (R482): reader 1 MP, 2 GP input copier, 3 another reader, 4 scrubber. -/
def dramUncorrectable (s : State) (page reader : Nat) : State :=
  let s1 := recordInclusion (bump s 0x2B20 5) 2 1 (be 4 page ++ be 1 reader)
  retirePage (raise s1 0x2B01 3 0xFF (be 4 page ++ be 1 reader)) page true

/-- An accepted free (R489): back to its class, or out of service if it was withdrawing. -/
def returnBuffer (s : State) (c i : Nat) (t : PoolTag) : State :=
  let x := poolClass s c
  if t.state = 2 then withdrawLargest (retireWaiting (bufferGone s c i)) 64
  else setClass s c { x with free := x.free ++ [i], tags := tput x.tags i { t with state := 0, poisoned := false, keep := false, stamp := s.now } }

/-- A free (R489). -/
def poolFreeOp (s : State) (who : Nat) (h : BitVec 32) : State :=
  match handleCheck s who h false with
  | .inl k => rejectHandle s who h k.1 k.2
  | .inr t => returnBuffer s (handleClass h) (handleIndex h) t

/-- A give (R489). -/
def poolGiveOp (s : State) (who : Nat) (h : BitVec 32) (dest : Nat) : State :=
  match handleCheck s who h true with
  | .inl k => rejectHandle s who h k.1 k.2
  | .inr t =>
    let x := poolClass s (handleClass h)
    setClass s (handleClass h) { x with tags := tput x.tags (handleIndex h) { t with owner := dest, prev := who, stamp := s.now } }

/-- Buffers reclaimed without a free (R491): those in use of owners for whom the test holds; each counts in 2B60h.0B. -/
def reclaim (s : State) (test : PoolTag → Bool) : State :=
  (List.range 6).foldl (fun t c =>
    ((poolClass t c).tags.filter (fun e => tagUsed e.2 && test e.2)).foldl (fun u e =>
      bumpW (returnBuffer u c e.1 e.2) 0x2B60 0x0B 0 1) t) s

/-- POOL_FREE (R489). -/
def execPoolFree (owner : Fin 32) (handle : BitVec 32) (s : State) : Host.Outcome State Fault Refusal :=
  .next (poolFreeOp s owner.val handle)

/-- POOL_GIVE (R489). -/
def execPoolGive (owner : Fin 32) (handle : BitVec 32) (dest : Fin 32) (s : State) : Host.Outcome State Fault Refusal :=
  .next (poolGiveOp s owner.val handle dest.val)

/-- The position of a session in a ring of records that are numbered by sequence (R71, R72, R222, R490): the record at its
position with the lost flag set where it stands, and the state with the position advanced. -/
def ringRead (s : State) (ses idx sub len flagByte flagBit : Nat) (held : Nat) (next : BitVec 32) (recAt : Nat → Bytes)
    (lost : Session → Bool) (clear : Session → Session) : State × Bytes :=
  let pos := getOwn s ses idx sub
  let oldest := (next - BitVec.ofNat 32 held).toNat
  let d := (BitVec.ofNat 32 pos - BitVec.ofNat 32 oldest).toNat
  if d < held then
    let b := recAt d
    let flagged := match s.sessions[ses]? with | some x => lost x | none => false
    let b1 := if flagged then b.set flagByte (BitVec.ofNat 8 (byteAt b flagByte ||| 2 ^ flagBit)) else b
    let s1 := setOwn s ses idx sub ((pos + 1) % 2 ^ 32)
    ({ s1 with sessions := vmod s1.sessions ses clear }, b1)
  else (s, zeros len)

/-- A write of a read position (R71, R222, R519): a number neither held nor next is replaced by the oldest held, and the next
record read carries the lost flag. -/
def ringSeek (s : State) (ses idx sub : Nat) (held : Nat) (next : BitVec 32) (pos : BitVec 32) (mark : Session → Session) : State :=
  let oldest := next - BitVec.ofNat 32 held
  if (pos - oldest).toNat ≤ held then setOwn s ses idx sub pos.toNat
  else
    let s1 := setOwn s ses idx sub oldest.toNat
    { s1 with sessions := vmod s1.sessions ses mark }

/-- A read of 2B61h.02 (R490). -/
def misuseRead (s : State) (ses : Nat) : State × Bytes :=
  ringRead s ses 0x2B61 1 16 14 0 s.pool.misuse.length s.pool.misuseNext (fun d => (s.pool.misuse[d]?).getD (zeros 16))
    (fun x => x.misuseLost) (fun x => { x with misuseLost := false })

/-- MISUSE_RECORD_READ (R490). -/
def execMisuseRecordRead (ses : SessionNo) (s : State) : Host.Outcome State Fault Refusal :=
  .next (readCommand s ses 0x2B61 2 (fun t => misuseRead t ses.val))

/-- One codeword of a scrubbed page (R476, R479, R480): corrected symbols are counted by codeword and page. The errors alone decide,
since the code is linear. -/
def scrubWord (page : Nat) (acc : State × Bool) (e : Fin 128 × SymbolErrors 36) : State × Bool :=
  match readWord (zeros 32) e.2 with
  | .word _ 0 => acc
  | .word _ n =>
    let s := acc.1
    let s1 := if n = 1 then bumpW s 0x2B20 3 0 1 else if n = 2 then bumpW s 0x2B20 4 0 1 else s
    ({ s1 with dram := { s1.dram with counts := tput s1.dram.counts page (min 255 (tnat s1.dram.counts page + n)) } }, acc.2)
  | .uncorrectable => (dramUncorrectable acc.1 page 4, true)

/-- The page that an access to a page goes to (R480). A spare page that has worn has a spare of its own. -/
def servingPage (s : State) (page fuel : Nat) : Nat :=
  match fuel with
  | 0 => page
  | n + 1 => match s.dram.remap.find? (fun e => e.1 == page) with
    | some e => servingPage s e.2 n
    | none => page

/-- SCRUB_STEP (R479, R480): one page is read and corrected, then the position advances; not while asleep. A codeword that a retirement wrote
with the poison pattern is one of the uncorrectable ones that the page then shows. -/
def execScrubStep (errors : List (Fin 128 × SymbolErrors 36)) (s : State) : Host.Outcome State Fault Refusal :=
  match s.op.state with
  | .lightSleep | .deepSleep => .next s
  | _ =>
    let position := s.dram.position
    let page := servingPage s position 4096
    let a := errors.foldl (scrubWord page) (if errors.isEmpty then s else touchPage s page, false)
    let s1 := if a.1.val 0x2600 2 ≤ tnat a.1.dram.counts page ∧ a.2 = false then retirePage a.1 page false else a.1
    if position + 1 < 116480 then .next { s1 with dram := { s1.dram with position := position + 1 } }
    else
      .next (bumpW { s1 with dram := { s1.dram with position := 0, lastPass := s1.time.tx } } 0x2B20 7 0 1)

/-- PAGE_COUNTS_DAILY_APPEND (R480). -/
def execPageCountsDailyAppend (s : State) : Host.Outcome State Fault Refusal :=
  .next (jAppend s (.pageCounts s.dram.counts) .nobody)

/-- The pool is laid out afresh with the configured counts (R483, R491). -/
def poolLayout (s : State) : PoolBlock :=
  { classes := Vector.ofFn (fun (c : Fin 6) => PoolClass.ofCount (s.val 0x2B10 (c.val + 1))), cuts := [], misuse := [], misuseNext := 0 }

/-- Values of this chapter's status objects (R497 to R499). -/
def liveMemory (s : State) (ses idx sub : Nat) : Option Bytes :=
  if idx = 0x2B00 then
    match sub with
    | 2 => some (be 2 s.dram.spares.length)
    | 3 => some (be 2 s.dram.remap.length)
    | 4 => some (be 4 s.dram.retiredTotal)
    | 5 => some (be 4 s.dram.position)
    | 6 => some (txBytes s.dram.lastPass)
    | 7 => some (be 4 (getOwn s ses 0x2B00 7))
    | 8 => some (be 1 (tnat s.dram.counts (getOwn s ses 0x2B00 7)))
    | _ => none
  else if idx = 0x2B11 then
    if 1 ≤ sub ∧ sub ≤ 6 then some (be 4 (poolClass s (sub - 1)).count)
    else if 7 ≤ sub ∧ sub ≤ 12 then some (be 4 (freeCount (poolClass s (sub - 7))))
    else if 13 ≤ sub ∧ sub ≤ 18 then
      some (be 4 ((poolClass s (sub - 13)).tags.filter (fun e => e.2.state == 2 || e.2.state == 3)).length)
    else if sub = 19 then some (be 4 (getOwn s ses 0x2B11 19))
    else if sub = 20 then
      let h := BitVec.ofNat 32 (getOwn s ses 0x2B11 19)
      if handleClass h < 6 ∧ handleIndex h < (poolClass s (handleClass h)).laid then
        some (be 8 (tagBits (tagOf (poolClass s (handleClass h)) (handleIndex h))))
      else some (zeros 8)
    else none
  else if 0x2B40 ≤ idx ∧ idx ≤ 0x2B5F then
    if 7 ≤ sub ∧ sub ≤ 12 then some (be 4 (capOf s (idx - 0x2B40) (sub - 7)))
    else if 13 ≤ sub ∧ sub ≤ 18 then some (be 4 (usedBy (poolClass s (sub - 13)) (idx - 0x2B40)))
    else if sub = 19 then some (be 1 0)
    else none
  else if idx = 0x2B61 ∧ sub = 1 then some (be 4 (getOwn s ses 0x2B61 1))
  else none

/-- The resource rules of pool objects in a configuration (R483, R485): the reason code of the first rule broken. -/
def poolRules (t : Tbl Bytes) (inForce : Nat → Nat) : Option (Nat × Nat) :=
  let cnt := fun c => cfgNat t 0x2B10 (c + 1)
  let bytes := (List.range 6).foldl (fun n c => n + cnt c * classSize c) 0
  let total := (List.range 6).foldl (fun n c => n + cnt c) 0
  if 268435456 < bytes ∨ 1048576 < total then some (okey 0x2B10 1, 5)
  else
    let each := fun (c o : Nat) => (cfgNat t (0x2B40 + o) (c + 1), capIn t o c)
    let pairs := (List.range 32).flatMap (fun o => (List.range 6).map (fun c => (o, c)))
    match pairs.find? (fun p => decide ((each p.2 p.1).2 < (each p.2 p.1).1)) with
    | some p => some (okey (0x2B40 + p.1) (p.2 + 1), 1)
    | none =>
      match pairs.find? (fun p => decide (cnt p.2 < (each p.2 p.1).2)) with
      | some p => some (okey (0x2B40 + p.1) (p.2 + 7), 1)
      | none =>
        match (List.range 6).find? (fun c =>
          let sum := (List.range 32).foldl (fun n o => n + (each c o).1) 0
          decide (inForce c < sum) || decide (cnt c < sum)) with
        | some c => some (okey 0x2B40 (c + 1), 5)
        | none => none

end Sys2Proof.Machine
end

