-- ==== Sys2Proof/Machine/Fabric.lean ====
section
/-! DEFINITION. The crosspoint fabric (chapter 03): fabric ports, column budgets and cells, release, column banks, link states and
aggregation groups, and the commands CELL_TEST and BANK_DRAIN_TIMEOUT. -/

namespace Sys2Proof.Machine

/-- The fabric port of a switch port (R13). -/
def fpOf (p : Nat) : Nat :=
  if p < 6 then p else if p < 30 then 6 + (p - 6) / 4 else if p < 38 ∨ p = 42 then 12 else 13

/-- The sub-port of an edge port (R14). -/
def subPort (p : Nat) : Nat := (p - 6) % 4

/-- The lane mode of a backbone or edge port (R107). -/
def laneMode (s : State) (p : Nat) : Nat := if p < 6 then s.val 0x3040 (p + 1) else s.val 0x3040 (7 + (p - 6) / 4)

/-- The rates a lane mode allows, as codes of 3000h.03 (R12, R14). -/
def modeRates (p mode : Nat) : List Nat :=
  if p < 6 then (if mode = 1 then [6] else if mode = 2 then [3, 4, 5, 6] else [])
  else if p < 30 then
    (if mode = 1 then [2, 3, 4] else if mode = 2 then [1, 2, 3] else if mode = 3 ∧ subPort p = 0 then [1, 2, 3] else [])
  else if p < 38 then [1]
  else []

/-- A port that its lane mode leaves absent (R14, R15). -/
def portAbsent (p mode : Nat) : Bool := decide (6 ≤ p) && decide (p < 30) && decide (mode = 3) && decide (subPort p ≠ 0)

/-- The rate of a code in bit/s; 0 for code 0. -/
def rateOf (code : Nat) : Nat :=
  match code with
  | 1 => 10000000 | 2 => 100000000 | 3 => 1000000000 | 4 => 2500000000 | 5 => 5000000000 | 6 => 10000000000 | _ => 0

def portLink (s : State) (p : Nat) : PortLink :=
  (s.fab.links[p]?).getD { link := 4, rate := 0, changedAt := 0, receiving := none, suspended := none }

def setLink (s : State) (p : Nat) (f : PortLink → PortLink) : State :=
  { s with fab := { s.fab with links := vmod s.fab.links p f } }

def linkIsUp (s : State) (p : Nat) : Bool := (portLink s p).link == 1

/-- The state of a managed segment (R399). -/
def segState (s : State) (p : Nat) : Nat := match s.slp.segments[p]? with | some g => g.state | none => 0

/-- A port that takes and sends frames: its link is up and its segment does not drain (R399). -/
def portForwards (s : State) (p : Nat) : Bool := linkIsUp s p && segState s p != 3

/-- A port may have a link: the state serves it (R23, R384, R385), its segment is neither asleep nor isolated (R399), and its
external PHY is out of reset. -/
def portAwake (s : State) (p : Nat) : Bool :=
  (match s.op.state with
    | .commissioning | .normal | .test | .safe => true
    | .lightSleep => bitOf (s.val 0x2400 0x0C) p
    | _ => false) &&
  segState s p != 1 && segState s p != 4 &&
  (if p < 6 then s.pins.phyReset.getLsbD p else if p < 30 then s.pins.phyReset.getLsbD (6 + (p - 6) / 4) else true)

def column (s : State) (j : Nat) : Column := (s.fab.columns[j]?).getD (Column.reset false)

def setColumn (s : State) (j : Nat) (c : Column) : State :=
  { s with fab := { s.fab with columns := s.fab.columns.setIfInBounds j c } }

def vget {n : Nat} (v : Vector Nat n) (i : Nat) : Nat := (v[i]?).getD 0

def bankState (c : Column) (b : Nat) : BankState := (c.banks[b]?).getD .retired

/-- Banks in service, and cells in service (R82). -/
def cellsInService (c : Column) : Nat := 512 * (c.banks.toList.filter (fun b => decide (b = .service))).length

/-- The row at a column's rotation pointer (R87): one row further at every slot since it started. -/
def columnPointer (s : State) (j : Nat) : Nat :=
  let slot := if j = 12 then 256 else if j = 13 then 16 else 32
  (s.time.mono - (column s j).since) / slot % 14

/-- Cells of a frame of L bytes (R81). -/
def cellsFor (len : Nat) : Nat := (len + 63) / 64

/-- Pool cells in use in a column. -/
def poolInUse (c : Column) : Nat := c.poolUsed.toList.foldl (· + ·) 0
def reserveInUse (c : Column) : Nat := c.reserveUsed.toList.foldl (· + ·) 0

/-- Cells charged to a Facet, all budgets. -/
def facetUsed (c : Column) (i : Nat) : Nat := vget c.minUsed i + vget c.poolUsed i + vget c.reserveUsed i

/-- Which budget takes a charge (R86); none: refused. -/
def admitBudget (s : State) (c : Column) (i j tc q : Nat) : Option Budget :=
  let share := s.val (0x3200 + j) (0x11 + i)
  let lim := s.val (0x3200 + j) (0x21 + tc)
  if c.failed then none
  else if vget c.minUsed i + q ≤ vget c.minimum i then some .minimum
  else if vget c.poolUsed i + q ≤ share ∧ 16 * (poolInUse c + q) ≤ c.pool * lim then some .pool
  else if tc = 7 ∧ reserveInUse c + q ≤ c.reserve then some .reserve
  else none

/-- The 512 bits of a bank among the cells of a column. -/
def bankMask (b : Nat) : BitVec 8704 := (BitVec.ofNat 8704 (2 ^ 512 - 1)) <<< (512 * b)

/-- A bank holds a cell in use. -/
def bankBusy (c : Column) (b : Nat) : Bool := c.inUse &&& bankMask b != 0

/-- The cells that give no new cell: those in use, and those of banks not in service. -/
def cellsBarred (c : Column) : BitVec 8704 :=
  (List.range 17).foldl (fun m b => if bankState c b = .service then m else m ||| bankMask b) c.inUse

/-- Physical cells for a charge: the lowest free positions of the banks in service (DESIGN CHOICE, log entry 23). -/
def takeCells (barred : BitVec 8704) (q : Nat) : List Nat :=
  match q with
  | 0 => []
  | n + 1 =>
    let free := ~~~barred
    if free = 0 then []
    else
      let k := (free &&& (0 - free)).toNat.log2
      k :: takeCells (barred ||| (1#8704 <<< k)) n

def occupy (m : BitVec 8704) (l : List Nat) : BitVec 8704 := l.foldl (fun x k => x ||| (1#8704 <<< k)) m
def vacate (m : BitVec 8704) (l : List Nat) : BitVec 8704 := l.foldl (fun x k => x &&& ~~~(1#8704 <<< k)) m

/-- A charge is taken in a column. -/
def chargeColumn (s : State) (i j q : Nat) (b : Budget) : State × Holding :=
  let c := column s j
  let places := takeCells (cellsBarred c) q
  let c1 := { c with inUse := occupy c.inUse places }
  let c2 := match b with
    | .minimum => { c1 with minUsed := vmod c1.minUsed i (· + q) }
    | .pool => { c1 with poolUsed := vmod c1.poolUsed i (· + q) }
    | .reserve => { c1 with reserveUsed := vmod c1.reserveUsed i (· + q) }
  let c3 := { c2 with highWater := vmod c2.highWater i (fun h => max h (facetUsed c2 i)) }
  (setColumn s j c3, { col := j, budget := b, charge := q, places := places })

/-- A draining bank whose last cell is released is retired (R102). -/
def settleDrain (s : State) (j : Nat) : State :=
  let c := column s j
  let done := c.draining.filter (fun e => !(bankBusy c e.1))
  if done.isEmpty then s
  else setColumn s j { c with
    banks := done.foldl (fun v e => v.setIfInBounds e.1 .retired) c.banks,
    draining := c.draining.filter (fun e => bankBusy c e.1) }

/-- Cells of a holding return to their budget (R88): all of them, or all but the first `keep`. -/
def returnCells (s : State) (i : Nat) (h : Holding) (keep : Nat) : State × Holding :=
  let n := h.charge - keep
  let c := column s h.col
  let c1 := { c with inUse := vacate c.inUse (h.places.drop keep) }
  let c2 := match h.budget with
    | .minimum => { c1 with minUsed := vmod c1.minUsed i (· - n) }
    | .pool => { c1 with poolUsed := vmod c1.poolUsed i (· - n) }
    | .reserve => { c1 with reserveUsed := vmod c1.reserveUsed i (· - n) }
  (settleDrain (setColumn s h.col c2) h.col, { h with charge := h.charge - n, places := h.places.take keep })

/-- A frame by its number. -/
def frameOf (s : State) (id : Nat) : Option Frame := s.fab.frames.find? (fun f => f.id == id)

def setFrame (s : State) (f : Frame) : State :=
  { s with fab := { s.fab with frames := s.fab.frames.map (fun g => if g.id == f.id then f else g) } }

/-- A frame whose last destination is done and that has ended leaves the fabric. -/
def dropIfDone (s : State) (id : Nat) : State :=
  match frameOf s id with
  | some f =>
    if f.dests.isEmpty ∧ f.ended then
      let s1 := f.holdings.foldl (fun t h => (returnCells t (fpOf f.ingress) h 0).1) s
      { s1 with fab := { s1.fab with frames := s1.fab.frames.filter (fun g => g.id != id) } }
    else s
  | none => s

/-- A destination of a frame is done: its cells return when it was the last of its column (R88, R90). -/
def doneDest (s : State) (id port : Nat) (mirror : Option Nat) : State :=
  match frameOf s id with
  | none => s
  | some f =>
    let ds := f.dests.erase (port, mirror)
    let j := fpOf port
    if ds.any (fun d => fpOf d.1 == j) then setFrame s { f with dests := ds }
    else
      let hs := f.holdings.filter (fun h => h.col == j)
      let s1 := hs.foldl (fun t h => (returnCells t (fpOf f.ingress) h 0).1) s
      dropIfDone (setFrame s1 { f with dests := ds, holdings := f.holdings.filter (fun h => h.col != j) }) id

/-- The queue number of a port and traffic class (R152). -/
def queueNo (port tc : Nat) : Nat := if port ≤ 38 then 8 * port + tc else 312 + 2 * (port - 39) + (if 6 ≤ tc then 1 else 0)

def queue (s : State) (q : Nat) : List Copy := (s.fab.queues[q]?).getD []

def egress (s : State) (p : Nat) : PortEgress := (s.fab.egress[p]?).getD PortEgress.reset

def setEgress (s : State) (p : Nat) (f : PortEgress → PortEgress) : State :=
  { s with fab := { s.fab with egress := vmod s.fab.egress p f } }

/-- The word of the entry in force. -/
def TimedList.word (l : TimedList) : Nat := match l.entries[l.index]? with | some e => e.1 | none => 0

/-- The gate states of a port (R164). -/
def gateStates (s : State) (port : Nat) : Nat :=
  if 37 < port then 0xFF
  else if !(s.on (0x3880 + port) 1) then 0xFF
  else match (egress s port).oper with
  | some l => l.word / 2 ^ 24
  | none => s.val (0x3880 + port) 5

/-- The idle slope of a class in bit/s (R160). -/
def idleSlope (s : State) (port c : Nat) : Nat := if port < 38 then s.val (0x3840 + port) (c + 1) * 8000 else 0

/-- Credits brought up to now (R160): a class falls by I − r while its frame is sent and what it was charged for is noted; a class
that waits gains I, or nothing while its gate is closed. -/
def creditsNow (s : State) (port : Nat) : State :=
  let e := egress s port
  let now : Int := s.time.mono
  let r : Int := rateOf (portLink s port).rate.toNat
  let gates := gateStates s port
  let sendingC := fun (c : Nat) => match e.sending with | some x => x.cls == c | none => false
  let upd := fun (c : Nat) (v dt : Int) =>
    let i : Int := idleSlope s port c
    let gain := i * 65536 * dt / 1000000000
    if i = 0 then 0
    else if dt ≤ 0 then v
    else if sendingC c then v + (i - r) * 65536 * dt / 1000000000
    else if !(queue s (queueNo port c)).isEmpty then (if bitOf gates c then v + gain else v)
    else if v < 0 then min (v + gain) 0
    else 0
  let at_ := fun (c : Nat) => (e.creditAt[c]?).getD 0
  setEgress s port (fun e => { e with
    credit := Vector.ofFn (fun (c : Fin 8) => upd c.val ((e.credit[c.val]?).getD 0) (now - at_ c.val)),
    creditAt := Vector.ofFn (fun (c : Fin 8) => max now (at_ c.val)),
    sending := e.sending.map (fun x => { x with spent := x.spent + (now - at_ x.cls).toNat }) })

/-- The credits of every port brought up to now. -/
def creditsAll (s : State) : State := (List.range 38).foldl creditsNow s

/-- A queue's copies change; the credits of its port are brought up to the change (R160), and a DRR queue that becomes empty loses a
positive deficit (R157). -/
def setQueue (s : State) (q : Nat) (l : List Copy) : State :=
  let t := creditsNow s (q / 8)
  let u := { t with fab := { t.fab with queues := t.fab.queues.setIfInBounds q l } }
  if l.isEmpty ∧ q < 312 ∧ q % 8 < s.val (0x3800 + q / 8) 1 then
    setEgress u (q / 8) (fun e => { e with deficit := vmod e.deficit (q % 8) (fun d => min d 0) })
  else u

/-- The depth of a queue in cells: the copies it holds, and those that will join it when their frame has ended (R154). -/
def queueDepth (s : State) (q : Nat) : Nat :=
  (queue s q).foldl (fun n c => n + c.cells) 0 +
    s.fab.frames.foldl (fun n f => (f.held.filter (fun h => h.1 == q)).foldl (fun m h => m + h.2.cells) n) 0

/-- The queue numbers of a port. -/
def queuesOf (port : Nat) : List Nat :=
  if port ≤ 38 then List.range' (8 * port) 8 else List.range' (312 + 2 * (port - 39)) 2

/-- The limit of a queue: 3800h.0B to 12, low and high for ports 39 to 42 (R154, R180). -/
def queueLimit (s : State) (port tc : Nat) : Nat :=
  if port ≤ 38 then s.val (0x3800 + port) (0x0B + tc) else s.val (0x3800 + port) (if 6 ≤ tc then 0x0C else 0x0B)

/-- A copy leaves the queues of its port, or what waits to join them. -/
def unqueue (s : State) (id port : Nat) (mirror : Option Nat) : State :=
  let gone := fun (c : Copy) => c.frame == id && c.mirror == mirror
  let s1 := (queuesOf port).foldl (fun u q =>
    if (queue u q).any gone then setQueue u q ((queue u q).filter (fun c => !(gone c))) else u) s
  match frameOf s1 id with
  | some f => setFrame s1 { f with held := f.held.filter (fun h => !(gone h.2 && (queuesOf port).contains h.1)) }
  | none => s1

/-- A copy is dropped without a count; its cells return with the last of its column (R88). -/
def dropCopy (s : State) (id port : Nat) (mirror : Option Nat) : State := doneDest (unqueue s id port mirror) id port mirror

/-- A copy is discarded at egress and counted in 3100h.0F (R88, R91). -/
def discardCopy (s : State) (id port : Nat) (mirror : Option Nat) : State := dropCopy (bumpN s 0x3100 port 0x0F) id port mirror

/-- A copy of a bad or lost frame: tail-marked where it is being sent (R93), else discarded (R91). -/
def failCopy (s : State) (id port : Nat) (mirror : Option Nat) : State :=
  let e := egress s port
  let its := fun (y : Sending) => y.frame == id && y.mirror == mirror
  if e.sending.any its || e.preempted.any its then
    let mk := fun (x : Option Sending) => x.map (fun y => if its y then { y with mark := true } else y)
    setEgress s port (fun e => { e with sending := mk e.sending, preempted := mk e.preempted })
  else discardCopy s id port mirror

/-- Every copy for a port is discarded at egress and counted (R88); a frame being sent ends there. -/
def discardQueues (s : State) (port : Nat) : State :=
  let s1 := setEgress s port (fun e => { e with sending := none, preempted := none })
  s1.fab.frames.foldl (fun t f => (f.dests.filter (fun d => d.1 == port)).foldl (fun u d => discardCopy u f.id d.1 d.2) t) s1

/-- A bad frame (R91): copies not started are discarded and counted, copies being sent are marked (R93). -/
def markBad (s : State) (id : Nat) : State :=
  match frameOf s id with
  | none => s
  | some f => f.dests.foldl (fun t d => failCopy t id d.1 d.2) (setFrame s { f with bad := true })

/-- CRC-32C, reflected, of a byte string from an initial value, with the final XOR (R97, R123, R190). -/
def crc32cByte (c : BitVec 32) (b : BitVec 8) : BitVec 32 :=
  let rec go (n : Nat) (x : BitVec 32) : BitVec 32 :=
    match n with
    | 0 => x
    | k + 1 => go k (if x.getLsbD 0 then (x >>> 1) ^^^ 0x82F63B78#32 else x >>> 1)
  go 8 (c ^^^ b.setWidth 32)

def crc32c (init : BitVec 32) (b : Bytes) : BitVec 32 := ~~~ (b.foldl crc32cByte init)

/-- H ⊕ (H >> 16). -/
def fold16 (h : BitVec 32) : Nat := (h ^^^ (h >>> 16)).toNat

/-- Members of an aggregation group, ascending (R96). -/
def groupMembers (s : State) (g : Nat) : List Nat := (List.range 6).filter (fun p => bitOf (s.val (0x3280 + g) 1) p)

/-- The group of a port. -/
def groupOf (s : State) (p : Nat) : Option Nat :=
  if p < 6 then (List.range 8).find? (fun g => bitOf (s.val (0x3280 + g) 1) p) else none

/-- The active members (R99): those whose link is up. -/
def activeMembers (s : State) (g : Nat) : List Nat := (groupMembers s g).filter (fun p => linkIsUp s p)

/-- The filling made at apply (R99). A group without members, whose table the spec gives no value, reads 64 bytes of 0xFF (DESIGN
CHOICE, log entry 166). -/
def lagFill (members : List Nat) : Bytes :=
  if members.isEmpty then List.replicate 64 0xFF
  else (List.range 64).map (fun k => BitVec.ofNat 8 ((members[k % members.length]?).getD 0xFF))

/-- The entries of a member that went down go in turn to the remaining active members (R99). -/
def lagReassign (t : Bytes) (gone : Nat) (act : List Nat) : Bytes :=
  if act.isEmpty then t
  else
    (t.foldl (fun (acc : Bytes × Nat) b =>
      if b.toNat = gone then (acc.1 ++ [BitVec.ofNat 8 ((act[acc.2 % act.length]?).getD 0xFF)], acc.2 + 1) else (acc.1 ++ [b], acc.2)) ([], 0)).1

/-- The members that carry traffic for a group (R114): their link forwards, and the table names them. -/
def carryingMembers (s : State) (g : Nat) : List Nat :=
  (groupMembers s g).filter (fun p => portForwards s p && ((s.fab.lag[g]?).getD []).any (fun b => b.toNat == p))

def activeBitmap (s : State) (g : Nat) : Nat := (carryingMembers s g).foldl (fun n p => n + 2 ^ p) 0

def setLag (s : State) (g : Nat) (t : Bytes) : State := { s with fab := { s.fab with lag := s.fab.lag.setIfInBounds g t } }

/-- The table of a group with the filling made at apply; the entries of members whose link is down go to the others, so that a frame for
the group leaves while it has an active member (R96, R99; DEDUCED, log entry 211). -/
def lagRestored (s : State) (g : Nat) : Bytes :=
  let act := activeMembers s g
  (groupMembers s g).foldl (fun t p => if act.contains p then t else lagReassign t p act) (lagFill (groupMembers s g))

/-- A member's link changed (R99). -/
def lagChange (s : State) (p : Nat) (up : Bool) : State :=
  match groupOf s p with
  | none => s
  | some g =>
    if up then
      if s.on (0x3280 + g) 4 then
        let t := setLag s g (lagRestored s g)
        raise t 0x3281 1 0xFF (be 1 g ++ be 1 (activeBitmap t g))
      else s
    else
      let t := (s.fab.lag[g]?).getD []
      raise (setLag s g (lagReassign t p (activeMembers s g))) 0x3281 1 0xFF (be 1 g ++ be 1 (activeBitmap s g))

/-- The budgets for a number of cells (R82, R103): pool, minima and reserve, taken in the order of R103. -/
def budgetsFor (cells : Nat) (minima ranks : List Nat) : Nat × List Nat × Nat :=
  let total := minima.foldl (· + ·) 0
  if total + 256 ≤ cells then (cells - 256 - total, minima, 256)
  else
    let short := total + 256 - cells
    let order := (List.range 8).flatMap (fun r => (List.range 14).reverse.filter (fun i => (ranks[i]?).getD 0 = r))
    let r := order.foldl (fun (acc : List Nat × Nat) i =>
      let m := (acc.1[i]?).getD 0
      let k := min m acc.2
      (acc.1.set i (m - k), acc.2 - k)) (minima, short)
    (0, r.1, 256 - r.2)

/-- The budgets of a column are formed again from the cells in service and the values in force (R82, R105). -/
def formBudgets (s : State) (j : Nat) : State :=
  let c := column s j
  let minima := (List.range 14).map (fun i => s.val (0x3200 + j) (i + 1))
  let ranks := (List.range 14).map (fun i => s.val (0x3200 + j) (0x31 + i))
  let b := budgetsFor (cellsInService c) minima ranks
  setColumn s j { c with pool := b.1, minimum := Vector.ofFn (fun (i : Fin 14) => (b.2.1[i.val]?).getD 0), reserve := b.2.2,
                         degraded := decide (b.2.1 ≠ minima) }

/-- The bank map goes into the journal (R105). -/
def journalBanks (s : State) (j : Nat) : State :=
  jAppend s (.bankMap j (bankMapOf (column s j))) .nobody

/-- A bank is worn (R102, R103, R104, R612): cause 1 threshold, 2 uncorrectable; the Facet number of the cell. -/
def bankWorn (s : State) (j bank cause facet : Nat) : State :=
  let c := column s j
  let detail := fun (t : State) => be 1 j ++ be 1 bank ++ be 2 facet ++ be 2 (cellsInService (column t j))
  match bankState c bank with
  | .spare =>
    let s1 := setColumn s j { c with banks := c.banks.setIfInBounds 16 .lost }
    let s2 := recordInclusion s1 1 5 (detail s1)
    marginEvents (journalBanks (raise s2 0x3207 3 0xFF (be 1 j ++ be 1 cause)) j) 0 false
  | .service =>
    let c1 := { c with banks := c.banks.setIfInBounds bank .draining, draining := c.draining ++ [(bank, s.time.mono)] }
    if spareUnused c then
      let s1 := setColumn s j { c1 with banks := c1.banks.setIfInBounds 16 .service }
      let s2 := recordInclusion s1 1 cause (detail s1)
      let s3 := raise s2 0x3201 2 0xFF (be 1 j ++ be 1 bank ++ be 1 cause)
      marginEvents (journalBanks (settleDrain s3 j) j) 0 false
    else
      let s1 := formBudgets (setColumn s j c1) j
      let s2 := recordInclusion s1 1 3 (detail s1)
      let d := column s2 j
      let s3 := raise s2 0x3202 3 0xFF (be 1 j ++ be 1 bank ++ be 2 (cellsInService d) ++ be 2 d.pool)
      let s4 := (List.range 14).foldl (fun t i =>
        if vget d.minimum i < vget c.minimum i then raise t 0x3204 3 0xFF (be 1 j ++ be 1 i ++ be 2 (vget d.minimum i)) else t) s3
      let s5 :=
        if cellsInService d < 256 ∧ !d.failed then
          let t := setColumn s4 j { column s4 j with failed := true }
          raise (recordInclusion t 1 4 (detail t)) 0x3205 4 0xFF (be 1 j)
        else s4
      marginEvents (journalBanks (settleDrain s5 j) j) 0 true
  | _ => s

/-- What the decoder says of a word read in a column is counted against its bank (R80, R101, R112): true where it was
uncorrectable. -/
def cellResult (s : State) (j bank facet : Nat) (r : Decoded) : State × Bool :=
  match r with
  | .word _ 0 => (s, false)
  | .word _ k =>
    let c := column s j
    let n := vget c.symbols bank + k
    let s1 := bumpW (setColumn s j { c with symbols := c.symbols.setIfInBounds bank n }) (0x3240 + j) 3 0 1
    if s1.val 0x2600 1 ≤ n then (bankWorn s1 j bank 1 facet, false) else (s1, false)
  | .uncorrectable =>
    let s1 := raise (bumpN s 0x3240 j 4) 0x3203 3 0xFF (be 1 j ++ be 2 facet ++ be 1 bank)
    (bankWorn s1 j bank 2 facet, true)

/-- The data of a word, as far as the decoder gives it. -/
def Decoded.data (r : Decoded) (n : Nat) (stored : Bytes) : Bytes := match r with | .word w _ => w.take n | .uncorrectable => stored

/-- A cell is read for a frame, and the word of the link memory that leads to it, whose symbols count against the same bank (R80; DEDUCED,
log entry 182): true where one was uncorrectable, and the data delivered. The contents of a link word are not given; its errors alone
decide, since the code is linear. -/
def readCell (s : State) (j bank facet : Nat) (d : Bytes) (r : CellRead) : State × Bool × Bytes :=
  let link := cellResult s j bank facet (readWord (zeros 64) r.link)
  let w := readWord d r.cell
  let cell := cellResult link.1 j bank facet w
  (cell.1, link.2 || cell.2, w.data 64 d)

/-- The pattern of the cell test (R101). -/
def testPattern : Bytes := List.replicate 64 0x55

/-- CELL_TEST (R101): one cell of an ungated column is tested in Commissioning, Normal, Test or Safe with the pattern and its
complement; a cell in use is skipped. -/
def execCellTest (col : Fin 14) (probe : CellProbe) (s : State) : Host.Outcome State Fault Refusal :=
  let c := column s col.val
  match s.op.state with
  | .commissioning | .normal | .test | .safe =>
    if c.gated then .next s
    else
      let s1 := setColumn s col.val { c with testPos := (c.testPos + 1) % 8704 }
      if c.inUse.getLsbD c.testPos then .next s1
      else
        let s2 := (cellResult s1 col.val (c.testPos / 512) 0xFFFF (readWord testPattern probe.pattern)).1
        .next (cellResult s2 col.val (c.testPos / 512) 0xFFFF (readWord (testPattern.map (~~~ ·)) probe.complement)).1
  | _ => .next s

/-- The discarding of the frames that hold cells in a bank 1 s after it began to drain (R102). -/
def drainTimeout (s : State) (j bank : Nat) : State :=
  let hit := s.fab.frames.filter (fun f => f.holdings.any (fun h => h.col == j && h.places.any (fun k => k / 512 == bank)))
  let s1 := hit.foldl (fun t f =>
    bumpN ((f.dests.filter (fun d => fpOf d.1 == j)).foldl (fun u d => failCopy u f.id d.1 d.2) t) 0x3240 j 0x0E) s
  let s2 := if hit.isEmpty then s1 else raise s1 0x3206 2 0xFF (be 1 j ++ be 1 bank ++ be 4 hit.length)
  let c := column s2 j
  journalBanks (setColumn s2 j { c with banks := c.banks.setIfInBounds bank .retired, draining := c.draining.filter (fun e => e.1 != bank) }) j

/-- BANK_DRAIN_TIMEOUT (R102): the bank that has drained longest is retired. -/
def execBankDrainTimeout (col : Fin 14) (s : State) : Host.Outcome State Fault Refusal :=
  match (column s col.val).draining with
  | e :: _ => .next (drainTimeout s col.val e.1)
  | [] => .next s

/-- The link state a port has without a link (R15, R108, R402): 3 isolated, 2 not present, 4 disabled, 0 down. -/
def restState (s : State) (p : Nat) : BitVec 8 :=
  let iso := match s.slp.segments[p]? with | some g => g.state == 4 | none => false
  if 38 < p then 1
  else if p = 38 then (if s.host.link = 1 then 1 else 0)
  else if portAbsent p (laneMode s p) then 2
  else if !(s.on (0x3000 + p) 1) then 4
  else if iso then 3
  else 0

/-- A change of a port's link state: counted, stamped and reported (R108, R115). -/
def linkChanged (s : State) (p : Nat) (state rate : BitVec 8) : State :=
  let s1 := setLink s p (fun l => { l with link := state, rate := rate, changedAt := s.time.tx })
  raise (bumpN s1 0x3000 p 9) 0x3001 1 p (be 1 p ++ be 1 state.toNat ++ be 1 rate.toNat)

/-- The highest rate a port may have (R161). -/
def highestRate (t : Tbl Bytes) (p : Nat) : Nat :=
  let mode := if p < 6 then cfgNat t 0x3040 (p + 1) else cfgNat t 0x3040 (7 + (p - 6) / 4)
  let r := modeRates p mode
  if r.isEmpty then 0
  else
    let c := cfgNat t (0x3000 + p) 3
    if c = 0 then r.foldl (fun m x => max m (rateOf x)) 0 else rateOf c

/-- The sum of the idle slopes of a port in bit/s (R161). -/
def slopeSum (t : Tbl Bytes) (p : Nat) : Nat := (List.range 8).foldl (fun n c => n + cfgNat t (0x3840 + p) (c + 1) * 8000) 0

/-- The preemption status of a port takes a value (R176, R185): a change raises event 3902h, and no Set-And-Hold-MAC is in force while
preemption is not active (R163). -/
def setPreemption (s : State) (p : Nat) (status : BitVec 8) (attempts : Nat) : State :=
  let was := (egress s p).preemption
  let s1 := setEgress s p (fun e => { e with preemption := status, attempts := attempts, hold := e.hold && status == 2 })
  if was = status then s1 else raise s1 0x3902 1 p (be 1 p ++ be 1 status.toNat)

/-- What preemption does at link-up (R176): active at once without verification, else the first verify mPacket. -/
def preemptStart (s : State) (p : Nat) : State :=
  if p < 6 ∧ s.on (0x3900 + p) 1 then
    if s.on (0x3900 + p) 4 then setPreemption s p 2 0
    else emit (setPreemption s p 1 1) (.mpacket p 0)
  else s

/-- Is a column gated (R106)? -/
def columnGated (s : State) (j : Nat) : Bool :=
  decide (j < 12) && s.on 0x3260 1 &&
    !((List.range 30).any (fun p => fpOf p == j && s.on (0x3000 + p) 1 && (decide (p < 6) || decide (0 < laneMode s p))))

/-- Values of this chapter's status objects (R108, R111, R113, R114). -/
def liveFabric (s : State) (idx sub : Nat) : Option Bytes :=
  if 0x3000 ≤ idx ∧ idx ≤ 0x302A then
    let p := idx - 0x3000
    let l := portLink s p
    match sub with
    | 2 => some [l.link]
    | 4 => some [l.rate]
    | 7 => some (be 1 (fpOf p))
    | 8 => some (be 1 (if 6 ≤ p ∧ p < 30 then subPort p else 0xFF))
    | 10 => some (txBytes l.changedAt)
    | _ => none
  else if 0x3220 ≤ idx ∧ idx ≤ 0x322D then
    let j := idx - 0x3220
    let c := column s j
    let retired := (c.banks.toList.filter (fun b => decide (b = .retired))).length
    match sub with
    | 1 => some (be 2 (cellsInService c))
    | 2 => some (be 2 c.pool)
    | 3 => some (be 2 (poolInUse c))
    | 4 => some (be 2 (reserveInUse c))
    | 5 => some (be 1 (match bankState c 16 with
        | .spare => 0
        | .lost => 3
        | _ => if 0 < retired then 2 else 1))
    | 6 => some (be 1 retired)
    | 7 => some (be 1 (match c.draining with | e :: _ => e.1 | [] => 0xFF))
    | 8 => some (be 1 (if c.failed then 3 else if c.gated then 0 else if c.degraded then 2 else 1))
    | _ =>
      if 0x11 ≤ sub ∧ sub ≤ 0x1E then some (be 2 (facetUsed c (sub - 0x11)))
      else if 0x21 ≤ sub ∧ sub ≤ 0x2E then some (be 2 (vget c.highWater (sub - 0x21)))
      else none
  else if idx = 0x3260 ∧ sub = 2 then
    some (be 2 ((List.range 14).foldl (fun n j => n + (if (column s j).gated then 2 ^ j else 0)) 0))
  else if 0x3280 ≤ idx ∧ idx ≤ 0x3287 then
    match sub with
    | 5 => some (be 1 (activeBitmap s (idx - 0x3280)))
    | 6 => some ((s.fab.lag[idx - 0x3280]?).getD [])
    | _ => none
  else none

/-- The cross-object rules of this chapter (R15, R83, R96, R108): the first object that breaks one, with the reason, and true
where event 3002h is raised with the cause given. -/
def fabricRules (t : Tbl Bytes) (cells : Nat → Nat) : Option (Nat × Nat × Option (Nat × Nat)) :=
  let mode := fun p => if p < 6 then cfgNat t 0x3040 (p + 1) else cfgNat t 0x3040 (7 + (p - 6) / 4)
  match (List.range 30).find? (fun p => cfgNat t (0x3000 + p) 1 ≠ 0 && portAbsent p (mode p)) with
  | some p => some (okey (0x3000 + p) 1, 4, some (p, 1))
  | none =>
    match (List.range 38).find? (fun p =>
      let c := cfgNat t (0x3000 + p) 3
      c ≠ 0 && !((modeRates p (mode p)).contains c)) with
    | some p => some (okey (0x3000 + p) 3, 4, some (p, 2))
    | none =>
      match (List.range 14).find? (fun j =>
        decide (cells j < (List.range 14).foldl (fun n i => n + cfgNat t (0x3200 + j) (i + 1)) 0 + 2304)) with
      | some j => some (okey (0x3200 + j) 1, 5, none)
      | none =>
        let mem := fun g => (List.range 6).filter (fun p => bitOf (cfgNat t (0x3280 + g) 1) p)
        match (List.range 8).find? (fun g => decide (64 ≤ cfgNat t (0x3280 + g) 1)) with
        | some g => some (okey (0x3280 + g) 1, 1, none)
        | none =>
          match (List.range 8).find? (fun g =>
            (mem g).any (fun p => (List.range g).any (fun h => (mem h).contains p)) ||
            (mem g).any (fun p => cfgNat t (0x3000 + p) 3 ≠ cfgNat t (0x3000 + (mem g).headD 0) 3) ||
            (mem g).any (fun p => cfgNat t 0x2A01 (p + 1) ≠ cfgNat t 0x2A01 ((mem g).headD 0 + 1))) with
          | some g => some (okey (0x3280 + g) 1, 4, none)
          | none => none

end Sys2Proof.Machine
end

