-- ==== Sys2Proof/Machine/Lists.lean ====
section
/-! DEFINITION. The cycle arithmetic that egress gate lists and stream gate lists share (R132, R165 to R171). -/

namespace Sys2Proof.Machine

/-- The entries of a list image after its header: the upper 32 bits of each entry, and its interval. -/
def listEntries (b : Bytes) (n : Nat) : List (Nat × Nat) :=
  (List.range n).map (fun i => (beAt b (16 + 8 * i) 4, beAt b (16 + 8 * i + 4) 4))

/-- A list image as a list that has not started. -/
def listOf (b : Bytes) (n : Nat) : TimedList :=
  { entries := listEntries b n, cycle := beAt b 8 4, extension := beAt b 12 4, cycleStart := 0, entryStart := 0, index := 0 }

/-- The grid point of a base time for an apply at A (R166). -/
def gridPoint (base now : T32) (cycle : Nat) : T32 :=
  let d := (base - now).toNat
  if d ≤ 2147483648 then base
  else
    let p := 2 ^ 32 - d
    if cycle = 0 then now else base + BitVec.ofNat 32 ((p + cycle - 1) / cycle * cycle)

/-- The first grid point at or after a moment, going by whole cycles from a point that may be past (R168). -/
def gridFrom (point now : T32) (cycle : Nat) : T32 := gridPoint point now cycle

/-- A list started at a cycle start. -/
def TimedList.startAt (l : TimedList) (c : T32) : TimedList := { l with cycleStart := c, entryStart := c, index := 0 }

/-- The interval of the entry in force. -/
def TimedList.interval (l : TimedList) : Nat := match l.entries[l.index]? with | some e => e.2 | none => 0

/-- The start of the next entry (R165). -/
def TimedList.nextStart (l : TimedList) : T32 := l.entryStart + BitVec.ofNat 32 l.interval

/-- The next entry takes effect; after the last, the next cycle starts (R165). -/
def TimedList.advance (l : TimedList) : TimedList :=
  if l.index + 1 < l.entries.length then { l with entryStart := l.nextStart, index := l.index + 1 }
  else
    let c := l.cycleStart + BitVec.ofNat 32 l.cycle
    { l with cycleStart := c, entryStart := c, index := 0 }

/-- The cycle due at the end of the last entry is not started, because the incoming list starts within the cycle extension
(R169): the last entry runs on. -/
def heldForSwap (l : TimedList) (p : Option PendingList) : Bool :=
  match p with
  | none => false
  | some q =>
    let s := l.cycleStart + BitVec.ofNat 32 l.cycle
    let gap := (q.c - s).toNat
    q.event.isNone && decide (l.entries.length ≤ l.index + 1) && decide (0 < gap) && decide (gap < l.cycle) && decide (gap ≤ l.extension) &&
      decide ((s - q.fixedAt).toNat ≤ 2147483648)

/-- The entry that the grid puts in force at an offset within the cycle that started at `c` (R171). -/
def TimedList.resume (l : TimedList) (c : T32) (off : Nat) : TimedList :=
  let rec go (es : List (Nat × Nat)) (i : Nat) (at' : Nat) (left : Nat) : Nat × Nat :=
    match es with
    | [] => (i - 1, at')
    | e :: r => if left < e.2 ∨ r.isEmpty then (i, at') else go r (i + 1) (at' + e.2) (left - e.2)
  let r := go l.entries 0 0 off
  { l with cycleStart := c, index := r.1, entryStart := c + BitVec.ofNat 32 r.2 }

/-- A running list after a step of T32 by Δ to the time given (R171): on its grid for |Δ| < 2³¹, else restarted at the step instant. The
time elapsed in the cycle before the step is less than 2³² ns. -/
def TimedList.stepped (l : TimedList) (delta : Int) (now : T32) : TimedList × Bool :=
  if delta.natAbs < 2147483648 ∧ 0 < l.cycle then
    let before := now - BitVec.ofInt 32 delta
    let d : Int := (before - l.cycleStart).toNat + delta
    let k := d / (l.cycle : Int)
    (l.resume (l.cycleStart + BitVec.ofInt 32 (k * l.cycle)) (d % (l.cycle : Int)).toNat, false)
  else (l.startAt now, true)

/-- The grid point of a swap that waits for its event moves on by whole cycles, so that it never lies more than one cycle behind T32
(R168). -/
def PendingList.advance (p : PendingList) (now : T32) : PendingList :=
  if p.event.isSome ∧ dueT32 p.c now ∧ p.list.cycle ≤ (now - p.c).toNat then
    { p with c := p.c + BitVec.ofNat 32 ((now - p.c).toNat / max 1 p.list.cycle * p.list.cycle) }
  else p

end Sys2Proof.Machine
end

