-- ==== Sys2Proof/Machine/Lookup.lean ====
section
/-! DEFINITION. Lookup, streams and policing (chapter 04): parsing, forwarding table, streams, meters, stream gates,
recovery and PRP, with the commands FORWARDING_AGEING_SCAN, the flushes, MOVE_LOCK_EXPIRY, REOPEN_GATE, CLEAR_ALL_RED,
STREAM_GATE_ENTRY_START, RECOVERY_RESET_TIMEOUT, LATENT_ERROR_CHECK and PRP_ENTRY_FORGET. -/

namespace Sys2Proof.Machine

/-- What Lookup reads of a frame's first 128 bytes (R116). An absent field is none. -/
structure Parsed where
  dmac : Nat
  smac : Nat
  /-- Outer VLAN tag: VID, PCP. -/
  tag : Option (Nat × Nat)
  tags : Nat
  rtag : Option Nat
  /-- The EtherType after the VLAN tags, and the one after an R-tag that may follow them. -/
  tagType : Option Nat
  etherType : Option Nat
  /-- Offset of the first payload byte after the EtherType. -/
  payload : Nat
  ipVersion : Option Nat
  dscp : Option Nat
  proto : Option Nat
  src : Option Nat
  dst : Option Nat
  l4src : Option Nat
  l4dst : Option Nat
  flags : Option Nat
  /-- Identification, offset and more-fragments flag of a fragment. -/
  frag : Option (Nat × Nat × Bool)
  incomplete : Bool
deriving DecidableEq, Repr

/-- A field within the first 128 bytes. -/
def field (h : Bytes) (off n : Nat) : Option Nat := if off + n ≤ min 128 h.length then some (beAt h off n) else none

/-- VLAN tags from an offset: outer tag, how many, offset of the EtherType after them (R116). -/
def skipTags (h : Bytes) (tpid : Nat) : Option (Nat × Nat) × Nat × Nat :=
  let isTag := fun (o : Nat) => match field h o 2 with
    | some t => t == 0x8100 || (t == 0x88A8 && tpid == 0x88A8)
    | none => false
  if isTag 12 then
    let tci := (field h 14 2).getD 0
    let outer := some (tci % 4096, tci / 8192)
    if isTag 16 then (outer, 2, 20) else (outer, 1, 16)
  else (none, 0, 12)

/-- IPv6 extension headers skipped, at most four: next header, its offset, fragment fields (R116). -/
def skipExt (h : Bytes) (nh : Option Nat) (off : Nat) (fr : Option (Nat × Nat × Bool)) (fuel : Nat) :
    Option Nat × Nat × Option (Nat × Nat × Bool) :=
  match nh with
  | none => (none, off, fr)
  | some t =>
    let isExt := t == 0 || t == 43 || t == 60 || t == 44
    if !isExt then (some t, off, fr)
    else match fuel with
    | 0 => (none, off, fr)
    | k + 1 =>
      if t = 44 then
        let fr1 := match field h (off + 2) 2, field h (off + 4) 4 with
          | some w, some ident => some (ident, w / 8, bitOf w 0)
          | _, _ => fr
        skipExt h (field h off 1) (off + 8) fr1 k
      else skipExt h (field h off 1) (off + ((field h (off + 1) 1).getD 0 + 1) * 8) fr k

/-- The parse of a frame's head; the port's tag EtherType decides which tags count (R116). -/
def parse (h : Bytes) (tpid : Nat) : Parsed :=
  let tg := skipTags h tpid
  let o := tg.2.2
  let et0 := field h o 2
  let isR := et0 == some 0xF1C1
  let rseq := if isR then field h (o + 4) 2 else none
  let oe := if isR then o + 6 else o
  let et := if isR then field h oe 2 else et0
  let p := oe + 2
  let base : Parsed :=
    { dmac := beAt h 0 6, smac := beAt h 6 6, tag := tg.1, tags := tg.2.1, rtag := rseq, tagType := et0, etherType := et, payload := p,
      ipVersion := none, dscp := none, proto := none, src := none, dst := none, l4src := none, l4dst := none, flags := none,
      frag := none, incomplete := et.isNone || (isR && rseq.isNone) }
  let l4 := fun (x : Parsed) (off : Nat) (known : Bool) =>
    match x.proto with
    | some 6 => if known then
        let y := { x with l4src := field h off 2, l4dst := field h (off + 2) 2, flags := field h (off + 13) 1 }
        { y with incomplete := y.incomplete || y.l4src.isNone || y.l4dst.isNone }
      else x
    | some 17 => if known then
        let y := { x with l4src := field h off 2, l4dst := field h (off + 2) 2 }
        { y with incomplete := y.incomplete || y.l4src.isNone || y.l4dst.isNone }
      else x
    | _ => x
  match et with
  | some 0x0800 =>
    let ihl := match field h p 1 with | some b => b % 16 * 4 | none => 20
    let fr := match field h (p + 6) 2, field h (p + 4) 2 with
      | some w, some ident => if w % 16384 = 0 then none else some (ident, w % 8192, bitOf w 13)
      | _, _ => none
    let x := { base with
      ipVersion := some 4, dscp := (field h (p + 1) 1).map (· / 4), proto := field h (p + 9) 1, src := field h (p + 12) 4,
      dst := field h (p + 16) 4, frag := fr }
    let x1 := { x with incomplete := x.incomplete || x.dscp.isNone || x.proto.isNone || x.src.isNone || x.dst.isNone }
    l4 x1 (p + ihl) (match fr with | some f => f.2.1 == 0 | none => true)
  | some 0x86DD =>
    let e := skipExt h (field h (p + 6) 1) (p + 40) none 4
    let x := { base with
      ipVersion := some 6, dscp := (field h p 2).map (fun w => w / 64 % 64), proto := e.1, src := field h (p + 8) 16,
      dst := field h (p + 24) 16, frag := e.2.2 }
    let x1 := { x with incomplete := x.incomplete || x.dscp.isNone || x.proto.isNone || x.src.isNone || x.dst.isNone }
    l4 x1 e.2.1 (match e.2.2 with | some f => f.2.1 == 0 | none => true)
  | _ => base

/-- The device's own address of a port 38 to 42 (R117). -/
def ownMac (p : Nat) : Nat :=
  let pre := match p with | 38 => 0x0A | 39 => 0x02 | 40 => 0x06 | 41 => 0x0E | _ => 0x12
  pre * 2 ^ 40 + Config.unitId.toNat % 2 ^ 40

/-- An own address of the device (R117). -/
def isOwnMac (mac : Nat) : Bool := (List.range' 38 5).any (fun p => ownMac p == mac)

/-- The internal header of a frame from ports 38 to 42 (R117, R215; layout: DEDUCED, log entry 24): PCP and VID, traffic class, kind (0
a frame by its addresses, 1 a legacy message, 2 a datagram for the port it names), source bus and identifier, destination bus and
identifier; a legacy frame's routing entry and mode follow. -/
def hdrPcp (h : Bytes) : Nat := beAt h 0 2 / 8192
def hdrVid (h : Bytes) : Nat := beAt h 0 2 % 4096
def hdrTc (h : Bytes) : Nat := byteAt h 2 % 8
def hdrLegacy (h : Bytes) : Bool := byteAt h 3 == 1
def hdrDatagram (h : Bytes) : Bool := byteAt h 3 == 2
def hdrSrcBus (h : Bytes) : Nat := beAt h 4 2
def hdrSrcId (h : Bytes) : Nat := beAt h 6 4
def hdrDstBus (h : Bytes) : Nat := beAt h 10 2
def hdrDstId (h : Bytes) : Nat := beAt h 12 4

/-- The VLAN table entry of a VID as a number; 0 where the image is shorter (R121, R148). -/
def vlanEntry (t : Tbl Bytes) (vid : Nat) : Nat := beAt (cfgBytes t 0x3500 1) (16 * vid) 16

def vlanMembers (e : Nat) : List Nat := (List.range 43).filter (fun p => bitOf e (43 + p))

/-- The bucket of a forwarding key (R123). -/
def fwdBucket (fid mac : Nat) : Nat := fold16 (crc32c 0xFFFFFFFF#32 (be 2 fid ++ be 6 mac)) % 4096

/-- The positions where a key may stand: the four ways of its bucket, then the CAM. -/
def fwdFind (s : State) (fid mac : Nat) : Option (Nat × FwdEntry) :=
  let b := fwdBucket fid mac
  s.look.fwd.find? (fun e => (e.1 / 4 == b || decide (16384 ≤ e.1)) && e.2.fid == fid && e.2.mac == mac)

/-- The first free position for a key (R125). -/
def fwdFree (s : State) (fid mac : Nat) : Option Nat :=
  let b := fwdBucket fid mac
  let free := fun (k : Nat) => (tget s.look.fwd k).isNone
  match (List.range' (4 * b) 4).find? free with
  | some k => some k
  | none => (List.range' 16384 256).find? free

def setFwd (s : State) (t : Tbl FwdEntry) : State := { s with look := { s.look with fwd := t } }

/-- The port set of a multicast group (R124). -/
def mcastGroup (s : State) (g : Nat) : List Nat :=
  let e := beAt (cfgBytes s.cfg 0x3510 5) (8 * g) 8
  (List.range 43).filter (fun p => bitOf e p)

/-- The operating state allows learning and ageing (R23). -/
def learningState (s : State) : Bool :=
  match s.op.state with
  | .commissioning | .normal | .test => true
  | _ => false

/-- The operating state forwards Ethernet frames (R23, R30). -/
def forwardingState (s : State) : Bool :=
  match s.op.state with
  | .commissioning | .normal | .test | .lightSleep | .safe => true
  | _ => false

/-- Source learning at the end of a good frame (R125, R128); the device's own addresses are never learned (R117). -/
def learn (s : State) (port fid mac : Nat) : State :=
  if learningState s ∧ s.on 0x3400 2 ∧ s.on (0x3440 + port) 0x0A ∧ !(isOwnMac mac) then
    let dest := match groupOf s port with | some g => 0x80 + g | none => port
    match fwdFind s fid mac with
    | some (pos, e) =>
      if e.static then (if e.dest = dest ∧ !e.group then s else bump s 0x3520 4)
      else if e.dest = dest then setFwd s (tput s.look.fwd pos { e with age := 0 })
      else
        let recent := e.moves.filter (fun m => decide (s.time.mono < m + 1000000000))
        let lim := s.val 0x3400 4
        if e.locked then bump s 0x3520 7
        else if lim ≠ 0 ∧ lim ≤ recent.length then
          let s1 := bump (setFwd s (tput s.look.fwd pos { e with locked := true, moves := recent })) 0x3520 7
          raise s1 0x3502 2 0xFF (be 2 fid ++ be 6 mac ++ be 2 e.dest)
        else bump (setFwd s (tput s.look.fwd pos { e with dest := dest, port := port, age := 0, moves := s.time.mono :: recent })) 0x3520 4
    | none =>
      let lim := s.val (0x3440 + port) 9
      let have_ := (s.look.fwd.filter (fun e => !e.2.static && e.2.port == port)).length
      if lim ≠ 0 ∧ lim ≤ have_ then raiseLimited (bumpN s 0x3480 port 0x0C) port 1000000000 0x3441 2 port (be 1 port)
      else match fwdFree s fid mac with
      | some pos =>
        let e : FwdEntry :=
          { fid := fid, mac := mac, static := false, discard := false, group := false, dest := dest, age := 0,
            port := port, moves := [], locked := false }
        bumpW (setFwd s (tput s.look.fwd pos e)) 0x3520 3 0 1
      | none => raiseLimited (bump s 0x3520 5) 0 1000000000 0x3501 2 0xFF (be 2 fid ++ be 6 mac)
  else s

/-- What the reductions of R126 leave of a set: the destinations, and the members of groups for which the frame is refused because no
member is active, or the member that the table names (R99; of the latter: DESIGN CHOICE, log entry 179). -/
def reduceSet (s : State) (set vlanSet : List Nat) (ingress : Nat) (hash : Nat → Nat) : List Nat × List Nat :=
  let own := groupOf s ingress
  let s1 := set.filter (fun p => vlanSet.contains p)
  let s2 := s1.filter (fun p => p != ingress && (match own with | some g => groupOf s p != some g | none => true))
  let s3 := s2.filter (fun p => portForwards s p)
  let plain := s3.filter (fun p => (groupOf s p).isNone)
  let groups := (List.range 8).filter (fun g => s3.any (fun p => groupOf s p == some g))
  let chosen := groups.map (fun g => byteAt ((s.fab.lag[g]?).getD []) (hash g % 64))
  let live := chosen.filter (fun p => portForwards s p)
  let dead := ((List.range 8).filter (fun g => s2.any (fun p => groupOf s p == some g) && (activeMembers s g).isEmpty)).flatMap (groupMembers s)
  (((List.range 43).filter (fun p => plain.contains p || live.contains p)), dead ++ chosen.filter (fun p => !(portForwards s p)))

/-- The bytes hashed for an aggregation group (R97, R98): a field that the frame does not carry gives zero bytes. -/
def lagHash (s : State) (ingress handle : Nat) (x : Parsed) (g : Nat) : Nat :=
  let f := s.val (0x3280 + g) 2
  let opt := fun (n : Nat) (v : Option Nat) => be n (v.getD 0)
  let part := fun (i : Nat) (b : Bytes) => if bitOf f i then b else []
  let b := part 0 (be 6 x.dmac) ++ part 1 (be 6 x.smac) ++ part 2 (opt 2 (x.tag.map (fun t => t.1))) ++ part 3 (opt 2 x.tagType) ++ part 4 (opt 16 x.src) ++
    part 5 (opt 16 x.dst) ++ part 6 (opt 1 x.proto) ++ part 7 (opt 2 x.l4src) ++ part 8 (opt 2 x.l4dst) ++ part 9 (be 2 handle) ++
    part 10 (be 1 ingress)
  fold16 (crc32c (BitVec.ofNat 32 (s.val (0x3280 + g) 3)) b)

/-- A stream identification entry matches (R129). -/
def streamMatch (e : Nat) (port vid : Nat) (x : Parsed) : Bool :=
  let meth := bitsOf e 510 509
  let macOk := if meth = 1 then bitsOf e 441 394 == x.smac
    else if meth = 0 then bitsOf e 441 394 == x.dmac
    else !(bitOf e 393) || bitsOf e 441 394 == x.dmac
  let vidOk := !(bitOf e 454) || bitsOf e 453 442 == vid
  let cmp := fun (flag : Nat) (f : Option Nat) (v : Nat) => !(bitOf e flag) || f == some v
  let v6 := bitOf e 392
  let ipOk := if meth = 2 then
      x.ipVersion == some (if v6 then 6 else 4) && cmp 391 x.src (if v6 then bitsOf e 255 128 else bitsOf e 159 128) &&
      cmp 390 x.dst (if v6 then bitsOf e 127 0 else bitsOf e 31 0) && cmp 389 x.dscp (bitsOf e 385 380) &&
      cmp 388 x.proto (bitsOf e 379 372) && cmp 387 x.l4src (bitsOf e 371 356) && cmp 386 x.l4dst (bitsOf e 355 340)
    else true
  bitOf e 511 && meth != 3 && bitOf e (455 + port) && macOk && vidOk && ipOk

/-- The handle of a frame: the first entry that matches (R129). -/
def streamHandle (s : State) (port vid : Nat) (x : Parsed) : Nat :=
  let img := cfgBytes s.cfg 0x3600 1
  match (List.range (img.length / 64)).find? (fun i => streamMatch (beAt img (64 * i) 64) port vid x) with
  | some i => bitsOf (beAt img (64 * i) 64) 508 498
  | none => 0x07FF

/-- The filter entry of a handle as a number; 0 where there is none (R130). -/
def filterEntry (s : State) (h : Nat) : Nat := if h = 0x07FF then 0 else beAt (cfgBytes s.cfg 0x3610 1) (8 * h) 8

/-- A meter's entry (R133). -/
def meterEntry (t : Tbl Bytes) (m : Nat) : Nat := beAt (cfgBytes t 0x3620 1) (16 * m) 16

def meterOf (s : State) (m : Nat) : Meter :=
  let e := meterEntry s.cfg m
  (tget s.look.meters m).getD { c := (bitsOf e 81 61 * 65536 : Nat), e := (bitsOf e 60 40 * 65536 : Nat), last := s.time.mono, allRed := false }

def setMeter (s : State) (m : Nat) (x : Meter) : State := { s with look := { s.look with meters := tput s.look.meters m x } }

/-- A meter refilled to now (R133). -/
def refill (e : Nat) (x : Meter) (now : Nat) : Meter :=
  let dt := now - x.last
  let c := x.c + (bitsOf e 123 103 * 65536 * dt / 1000000 : Nat)
  let cbs : Int := (bitsOf e 81 61 * 65536 : Nat)
  let spill := if cbs < c then c - cbs else 0
  let e1 := x.e + (bitsOf e 102 82 * 65536 * dt / 1000000 : Nat) + (if bitOf e 126 then spill else 0)
  { x with c := min c cbs, e := min e1 (bitsOf e 60 40 * 65536 : Nat), last := now }

/-- A meter's decision at the verdict (R133, R134): 0 green, 1 yellow, 2 red (or dropped on yellow), 3 meter not valid. -/
def meterDecide (s : State) (m : Nat) : State × Nat :=
  let e := meterEntry s.cfg m
  if !(bitOf e 127) then (s, 3)
  else
    let x := refill e (meterOf s m) s.time.mono
    let s1 := setMeter s m x
    let colour := if x.allRed then 2 else if 0 ≤ x.c then 0 else if 0 ≤ x.e then 1 else 2
    if colour = 2 then
      if bitOf e 124 ∧ !x.allRed then (raise (setMeter s1 m { x with allRed := true }) 0x3602 2 0xFF (be 2 m ++ be 1 1), 2) else (s1, 2)
    else if colour = 1 ∧ bitOf e 125 then (s1, 2)
    else (s1, colour)

/-- The charge at a frame's end, on the bucket refilled to then; true for the committed bucket (R133). -/
def meterCharge (s : State) (m : Nat) (green : Bool) (len : Nat) : State :=
  let e := meterEntry s.cfg m
  let ov := bitsOf e 39 33
  let n : Int := ((len : Int) + (if ov < 64 then (ov : Int) else (ov : Int) - 128)) * 65536
  let x := refill e (meterOf s m) s.time.mono
  setMeter s m (if green then { x with c := x.c - n } else { x with e := x.e - n })

def gateOf (s : State) (g : Nat) : StreamGate :=
  (tget s.look.gates g).getD { running := none, pending := none, octets := 0, closed := false }

def setGate (s : State) (g : Nat) (x : StreamGate) : State := { s with look := { s.look with gates := tput s.look.gates g x } }

/-- The header of a stream gate record (R132). -/
def gateHeader (t : Tbl Bytes) (g : Nat) : Nat := beAt (cfgBytes t 0x3630 1) (528 * g) 16

/-- A stream gate closes permanently (R132): cause 1 invalid receive, 2 octets, 3 oversize. -/
def closeGate (s : State) (g cause : Nat) : State :=
  let x := gateOf s g
  if x.closed then s else raise (setGate s g { x with closed := true }) 0x3601 3 0xFF (be 1 g ++ be 1 cause)

/-- A stream gate's decision at the verdict (R132, R134): passed, and the traffic class its entry gives. -/
def gateDecide (s : State) (g : Nat) : State × Bool × Option Nat :=
  let h := gateHeader s.cfg g
  if !(bitOf h 127) then (s, false, none)
  else
    let x := gateOf s g
    if x.closed then (s, false, none)
    else match x.running with
    | none => (s, true, none)
    | some l =>
      let w := l.word
      let om := w % 2 ^ 24
      if !(bitOf w 31) then ((if bitOf h 126 then closeGate s g 1 else s), false, none)
      else if om ≠ 0 ∧ om ≤ x.octets then ((if bitOf h 125 then closeGate s g 2 else s), false, none)
      else (s, true, if bitOf w 30 then some (bitsOf w 29 27) else none)

/-- The FRER entry of a handle (R136). -/
def frerEntry (s : State) (h : Nat) : Nat := if h = 0x07FF then 0 else beAt (cfgBytes s.cfg 0x3700 1) (4 * h) 4

/-- A recovery function's entry (R137). -/
def recoveryEntry (t : Tbl Bytes) (f : Nat) : Nat := beAt (cfgBytes t 0x3700 2) (8 * f) 8

def recoveryOf (s : State) (f : Nat) : Recovery :=
  (tget s.look.recoveries f).getD { takeAny := true, timed := false, recov := 0, history := [], passed := 0, dups := 0, latent := false }

def setRecovery (s : State) (f : Nat) (x : Recovery) : State := { s with look := { s.look with recoveries := tput s.look.recoveries f x } }

/-- Several counts on one S32 counter. -/
def bumpBy (s : State) (idx sub sel shown n : Nat) : State := (List.range n).foldl (fun t _ => bumpAt t idx sub sel shown) s

/-- The recovery function's decision on a frame that ended well (R138): pass. 3710h.08 counts every frame without an R-tag, passed or
discarded (DESIGN CHOICE, log entry 169). -/
def recoveryDecide (s : State) (f port : Nat) (seq : Option Nat) : State × Bool :=
  let e := recoveryEntry s.cfg f
  let len := bitsOf e 61 56
  let x := recoveryOf s f
  match seq with
  | none =>
    let s1 := bumpAt s 0x3710 8 f 0x3710
    if bitOf e 62 then (bumpW (setRecovery s1 f { x with passed := x.passed + 1, timed := true }) 0x3710 3 f 1, true) else (s1, false)
  | some n =>
    if x.takeAny then
      (bumpW (setRecovery s f { x with takeAny := false, recov := n, history := true :: List.replicate (len - 1) false, passed := x.passed + 1, timed := true }) 0x3710 3 f 1, true)
    else
      let d := signed 2 ((n + 65536 - x.recov) % 65536)
      if (len : Int) ≤ d ∨ d ≤ -(len : Int) then (bumpAt s 0x3710 6 f 0x3710, false)
      else if d ≤ 0 then
        let i := (-d).toNat
        if (x.history[i]?).getD false then
          (bumpW (bumpW (setRecovery s f { x with dups := x.dups + 1 }) 0x3710 4 f 1) (0x3480 + port) 9 0 1, false)
        else
          (bumpW (bumpAt (setRecovery s f { x with history := x.history.set i true, passed := x.passed + 1, timed := true }) 0x3710 5 f 0x3710) 0x3710 3 f 1, true)
      else
        let k := d.toNat
        let out := (x.history.drop (len - k)).filter (fun b => !b)
        let hist := (true :: (List.replicate (k - 1) false ++ x.history)).take len
        (bumpW (bumpBy (setRecovery s f { x with history := hist, recov := n, passed := x.passed + 1, timed := true }) 0x3710 7 f 0x3710 out.length) 0x3710 3 f 1, true)

/-- A recovery function is reset (R138): cause 1 timeout, 2 apply. -/
def recoveryReset (s : State) (f cause : Nat) : State :=
  let x := recoveryOf s f
  raise (bumpAt (setRecovery s f { x with takeAny := true, timed := false, history := [] }) 0x3710 9 f 0x3710) 0x3702 1 0xFF (be 2 f ++ be 1 cause)

/-- RECOVERY_RESET_TIMEOUT (R138): acts on a function whose reset timer runs, which a passed frame starts. -/
def execRecoveryResetTimeout (fn : Fin 1024) (s : State) : Host.Outcome State Fault Refusal :=
  if bitOf (recoveryEntry s.cfg fn.val) 63 ∧ (recoveryOf s fn.val).timed = true then .next (recoveryReset s fn.val 1) else .next s

/-- The check of one recovery function (R139). -/
def latentCheck (s : State) (f : Nat) : State :=
  let x := recoveryOf s f
  let diff := (x.passed - x.dups) + (x.dups - x.passed)
  let excess := decide (s.val 0x3700 3 < diff)
  let s1 := setRecovery s f { x with passed := 0, dups := 0, latent := excess }
  if excess ∧ !x.latent then raise s1 0x3701 3 0xFF (be 2 f ++ be 4 x.passed ++ be 4 x.dups) else s1

/-- LATENT_ERROR_CHECK (R139): every function that has taken part since it was loaded is compared. -/
def execLatentErrorCheck (s : State) : Host.Outcome State Fault Refusal :=
  .next ((s.look.recoveries.map (fun e => e.1)).foldl latentCheck s)

/-- The PRP pair of a port, with true for the plane-A port (R140). -/
def prpPair (s : State) (port : Nat) : Option (Nat × Bool) :=
  (List.range 3).foldl (fun (acc : Option (Nat × Bool)) i =>
    let v := s.val 0x3720 (i + 1)
    if v = 0xFFFF then acc else if v / 256 = port then some (i, true) else if v % 256 = port then some (i, false) else acc) none

/-- PRP_ENTRY_FORGET (R140): the key leaves the duplicate table. -/
def execPrpEntryForget (mac : BitVec 48) (seq : BitVec 16) (s : State) : Host.Outcome State Fault Refusal :=
  .next { s with look := { s.look with prpKeys := s.look.prpKeys.erase (mac.toNat, seq.toNat) } }

/-- FORWARDING_AGEING_SCAN (R125): every learned entry ages; one at Age 3 already is removed and counted. -/
def execForwardingAgeingScan (s : State) : Host.Outcome State Fault Refusal :=
  if learningState s then
    let old := s.look.fwd.filter (fun e => !e.2.static && decide (3 ≤ e.2.age))
    let keep := s.look.fwd.filter (fun e => e.2.static || decide (e.2.age < 3))
    .next (bumpW (setFwd s (keep.map (fun e => if e.2.static then e else (e.1, { e.2 with age := e.2.age + 1 })))) 0x3520 6 0 old.length)
  else .next s

/-- Learned entries for which the test holds are removed (R148). -/
def flushLearned (s : State) (test : FwdEntry → Bool) : State := setFwd s (s.look.fwd.filter (fun e => e.2.static || !(test e.2)))

/-- FLUSH_ALL_LEARNED (R148). -/
def execFlushAllLearned (ses : SessionNo) (s : State) : Host.Outcome State Fault Refusal :=
  .next (command s ses 0x3510 2 [1] (fun t => (flushLearned t (fun _ => true), 0)))

/-- FLUSH_PORT_LEARNED (R148): the port in 3510h.03; entries of its aggregation group stand for the port that taught them. -/
def execFlushPortLearned (ses : SessionNo) (s : State) : Host.Outcome State Fault Refusal :=
  .next (command s ses 0x3510 2 [2] (fun t => (flushLearned t (fun e => e.port == t.val 0x3510 3), 0)))

/-- FLUSH_FID_LEARNED (R148): the FID in 3510h.04. -/
def execFlushFidLearned (ses : SessionNo) (s : State) : Host.Outcome State Fault Refusal :=
  .next (command s ses 0x3510 2 [3] (fun t => (flushLearned t (fun e => e.fid == t.val 0x3510 4), 0)))

/-- MOVE_LOCK_EXPIRY (R128). -/
def execMoveLockExpiry (pos : Nat) (s : State) : Host.Outcome State Fault Refusal :=
  match tget s.look.fwd pos with
  | some e => if e.locked then .next (setFwd s (tput s.look.fwd pos { e with locked := false, moves := [] })) else .next s
  | none => .next s

/-- REOPEN_GATE (R132, R148). -/
def execReopenGate (ses : SessionNo) (gate : BitVec 8) (s : State) : Host.Outcome State Fault Refusal :=
  .next (command s ses 0x3630 2 [gate] (fun t => (setGate t gate.toNat { gateOf t gate.toNat with closed := false }, 0)))

/-- CLEAR_ALL_RED (R133, R148): a write to 3641h.07 for the meter the session has selected; 1 clears, another value is out of
range. -/
def clearAllRed (s : State) (ses : Nat) (v : Nat) : State × Nat :=
  let m := getOwn s ses 0x3641 3
  let x := meterOf s m
  if v ≠ 1 then (s, 8)
  else if x.allRed then (raise (setMeter s m { x with allRed := false }) 0x3602 2 0xFF (be 2 m ++ be 1 0), 0)
  else (s, 0)

def execClearAllRed (ses : SessionNo) (value : BitVec 8) (s : State) : Host.Outcome State Fault Refusal :=
  .next (command s ses 0x3641 7 [value] (fun t => clearAllRed t ses.val value.toNat))

/-- STREAM_GATE_ENTRY_START (R132, R165, R169): a pending list starts at its first cycle start; otherwise the next entry
takes effect when its start is due, and the octet count restarts. -/
def execStreamGateEntryStart (gate : Fin 256) (s : State) : Host.Outcome State Fault Refusal :=
  let x := gateOf s gate.val
  match x.pending with
  | some p =>
    if dueT32 p.c s.now then .next (setGate s gate.val { x with running := some (p.list.startAt p.c), pending := none, octets := 0 })
    else match x.running with
    | some l => if dueT32 l.nextStart s.now ∧ !heldForSwap l x.pending then .next (setGate s gate.val { x with running := some l.advance, octets := 0 }) else .next s
    | none => .next s
  | none =>
    match x.running with
    | some l => if dueT32 l.nextStart s.now then .next (setGate s gate.val { x with running := some l.advance, octets := 0 }) else .next s
    | none => .next s

/-- The 16 bytes of a forwarding entry (R124). -/
def fwdBytes (e : FwdEntry) : Bytes :=
  be 16 (2 ^ 127 + boolNat e.static * 2 ^ 126 + boolNat e.discard * 2 ^ 125 + boolNat e.group * 2 ^ 124 + e.fid * 2 ^ 112 + e.mac * 2 ^ 64 +
    e.dest * 2 ^ 54 + (if e.static then 0 else min 3 e.age) * 2 ^ 52)

/-- Values of this chapter's status objects (R145, R148). -/
def liveLookup (s : State) (ses idx sub : Nat) : Option Bytes :=
  if idx = 0x3400 ∧ sub = 9 then some (be 6 (ownMac 39))
  else if idx = 0x3400 ∧ sub = 10 then some (be 6 (ownMac 40))
  else if idx = 0x3510 ∧ sub = 6 then some (be 2 s.look.fwd.length)
  else if idx = 0x3511 then
    if sub = 1 then some (be 2 (getOwn s ses idx 1))
    else if sub = 2 then some (match tget s.look.fwd (getOwn s ses idx 1) with | some e => fwdBytes e | none => zeros 16)
    else none
  else if idx = 0x3630 ∧ sub = 3 then
    some (be 32 (s.look.gates.foldl (fun n e => if e.2.closed then n + 2 ^ e.1 else n) 0))
  else if idx = 0x3641 then
    let m := getOwn s ses idx 3
    let x := if bitOf (meterEntry s.cfg m) 127 then refill (meterEntry s.cfg m) (meterOf s m) s.time.mono else { c := 0, e := 0, last := 0, allRed := false }
    match sub with
    | 1 | 2 | 3 => some (be 2 (getOwn s ses idx sub))
    | 4 => some (beInt 4 (x.c.tdiv 65536))
    | 5 => some (beInt 4 (x.e.tdiv 65536))
    | 6 => some (be 1 (boolNat x.allRed))
    | _ => none
  else if idx = 0x3720 ∧ sub = 5 then some (be 2 s.look.prpKeys.length)
  else none

/-- A static entry of the image as a table entry. -/
def staticEntry (e : Nat) : FwdEntry :=
  { fid := bitsOf e 123 112, mac := bitsOf e 111 64, static := true, discard := bitOf e 125, group := bitOf e 124,
    dest := bitsOf e 63 54, age := 0, port := 0xFF, moves := [], locked := false }

/-- The valid entries of the static forwarding image; an own address of the device is never held (R117). -/
def staticEntries (t : Tbl Bytes) : List FwdEntry :=
  let img := cfgBytes t 0x3510 1
  ((List.range (img.length / 16)).map (fun i => beAt img (16 * i) 16)).filterMap (fun e =>
    if bitOf e 127 && !(isOwnMac (bitsOf e 111 64)) then some (staticEntry e) else none)

/-- A static entry is placed (R128): a free way, else a way that a learned entry leaves, then the CAM likewise; none where
neither has room. A learned entry with the same key goes. -/
def placeStatic (t : Tbl FwdEntry) (e : FwdEntry) : Option (Tbl FwdEntry) :=
  let t0 := t.filter (fun x => !(x.2.fid == e.fid && x.2.mac == e.mac && !x.2.static))
  let ways := List.range' (4 * fwdBucket e.fid e.mac) 4
  let cam := List.range' 16384 256
  let free := fun (k : Nat) => (tget t0 k).isNone
  let soft := fun (k : Nat) => match tget t0 k with | some x => !x.static | none => true
  match ways.find? free with
  | some k => some (tput t0 k e)
  | none => match ways.find? soft with
    | some k => some (tput t0 k e)
    | none => match cam.find? free with
      | some k => some (tput t0 k e)
      | none => (cam.find? soft).map (fun k => tput t0 k e)

/-- Static entries placed one after another; none where one fits nowhere. -/
def placeAll (t : Tbl FwdEntry) (es : List FwdEntry) : Option (Tbl FwdEntry) :=
  es.foldl (fun acc e => acc.bind (fun u => placeStatic u e)) (some t)

/-- A stream gate record starts anew at an apply (R132): its list waits for its first cycle start. -/
def applyGate (s : State) (g : Nat) : State :=
  let b := slice (cfgBytes s.cfg 0x3630 1) (528 * g) 528
  let x := gateOf s g
  if bitOf (beAt b 0 16) 127 then
    let n := bitsOf (beAt b 0 16) 118 112
    let l := listOf b n
    setGate s g { x with pending := some { list := l, c := gridPoint (BitVec.ofNat 32 (beAt b 4 4)) s.now l.cycle, event := none, fixedAt := s.now, image := b } }
  else setGate s g { x with running := none, pending := none, octets := 0 }

/-- What an apply changes in Lookup (R128, R132, R133). -/
def applyLookup (old : Tbl Bytes) (s : State) : State :=
  let same := fun (idx sub : Nat) => cfgBytes old idx sub == cfgBytes s.cfg idx sub
  let s1 :=
    if same 0x3500 1 then s
    else
      let moved := (List.range 4096).filter (fun v =>
        bitOf (vlanEntry old v) 127 && bitsOf (vlanEntry old v) 124 113 != bitsOf (vlanEntry s.cfg v) 124 113)
      let fids := moved.map (fun v => bitsOf (vlanEntry old v) 124 113)
      flushLearned s (fun e => fids.contains e.fid)
  let s2 :=
    if same 0x3510 1 then s1
    else match placeAll (s1.look.fwd.filter (fun e => !e.2.static)) (staticEntries s1.cfg) with
      | some t => setFwd s1 t
      | none => s1
  let s3 :=
    if same 0x3620 1 then s2
    else
      let keep := s2.look.meters.filter (fun m => bitOf (meterEntry old m.1) 127 && bitOf (meterEntry s2.cfg m.1) 127)
      { s2 with look := { s2.look with meters := keep.map (fun m =>
          let x := refill (meterEntry old m.1) m.2 s2.time.mono
          (m.1, { x with c := min x.c (bitsOf (meterEntry s2.cfg m.1) 81 61 * 65536 : Nat), e := min x.e (bitsOf (meterEntry s2.cfg m.1) 60 40 * 65536 : Nat) })) } }
  let fresh := fun (t : State) => (List.range ((cfgBytes t.cfg 0x3620 1).length / 16)).foldl (fun u m =>
    if bitOf (meterEntry u.cfg m) 127 ∧ (tget u.look.meters m).isNone then setMeter u m (meterOf u m) else u) t
  let s4 := if same 0x3620 1 then s3 else fresh s3
  if same 0x3630 1 then s4
  else (List.range 256).foldl (fun t g =>
    if slice (cfgBytes old 0x3630 1) (528 * g) 528 = slice (cfgBytes t.cfg 0x3630 1) (528 * g) 528 then t else applyGate t g) s4

/-- A recovery function whose entry changes at an apply is reset (R138); a start finds every function new. -/
def applyRecoveries (old : Tbl Bytes) (s : State) : State :=
  if cfgBytes old 0x3700 2 == cfgBytes s.cfg 0x3700 2 then s
  else (List.range 1024).foldl (fun t f =>
    if recoveryEntry old f = recoveryEntry t.cfg f then t else recoveryReset t f 2) s

/-- Fields of a range that must be 0. -/
def reservedZero (e hi lo : Nat) : Bool := bitsOf e hi lo == 0

/-- The rules for a valid stream gate record (R132). -/
def gateRecordRule (b : Bytes) : Option Nat :=
  let h := beAt b 0 16
  let n := bitsOf h 118 112
  let cyc := bitsOf h 63 32
  let es := (List.range n).map (fun i => beAt b (16 + 8 * i) 8)
  if n = 0 ∨ 64 < n ∨ cyc < 1000 ∨ !(reservedZero h 124 119) ∨ !(reservedZero h 111 96) ∨
      es.any (fun e => decide (e % 2 ^ 32 < 64) || !(reservedZero e 58 56)) then some 1
  else if es.foldl (fun t e => t + e % 2 ^ 32) 0 ≠ cyc then some 4
  else none

/-- The rules of this chapter (R121, R124, R128, R132, R133, R135 to R137, R140, R141): the first object that breaks one. The zone of a
mirror's destination is checked of enabled sessions only (DESIGN CHOICE, log entry 170). -/
def lookupRules (t : Tbl Bytes) (learned : Tbl FwdEntry) : Option (Nat × Nat) :=
  let img := fun (idx sub : Nat) => cfgBytes t idx sub
  let ents := fun (idx sub size : Nat) => (List.range ((img idx sub).length / size)).map (fun i => beAt (img idx sub) (size * i) size)
  let vl := ents 0x3500 1 16
  let sts := (ents 0x3510 1 16).filter (fun e => bitOf e 127)
  let keys := sts.map (fun e => bitsOf e 123 64)
  let mode := fun (p : Nat) => cfgNat t (0x3440 + p) 0x0B
  let plane := fun (p : Nat) => cfgNat t 0x2A01 (p + 1)
  let frer := ents 0x3700 1 4
  let grp := fun (g : Nat) => let e := beAt (img 0x3510 5) (8 * g) 8; (List.range 6).filter (fun p => bitOf e p && mode p == 1)
  if bitOf (vlanEntry t 0) 127 ∨ bitOf (vlanEntry t 4095) 127 ∨ vl.any (fun e => !(reservedZero e 112 86)) then some (okey 0x3500 1, 1)
  else if sts.any (fun e => bitOf e 124 == false && !(decide (bitsOf e 63 54 ≤ 42) || (decide (0x80 ≤ bitsOf e 63 54) && decide (bitsOf e 63 54 ≤ 0x87)))) then some (okey 0x3510 1, 1)
  else if keys.eraseDups.length ≠ keys.length then some (okey 0x3510 1, 4)
  else if (placeAll (learned.filter (fun e => !e.2.static)) (staticEntries t)).isNone then some (okey 0x3510 1, 5)
  else if (ents 0x3510 5 8).any (fun e => !(reservedZero e 63 43)) then some (okey 0x3510 5, 1)
  else if ((ents 0x3600 1 64).filter (fun e => bitOf e 511)).any (fun e => bitsOf e 510 509 == 3 || bitsOf e 508 498 == 2047) then some (okey 0x3600 1, 1)
  else if ((ents 0x3610 1 8).filter (fun e => bitOf e 63)).any (fun e =>
      let m := bitsOf e 40 27
      m != 0 && (decide (m < 64) || decide (9216 < m))) then some (okey 0x3610 1, 1)
  else if ((ents 0x3620 1 16).filter (fun e => bitOf e 127)).any (fun e => let ov := bitsOf e 39 33
      decide (1250000 < bitsOf e 123 103) || decide (1250000 < bitsOf e 102 82) || decide (1048576 < bitsOf e 81 61) ||
      decide (1048576 < bitsOf e 60 40) || (decide (64 ≤ ov) && decide (ov < 96))) then some (okey 0x3620 1, 1)
  else match ((List.range ((img 0x3630 1).length / 528)).map (fun i => slice (img 0x3630 1) (528 * i) 528)).findSome? (fun b =>
      if bitOf (beAt b 0 16) 127 then gateRecordRule b else none) with
  | some r => some (okey 0x3630 1, r)
  | none =>
    if ((ents 0x3700 2 8).filter (fun e => bitOf e 63)).any (fun e =>
        decide (bitsOf e 61 56 < 2) || decide (32 < bitsOf e 61 56) || bitsOf e 55 40 == 0) then some (okey 0x3700 2, 1)
    else if frer.any (fun e => bitOf e 19 && (!(bitOf e 31) || !((grp (bitsOf e 18 9)).any (fun p => plane p == 1)) || !((grp (bitsOf e 18 9)).any (fun p => plane p == 2)))) then
      some (okey 0x3700 1, 4)
    else match (List.range 43).find? (fun p => mode p ≠ 0 && (decide (6 ≤ p) || cfgNat t (0x3000 + p) 6 ≠ 0)) with
    | some p => some (okey (0x3440 + p) 0x0B, 4)
    | none =>
      match (List.range 3).find? (fun i =>
        let v := cfgNat t 0x3720 (i + 1)
        v != 0xFFFF && !(decide (v / 256 < 6) && decide (v % 256 < 6) && plane (v / 256) == 1 && plane (v % 256) == 2 && mode (v / 256) == 2 && mode (v % 256) == 2)) with
      | some i => some (okey 0x3720 (i + 1), 4)
      | none =>
        match (List.range 4).find? (fun m => cfgNat t (0x3740 + m) 1 ≠ 0 && cfgNat t (0x3C40 + cfgNat t (0x3740 + m) 5) 1 ≠ 0) with
        | some m => some (okey (0x3740 + m) 5, 4)
        | none => none

end Sys2Proof.Machine
end

