-- ==== Sys2Proof/Machine/Egress.lean ====
section
/-! DEFINITION. Egress queues, shapers, gate lists and preemption (chapter 05), with the commands TRANSMISSION_SELECTION,
FRAME_TRANSMIT_END, GATE_LIST_ENTRY_START, GATE_LIST_SWAP, PREEMPTION_VERIFY_TIMER, RESPOND_MPACKET_RECEIVED and
VERIFY_MPACKET_RECEIVED. -/

namespace Sys2Proof.Machine

/-- The FCS of a byte string as it is sent: CRC-32, least significant byte first. -/
def fcsOf (b : Bytes) : Bytes := le 4 (crc32 b).toNat

/-- Bytes of a frame without its FCS. -/
def noFcs (b : Bytes) : Bytes := b.take (b.length - 4)

/-- The PRP trail (R140): sequence, LAN identifier, LSDU size, suffix. -/
def prpTrail (seq : Nat) (planeA : Bool) (size : Nat) : Bytes :=
  be 2 seq ++ be 2 ((if planeA then 0xA else 0xB) * 4096 + size % 4096) ++ be 2 0x88FB

/-- The parts of a stored frame without its FCS: addresses, outer tag, inner tag, what follows an R-tag, and the R-tag's sequence. -/
structure FrameParts where
  addresses : Bytes
  outer : Bytes
  inner : Bytes
  rest : Bytes
  rtag : Option Nat
deriving DecidableEq, Repr

def partsOf (b : Bytes) (tpid : Nat) : FrameParts :=
  let x := parse b tpid
  let d := noFcs b
  { addresses := d.take 12, outer := if x.tags = 0 then [] else slice d 12 4, inner := if x.tags = 2 then slice d 16 4 else [],
    rest := d.drop (12 + 4 * x.tags + (if x.rtag.isSome then 6 else 0)), rtag := x.rtag }

/-- The frame as a port sends it (R122, R135, R140): outer tag, R-tag and PRP trail edited, FCS formed anew. A trapped frame, which is
not classified, keeps its tags. A frame that the edits make shorter than 60 bytes is padded with zero bytes, before a PRP trail (DESIGN
CHOICE, log entry 168). -/
def editFrame (s : State) (f : Frame) (port : Nat) : Bytes :=
  let v := f.verdict
  let x := partsOf f.bytes (s.val (0x3440 + f.ingress) 4)
  let rest := if v.prpCut then x.rest.take (x.rest.length - 6) else x.rest
  let mode := if port < 6 then s.val (0x3440 + port) 0x0B else 0
  let tag :=
    if v.trap.isSome then x.outer
    else if bitOf (vlanEntry s.cfg v.vid) port then []
    else be 2 (s.val (0x3440 + port) 4) ++ be 2 (v.pcp * 8192 + boolNat v.yellow * 4096 + v.vid)
  let seq := match v.seqNo with | some n => some n | none => x.rtag
  let rtag := if mode = 1 then (match seq with | some n => be 2 0xF1C1 ++ be 2 0 ++ be 2 n | none => []) else []
  let d := x.addresses ++ tag ++ x.inner ++ rtag ++ rest
  let trail :=
    if mode = 2 then
      match prpPair s port with
      | some q => (v.prp.find? (fun e => e.1 == q.1)).map (fun e => (e.2, q.2))
      | none => none
    else none
  let d1 := d ++ zeros ((if trail.isSome then 54 else 60) - d.length)
  let d2 := match trail with
    | some (n, planeA) => d1 ++ prpTrail n planeA (d1.length + 6 - 14 - tag.length - x.inner.length)
    | none => d1
  if d2 = noFcs f.bytes then f.bytes else d2 ++ fcsOf d2

/-- A mirror copy (R142): the frame as its port would send it, cut and with its trailer where configured, before a new FCS. -/
def mirrorBytes (s : State) (f : Frame) (port m : Nat) : Bytes :=
  let idx := 0x3740 + m
  let cut := s.val idx 7
  let e := editFrame s f port
  let d := noFcs e
  let isCut := decide (cut ≠ 0) && decide (cut < d.length)
  let d1 := if isCut then d.take cut else d
  if s.on idx 6 ∨ isCut then
    let egressSrc := f.verdict.set.any (fun q => bitOf (s.val idx 3) q)
    let tr := if s.on idx 6 then
        be 2 0x4D49 ++ be 1 m ++ be 1 f.ingress ++ be 4 f.stamp.toNat ++ be 2 f.verdict.handle ++
          be 1 (boolNat egressSrc + 2 * boolNat isCut) ++ be 1 0 ++ be 4 f.bytes.length
      else []
    let d2 := d1 ++ tr
    let d3 := d2 ++ zeros (60 - d2.length)
    d3 ++ fcsOf d3
  else e

/-- The bytes a copy is sent with. -/
def sentBytes (s : State) (f : Frame) (port : Nat) (mirror : Option Nat) : Bytes :=
  match mirror with
  | some m => mirrorBytes s f port m
  | none => editFrame s f port

/-- Preemption is active on a port (R176). -/
def preemptActive (s : State) (port : Nat) : Bool := decide (port < 6) && (egress s port).preemption == 2

/-- A class is preemptable on a port (R175). -/
def preemptable (s : State) (port c : Nat) : Bool := decide (port < 6) && bitOf (s.val (0x3900 + port) 2) c

/-- Nanoseconds until the gate of a class closes, from the remaining part of the entry in force; none: never (R172). -/
def openFrom (es : List (Nat × Nat)) (i rest c : Nat) : Option Nat :=
  let n := es.length
  let isOpen_ := fun (k : Nat) => match es[k % n]? with | some e => bitOf e.1 (24 + c) | none => true
  if (List.range n).all isOpen_ then none
  else if !(isOpen_ i) then some 0
  else
    let rec go (k left acc : Nat) : Nat :=
      match left with
      | 0 => acc
      | m + 1 => if isOpen_ k then go (k + 1) m (acc + (match es[k % n]? with | some e => e.2 | none => 0)) else acc
    some (go (i + 1) n rest)

/-- Nanoseconds until a moment that may be past. -/
def untilT32 (at_ now : T32) : Nat := if dueT32 at_ now then 0 else (at_ - now).toNat

/-- Nanoseconds until the gate of a class closes with the list that runs, or without one (R164, R172). -/
def closesRunning (s : State) (port c : Nat) : Option Nat :=
  match (egress s port).oper with
  | none => if bitOf (gateStates s port) c then none else some 0
  | some l => openFrom l.entries l.index (untilT32 l.nextStart s.now) c

/-- The same up to a swap in `gap` nanoseconds (R169): where the cycle due before it is not started, the last entry runs on. -/
def closesUntilSwap (s : State) (port c gap : Nat) : Option Nat :=
  match (egress s port).oper with
  | none => closesRunning s port c
  | some l =>
    let toEnd := untilT32 (l.cycleStart + BitVec.ofNat 32 l.cycle) s.now
    let last := toEnd + (gap - toEnd) / max 1 l.cycle * l.cycle
    match closesRunning s port c with
    | some n => if toEnd ≤ gap ∧ last < gap ∧ gap ≤ last + l.extension ∧ last ≤ n then none else some n
    | none => none

/-- Nanoseconds until the gate of a class of a port closes, looking through a pending swap (R172). -/
def closesIn (s : State) (port c : Nat) : Option Nat :=
  match (egress s port).pending with
  | none => closesRunning s port c
  | some p =>
    let at_ := if p.event.isNone then p.c else gridFrom p.c s.now p.list.cycle
    let gap := untilT32 at_ s.now
    let incoming := (openFrom p.list.entries 0 (match p.list.entries with | x :: _ => x.2 | [] => 0) c).map (gap + ·)
    let path := match closesUntilSwap s port c gap with
      | some n => if n < gap then some n else incoming
      | none => incoming
    if p.event.isNone then path
    else match closesRunning s port c, path with
      | none, y => y
      | x, none => x
      | some x, some y => some (min x y)

/-- The largest frame length limit of an enabled port (R172). -/
def largestLimit (s : State) : Nat := (List.range 43).foldl (fun m p => if s.on (0x3000 + p) 1 then max m (s.val (0x3000 + p) 5) else m) 0

/-- The length a guard band reckons with (R172). -/
def guardLength (s : State) (port c : Nat) (f : Option Frame) (mirror : Option Nat) : Nat :=
  if preemptActive s port ∧ preemptable s port c then 64 * (1 + s.val (0x3900 + port) 3)
  else
    let trailer := match mirror with | some m => if s.on (0x3740 + m) 6 then 16 else 0 | none => 0
    if s.val (0x3800 + port) 0x13 = 1 then
      let dest := (List.range 4).any (fun m => s.on (0x3740 + m) 1 && s.on (0x3740 + m) 6 && s.val (0x3740 + m) 5 == port)
      largestLimit s + 10 + (if dest then 16 else 0)
    else match f with
    | some g =>
      if g.ended then (sentBytes s g port mirror).length
      else s.val (0x3000 + g.ingress) 5 + 10 + trailer
    | none => 9216 + 10

/-- Gate open and guard band met for a frame on a class of a port (R156, R172). -/
def gateAllows (s : State) (port c : Nat) (f : Option Frame) (mirror : Option Nat) : Bool :=
  if 37 < port ∨ !(s.on (0x3880 + port) 1) then true
  else if !(bitOf (gateStates s port) c) then false
  else match closesIn s port c with
  | none => true
  | some t => decide ((guardLength s port c f mirror + 20) * 8 * 1000000000 ≤ t * rateOf (portLink s port).rate.toNat)

/-- A queue may be served (R156); on a TS port the command stands for a transmit opportunity (DEDUCED, log entry 25). -/
def eligible (s : State) (port c : Nat) : Bool :=
  match queue s (queueNo port c) with
  | [] => false
  | k :: _ =>
    match frameOf s k.frame with
    | none => false
    | some f =>
      let e := egress s port
      (f.ended || k.cut) && gateAllows s port c (some f) k.mirror &&
        (idleSlope s port c == 0 || decide (rateOf (portLink s port).rate.toNat ≤ idleSlope s port c) || decide (0 ≤ (e.credit[c]?).getD 0)) &&
        !(preemptActive s port && preemptable s port c && (e.hold || e.preempted.isSome))

/-- The deficit round robin below the strict threshold (R157), over the queues that the test finds eligible. -/
def drrPick (s : State) (ok : Nat → Bool) (port thr : Nat) (ptr : Nat) (deficit : Vector Int 8) (topped : Vector Bool 8) (fuel : Nat) :
    Option (Nat × Vector Int 8 × Vector Bool 8) :=
  match fuel with
  | 0 => none
  | n + 1 =>
    let c := ptr
    let d := (deficit[c]?).getD 0
    let next := (ptr + 1) % thr
    if ok c then
      if 0 < d then some (c, deficit, topped)
      else if (topped[c]?).getD false then drrPick s ok port thr next deficit (topped.setIfInBounds next false) n
      else
        let d1 := d + (s.val (0x3800 + port) (c + 3) : Int)
        let def1 := deficit.setIfInBounds c d1
        let top1 := topped.setIfInBounds c true
        if 0 < d1 then some (c, def1, top1) else drrPick s ok port thr next def1 (top1.setIfInBounds next false) n
    else drrPick s ok port thr next deficit (topped.setIfInBounds next false) n

/-- The queue a free MAC selects (R157, R159): the class, and the port with its round robin advanced. A pointer that an apply has left
at or above S is taken modulo S (DESIGN CHOICE, log entry 171). -/
def selectClass (s : State) (ok : Nat → Bool) (port : Nat) : State × Option Nat :=
  let thr := s.val (0x3800 + port) 1
  match (List.range 8).reverse.find? (fun c => decide (thr ≤ c) && ok c) with
  | some c => (s, some c)
  | none =>
    if (List.range thr).any ok then
      let e := egress s port
      match drrPick s ok port thr (e.ptr % (max thr 1)) e.deficit e.topped 1100000 with
      | some r => (setEgress s port (fun x => { x with ptr := r.1, deficit := r.2.1, topped := r.2.2 }), some r.1)
      | none => (s, none)
    else (s, none)

/-- The Facet number of a frame in a column (R78). -/
def facetOf (f : Frame) (port : Nat) : Nat := 14 * fpOf f.ingress + fpOf port

/-- Cell k of a frame is read in the column of a port (R80): true where it is uncorrectable, and its data. -/
def frameCell (s : State) (f : Frame) (port k : Nat) (r : Option CellRead) : State × Bool × Bytes :=
  let d := padTo 64 (slice f.bytes (64 * k) 64)
  match r, f.holdings.find? (fun h => h.col == fpOf port) with
  | some x, some h => readCell s (fpOf port) ((h.places[k]?).getD 0 / 512) (facetOf f port) d x
  | _, _ => (s, false, d)

/-- The cells of a frame from one on are read in turn (R80): true where one is uncorrectable, and the bytes read. -/
def readFrame (s : State) (f : Frame) (port start : Nat) (reads : List CellRead) : State × Bool × Bytes :=
  (List.range' start (cellsFor f.bytes.length - start)).foldl (fun (acc : State × Bool × Bytes) k =>
    let x := frameCell acc.1 f port k reads[k - start]?
    (x.1, acc.2.1 || x.2.1, acc.2.2 ++ x.2.2)) (s, false, [])

/-- The recheck of the received FCS over the bytes read (R93). -/
def recheckFails (f : Frame) (b : Bytes) : Bool := !f.bad && decide (b.drop (b.length - 4) ≠ fcsOf (noFcs b))

/-- The first copy of a queue leaves it (R155). -/
def dequeue (s : State) (port c : Nat) : State := setQueue s (queueNo port c) ((queue s (queueNo port c)).drop 1)

/-- A copy at the head of a queue that may not be sent is discarded (R91, R93, R156). -/
def dropHead (s : State) (port c ctr : Nat) : State :=
  match queue s (queueNo port c) with
  | k :: _ => doneDest (bumpN (dequeue s port c) 0x3100 port ctr) k.frame port k.mirror
  | [] => s

/-- Where the frame that a port sends may be preempted (R177): at the first point at which the fragment has the least length that the
additional fragment size allows, and at least 64 bytes are left. -/
def preemptPoint (s : State) (port : Nat) (x : Sending) (f : Frame) : Option Nat :=
  let rate := rateOf (portLink s port).rate.toNat
  let gone := (s.time.mono - x.since) * rate / 8000000000 - 8
  let p := x.sent + max (64 * (1 + s.val (0x3900 + port) 3) - 4) gone
  if !f.ended ∨ p + 64 ≤ (sentBytes s f port x.mirror).length then some p else none

/-- The mCRC of a fragment that is not the last, over the frame's bytes to its end (R177; IEEE 802.3 clause 99: PRESUMED, log entry 180). -/
def mCrc (b : Bytes) : BitVec 32 := crc32 b ^^^ 0x0000FFFF#32

/-- A frame being sent is preempted (R177): its fragment ends with an mCRC and is counted, and the remainder waits. Where no point is left the
frame is sent to its end. -/
def preempt (s0 : State) (port : Nat) : State :=
  let s := creditsNow s0 port
  match (egress s port).sending with
  | none => s
  | some x =>
    match frameOf s x.frame with
    | none => s
    | some f =>
      match preemptPoint s port x f with
      | none => s
      | some p =>
        let b := (sentBytes s f port x.mirror).take p
        let s1 := setEgress s port (fun e => { e with sending := none, preempted := some { x with fragments := x.fragments + 1, sent := p } })
        emit (wideN (wideN s1 0x38C0 port 0x14 1) 0x38C0 port 0x15 1) (.fragment port (b.drop x.sent ++ le 4 (mCrc b).toNat))

/-- TRANSMISSION_SELECTION (R156, R157, R177). A port that is sending a preemptable frame while an express queue is eligible preempts it; a
free port starts the selected queue, or resumes a preempted frame when no express queue is eligible. -/
def transmissionSelect (s0 : State) (port : Nat) (read : CellRead) : State :=
  let s := creditsNow s0 port
  let e := egress s port
  let act := preemptActive s port
  let express := act && (List.range 8).any (fun c => !(preemptable s port c) && eligible s port c)
  let s1 := match e.sending with
    | some x => if act ∧ preemptable s port x.cls ∧ (express ∨ e.hold) ∧ e.preempted.isNone then preempt s port else s
    | none => s
  let e1 := egress s1 port
  match e1.sending, e1.preempted with
  | some _, _ => s1
  | none, some x =>
    if express then startSelected s1 port read
    else if e1.hold ∨ !(bitOf (gateStates s1 port) x.cls) then s1
    else setEgress s1 port (fun y => { y with sending := some { x with since := s1.time.mono }, preempted := none })
  | none, none => startSelected s1 port read
where
  /-- The frame at the head of the selected queue starts; its first cell is read before (R93). -/
  startSelected (s1 : State) (port : Nat) (read : CellRead) : State :=
    let r := selectClass s1 (eligible s1 port) port
    match r.2 with
    | none => r.1
    | some c =>
      match queue r.1 (queueNo port c) with
      | [] => r.1
      | k :: _ =>
        match frameOf r.1 k.frame with
        | none => r.1
        | some f =>
          let rd := frameCell r.1 f port 0 (some read)
          if rd.2.1 then dropHead rd.1 port c 0x0D
          else if f.ended ∧ f.bad then dropHead rd.1 port c 0x0F
          else
            let x : Sending :=
              { frame := k.frame, mirror := k.mirror, cls := c, first := rd.2.2, sent := 0, since := rd.1.time.mono, spent := 0,
                mark := false, cut := k.cut && !f.ended, fragments := 0 }
            setEgress rd.1 port (fun y => { y with sending := some x })

/-- TRANSMISSION_SELECTION (R157); on port 38 the selection is made when a frame is delivered (R159, R553). -/
def execTransmissionSelection (port : Fin 39) (read : CellRead) (s : State) : Host.Outcome State Fault Refusal :=
  if port.val < 38 ∧ portForwards s port.val ∧ forwardingState s then .next (transmissionSelect s port.val read) else .next s

/-- The charge of a sent frame (R158). -/
def sentCharge (s : State) (port len : Nat) : Int := (len : Int) + s.ival (0x3800 + port) 2

/-- The charges at a frame's end (R157, R158, R160): the deficit of a DRR class; of a shaped class, what its sending period of n × 8 / r has
not been charged yet, after which its credit goes on. -/
def chargeSent (s : State) (port c len spent : Nat) : State :=
  let n := sentCharge s port len
  let r : Int := rateOf (portLink s port).rate.toNat
  let i : Int := idleSlope s port c
  let period := n * 8000000000 / r
  setEgress s port (fun e => { e with
    deficit := if c < s.val (0x3800 + port) 1 then vmod e.deficit c (· - n) else e.deficit,
    credit := if i ≠ 0 ∧ r ≠ 0 then vmod e.credit c (fun v => v + n * 8 * 65536 * (i - r) / r - (i - r) * 65536 * spent / 1000000000) else e.credit,
    creditAt := if i ≠ 0 ∧ r ≠ 0 then vmod e.creditAt c (fun _ => (s.time.mono : Int) + period - spent) else e.creditAt })

/-- The end of a transmission on ports 0 to 37 (R93, R155, R157, R177): the remaining cells are read, and the received FCS is rechecked. -/
def transmitEnd (s0 : State) (port : Nat) (reads : List CellRead) : State :=
  let s := creditsNow s0 port
  match (egress s port).sending with
  | none => s
  | some x =>
    match frameOf s x.frame with
    | none => setEgress s port (fun e => { e with sending := none })
    | some f =>
      let rd := readFrame s f port 1 reads
      let got := (x.first ++ rd.2.2).take f.bytes.length
      let fault := rd.2.1 || !f.ended || recheckFails f got
      let mark := x.mark || f.bad || fault
      let lim := f.verdict.lenLimit
      let b0 := sentBytes rd.1 { f with bytes := got } port x.mirror
      let b1 := if f.ingress < 38 ∧ lim < f.bytes.length then b0.take lim else b0
      let b := if mark then noFcs b1 ++ le 4 (crc32 (noFcs b1) ^^^ 0xFFFFFFFF#32).toNat else b1
      let len := b.length
      let s1 := if fault then bumpN rd.1 0x3100 port 0x0D else rd.1
      let s2 := if mark then bumpN s1 0x3100 port 9 else s1
      let s3 := wideN (wideN s2 0x3100 port 5 1) 0x3100 port 6 len
      let s4 := if x.cut then wideN s3 0x3100 port 0x0C 1 else s3
      let s5 := if 0 < x.fragments then wideN s4 0x38C0 port 0x15 1 else s4
      let s6 := wideN s5 0x38C0 port (3 + x.cls) 1
      let s7 := chargeSent (setEgress s6 port (fun e => { e with sending := none })) port x.cls len x.spent
      let s8 := emit (dequeue s7 port x.cls) (if 0 < x.fragments then .fragment port (b.drop x.sent) else .frame port b mark)
      doneDest s8 x.frame port x.mirror

/-- The Pool Manager owner that takes frames for a processor or engine port (R155, R485). -/
def portOwner (port : Nat) : Nat := match port with | 39 => 0 | 40 => 1 | 41 => 2 | _ => 6

/-- The fields of a CAN XL source behind an internal header, and back. -/
def xlBytes (x : Option XlFields) : Bytes :=
  match x with | some f => be 1 f.sdt.toNat ++ be 1 f.vcid.toNat ++ be 4 f.af.toNat | none => []

def xlOfBytes (b : Bytes) : Option XlFields :=
  if b.length < 6 then none
  else some { sdt := BitVec.ofNat 8 (byteAt b 0), vcid := BitVec.ofNat 8 (byteAt b 1), af := BitVec.ofNat 32 (beAt b 2 4) }

/-- The data of a legacy message within its internal frame, after its addresses and EtherType (R304; layout: DEDUCED, log entry 24). -/
def legacyData (b : Bytes) : Bytes := (noFcs b).drop 14

/-- A processor or engine takes the next frame of its port, high queue first, into a Pool Manager buffer (R155, R159); one whose bytes
fail the recheck of their FCS is discarded and counted in 3100h.0D (R93). -/
def processorTake (s : State) (port : Nat) (reads : List CellRead) : State :=
  let c := if (queue s (queueNo port 7)).isEmpty then 0 else 7
  match queue s (queueNo port c) with
  | [] => s
  | k :: _ =>
    match frameOf s k.frame with
    | none => s
    | some f =>
      if !f.ended then s
      else
        let rd := readFrame s f port 0 reads
        let got := rd.2.2.take f.bytes.length
        if rd.2.1 ∨ recheckFails f got then dropHead rd.1 port c 0x0D
        else if f.bad then dropHead rd.1 port c 0x0F
        else
          let b := sentBytes rd.1 { f with bytes := got } port k.mirror
          let p := poolRequestOne rd.1 (portOwner port) (max 1 b.length) true
          match p.2 with
          | none => p.1
          | some h =>
            let s1 := wideN (wideN p.1 0x3100 port 5 1) 0x3100 port 6 b.length
            let s2 := wideN s1 0x38C0 port (if c = 7 then 4 else 3) 1
            let s3 := emit (emit s2 (.pool (portOwner port) (some h))) (.deliver port b)
            let s4 :=
              if port = 42 ∧ hdrLegacy f.header then
                { s3 with gw := { s3.gw with internal := s3.gw.internal ++ [{ entry := beAt f.header 16 2, dest := hdrDstBus f.header, ident := hdrDstId f.header, latest := byteAt f.header 18 == 1, data := legacyData got, stamp := f.stamp, buffer := some h, xl := xlOfBytes (f.header.drop 19) }] } }
              else s3
            doneDest (dequeue s4 port c) k.frame port k.mirror

/-- FRAME_TRANSMIT_END (R155): a MAC finishes its frame, or a processor takes one; HOST frames leave by RX_FRAME_DELIVERY. -/
def execFrameTransmitEnd (port : Fin 43) (reads : List CellRead) (s : State) : Host.Outcome State Fault Refusal :=
  if port.val < 38 then .next (transmitEnd s port.val reads)
  else if port.val = 38 then .next s
  else if forwardingState s then .next (processorTake s port.val reads)
  else .next s

/-- The gates of a port were as given and may have closed on the frame it sends (R174, R177): a preemptable frame is preempted, another is
sent to its end and counted. -/
def judgeGates (before : Nat) (s : State) (port : Nat) : State :=
  match (egress s port).sending with
  | none => s
  | some x =>
    if bitOf before x.cls && !(bitOf (gateStates s port) x.cls) then
      if preemptActive s port ∧ preemptable s port x.cls then preempt s port
      else raiseLimited (bumpN s 0x38C0 port 0x13) port 1000000000 0x3805 2 port (be 1 port ++ be 1 x.cls)
    else s

/-- What an entry does at its start (R163, R165, R177): its operation acts where preemption is active, and its gate states take the place of
those before. -/
def entryEffect (before : Nat) (s : State) (port : Nat) (word : Nat) : State :=
  let op := word / 2 ^ 22 % 4
  let act := preemptActive s port
  let s1 := setEgress s port (fun e => { e with hold := if op = 1 then act else if op = 2 then false else e.hold })
  let s2 := match (egress s1 port).sending with
    | some x => if act ∧ op = 1 ∧ preemptable s port x.cls then preempt s1 port else s1
    | none => s1
  judgeGates before s2 port

/-- GATE_LIST_ENTRY_START (R165): the next entry of the operational list takes effect once its start is due; the last entry
runs on where an incoming list starts within the cycle extension (R169). -/
def execGateListEntryStart (port : Fin 38) (s : State) : Host.Outcome State Fault Refusal :=
  let e := egress s port.val
  match e.oper with
  | some l =>
    if dueT32 l.nextStart s.now ∧ !heldForSwap l e.pending then
      let s1 := creditsNow s port.val
      .next (entryEffect (gateStates s port.val) (setEgress s1 port.val (fun x => { x with oper := some l.advance })) port.val l.advance.word)
    else .next s
  | none => .next s

/-- The swap of the banks at C (R168, R169), with event 3802h. -/
def swapLists (s : State) (port : Nat) (p : PendingList) : State :=
  let l := p.list.startAt p.c
  let s1 := setEgress (creditsNow s port) port (fun x => { x with oper := some l, operImage := p.image, pending := none, c := p.c })
  raise (bumpN (entryEffect (gateStates s port) s1 port l.word) 0x3880 port 0x0B) 0x3802 1 port (be 1 port ++ be 4 p.c.toNat ++ be 4 l.cycle)

/-- GATE_LIST_SWAP (R169): the pending list whose config change time is fixed and due becomes operational. -/
def execGateListSwap (port : Fin 38) (s : State) : Host.Outcome State Fault Refusal :=
  match (egress s port.val).pending with
  | some p => if p.event.isNone ∧ dueT32 p.c s.now then .next (swapLists s port.val p) else .next s
  | none => .next s

/-- PREEMPTION_VERIFY_TIMER (R176): the next verify mPacket, or failure after three. -/
def execPreemptionVerifyTimer (port : Fin 6) (s : State) : Host.Outcome State Fault Refusal :=
  let e := egress s port.val
  if e.preemption = 1 then
    if e.attempts < 3 then
      .next (emit (setPreemption s port.val 1 (e.attempts + 1)) (.mpacket port.val 0))
    else
      .next (setPreemption (raise (bumpN s 0x38C0 port.val 0x18) 0x3901 2 port.val (be 1 port.val)) port.val 3 e.attempts)
  else .next s

/-- RESPOND_MPACKET_RECEIVED (R176): preemption becomes active. -/
def execRespondMpacketReceived (port : Fin 6) (s : State) : Host.Outcome State Fault Refusal :=
  if (egress s port.val).preemption = 1 then
    .next (setPreemption s port.val 2 0)
  else .next s

/-- VERIFY_MPACKET_RECEIVED (R176): answered while preemption is enabled. -/
def execVerifyMpacketReceived (port : Fin 6) (s : State) : Host.Outcome State Fault Refusal :=
  if s.on (0x3900 + port.val) 1 ∧ linkIsUp s port.val then .next (emit s (.mpacket port.val 1)) else .next s

/-- A pending swap is dropped (R170): cause 1 new list, 2 gate disabled, 3 list removed. -/
def dropSwap (s : State) (port cause : Nat) : State :=
  match (egress s port).pending with
  | some _ => raise (setEgress s port (fun e => { e with pending := none })) 0x3803 2 port (be 1 port ++ be 1 cause)
  | none => s

/-- The first cycle start of an administrative list for an apply now (R166, R167). -/
def adminGrid (s : State) (port : Nat) (cycle : Nat) (base : T32) : T32 :=
  if s.on (0x3880 + port) 3 then
    let b := cfgBytes s.cfg (0x3880 + port) 4
    let tx0 : Nat := beAt b 0 6 * 1000000000 + beAt b 6 4
    let now := s.time.tx
    let g : Nat :=
      if now < tx0 ∧ tx0 ≤ now + 2147483648 then tx0
      else if cycle = 0 then now
      else
        let ph := tx0 % cycle
        now + (ph + cycle - now % cycle) % cycle
    s.now + BitVec.ofNat 32 (g - now)
  else gridPoint base s.now cycle

/-- An administrative list applies (R164, R166, R168, R170); after a start a position trigger counts as trigger 0. -/
def applyGateList (s : State) (port : Nat) (atStart : Bool) : State :=
  let b := cfgBytes s.cfg (0x3880 + port) 2
  let h := beAt b 0 16
  if b.isEmpty ∨ !(bitOf h 127) then
    let s1 := dropSwap s port 3
    if s.on (0x3880 + port) 1 then setEgress s1 port (fun e => { e with oper := none, operImage := [], hold := false }) else s1
  else
    let l := listOf b (bitsOf h 104 96)
    let g := adminGrid s port l.cycle (BitVec.ofNat 32 (bitsOf h 95 64))
    let ev := if bitOf h 126 ∧ !atStart then some (bitsOf h 125 120) else none
    let s1 := dropSwap s port 1
    setEgress s1 port (fun e => { e with
      pending := some { list := l, c := g, event := ev, fixedAt := s.now, image := b }, c := if ev.isNone then g else e.c })

/-- A position event fixes the config change time of the swaps that wait for it (R168). -/
def fixSwaps (s : State) (event : Nat) : State :=
  (List.range 38).foldl (fun t port =>
    match (egress t port).pending with
    | some p =>
      if p.event = some event then
        let c := gridFrom p.c t.now p.list.cycle
        setEgress t port (fun e => { e with pending := some { p with c := c, event := none, fixedAt := t.now }, c := c })
      else t
    | none => t) s

/-- The restored lists apply when the device enters Normal or Commissioning after a start (R170). -/
def startGateLists (s : State) : State :=
  (List.range 38).foldl (fun t p => if t.on (0x3880 + p) 1 then judgeGates (gateStates t p) (applyGateList t p true) p else t) s

/-- What an apply changes at egress (R160, R164, R170, R174, R176). The test says whether the set carries an object; at a start, lists wait
for the entry of the state (R170). -/
def applyEgress (carried : Nat → Nat → Bool) (atStart : Bool) (old : Tbl Bytes) (s : State) : State :=
  (List.range 38).foldl (fun t p =>
    let before := gateStates { t with cfg := old } p
    let ch := fun (idx sub : Nat) => cfgBytes old idx sub != cfgBytes t.cfg idx sub
    let t1 := if carried (0x3880 + p) 2 ∧ !atStart then applyGateList t p false else t
    let t2 := if !(t1.on (0x3880 + p) 1) then dropSwap t1 p 2 else t1
    let t3 := if (List.range 8).any (fun c => ch (0x3840 + p) (c + 1)) then
        setEgress t2 p (fun e => { e with
          credit := Vector.ofFn (fun (c : Fin 8) => if ch (0x3840 + p) (c.val + 1) then 0 else (e.credit[c.val]?).getD 0),
          creditAt := Vector.ofFn (fun (c : Fin 8) => if ch (0x3840 + p) (c.val + 1) then (t2.time.mono : Int) else (e.creditAt[c.val]?).getD 0) })
      else t2
    let t4 :=
      if p < 6 ∧ (ch (0x3900 + p) 1 ∨ ch (0x3900 + p) 4) then
        if t3.on (0x3900 + p) 1 then (if linkIsUp t3 p then preemptStart t3 p else setPreemption t3 p 4 0)
        else setPreemption t3 p 0 0
      else t3
    judgeGates before t4 p) s

/-- A step of T32 moves the running lists (R171): gate lists with event 3804h, stream gate lists with 3603h where they restart; the octet
count of a stream gate that changes its entry restarts (R132). Grid points that wait for an event follow (R168). -/
def stepLists (s : State) (delta : Int) : State :=
  let s1 := (List.range 38).foldl (fun t p =>
    let t0 := setEgress t p (fun e => { e with pending := e.pending.map (fun q => q.advance t.now) })
    match (egress t0 p).oper with
    | some l =>
      let r := l.stepped delta t0.now
      let t1 := entryEffect (gateStates t p) (setEgress (creditsNow t0 p) p (fun e => { e with oper := some r.1 })) p r.1.word
      if r.2 then raise t1 0x3804 2 p (be 1 p ++ beInt 8 delta) else t1
    | none => t0) s
  (s1.look.gates.map (fun e => e.1)).foldl (fun t g =>
    let x := gateOf t g
    match x.running with
    | some l =>
      let r := l.stepped delta t.now
      let same := decide (r.1.cycleStart = l.cycleStart) && decide (r.1.index = l.index) && !r.2
      let t1 := setGate t g { x with running := some r.1, octets := if same then x.octets else 0 }
      if r.2 then raise t1 0x3603 2 0xFF (be 1 g ++ beInt 8 delta) else t1
    | none => t) s1

/-- The grid points of the swaps that wait for an event move on with T32 (R168). -/
def advanceGrids (s : State) : State :=
  { s with fab := { s.fab with egress := s.fab.egress.map (fun e => { e with pending := e.pending.map (fun q => q.advance s.now) }) } }

/-- Values of this chapter's status objects (R180 to R183). -/
def liveEgress (s : State) (idx sub : Nat) : Option Bytes :=
  if 0x3800 ≤ idx ∧ idx ≤ 0x382A ∧ 0x14 ≤ sub ∧ sub ≤ 0x1B then
    let p := idx - 0x3800
    let c := sub - 0x14
    some (be 2 (if p ≤ 38 then queueDepth s (queueNo p c) else if c = 0 then queueDepth s (queueNo p 0) else if c = 1 then queueDepth s (queueNo p 7) else 0))
  else if 0x3840 ≤ idx ∧ idx ≤ 0x3865 ∧ 0x11 ≤ sub ∧ sub ≤ 0x18 then
    some (beInt 4 ((((egress (creditsNow s (idx - 0x3840)) (idx - 0x3840)).credit[sub - 0x11]?).getD 0).tdiv 65536))
  else if 0x3880 ≤ idx ∧ idx ≤ 0x38A5 then
    let p := idx - 0x3880
    let e := egress s p
    match sub with
    | 6 => some (match e.oper with | some _ => e.operImage | none => [])
    | 7 => some (be 1 (match e.pending with | some q => if q.event.isNone then 1 else 2 | none => 0))
    | 8 => some (be 4 e.c.toNat)
    | 9 => some (be 2 (match e.oper with | some l => l.index | none => 0))
    | 10 => some (be 4 (match e.oper with | some l => l.cycleStart.toNat | none => 0))
    | 12 => some (be 1 (gateStates s p))
    | _ => none
  else if 0x3900 ≤ idx ∧ idx ≤ 0x3905 then
    match sub with
    | 6 => some [(egress s (idx - 0x3900)).preemption]
    | 7 => some (be 1 (boolNat (egress s (idx - 0x3900)).hold))
    | _ => none
  else none

/-- The rules for an administrative list (R163). -/
def adminListRule (b : Bytes) (eventOn : Nat → Bool) : Option Nat :=
  let h := beAt b 0 16
  let n := bitsOf h 104 96
  let cyc := bitsOf h 63 32
  let es := (List.range n).map (fun i => beAt b (16 + 8 * i) 8)
  if b.isEmpty ∨ !(bitOf h 127) then none
  else if n = 0 ∨ 256 < n ∨ cyc < 1000 ∨ 1000000000 < cyc ∨ cyc < bitsOf h 31 0 ∨ !(reservedZero h 119 105) ∨
      es.any (fun e => decide (e % 2 ^ 32 < 64) || bitsOf e 55 54 == 3 || !(reservedZero e 53 32)) then some 1
  else if es.foldl (fun t e => t + e % 2 ^ 32) 0 ≠ cyc ∨ es.any (fun e => !(bitOf e 63)) ∨ (bitOf h 126 && !(eventOn (bitsOf h 125 120))) then some 4
  else none

/-- The cross-object rules of this chapter (R161, R163, R175). -/
def egressRules (t : Tbl Bytes) : Option (Nat × Nat) :=
  let eventOn := fun (n : Nat) => decide (cfgNat t (0x4C60 + n) 1 ≠ 0)
  match (List.range 38).findSome? (fun p => (adminListRule (cfgBytes t (0x3880 + p) 2) eventOn).map (fun r => (okey (0x3880 + p) 2, r))) with
  | some r => some r
  | none =>
    match (List.range 38).find? (fun p => !(bitOf (cfgNat t (0x3880 + p) 5) 7)) with
    | some p => some (okey (0x3880 + p) 5, 4)
    | none =>
      match (List.range 38).find? (fun p => decide (0 < highestRate t p) && decide (highestRate t p * 3 < slopeSum t p * 4)) with
      | some p => some (okey (0x3840 + p) 1, 5)
      | none =>
        match (List.range 6).find? (fun p => bitOf (cfgNat t (0x3900 + p) 2) 7) with
        | some p => some (okey (0x3900 + p) 2, 4)
        | none => none

end Sys2Proof.Machine
end

