-- ==== Sys2Proof/Machine/Admit.lean ====
section
/-! DEFINITION. Admission of a frame to the columns of its destinations (R86, R90, R154), shared by Lookup's verdict, the
Zone Gate's release of first packets and the host's transmit rings. -/

namespace Sys2Proof.Machine

/-- A destination that asks for admission: port, mirror session, traffic class of its queue, and whether it may be cut
through (R92). -/
structure Want where
  port : Nat
  mirror : Option Nat
  tc : Nat
  cut : Bool
deriving DecidableEq, Repr

/-- The refusal counter of a queue (R154, R180): 38C0h.0B to 12; low and high on ports 39 to 42. -/
def countQueueRefusal (s : State) (w : Want) : State :=
  let s1 := bumpN s 0x38C0 w.port (if w.port ≤ 38 then 0x0B + w.tc else if 6 ≤ w.tc then 0x0C else 0x0B)
  match w.mirror with
  | some m => bumpN s1 0x3740 m 9
  | none => s1

/-- Does a queue take a charge of q cells (R154)? -/
def queueTakes (s : State) (w : Want) (q : Nat) : Bool :=
  decide (queueDepth s (queueNo w.port w.tc) + q ≤ queueLimit s w.port w.tc)

/-- A column refuses a frame: once in the column, once for each destination port (R86, R90). -/
def refuseColumn (s : State) (j tc : Nat) (ws : List Want) : State :=
  ws.foldl (fun t w =>
    let t1 := bumpN t 0x3100 w.port 0x0B
    match w.mirror with
    | some m => bumpN t1 0x3740 m 9
    | none => t1) (bumpN s 0x3240 j (5 + tc))

/-- The traffic class a column reckons with: the frame's; where the column holds mirror copies only, the class of the first of them
(DESIGN CHOICE, log entry 167). -/
def columnClass (f : Frame) (ws : List Want) : Nat :=
  match ws with
  | w :: _ => if ws.any (fun x => x.mirror.isNone) then f.verdict.tc else w.tc
  | [] => f.verdict.tc

/-- A frame that asks for admission: its number, its destinations, and its charge (R85, R86). -/
structure Asking where
  id : Nat
  wants : List Want
  charge : Nat
deriving DecidableEq, Repr

/-- The host reaches the registers: the link is up, the function is in D0, and the device is not asleep (R557, R576). -/
def hostReaches (s : State) : Bool := s.host.link != 0 && !s.host.d3hot && served s

def ring (s : State) (r : Nat) : Ring :=
  (s.host.rings[r]?).getD { basl := 0, bash := 0, size := 0, ctl := 0, head := 0, tail := 0, sts := 0, unsignalled := 0, since := 0 }

/-- The states in which the rings run (R557). -/
def ringsServed (s : State) : Bool :=
  match s.op.state with
  | .commissioning | .normal | .test => true
  | .safe => s.on 0x2000 6
  | _ => false

/-- A ring runs (R552). -/
def ringRuns (s : State) (r : Nat) : Bool :=
  hostReaches s && ringsServed s && s.host.ctl.getLsbD 0 && s.host.busMaster && (ring s r).ctl.getLsbD 0 && !((ring s r).sts.getLsbD 1)

/-- Frames in a HOST queue whose ring does not run are discarded at egress (R553). -/
def discardHost (s : State) : State :=
  (List.range 8).foldl (fun t c =>
    if ringRuns t (8 + c) then t
    else (queue t (queueNo 38 c)).foldl (fun u k => discardCopy u k.frame 38 k.mirror) t) s

/-- An admitted copy joins its queue at once where it may be cut through and the queue holds no frame (R92); any other waits until its frame
has ended and is checked. -/
def placeCopy (s : State) (id charge : Nat) (w : Want) : State :=
  match frameOf s id with
  | none => s
  | some f =>
    let k := queueNo w.port w.tc
    let cut := w.cut && (queue s k).isEmpty
    let c : Copy := { frame := id, mirror := w.mirror, cells := charge, cut := cut }
    let s1 := setFrame s { f with dests := f.dests ++ [(w.port, w.mirror)], held := if cut || f.ended then f.held else f.held ++ [(k, c)] }
    if cut || f.ended then setQueue s1 k (queue s1 k ++ [c]) else s1

/-- Admission of a frame in one column (R86, R154). -/
def admitColumn (s : State) (j : Nat) (a : Asking) : State :=
  match frameOf s a.id, a.wants.filter (fun w => fpOf w.port == j) with
  | some f, x :: r =>
    let ws := x :: r
    let ok := ws.filter (fun w => queueTakes s w a.charge)
    let s1 := (ws.filter (fun w => !(queueTakes s w a.charge))).foldl countQueueRefusal s
    if ok.isEmpty then s1
    else
      let tc := columnClass f ok
      match admitBudget s1 (column s1 j) (fpOf f.ingress) j tc a.charge with
      | none => refuseColumn s1 j tc ok
      | some b =>
        let r := chargeColumn s1 (fpOf f.ingress) j a.charge b
        let s2 := match b with | .reserve => wideN r.1 0x3240 j 0x0D 1 | _ => r.1
        let s3 := setFrame s2 { f with holdings := f.holdings ++ [r.2] }
        ok.foldl (fun t w => placeCopy t a.id a.charge w) s3
  | _, _ => s

/-- The order in which a column decides frames of one slot (R87): rows from its rotation pointer on, within a row by port. -/
def decideOrder (s : State) (j : Nat) (l : List Asking) : List Asking :=
  let p := columnPointer s j
  let from_ := fun (q : Nat) => l.filter (fun a => match frameOf s a.id with | some f => f.ingress == q | none => false)
  (List.range 14).flatMap (fun k => ((List.range 43).filter (fun q => fpOf q == (p + k) % 14)).flatMap from_)

/-- Frames that reach admission in one slot: every column decides on its own, in its order (R86, R87, R90). -/
def admitAll (s : State) (l : List Asking) : State :=
  discardHost ((List.range 14).foldl (fun t j => (decideOrder t j l).foldl (fun u a => admitColumn u j a) t) s)

/-- A frame takes its number and stands in the fabric, with nothing admitted yet. -/
def enterFrame (s : State) (f : Frame) : State :=
  { s with fab := { s.fab with nextId := s.fab.nextId + 1, frames := s.fab.frames ++ [{ f with id := s.fab.nextId }] } }

/-- A single frame, complete, is admitted; one that found no column is gone. -/
def admitFrame (s : State) (f : Frame) (ws : List Want) (q : Nat) : State :=
  let id := s.fab.nextId
  dropIfDone (admitAll (enterFrame s f) [{ id := id, wants := ws, charge := q }]) id

/-- A provisional charge is corrected to the frame's true length (R85): in every column, and in its queues' depths. -/
def correctCharge (s : State) (id len : Nat) : State :=
  match frameOf s id with
  | none => s
  | some f =>
    let n := cellsFor len
    let cut := fun (c : Copy) => if c.frame == id then { c with cells := min n c.cells } else c
    let r := f.holdings.foldl (fun (acc : State × List Holding) h =>
      let x := returnCells acc.1 (fpOf f.ingress) h (min n h.charge)
      (x.1, acc.2 ++ [x.2])) (s, [])
    let s1 := setFrame r.1 { f with holdings := r.2, held := f.held.map (fun h => (h.1, cut h.2)) }
    { s1 with fab := { s1.fab with queues := s1.fab.queues.map (fun l => l.map cut) } }

/-- The copies of a frame that has ended and is checked join their queues (R92). -/
def queueHeld (s : State) (id : Nat) : State :=
  match frameOf s id with
  | none => s
  | some f => discardHost (f.held.foldl (fun t h => setQueue t h.1 (queue t h.1 ++ [h.2])) (setFrame s { f with held := [] }))

/-- A fault-free frame starts from here. -/
def Verdict.blank : Verdict :=
  { vid := 0, fid := 0, pcp := 0, tc := 0, handle := 0x07FF, yellow := false, tagged := false, meters := [], gate := none,
    lenLimit := 9216, streamLimit := false, learn := false, recover := none, recoverInvalid := false, rseq := none,
    seqNo := none, prp := [], prpCut := false, set := [], lanes := [], flows := [], zone := 0, waiting := [], trap := none, dropped := false }

end Sys2Proof.Machine
end

