-- ==== Sys2Proof/Machine/Inverted.lean ====
section
/-! DEFINITION. The two passes of the Guard Processor (R415 to R424): the inverted datapath, the mirrored regions, the replay queue, the
output hold, the input copier and the signatures. -/

namespace Sys2Proof.Machine

/-- A division by zero has a result that the manual does not state: a free value, the same in both passes (log entry 198). -/
def gpDivZero (rem signed_ : Bool) (a : BitVec 32) : BitVec 32 :=
  BitVec.ofInt 32 (Config.freeOf 198 [(boolNat rem : Int), (boolNat signed_ : Int), (a.toNat : Int)])

/-- The multiplier and the divider, which have no inverted form (R415). -/
def gpArith (o : GpOp) (a b : BitVec 32) : BitVec 32 :=
  match o with
  | .mul => a * b
  | .div sg => if b = 0 then gpDivZero false sg a else if sg then a.sdiv b else a / b
  | .rem sg => if b = 0 then gpDivZero true sg a else if sg then a.srem b else a % b
  | _ => 0

/-- The result of an operation in pass 1, and its carry (R415). -/
def datapathOne (o : GpOp) (a b : BitVec 32) : BitVec 32 × Bool :=
  match o with
  | .add => (a + b, decide (2 ^ 32 ≤ a.toNat + b.toNat))
  | .sub => (a + ~~~b + 1, decide (2 ^ 32 ≤ a.toNat + (~~~b).toNat + 1))
  | .and => (a &&& b, false)
  | .or => (a ||| b, false)
  | .xor => (a ^^^ b, false)
  | .not => (~~~a, false)
  | .shl n => (a <<< n.val, false)
  | .lshr n => (a >>> n.val, false)
  | .asr n => (a.sshiftRight n.val, false)
  | .less sg => (if (if sg then a.slt b else a.ult b) then 1 else 0, false)
  | .equal => (if a = b then 1 else 0, false)
  | .mul | .div _ | .rem _ => (gpArith o a b, false)

/-- The ones that a shift fills with in pass 2. -/
def ones (n : Nat) : BitVec 32 := BitVec.ofNat 32 (2 ^ n - 1)

/-- The result of an operation on the complements of its operands in pass 2, and its carry, held inverted (R415): commutative operations
have their inputs exchanged. -/
def datapathTwo (o : GpOp) (a' b' : BitVec 32) : BitVec 32 × Bool :=
  match o with
  | .add => (b' + a' + 1, decide (2 ^ 32 ≤ b'.toNat + a'.toNat + 1))
  | .sub => (a' + ~~~b', decide (2 ^ 32 ≤ a'.toNat + (~~~b').toNat))
  | .and => (b' ||| a', true)
  | .or => (b' &&& a', true)
  | .xor => (~~~(b' ^^^ a'), true)
  | .not => (~~~a', true)
  | .shl n => (a' <<< n.val ||| ones n.val, true)
  | .lshr n => (a' >>> n.val ||| (ones n.val) <<< (32 - n.val), true)
  | .asr n => (a'.sshiftRight n.val, true)
  | .less sg => (~~~(if (if sg then b'.slt a' else b'.ult a') then 1 else 0), true)
  | .equal => (~~~(if a' = b' then 1 else 0), true)
  | .mul | .div _ | .rem _ => (~~~(gpArith o (~~~a') (~~~b')), true)

/-- The zero flag: a zero result in pass 1, an all-ones one in pass 2 (R415). -/
def zeroFlag (second : Bool) (r : BitVec 32) : Bool := if second then r == BitVec.allOnes 32 else r == 0

/-- The register value that a pass commits for a value (R415); an immediate operand is complemented at decode. -/
def passValue (second : Bool) (v : GpValue) : BitVec 32 :=
  match v with
  | .word w => if second then ~~~w else w
  | .op o a b => if second then (datapathTwo o (~~~a) (~~~b)).1 else (datapathOne o a b).1

/-- The word of region 2 that mirrors one of region 1 (R416). -/
def mirrorWord (w : Nat) : Nat := 32767 - w

/-- The words of a byte string, most significant byte first. -/
def wordsOf (b : Bytes) : List (BitVec 32) := (List.range ((b.length + 3) / 4)).map (fun k => BitVec.ofNat 32 (beNat (padTo 4 (slice b (4 * k) 4))))

/-- A word of region 1 (R416, R417): what has been stored, else the word that was loaded; a word that neither holds is a free value (DESIGN
CHOICE, log entry 53). -/
def regionOne (s : State) (w : Nat) : BitVec 32 :=
  match tget s.gp.region1 w with
  | some v => BitVec.ofNat 32 v
  | none =>
    if 4 * w < s.gp.code.length then BitVec.ofNat 32 (beNat (padTo 4 (slice s.gp.code (4 * w) 4)))
    else BitVec.ofInt 32 (Config.freeOf 53 [1, (w : Int)])

/-- A word of region 2 (R416, R417): what pass 2 or the copier has stored, else the complement of the mirrored word as it was loaded. -/
def regionTwo (s : State) (w : Nat) : BitVec 32 :=
  match tget s.gp.region2 w with
  | some v => BitVec.ofNat 32 v
  | none => ~~~(regionOne { s with gp := { s.gp with region1 := [] } } (mirrorWord w))

/-- What a pass fetches at a word of its code (R417): pass 2 takes it from region 2 and complements it before decode. -/
def gpFetch (s : State) (second : Bool) (w : Nat) : BitVec 32 := if second then ~~~(regionTwo s (mirrorWord w)) else regionOne s w

/-- The GP component is loaded: into region 1 as it stands, into region 2 complemented and mirrored (R417). -/
def loadGuard (s : State) (component : Bytes) : State := { s with gp := { s.gp with code := component, region1 := [], region2 := [] } }

/-- The bytes of a word that the enables name, put over the others; bit 3 of the enables is the most significant byte. -/
def mergeBytes (enables : BitVec 4) (old new : BitVec 32) : BitVec 32 :=
  let mask : BitVec 32 := BitVec.ofNat 32 ((List.range 4).foldl (fun m k => if enables.getLsbD k then m + 255 * 256 ^ k else m) 0)
  (new &&& mask) ||| (old &&& ~~~mask)

/-- A store in one pass: pass 2 stores complements, at the mirrored word (R416). -/
def gpStore (s : State) (second : Bool) (w : Nat) (enables : BitVec 4) (v : BitVec 32) : State :=
  if second then
    { s with gp := { s.gp with region2 := tput s.gp.region2 w (mergeBytes enables (regionTwo s w) v).toNat } }
  else { s with gp := { s.gp with region1 := tput s.gp.region1 w (mergeBytes enables (regionOne s w) v).toNat } }

/-- The parity of the low eight bits of a number: true where their count is odd. -/
def parityOf (b : Nat) : Bool := (List.range 8).foldl (fun p k => p != bitOf b k) false

/-- The 64 bits of a replay-queue entry (R419): kind, point, value, the even parity of its bytes 7 to 1 in bits 7 to 1, and 0. -/
def entryWord (e : ReplayEntry) : BitVec 64 :=
  let v := e.kind % 16 * 2 ^ 60 + e.point % 2 ^ 20 * 2 ^ 40 + e.value.toNat * 2 ^ 8
  let par := (List.range' 1 7).foldl (fun p k => p + (if parityOf (v / 256 ^ k % 256) then 2 ^ k else 0)) 0
  BitVec.ofNat 64 (v + par)

/-- The parity of an entry holds in every byte (R419). -/
def entryParityOk (w : BitVec 64) : Bool :=
  (List.range' 1 7).all (fun k => parityOf (w.toNat / 256 ^ k % 256) == w.getLsbD k)

/-- A fold word (R424): kind, qualifier, place and data. -/
def foldWord (kind qualifier place : Nat) (data : BitVec 32) : BitVec 64 :=
  BitVec.ofNat 64 (kind * 2 ^ 62 + qualifier % 16 * 2 ^ 58 + place % 2 ^ 26 * 2 ^ 32 + data.toNat)

/-- A signature with one more fold word: the MISR of x⁶⁴ + x⁴ + x³ + x + 1 (R424). -/
def misrStep (sig w : BitVec 64) : BitVec 64 := (sig <<< 1) ^^^ (if sig.getLsbD 63 then 0x1B else 0) ^^^ w

/-- The signature of fold words in their order, from all ones (R424). -/
def signature (ws : List (BitVec 64)) : BitVec 64 := ws.foldl misrStep (BitVec.allOnes 64)

/-- The fold word of an input (R424): both passes fold the true value. -/
def inputWord (e : ReplayEntry) : BitVec 64 := foldWord 2 e.kind e.point e.value

/-- The fold word of the window's close (R424). -/
def closeWord (s : State) : BitVec 64 := foldWord 3 (s.gp.task.getD 15) s.gp.nextPc.toNat s.gp.retired

/-- What the n-th commit of a pass becomes with the upsets of that pass: nothing where it is lost, else its place and its data. -/
def upsetCommit (us : List GpUpset) (n : Nat) (place : Nat) (data : BitVec 32) : Option (Nat × BitVec 32) :=
  us.foldl (fun (c : Option (Nat × BitVec 32)) u =>
    match u, c with
    | .data k m, some x => if k = n then some (x.1, x.2 ^^^ m) else some x
    | .place k m, some x => if k = n then some (x.1 ^^^ m.toNat, x.2) else some x
    | .lost k, some x => if k = n then none else some x
    | _, none => none) (some (place, data))

/-- A pass under way: the state, the fold words so far (newest first), the commits so far, and for pass 2 the entries still to be taken. -/
structure PassRun where
  s : State
  folds : List (BitVec 64)
  commits : Nat
  queue : List ReplayEntry

/-- One store or output write of a pass (R416, R422, R424). In pass 2 the place is first that of region 2, and place and data are decoded
for the fold. -/
def commitOne (second : Bool) (us : List GpUpset) (r : PassRun) (a : GpCommit) : PassRun :=
  let next := { r with commits := r.commits + 1 }
  match a with
  | .store w en v =>
    let place := if second then 0x3FFFC - 4 * w.val else 4 * w.val
    match upsetCommit us r.commits place (passValue second v) with
    | none => next
    | some x =>
      let offset := if second then 0x3FFFC - x.1 else x.1
      let data := if second then ~~~x.2 else x.2
      { next with
        s := gpStore r.s second (if second then (x.1 - 0x20000) / 4 % 32768 else x.1 / 4 % 32768) en x.2,
        folds := foldWord 0 en.toNat offset data :: r.folds }
  | .output ad en v =>
    match upsetCommit us r.commits ad.toNat (passValue second v) with
    | none => next
    | some x =>
      let data := if second then ~~~x.2 else x.2
      let word := foldWord 1 en.toNat x.1 data
      if second then { next with folds := word :: r.folds }
      else
        { next with
          s := { r.s with gp := { r.s.gp with hold := r.s.gp.hold ++ [{ address := BitVec.ofNat 32 x.1, data := data, enables := en }] } },
          folds := word :: r.folds }

/-- An input sampled in pass 1 enters the replay queue and is folded (R418, R419, R424). -/
def sampleOne (r : PassRun) (e : ReplayEntry) : PassRun :=
  if r.s.gp.replay.length < 128 then
    { r with s := { r.s with gp := { r.s.gp with replay := r.s.gp.replay ++ [e] } }, folds := inputWord e :: r.folds }
  else r

/-- A block that the input copier brings in (R421): each word to region 1 as read, and to region 2 complemented and mirrored. -/
def copyBlock (s : State) (w : Nat) (data : List (BitVec 32)) : State :=
  (List.range data.length).foldl (fun t k =>
    match data[k]? with
    | some v => gpStore (gpStore t false ((w + k) % 32768) 15 v) true (mirrorWord ((w + k) % 32768)) 15 (~~~v)
    | none => t) s

/-- The completion of an input copy: an input of kind 5. The value of its entry is not stated: a free value (log entry 198). -/
def copyEntry (point w n : Nat) : ReplayEntry :=
  { kind := 5, point := point, value := BitVec.ofInt 32 (Config.freeOf 198 [5, (w : Int), (n : Int)]), target := none }

/-- A debugger action takes effect in a pass (R440): register writes in pass 2 have no home of their own, memory writes are mirrored and
complemented. -/
def debugApply (s : State) (second : Bool) (e : ReplayEntry) : State :=
  match e.target with
  | some (.memory _ w) => if second then gpStore s true (mirrorWord w.val) 15 (~~~e.value) else gpStore s false w.val 15 e.value
  | some (.register n) => if second then s else { s with gp := { s.gp with regs := tput s.gp.regs n.val e.value.toNat } }
  | _ => s

/-- What a window does, in program order: it takes an input, or it commits. -/
inductive WindowItem where
  | entry (e : ReplayEntry)
  | act (a : GpAct)
deriving DecidableEq, Repr

/-- The point of an item: instructions retired before it. -/
def WindowItem.point : WindowItem → Nat
  | .entry e => e.point
  | .act a => a.point.toNat

/-- The inputs recorded so far and the work of pass 1, by their points; at one point the inputs come first. -/
def windowItems (replay : List ReplayEntry) (work : List GpAct) : List WindowItem :=
  let insert := fun (l : List WindowItem) (a : GpAct) =>
    l.takeWhile (fun i => decide (i.point ≤ a.point.toNat)) ++ [.act a] ++ l.dropWhile (fun i => decide (i.point ≤ a.point.toNat))
  work.foldl insert (replay.map .entry)

/-- One item in pass 1. -/
def itemOne (us : List GpUpset) (r : PassRun) (i : WindowItem) : PassRun :=
  match i with
  | .entry e => let q := sampleOne r e; { q with s := debugApply q.s false e }
  | .act a =>
    match a.what with
    | .commit c => commitOne false us r c
    | .sample k v => sampleOne r { kind := k.code, point := a.point.toNat, value := v, target := none }
    | .copy w d =>
      let e := copyEntry a.point.toNat w.val d.length
      if r.s.gp.replay.length < 128 then { sampleOne r e with s := copyBlock (sampleOne r e).s w.val d } else r

/-- The work of a window as far as its output hold takes it: 64 output writes (R411, R422). -/
def withinHold (work : List GpAct) : List GpAct :=
  (work.foldl (fun (a : List GpAct × Nat) w =>
    match w.what with
    | .commit (.output _ _ _) => if a.2 < 64 then (w :: a.1, a.2 + 1) else a
    | _ => (w :: a.1, a.2)) ([], 0)).1.reverse

/-- Pass 1 of a window (R411, R418 to R424): its stores, its output hold, its replay queue and its signature. What pass 2 is to do again is
kept. -/
def passOne (s : State) (work : List GpAct) (us : List GpUpset) : State :=
  let items := windowItems s.gp.replay (withinHold work)
  let r := items.foldl (itemOne us) { s := { s with gp := { s.gp with replay := [] } }, folds := [], commits := 0, queue := [] }
  let again := items.map (fun i => match i with
    | .entry _ => none
    | .act a => (match a.what with | .commit c => some c | _ => none))
  { r.s with gp := { r.s.gp with again := again, sig1 := signature (r.folds.reverse ++ [closeWord s]) } }

/-- One item in pass 2: the next entry of the queue, which pass 2 takes complemented, or the same commit. -/
def itemTwo (us : List GpUpset) (r : PassRun) (i : Option GpCommit) : PassRun :=
  match i with
  | some c => commitOne true us r c
  | none =>
    match r.queue with
    | e :: rest => { r with s := debugApply r.s true e, folds := inputWord e :: r.folds, queue := rest }
    | [] => r

/-- An entry with bits of it changed, and whether its parity still holds (R419). -/
def upsetEntry (e : ReplayEntry) (mask : BitVec 64) : ReplayEntry × Bool :=
  let w := entryWord e ^^^ mask
  ({ e with kind := w.toNat / 2 ^ 60, point := w.toNat / 2 ^ 40 % 2 ^ 20, value := BitVec.ofNat 32 (w.toNat / 2 ^ 8) }, entryParityOk w)

/-- The replay queue as pass 2 finds it, each entry with whether its parity holds. -/
def queueRead (s : State) (upsets : List (Fin 128 × BitVec 64)) : List (ReplayEntry × Bool) :=
  (List.range s.gp.replay.length).filterMap (fun k =>
    (s.gp.replay[k]?).map (fun e => upsetEntry e ((upsets.filter (fun u => u.1.val == k)).foldl (fun m u => m ^^^ u.2) 0)))

/-- Pass 2 of a window (R415, R416, R418, R424), and its signature. -/
def passTwo (s : State) (queue : List ReplayEntry) (us : List GpUpset) : State × BitVec 64 :=
  let r := s.gp.again.foldl (itemTwo us) { s := s, folds := [], commits := 0, queue := queue }
  (r.s, signature (r.folds.reverse ++ [closeWord s]))

/-- The nine bytes of an output-hold entry (R422): address, data and byte enables. -/
def holdBytes (address data : BitVec 32) (enables : BitVec 4) : List Nat :=
  (List.range 4).map (fun k => address.toNat / 256 ^ k % 256) ++ (List.range 4).map (fun k => data.toNat / 256 ^ k % 256) ++ [enables.toNat]

/-- The parity of an output-hold entry holds although these bits of it have changed (R423). -/
def holdParityOk (u : HoldUpset) : Bool :=
  let b := holdBytes u.address u.data u.enables
  (List.range 9).all (fun k => parityOf ((b[k]?).getD 0) == u.parity.getLsbD k)

/-- The release of the output hold in program order (R423), with the entry whose parity stops it. -/
def releaseHold (s : State) (upsets : List HoldUpset) : State × Option Nat :=
  let bad := (List.range s.gp.hold.length).find? (fun k => upsets.any (fun u => u.entry.val == k && !(holdParityOk u)))
  let go := s.gp.hold.take (bad.getD s.gp.hold.length)
  let out := (List.range go.length).filterMap (fun k => (go[k]?).map (fun h =>
    (upsets.filter (fun u => u.entry.val == k)).foldl (fun x u =>
      { address := x.address ^^^ u.address, data := x.data ^^^ u.data, enables := x.enables ^^^ u.enables }) h))
  (out.foldl (fun t h => emit t (.guard h.address h.data h.enables)) { s with gp := { s.gp with hold := [] } }, bad)

end Sys2Proof.Machine
end

