-- ==== Sys2Proof/Machine/Zone.lean ====
section
/-! DEFINITION. The Zone Gate (chapter 06): zones, flows, inspection lanes, the first-packet path, rule images, swaps and
the log, with the commands FIRST_PACKET_EVALUATION, FLOW_AGEING_SCAN, RULE_SWEEP_STEP, FRAGMENT_ENTRY_EXPIRY, the flushes,
ZONE_LOG_RECORD_READ and ZONE_LOG_POSITION_WRITE. -/

namespace Sys2Proof.Machine

/-- The zone of a legacy bus code (3C70h); another code has the zone of BUSGW (R186, R229). -/
def busZone (s : State) (bus : Nat) : Nat :=
  if bus < 8 then s.val 0x3C70 (bus + 1)
  else if 0x10 ≤ bus ∧ bus ≤ 0x15 then s.val 0x3C70 (bus - 0x10 + 9)
  else s.val (0x3C40 + 42) 1

/-- The zone of a port by its zone source (R186). -/
def portZone (s : State) (port vid : Nat) : Nat :=
  let v := byteAt (cfgBytes s.cfg 0x3C80 1) vid
  if s.val (0x3C40 + port) 2 = 1 ∧ v ≠ 0xFF then v else s.val (0x3C40 + port) 1

/-- The source zone of a frame (R186). -/
def sourceZone (s : State) (ingress : Nat) (header : Bytes) (handle vid : Nat) : Nat :=
  let h := byteAt (cfgBytes s.cfg 0x3C80 2) handle
  if ingress = 39 ∨ ingress = 40 then 0
  else if ingress = 42 then busZone s (hdrSrcBus header)
  else if handle ≠ 0x07FF ∧ h ≠ 0xFF then h
  else portZone s ingress vid

/-- The destination zone of a destination port (R186). -/
def destZone (s : State) (ingress : Nat) (header : Bytes) (vid port : Nat) : Nat :=
  if port = 39 ∨ port = 40 then 0
  else if port = 42 ∧ ingress = 42 ∧ hdrLegacy header then busZone s (hdrDstBus header)
  else portZone s port vid

/-- The settings of a pair (R204). -/
structure PairSet where
  root : Nat
  evict : Bool
  logDefault : Bool
  quantum : Nat
  limit : Nat
deriving DecidableEq, Repr

/-- The rule image in force; empty: the factory image (R210). -/
def ruleImage (t : Tbl Bytes) : Bytes := cfgBytes t 0x3C10 1

/-- A pair's settings. The factory image has no settings of its own but its tree for Z1 → Z0 (DEDUCED, log entry 27). -/
def pairSet (s : State) (p : Nat) : PairSet :=
  let img := ruleImage s.cfg
  if img.isEmpty then { root := if p = 16 then 0 else 0xFFFF, evict := false, logDefault := false, quantum := 1, limit := 0 }
  else
    let e := beAt img (32 + 8 * p) 8
    { root := bitsOf e 63 48, evict := bitOf e 47, logDefault := bitOf e 46, quantum := bitsOf e 39 32, limit := bitsOf e 31 16 }

/-- The image ID (R203, R210). -/
def imageIdOf (img : Bytes) : Nat := if img.isEmpty then 0xFFFFFFFF else beAt img 8 4

/-- One endpoint of a canonical key: zone, address, port (R190). -/
def endpoint (zone addr port : Nat) : Bytes := be 1 zone ++ be 16 addr ++ be 2 port

/-- The canonical key of a flow (R190). For kind 1 the EtherType stands at both endpoints (DEDUCED, log entry 28). -/
def canonOf (k : FlowKey) : Bytes :=
  let a := endpoint k.zoneA k.addrA k.portA
  let b := endpoint k.zoneB k.addrB (if k.kind = 1 then k.portA else k.portB)
  be 1 k.kind ++ be 2 k.vid ++ be 1 k.proto ++ (if beNat a ≤ beNat b then a ++ b else b ++ a)

/-- G of R190. -/
def flowHash (canon : Bytes) : Nat := fold16 (crc32c 0xFFFFFFFF#32 canon)
def flowBucket (canon : Bytes) : Nat := flowHash canon % 4096
def flowLane (canon : Bytes) : Nat := flowHash canon / 4096 % 4

/-- A key seen from the other endpoint. -/
def swapKey (k : FlowKey) : FlowKey :=
  { k with
    zoneA := k.zoneB, zoneB := k.zoneA, addrA := k.addrB, addrB := k.addrA,
    portA := if k.kind = 1 then k.portA else k.portB, portB := if k.kind = 1 then k.portB else k.portA }

/-- The key of a crossing, with the sender as endpoint A (R189). -/
def crossingKey (f : Frame) (x : Parsed) (zs zd : Nat) : FlowKey :=
  if f.ingress = 42 ∧ hdrLegacy f.header then
    { kind := 2, vid := 0, ipv6 := false, proto := 0, zoneA := zs, zoneB := zd, addrA := hdrSrcId f.header,
      addrB := hdrDstId f.header, portA := hdrSrcBus f.header, portB := hdrDstBus f.header }
  else match x.ipVersion with
  | some v =>
    { kind := 0, vid := f.verdict.vid, ipv6 := decide (v = 6), proto := x.proto.getD 0, zoneA := zs, zoneB := zd,
      addrA := x.src.getD 0, addrB := x.dst.getD 0, portA := x.l4src.getD 0, portB := x.l4dst.getD 0 }
  | none =>
    { kind := 1, vid := f.verdict.vid, ipv6 := false, proto := 0, zoneA := zs, zoneB := zd, addrA := x.smac, addrB := x.dmac,
      portA := x.etherType.getD 0, portB := 0 }

/-- The flow of a key in the ways of its bucket: position, entry, and true for the direction A to B. -/
def findFlow (s : State) (k : FlowKey) : Option (Nat × Flow × Bool) :=
  let b := flowBucket (canonOf k)
  match s.zone.flows.find? (fun e => e.1 / 8 == b && (e.2.key == k || e.2.key == swapKey k)) with
  | some e => some (e.1, e.2, e.2.key == k)
  | none => none

/-- The flow that the fragment table gives a non-first fragment, within the same zone pair (R196). -/
def findFragment (s : State) (x : Parsed) (k : FlowKey) : Option (Nat × Flow × Bool) :=
  match x.frag with
  | none => none
  | some fr =>
    (s.zone.fragments.filter (fun e => e.key.src == k.addrA && e.key.dst == k.addrB && e.key.proto.toNat == k.proto && e.key.ident.toNat == fr.1)).findSome? (fun e =>
      match tget s.zone.flows e.flow with
      | some w =>
        if w.key.ipv6 = k.ipv6 ∧ w.key.vid = k.vid then
          if w.key.zoneA = k.zoneA ∧ w.key.zoneB = k.zoneB ∧ w.key.addrA = k.addrA then some (e.flow, w, true)
          else if w.key.zoneA = k.zoneB ∧ w.key.zoneB = k.zoneA ∧ w.key.addrB = k.addrA then some (e.flow, w, false)
          else none
        else none
      | none => none)

/-- A non-first fragment (R196). -/
def laterFragment (x : Parsed) : Bool := match x.frag with | some fr => fr.2.1 != 0 | none => false

def setFlow (s : State) (pos : Nat) (w : Flow) : State := { s with zone := { s.zone with flows := tput s.zone.flows pos w } }

def removeFlow (s : State) (pos : Nat) : State :=
  { s with zone := { s.zone with
      flows := tdel s.zone.flows pos, fragments := s.zone.fragments.filter (fun e => e.flow != pos) } }

/-- A second with suppressed records has ended: event 3C07h (R233). -/
def logSecondEnd (s : State) : State :=
  let now := s.time.mono / 1000000000
  if s.zone.logSecond = now then s
  else
    let n := s.zone.logSuppressed
    let s1 := { s with zone := { s.zone with logSecond := now, logCount := 0, logSuppressed := 0 } }
    if n = 0 then s1 else raise s1 0x3C07 2 0xFF (be 4 n)

/-- A log record is written, or suppressed by the rate limit; the ring holds 65,536 (R221, R222). -/
def zoneLog (s0 : State) (typ reason : Nat) (k : FlowKey) (lane : Nat) (oneWay : Bool) (ingress ruleId frames : Nat) : State :=
  let s := logSecondEnd s0
  if s.val 0x3C00 5 ≤ s.zone.logCount then
    bump { s with zone := { s.zone with logSuppressed := s.zone.logSuppressed + 1 } } 0x3D10 5
  else
    let r : ZoneRec :=
      { typ := typ, reason := reason, key := k, lane := lane, oneWay := oneWay, stamp := s.now,
        secs := BitVec.ofNat 16 (txSecondsOf s), ingress := ingress, seq := s.zone.logNext, ruleId := ruleId, frames := frames }
    let full := decide (65536 ≤ s.zone.log.length)
    let gone := (s.zone.logNext - 65536).toNat
    let hit := fun (x : Session) => full && x.isOpen && ownNat x 0x3D10 1 == gone
    let n := (s.sessions.toList.filter hit).length
    let s1 := { s with
      zone := { s.zone with
        log := (if full then s.zone.log.drop 1 else s.zone.log) ++ [r], logNext := s.zone.logNext + 1,
        logCount := s.zone.logCount + 1 },
      sessions := s.sessions.map (fun x => if hit x then
        { x with own := tput x.own (okey 0x3D10 1) ((gone + 1) % 2 ^ 32), logLost := true } else x) }
    (List.range n).foldl (fun t _ => bump t 0x3D10 3) s1

/-- A record about a flow itself. -/
def logFlow (s : State) (typ reason : Nat) (w : Flow) (ingress : Nat) : State :=
  zoneLog s typ reason w.key w.lane (w.state == 4) ingress w.ruleId w.frames

/-- A record about a crossing that has no flow. -/
def logCrossing (s : State) (typ reason : Nat) (k : FlowKey) (lane ingress ruleId : Nat) : State :=
  zoneLog s typ reason k lane (k.kind == 2) ingress ruleId 0

/-- The pair index (R187). -/
def pairOf (k : FlowKey) : Nat := 16 * k.zoneA + k.zoneB

/-- A pair counter (R231). -/
def bumpPair (s : State) (p sub : Nat) : State := bumpAt s 0x3CC0 sub p 0x3CC0
def widePair (s : State) (p sub n : Nat) : State := bumpW s 0x3CC0 sub p n

/-- A flow is revoked (R212): removed, logged and counted. -/
def revokeFlow (s : State) (pos : Nat) (w : Flow) (ingress : Nat) : State :=
  let s1 := bumpPair (logFlow (removeFlow s pos) 5 0 w ingress) (pairOf w.key) 9
  { s1 with zone := { s1.zone with revoked := s1.zone.revoked + 1 } }

/-- The fate of an entry of an older generation (R209, R211): 0 keep, 1 revoke, 2 recheck. One that is older than the image replaced takes
fate 2 (R214). -/
def fateOf (s : State) (w : Flow) : Nat :=
  if s.zone.fateUsed ∧ w.generation + 1 = s.zone.generation then
    let img := ruleImage s.cfg
    let n := beAt img 18 2
    let base := 2080 + 16 * beAt img 16 2
    match (List.range n).find? (fun i => beAt img (base + 4 * i) 2 == w.ruleId) with
    | some i => beAt img (base + 4 * i) 4 % 4
    | none => 2
  else 2

/-- What a lane decides of a crossing (R195): pass under a flow (position, direction A to B), drop, wait for the Guard Processor, or
no room in its hold buffer (R194). -/
inductive LaneOutcome where
  | pass (pos : Nat) (fwd : Bool)
  | drop
  | wait
  | full
deriving DecidableEq, Repr

/-- A TCP segment that opens a connection: SYN 1 and ACK 0. -/
def isSyn (x : Parsed) : Bool := let fl := x.flags.getD 0; bitOf fl 1 && !(bitOf fl 4)

/-- A discard that the pair's Log default makes a record of type 2 (R219). -/
def denyLogged (s : State) (k : FlowKey) (lane ingress reason : Nat) : State :=
  if (pairSet s (pairOf k)).logDefault then logCrossing s 2 reason k lane ingress 0xFFFF else s

/-- A miss (R195): strict TCP, else to the first-packet queue. -/
def laneMiss (s : State) (f : Frame) (x : Parsed) (k : FlowKey) (lane : Nat) : State × LaneOutcome :=
  if laterFragment x then (bumpN s 0x3CA0 lane 8, .drop)
  else if k.kind = 0 ∧ k.proto = 6 ∧ s.on 0x3C00 1 ∧ !(isSyn x) then
    (denyLogged (bumpN s 0x3CA0 lane 9) k lane f.ingress 3, .drop)
  else (s, .wait)

/-- The first fragment of a packet that passes a flow enters the fragment table (R196). -/
def noteFragment (s : State) (x : Parsed) (k : FlowKey) (pos : Nat) : State :=
  match x.frag with
  | some (ident, off, more) =>
    if off = 0 ∧ more ∧ s.on 0x3C00 6 then
      let key : FragmentKey := { src := k.addrA, dst := k.addrB, proto := BitVec.ofNat 8 k.proto, ident := BitVec.ofNat 32 ident }
      let rest := s.zone.fragments.filter (fun e => e.key != key)
      if rest.length < 256 then { s with zone := { s.zone with fragments := rest ++ [{ key := key, flow := pos }] } } else s
    else s
  | none => s

/-- A hit of the current generation (R192, R193, R195). -/
def laneHit (s : State) (f : Frame) (x : Parsed) (k : FlowKey) (pos : Nat) (w : Flow) (fwd : Bool) : State × LaneOutcome :=
  let s1 := wideN s 0x3CA0 w.lane 4 1
  let seen := { w with seen := s.now, idle := if w.state = 2 ∨ (w.state = 4 ∧ !fwd) then w.idle else 0 }
  if w.recheck then (setFlow s1 pos seen, .wait)
  else if w.state = 5 then (bumpN (setFlow s1 pos seen) 0x3CA0 w.lane 5, .drop)
  else if w.state = 4 ∧ !fwd then
    (denyLogged (bumpN (setFlow s1 pos seen) 0x3CA0 w.lane 5) k w.lane f.ingress 6, .drop)
  else if w.state = 2 ∧ fwd ∧ isSyn x then (setFlow s1 pos seen, .wait)
  else (noteFragment (setFlow s1 pos { seen with frames := (w.frames + 1) % 2 ^ 64 }) x k pos, .pass pos fwd)

/-- A found flow, its generation first (R212). -/
def laneFound (s : State) (f : Frame) (x : Parsed) (k : FlowKey) (pos : Nat) (w : Flow) (fwd : Bool) : State × LaneOutcome :=
  if w.generation = s.zone.generation then laneHit s f x k pos w fwd
  else match fateOf s w with
  | 0 => laneHit (setFlow s pos { w with generation := s.zone.generation }) f x k pos { w with generation := s.zone.generation } fwd
  | 1 => laneMiss (revokeFlow s pos w f.ingress) f x k w.lane
  | _ =>
    let w1 := { w with generation := s.zone.generation, recheck := true }
    let s1 := setFlow s pos w1
    laneHit { s1 with zone := { s1.zone with marked := s1.zone.marked + 1 } } f x k pos w1 fwd

/-- The time in ns for which a frame of L bytes takes a lane (R194): 133 ns, and L + 20 bytes at 10 Gbit/s. -/
def laneTime (len : Nat) : Nat := max 133 (((len + 20) * 8 + 9) / 10)

/-- A lane takes a frame, holds it, or has no room for it (R194). -/
def laneTake (s : State) (lane len : Nat) : State × Bool :=
  let now := s.time.mono
  let free := vget s.zone.laneFree lane
  let held := ((s.zone.hold[lane]?).getD []).filter (fun e => decide (now < e.1))
  let start := max now free
  let next := start + laneTime len
  if start = now then
    ({ s with zone := { s.zone with
        hold := s.zone.hold.setIfInBounds lane held, laneFree := s.zone.laneFree.setIfInBounds lane next } }, true)
  else if held.foldl (fun n e => n + e.2) 0 + len ≤ 262144 then
    ({ s with zone := { s.zone with
        hold := s.zone.hold.setIfInBounds lane (held ++ [(start, len)]), laneFree := s.zone.laneFree.setIfInBounds lane next } }, true)
  else ({ s with zone := { s.zone with hold := s.zone.hold.setIfInBounds lane held } }, false)

/-- The lanes that took a frame before it had ended reckon with its true length at its end (R194; DEDUCED, log entry 183). -/
def laneRest (s : State) (f : Frame) : State :=
  f.verdict.lanes.foldl (fun t l =>
    { t with zone := { t.zone with laneFree := vmod t.zone.laneFree l.1 (fun n => n + laneTime f.bytes.length - laneTime l.2) } }) s

/-- The lane of a crossing. -/
def crossingLane (s : State) (f : Frame) (x : Parsed) (zd : Nat) : Nat :=
  let k := crossingKey f x f.verdict.zone zd
  match (if laterFragment x then (if s.on 0x3C00 6 then findFragment s x k else none) else findFlow s k) with
  | some h => h.2.1.lane
  | none => flowLane (canonOf k)

/-- One crossing through its lane (R195). A frame that has not ended reckons at first with the bytes that have arrived. -/
def laneDecide (s : State) (f : Frame) (x : Parsed) (zd : Nat) : State × LaneOutcome :=
  let k := crossingKey f x f.verdict.zone zd
  let later := laterFragment x
  let hit := if later then (if s.on 0x3C00 6 then findFragment s x k else none) else findFlow s k
  let lane := crossingLane s f x zd
  let t := laneTake s lane f.bytes.length
  if !t.2 then (raiseLimited (bumpN t.1 0x3CA0 lane 6) lane 1000000000 0x3C06 2 0xFF (be 1 lane), .full)
  else
    let s1 := wideN t.1 0x3CA0 lane 3 1
    if !later ∧ k.kind = 0 ∧ (k.proto = 6 ∨ k.proto = 17) ∧ (x.l4src.isNone ∨ x.l4dst.isNone) then
      (denyLogged (bumpN s1 0x3CA0 lane 7) k lane f.ingress 4, .drop)
    else match hit with
    | some h => laneFound s1 f x k h.1 h.2.1 h.2.2
    | none => laneMiss s1 f x k lane

/-- Frames of the kinds that R16 lists, sent by MGMT or GUARD, are no crossings (R187). -/
def exemptFrame (f : Frame) (x : Parsed) : Bool :=
  (f.ingress == 39 || f.ingress == 40) &&
    (match x.etherType with
      | some 0x88F7 => true
      | some 0x88FB => true
      | some 0x88B5 => let b := byteAt f.bytes x.payload; decide (0x20 ≤ b) && decide (b ≤ 0x3F)
      | _ => false)

/-- Inspection of a frame (R187, R188): the state, the destinations that pass at once, the frame with its flow hits, and the
zones that wait for the Guard Processor. -/
def zoneInspect (s : State) (f : Frame) (x : Parsed) (dests : List Nat) : State × List Nat × Frame :=
  let zs := f.verdict.zone
  let dz := fun (p : Nat) => destZone s f.ingress f.header f.verdict.vid p
  if exemptFrame f x then (s, dests, f)
  else
    let free := dests.filter (fun p => dz p == zs)
    let zones := (List.range 16).filter (fun z => z != zs && dests.any (fun p => dz p == z))
    let some4 := zones.take 4
    let s0 :=
      match some4 with
      | z :: _ => if 4 < zones.length then bumpN s 0x3CA0 (flowLane (canonOf (crossingKey f x zs z))) 0x0A else s
      | [] => s
    some4.foldl (fun (acc : State × List Nat × Frame) z =>
      let ports := dests.filter (fun p => dz p == z)
      let g := acc.2.2
      let lanes := g.verdict.lanes ++ [(crossingLane acc.1 f x z, f.bytes.length)]
      let r := laneDecide acc.1 f x z
      match r.2 with
      | .pass pos fwd => (r.1, acc.2.1 ++ ports, { g with verdict := { g.verdict with lanes := lanes, flows := g.verdict.flows ++ [(pos, fwd)] } })
      | .full => (r.1, acc.2.1, g)
      | .drop => (r.1, acc.2.1, { g with verdict := { g.verdict with lanes := lanes } })
      | .wait => (r.1, acc.2.1, { g with verdict := { g.verdict with lanes := lanes, waiting := g.verdict.waiting ++ [(z, ports)] } }))
      (s0, free, f)

/-- The state changes of a TCP segment that ended well (R192). -/
def flowSegment (s : State) (x : Parsed) (hit : Nat × Bool) : State :=
  match tget s.zone.flows hit.1 with
  | none => s
  | some w =>
    let fl := x.flags.getD 0
    if w.key.kind = 0 ∧ w.key.proto = 6 ∧ (w.state = 0 ∨ w.state = 1) then
      if bitOf fl 0 ∨ bitOf fl 2 then setFlow s hit.1 { w with state := 2, idle := 0 }
      else if w.state = 0 ∧ bitOf fl 4 ∧ !hit.2 then setFlow s hit.1 { w with state := 1 }
      else s
    else s

/-- The fields that the tree tests read (R206). -/
def fieldsOf (f : Frame) (x : Parsed) (k : FlowKey) (ports : List Nat) : FieldList :=
  let legacy := k.kind == 2
  let eth := fun (v : Option Nat) => if legacy then none else v
  let word := fun (a : Option Nat) (i : Nat) => eth (a.map (fun v => v / 2 ^ (32 * (3 - i)) % 2 ^ 32))
  let all : List (Nat × Option Nat) :=
    [(0x00, some f.ingress), (0x01, ports.min?), (0x02, eth (some f.verdict.vid)), (0x03, eth x.etherType), (0x04, some k.kind),
     (0x05, eth (some (x.dmac / 2 ^ 32))), (0x06, eth (some (x.dmac % 2 ^ 32))), (0x07, eth (some (x.smac / 2 ^ 32))),
     (0x08, eth (some (x.smac % 2 ^ 32))), (0x09, eth x.ipVersion), (0x0A, eth x.proto)] ++
    (List.range 4).map (fun i => (0x0B + i, word x.src i)) ++ (List.range 4).map (fun i => (0x0F + i, word x.dst i)) ++
    [(0x13, eth x.l4src), (0x14, eth x.l4dst), (0x15, eth x.dscp), (0x16, eth x.flags), (0x17, some f.verdict.handle),
     (0x18, some f.verdict.tc), (0x19, if legacy then some k.portA else none), (0x1A, if legacy then some k.addrA else none),
     (0x1B, if legacy then some k.portB else none), (0x1C, if legacy then some k.addrB else none)]
  all.filterMap (fun e => e.2.map (fun v => (e.1, v)))

/-- The Zone Gate's owner ID (R485). -/
def zoneOwner : Nat := 7

/-- A stored packet is discarded: its buffer returns. -/
def freeFirst (s : State) (p : FirstFrame) : State := poolFreeOp s zoneOwner (BitVec.ofNat 32 p.handle)

/-- A refusal at the queue (R198): counted, logged, and reported. -/
def queueRefusal (s : State) (k : FlowKey) (lane ingress : Nat) : State :=
  let p := pairOf k
  let s1 := logCrossing (bumpPair s p 6) 6 0 k lane ingress 0xFFFF
  raiseLimited s1 p 1000000000 0x3C05 2 0xFF (be 1 p ++ be 4 (s.zone.queue.filter (fun e => e.pair == p)).length)

/-- Flows of a pair, Denied entries included (R204). -/
def flowsOfPair (s : State) (p : Nat) : Nat := (s.zone.flows.filter (fun e => pairOf e.2.key == p)).length

/-- No room for a flow (R198, R218): counted, logged, reported once per second for each pair. -/
def flowRefusal (s : State) (k : FlowKey) (lane ingress : Nat) : State :=
  let p := pairOf k
  let s1 := logCrossing (bumpPair s p 7) 7 0 k lane ingress 0xFFFF
  raiseLimited s1 p 1000000000 0x3C04 2 0xFF (be 1 p ++ be 1 (boolNat (pairSet s p).evict))

/-- A frame with a good FCS whose crossing waits goes to the first-packet queue (R197, R198). -/
def enqueueFirst (s0 : State) (f : Frame) (x : Parsed) (zd : Nat) (ports : List Nat) : State :=
  let k0 := crossingKey f x f.verdict.zone zd
  let hit := if laterFragment x then findFragment s0 x k0 else findFlow s0 k0
  let k := match hit with | some h => if h.2.2 then h.2.1.key else swapKey h.2.1.key | none => k0
  let canon := canonOf k
  let lane := flowLane canon
  let p := pairOf k
  let closing := match hit with | some h => h.2.1.state == 2 && !h.2.1.recheck && h.2.2 && isSyn x | none => false
  let s := match hit with
    | some h =>
      if closing then
        let t := removeFlow s0 h.1
        if h.2.1.logClose then logFlow t 3 2 h.2.1 f.ingress else t
      else s0
    | none => s0
  let recheck := match hit with | some h => if h.2.1.recheck then some h.1 else none | none => none
  let g := poolRequestOne s zoneOwner (max 1 f.bytes.length) true
  match g.2 with
  | none => queueRefusal g.1 k lane f.ingress
  | some h =>
    let pk : FirstFrame :=
      { bytes := f.bytes, header := f.header, ingress := f.ingress, stamp := f.stamp,
        verdict := { f.verdict with waiting := [], flows := [], lanes := [] }, ports := ports, handle := h.toNat }
    let same := fun (e : FirstEntry) => e.pair == p && e.canon == canon
    let refuse := fun (t : State) => freeFirst t pk
    let join := fun (e : FirstEntry) => if same e then { e with followers := e.followers ++ [pk] } else e
    match (s.zone.queue ++ s.zone.verdicts.map (fun v => v.entry)).find? same with
    | some e =>
      if e.followers.length < s.val 0x3C00 4 then
        { g.1 with zone := { g.1.zone with
            queue := g.1.zone.queue.map join, verdicts := g.1.zone.verdicts.map (fun v => { v with entry := join v.entry }) } }
      else refuse (logCrossing (bumpPair g.1 p 0x0B) 2 9 k lane f.ingress 0xFFFF)
    | none =>
      if s.op.state = .safe then refuse (logCrossing (widePair g.1 p 5 1) 2 7 k lane f.ingress 0xFFFF)
      else if 1024 ≤ s.zone.queue.length ∨ s.val 0x3C00 3 ≤ (s.zone.queue.filter (fun e => e.pair == p)).length then
        refuse (queueRefusal g.1 k lane f.ingress)
      else if recheck.isNone ∧ (pairSet s p).limit ≠ 0 ∧ (pairSet s p).limit ≤ flowsOfPair s p ∧ !(pairSet s p).evict then
        refuse (flowRefusal g.1 k lane f.ingress)
      else
        let e : FirstEntry :=
          { pair := p, canon := canon, key := k, fields := fieldsOf f x k ports, head := pk, followers := [], recheck := recheck }
        let s1 := widePair { g.1 with zone := { g.1.zone with queue := g.1.zone.queue ++ [e] } } p 3 1
        if recheck.isSome then widePair s1 p 0x0A 1 else s1

/-- A test of a node (R205, R206). -/
def nodeTest (n : Nat) (fs : FieldList) : Bool :=
  match tget fs (bitsOf n 126 121) with
  | none => false
  | some v =>
    let val := bitsOf n 63 32
    let mask := bitsOf n 31 0
    match bitsOf n 120 118 with
    | 0 => (v &&& mask) == val
    | 1 => decide (v ≤ val)
    | 2 => decide (val ≤ v)
    | _ => decide (val ≤ v) && decide (v ≤ mask)

/-- The leaf that a walk from node n ends in (R207). -/
def walkTree (img : Bytes) (fs : FieldList) (n : Nat) (fuel : Nat) : Nat :=
  let node := beAt img (2080 + 16 * n) 16
  match fuel with
  | 0 => node
  | k + 1 => if bitOf node 127 then node else walkTree img fs (if nodeTest node fs then bitsOf node 117 104 else bitsOf node 103 90) k

/-- The Guard Processor's verdict on a queue entry under the image in force (R207, R210). -/
def evaluateEntry (s : State) (e : FirstEntry) : GpVerdict :=
  let img := ruleImage s.cfg
  let root := (pairSet s e.pair).root
  let deny : GpVerdict :=
    { entry := e, action := 0, logVerdict := false, logClose := false, profile := 0, ruleId := 0xFFFF, noTree := decide (root = 0xFFFF), gen := s.zone.generation }
  if root = 0xFFFF then deny
  else if img.isEmpty then
    let fld := fun (c : Nat) => tget e.fields c
    let own := ownMac 39
    if (fld 0x09).isSome ∧ fld 0x0A = some 17 ∧ fld 0x14 = some 48620 ∧ fld 0x05 = some (own / 2 ^ 32) ∧ fld 0x06 = some (own % 2 ^ 32) then
      { deny with action := 1, ruleId := 0 }
    else deny
  else
    let leaf := walkTree img e.fields root (beAt img 16 2)
    { deny with
      action := bitsOf leaf 126 125, logVerdict := bitOf leaf 124, logClose := bitOf leaf 123, profile := bitsOf leaf 122 119,
      ruleId := bitsOf leaf 118 103 }

/-- The pair that is served next (R199): the pair and the credit left after one evaluation. -/
def servePair (s : State) : Option (Nat × Nat) :=
  let has := fun (p : Nat) => s.zone.queue.any (fun e => e.pair == p)
  if 0 < s.zone.credit ∧ has s.zone.lastPair then some (s.zone.lastPair, s.zone.credit - 1)
  else
    match ((List.range' 1 256).map (fun k => (s.zone.lastPair + k) % 256)).find? has with
    | some p => some (p, (pairSet s p).quantum - 1)
    | none => none

/-- First packets are evaluated in this state, outside the activation pause (R220). -/
def evaluates (s : State) : Bool :=
  gpWorks s &&
    (match s.op.state with | .commissioning | .normal | .test => true | _ => false)

/-- A stored packet is lost to a DRAM error that the GP's input copier met (R482): a queue refusal. -/
def firstPacketLost (s : State) (e : FirstEntry) : State :=
  let c := handleClass (BitVec.ofNat 32 e.head.handle)
  let d := drawNat s 29
  let page := 41984 + (bufferBase s c (handleIndex (BitVec.ofNat 32 e.head.handle)) + d.2 % classSize c) / 4096
  let s1 := dramUncorrectable d.1 page 2
  let s2 := logCrossing (bumpPair s1 e.pair 6) 6 0 e.key (flowLane e.canon) e.head.ingress 0xFFFF
  (e.head :: e.followers).foldl freeFirst s2

/-- The input copier brings the header of a first packet into both regions, and its completion is an input of the window of task 4 (R421). Where
in the regions it goes is not stated: a free value (log entry 198). -/
def copyHeader (s : State) (e : FirstEntry) : State :=
  let w := (Config.freeOf 198 [(e.head.handle : Int)] % 32768).toNat
  let d := wordsOf e.canon
  let s1 := copyBlock s w d
  if s.gp.pass = 1 ∧ s.gp.task = some 4 ∧ s.gp.replay.length < 128 then
    let p := drawNat s1 52
    { p.1 with gp := { p.1.gp with replay := p.1.gp.replay ++ [copyEntry (p.2 % 2 ^ 20) w d.length] } }
  else s1

/-- FIRST_PACKET_EVALUATION (R199, R207): the Guard Processor evaluates the head of the next pair's list; the verdict waits for
its window to compare equal (R200). -/
def execFirstPacketEvaluation (dataLost : Bool) (s : State) : Host.Outcome State Fault Refusal :=
  if evaluates s then
    match servePair s with
    | none => .next s
    | some (p, credit) =>
      match s.zone.queue.find? (fun e => e.pair == p) with
      | none => .next s
      | some e =>
        let rest := s.zone.queue.erase e
        let z := { s.zone with lastPair := p, credit := if rest.any (fun y => y.pair == p) then credit else 0, queue := rest }
        if dataLost then .next (firstPacketLost { s with zone := z } e)
        else .next (copyHeader { s with zone := { z with verdicts := z.verdicts ++ [evaluateEntry s e] } } e)
  else .next s

/-- The victim of an eviction among candidates in ascending position (R218): no flow of a pair with policy 0; ties go to the lowest way, and
between buckets to the lowest (DESIGN CHOICE, log entry 184). -/
def victimOf (s : State) (cs : List (Nat × Flow)) : Option (Nat × Flow) :=
  let own := (List.range 8).flatMap (fun w => cs.filter (fun e => e.1 % 8 == w && (pairSet s (pairOf e.2.key)).evict))
  match own.find? (fun e => e.2.state == 5) with
  | some e => some e
  | none =>
    (own.filter (fun e => decide (10 < e.2.idle))).foldl
      (fun (b : Option (Nat × Flow)) e => match b with
        | none => some e
        | some y => if y.2.idle < e.2.idle then some e else b) none

/-- The free way of a bucket. -/
def freeWay (s : State) (bucket : Nat) : Option Nat := (List.range' (8 * bucket) 8).find? (fun k => (tget s.zone.flows k).isNone)

/-- Room for a new flow of a pair in a bucket (R217, R218): the state after an eviction, whose record names the ingress port of the packet
that needs the room, and the position. -/
def roomFor (s : State) (p bucket ingress : Nat) (evict : Bool) : State × Option Nat :=
  let lim := (pairSet s p).limit
  let atLimit := decide (lim ≠ 0) && decide (lim ≤ flowsOfPair s p)
  match atLimit, freeWay s bucket with
  | false, some k => (s, some k)
  | _, way =>
    if evict then
      let cs := s.zone.flows.filter (fun e => (!atLimit || pairOf e.2.key == p) && (way.isSome || e.1 / 8 == bucket))
      match victimOf s cs with
      | none => (s, none)
      | some v =>
        let s1 := bumpPair (logFlow (removeFlow s v.1) 4 0 v.2 ingress) (pairOf v.2.key) 8
        (s1, freeWay s1 bucket)
    else (s, none)

/-- A new entry (R191, R192, R201). -/
def newFlow (s : State) (v : GpVerdict) (state : Nat) : Flow :=
  { key := v.entry.key, state := state, recheck := false, lane := flowLane v.entry.canon, logClose := v.logClose, ruleId := v.ruleId,
    generation := v.gen, profile := v.profile, idle := 0, created := s.time.tx / 1000000000 % 2 ^ 32, frames := 0, seen := s.now }

/-- A first packet or follower is admitted to the fabric with its exact charge (R201). -/
def admitFirst (s : State) (pos : Nat) (k : FlowKey) (p : FirstFrame) : State :=
  let f : Frame :=
    { id := 0, ingress := p.ingress, bytes := p.bytes, ended := true, bad := false, stamp := p.stamp, verdict := p.verdict,
      holdings := [], dests := [], held := [], header := p.header }
  let x := parse p.bytes (s.val (0x3440 + p.ingress) 4)
  let ws := (p.ports.filter (fun q => decide (38 ≤ q) || portForwards s q)).map (fun q =>
    ({ port := q, mirror := none, tc := p.verdict.tc, cut := false } : Want))
  let s1 := admitFrame s f ws (cellsFor p.bytes.length)
  let s2 := match tget s1.zone.flows pos with
    | some w => setFlow s1 pos { w with frames := (w.frames + 1) % 2 ^ 64, seen := s.now }
    | none => s1
  let fwd := match tget s2.zone.flows pos with | some w => w.key == k | none => true
  flowSegment (noteFragment (freeFirst s2 p) x k pos) x (pos, fwd)

/-- On entry to Safe every first packet that waits for evaluation is discarded with its followers (R219, R220). -/
def discardQueue (s : State) : State :=
  s.zone.queue.foldl (fun t e => (e.head :: e.followers).foldl (fun u p =>
    freeFirst (logCrossing (widePair u e.pair 5 1) 2 7 e.key (flowLane e.canon) p.ingress 0xFFFF) p) t)
    { s with zone := { s.zone with queue := [], credit := 0 } }

/-- The flow table is cleared on entry to DeepSleep (R220), with all that waits for a verdict. -/
def clearZone (s : State) : State :=
  let s1 := (s.zone.queue ++ s.zone.verdicts.map (fun v => v.entry)).foldl (fun t e => (e.head :: e.followers).foldl freeFirst t) s
  { s1 with zone := { s1.zone with flows := [], fragments := [], queue := [], verdicts := [], credit := 0 } }

/-- A deny verdict (R207, R212). -/
def applyDeny (s : State) (v : GpVerdict) : State :=
  let e := v.entry
  let all := e.head :: e.followers
  let lane := flowLane e.canon
  let s1 := all.foldl freeFirst (widePair s e.pair 5 all.length)
  let s2 := match e.recheck, findFlow s1 e.key with
    | some _, some h => revokeFlow s1 h.1 h.2.1 e.head.ingress
    | _, _ => s1
  let s3 :=
    if v.noTree then (if (pairSet s e.pair).logDefault then logCrossing s2 2 2 e.key lane e.head.ingress 0xFFFF else s2)
    else if v.logVerdict then logCrossing s2 2 1 e.key lane e.head.ingress v.ruleId
    else s2
  if (findFlow s3 e.key).isSome then s3
  else match (roomFor s3 e.pair (flowBucket e.canon) e.head.ingress false).2 with
  | some pos => setFlow s3 pos (newFlow s3 v 5)
  | none => s3

/-- An allow verdict (R201, R218): the flow is written or updated, and its packets are admitted in arrival order. -/
def applyAllow (s : State) (v : GpVerdict) : State :=
  let e := v.entry
  let all := e.head :: e.followers
  let fresh := if v.action = 2 ∨ e.key.kind = 2 then 4 else if e.key.kind = 0 ∧ e.key.proto = 6 then 0 else 3
  let finish := fun (t : State) (pos : Nat) (w : Flow) =>
    let t1 := widePair (setFlow t pos w) e.pair 4 1
    let t2 := if v.logVerdict then zoneLog t1 1 0 w.key w.lane (w.state == 4) e.head.ingress w.ruleId 0 else t1
    all.foldl (fun u p => admitFirst u pos e.key p) t2
  match findFlow s e.key with
  | some h =>
    let w := h.2.1
    if w.state = 5 then finish s h.1 (newFlow s v fresh)
    else finish s h.1 { w with recheck := false, ruleId := v.ruleId, generation := v.gen, profile := v.profile, logClose := v.logClose, idle := if w.state = 2 then w.idle else 0 }
  | none =>
    let r := roomFor s e.pair (flowBucket e.canon) e.head.ingress (pairSet s e.pair).evict
    match r.2 with
    | some pos => finish r.1 pos (newFlow r.1 v fresh)
    | none => all.foldl freeFirst (flowRefusal r.1 e.key (flowLane e.canon) e.head.ingress)

/-- A verdict whose window compared equal is applied (R200). -/
def applyVerdict (s : State) (v : GpVerdict) : State := if v.action = 0 ∨ v.action = 3 then applyDeny s v else applyAllow s v

/-- Every verdict that waits is applied. -/
def applyVerdicts (s : State) : State :=
  s.zone.verdicts.foldl applyVerdict { s with zone := { s.zone with verdicts := [] } }

/-- On a mismatch every waiting verdict is discarded with its packets (R200), with event 3C08h. -/
def discardVerdicts (s : State) : State :=
  let vs := s.zone.verdicts
  let s1 := vs.foldl (fun t v =>
    (v.entry.head :: v.entry.followers).foldl (fun u p =>
      freeFirst (logCrossing (widePair u v.entry.pair 5 1) 2 8 v.entry.key (flowLane v.entry.canon) p.ingress 0xFFFF) p) t)
    { s with zone := { s.zone with verdicts := [] } }
  if vs.isEmpty then s1 else raise s1 0x3C08 4 0xFF (be 4 vs.length)

/-- The timeout of a flow's state in seconds (R192). -/
def flowTimeout (s : State) (w : Flow) : Nat :=
  let idx := 0x3C20 + w.profile
  match w.state with
  | 0 => s.val idx 1
  | 1 => s.val idx 2
  | 2 => s.val idx 3
  | 5 => s.val 0x3C00 2
  | _ => s.val idx 4

/-- FLOW_AGEING_SCAN (R193): entries whose Idle has reached the timeout go, the others age by a second. -/
def execFlowAgeingScan (s : State) : Host.Outcome State Fault Refusal :=
  match s.op.state with
  | .lightSleep | .deepSleep => .next s
  | _ =>
    .next (s.zone.flows.foldl (fun t e =>
      if flowTimeout s e.2 ≤ e.2.idle then
        let t1 := removeFlow t e.1
        if e.2.logClose then logFlow t1 3 (if e.2.state = 2 then 2 else 1) e.2 0xFF else t1
      else setFlow t e.1 { e.2 with idle := min 65535 (e.2.idle + 1) }) (logSecondEnd s))

/-- The sweep ends (R213): event 3C03h. -/
def sweepEnd (s : State) : State :=
  let us := (s.time.mono - s.zone.sweepFrom) / 1000
  raise { s with zone := { s.zone with sweep := none } } 0x3C03 1 0xFF (be 4 us ++ be 4 s.zone.revoked ++ be 4 s.zone.marked)

/-- RULE_SWEEP_STEP (R213): one position, and the end after the last. -/
def execRuleSweepStep (s : State) : Host.Outcome State Fault Refusal :=
  match s.zone.sweep with
  | none => .next s
  | some pos =>
    let s1 :=
      match tget s.zone.flows pos with
      | none => s
      | some w =>
        if w.generation = s.zone.generation then s
        else match fateOf s w with
        | 0 => setFlow s pos { w with generation := s.zone.generation }
        | 1 => revokeFlow s pos w 0xFF
        | _ =>
          let t := setFlow s pos { w with generation := s.zone.generation, recheck := true }
          { t with zone := { t.zone with marked := t.zone.marked + 1 } }
    if pos + 1 < 32768 then .next { s1 with zone := { s1.zone with sweep := some (pos + 1) } } else .next (sweepEnd s1)

/-- FRAGMENT_ENTRY_EXPIRY (R196). -/
def execFragmentEntryExpiry (key : FragmentKey) (s : State) : Host.Outcome State Fault Refusal :=
  .next { s with zone := { s.zone with fragments := s.zone.fragments.filter (fun e => e.key != key) } }

/-- Flows for which the test holds are flushed, without record (R232). -/
def flushFlows (s : State) (test : Flow → Bool) : State :=
  (s.zone.flows.filter (fun e => test e.2)).foldl (fun t e => removeFlow t e.1) s

/-- A write to 3D00h.03 (R232). -/
def flowFlush (s : State) (v : Nat) : State × Nat :=
  match v with
  | 1 => (flushFlows s (fun _ => true), 0)
  | 2 => (flushFlows s (fun w => pairOf w.key == s.val 0x3D00 4), 0)
  | 3 => (flushFlows s (fun w => w.state == 5), 0)
  | _ => (s, 8)

/-- FLOW_FLUSH_ALL (R232). -/
def execFlowFlushAll (ses : SessionNo) (s : State) : Host.Outcome State Fault Refusal :=
  .next (command s ses 0x3D00 3 [1] (fun t => flowFlush t 1))

/-- FLOW_FLUSH_PAIR (R232): the pair in 3D00h.04. -/
def execFlowFlushPair (ses : SessionNo) (s : State) : Host.Outcome State Fault Refusal :=
  .next (command s ses 0x3D00 3 [2] (fun t => flowFlush t 2))

/-- FLOW_FLUSH_DENIED (R232). -/
def execFlowFlushDenied (ses : SessionNo) (s : State) : Host.Outcome State Fault Refusal :=
  .next (command s ses 0x3D00 3 [3] (fun t => flowFlush t 3))

/-- The 64 bytes of a log record (R221). -/
def zoneRecBytes (r : ZoneRec) : Bytes :=
  be 1 r.typ ++ be 1 r.reason ++ be 1 (16 * r.key.zoneA + r.key.zoneB) ++
    be 1 (64 * r.key.kind + 16 * r.lane + 8 * boolNat r.key.ipv6 + 4 * boolNat r.oneWay) ++ be 4 r.stamp.toNat ++ be 2 r.secs.toNat ++
    be 1 r.ingress ++ be 1 r.key.proto ++ be 4 r.seq.toNat ++ be 2 r.ruleId ++ be 2 r.key.vid ++ be 2 r.key.portA ++
    be 2 r.key.portB ++ be 8 r.frames ++ be 16 r.key.addrA ++ be 16 r.key.addrB

/-- A read of 3D10h.02 (R222). -/
def zoneLogRead (s : State) (ses : Nat) : State × Bytes :=
  ringRead s ses 0x3D10 1 64 3 0 s.zone.log.length s.zone.logNext
    (fun d => match s.zone.log[d]? with | some r => zoneRecBytes r | none => zeros 64)
    (fun x => x.logLost) (fun x => { x with logLost := false })

/-- ZONE_LOG_RECORD_READ (R222). -/
def execZoneLogRecordRead (ses : SessionNo) (s : State) : Host.Outcome State Fault Refusal :=
  .next (readCommand s ses 0x3D10 2 (fun t => zoneLogRead t ses.val))

/-- A write of 3D10h.01 (R222). -/
def zoneLogSeek (s : State) (ses : Nat) (pos : BitVec 32) : State :=
  ringSeek s ses 0x3D10 1 s.zone.log.length s.zone.logNext pos (fun x => { x with logLost := true })

/-- ZONE_LOG_POSITION_WRITE (R222). -/
def execZoneLogPositionWrite (ses : SessionNo) (pos : BitVec 32) (s : State) : Host.Outcome State Fault Refusal :=
  .next (command s ses 0x3D10 1 (be 4 pos.toNat) (fun t => (zoneLogSeek t ses.val pos, 0)))

/-- The 64 bytes of a flow entry (R191). -/
def flowBytes (w : Flow) : Bytes :=
  let head : Nat :=
    2 ^ 31 + w.key.kind * 2 ^ 29 + w.state * 2 ^ 25 + boolNat w.recheck * 2 ^ 24 + w.key.zoneA * 2 ^ 20 + w.key.zoneB * 2 ^ 16 +
      w.key.vid * 2 ^ 4 + boolNat w.key.ipv6 * 2 ^ 3 + w.key.proto / 32
  let mid : Nat := w.key.proto % 32 * 2 ^ 27 + w.lane * 2 ^ 25 + boolNat w.logClose * 2 ^ 24 + w.ruleId * 2 ^ 8 + w.generation.toNat / 256
  be 4 head ++ be 4 mid ++ be 1 w.generation.toNat ++ be 1 (w.profile * 16) ++ be 2 w.idle ++ be 4 w.created ++ be 16 w.key.addrA ++
    be 16 w.key.addrB ++ be 2 w.key.portA ++ be 2 w.key.portB ++ be 8 w.frames ++ be 4 w.seen.toNat

/-- Values of this chapter's status objects (R224, R226, R231, R232). -/
def liveZone (s : State) (ses idx sub : Nat) : Option Bytes :=
  if idx = 0x3C00 then
    match sub with
    | 7 => some (be 2 s.zone.flows.length)
    | 8 => some (be 2 s.zone.queue.length)
    | 9 => some (be 1 (boolNat s.zone.sweep.isSome))
    | 10 => some (be 2 s.zone.generation.toNat)
    | _ => none
  else if idx = 0x3C10 then
    let img := ruleImage s.cfg
    match sub with
    | 2 => some (be 4 (imageIdOf img))
    | 3 => some (be 2 (if img.isEmpty then Config.freeNat 30 0 else beAt img 16 2))
    | 4 => some (be 1 (boolNat s.zone.fateUsed))
    | 5 => some (be 4 s.zone.lastSwap.toNat)
    | 6 => some (be 2 s.zone.revoked)
    | 7 => some (be 2 (s.zone.flows.filter (fun e => e.2.recheck)).length)
    | _ => none
  else if idx = 0x3CC1 then
    match sub with
    | 2 => some (be 2 (flowsOfPair s (getOwn s ses 0x3CC1 1)))
    | 3 => some (be 2 (s.zone.queue.filter (fun e => e.pair == getOwn s ses 0x3CC1 1)).length)
    | _ => none
  else if idx = 0x3D00 ∧ sub = 2 then
    some (match tget s.zone.flows (getOwn s ses 0x3D00 1) with | some w => flowBytes w | none => zeros 64)
  else if idx = 0x3D10 then
    match sub with
    | 1 => some (be 4 (getOwn s ses 0x3D10 1))
    | 4 => some (be 4 s.zone.logNext.toNat)
    | _ => none
  else none

/-- The effect of an applied rule image (R211, R214), whose sweep begins at position 0: old values, and whether the set carried 3C10h.01. -/
def applyZone (carried : Bool) (old : Tbl Bytes) (s : State) : State :=
  if !carried then s
  else
    let was := imageIdOf (ruleImage old)
    let img := ruleImage s.cfg
    let base := if img.isEmpty then 0 else beAt img 12 4
    let used := decide (base ≠ 0) && decide (base = was)
    let out := s.zone.generation
    let z := { s.zone with
      generation := out + 1, fateUsed := used, lastSwap := s.now, revoked := 0, marked := 0, sweep := some 0,
      sweepFrom := s.time.mono }
    let s1 := raise { s with zone := z } 0x3C01 1 0xFF (be 4 (imageIdOf img) ++ be 2 (out + 1).toNat ++ be 4 s.now.toNat)
    if used then s1 else raise s1 0x3C02 2 0xFF (be 4 base ++ be 4 was)

/-- The rules for a rule image (R208, R209): the reason of the first broken. -/
def ruleImageRule (img : Bytes) : Option Nat :=
  if img.isEmpty then none
  else
    let nn := beAt img 16 2
    let nf := beAt img 18 2
    let pairs := (List.range 256).map (fun p => beAt img (32 + 8 * p) 8)
    let own := (List.range 256).zip pairs
    let used := (own.filter (fun e => e.1 / 16 != e.1 % 16)).map (fun e => e.2)
    let nodes := (List.range nn).map (fun i => (i, beAt img (2080 + 16 * i) 16))
    let fates := (List.range nf).map (fun i => beAt img (2080 + 16 * nn + 4 * i) 4)
    let leaf := fun (n : Nat) => bitOf n 127
    if nn = 0 ∨ 16384 < nn ∨ 16384 < nf ∨ beAt img 24 4 ≠ 0 ∨ beAt img 8 4 = 0 ∨ beAt img 8 4 = 0xFFFFFFFF then some 1
    else if used.any (fun e => bitsOf e 39 32 == 0 || decide (32768 < bitsOf e 31 16) || !(reservedZero e 45 40) || !(reservedZero e 15 0)) then some 1
    else if nodes.any (fun e =>
        if leaf e.2 then bitsOf e.2 126 125 == 3 || decide (16383 < bitsOf e.2 118 103) || !(reservedZero e.2 102 0)
        else decide (0x1C < bitsOf e.2 126 121) || decide (3 < bitsOf e.2 120 118) || !(reservedZero e.2 89 64)) then some 1
    else if fates.any (fun e => decide (16383 < e / 65536) || !(reservedZero e 15 2)) then some 1
    else if nodes.any (fun e => !(leaf e.2) &&
        (decide (bitsOf e.2 117 104 ≤ e.1) || decide (nn ≤ bitsOf e.2 117 104) || decide (bitsOf e.2 103 90 ≤ e.1) || decide (nn ≤ bitsOf e.2 103 90))) then some 4
    else if used.any (fun e => bitsOf e 63 48 != 0xFFFF && decide (nn ≤ bitsOf e 63 48)) then some 4
    else if (fates.map (fun e => e / 65536)).eraseDups.length ≠ fates.length ∨ fates.any (fun e => e % 4 == 3) then some 4
    else none

/-- The rules of this chapter (R208, R209, R223, R228, R229): object key and reason of the first broken. -/
def zoneRules (t : Tbl Bytes) : Option (Nat × Nat) :=
  let zoneByte := fun (b : BitVec 8) => decide (b.toNat ≤ 15) || b == 0xFF
  match ruleImageRule (ruleImage t) with
  | some r => some (okey 0x3C10 1, r)
  | none =>
    match (List.range' 38 5).find? (fun p => cfgNat t (0x3C40 + p) 2 == 1) with
    | some p => some (okey (0x3C40 + p) 2, 1)
    | none =>
      if (cfgBytes t 0x3C80 1).any (fun b => !(zoneByte b)) then some (okey 0x3C80 1, 1)
      else if (cfgBytes t 0x3C80 2).any (fun b => !(zoneByte b)) then some (okey 0x3C80 2, 1)
      else none

end Sys2Proof.Machine
end

