-- ==== Sys2Proof/Machine/FramePath.lean ====
section
/-! DEFINITION. The path of a frame from its first bytes to its end at ingress (R84 to R94, R116 to R143): the commands
FRAME_HEAD_RECEIVED, LOOKUP_VERDICT and FRAME_END_RECEIVED. -/

namespace Sys2Proof.Machine

/-- The factory-calibrated latency of a port in ps (R248, R265): a value of the single device for its rate and lane mode. -/
def internalLatency (s : State) (p : Nat) (egressSide : Bool) : Int :=
  signed 4 (Config.freeOf 31 [(p : Int), ((portLink s p).rate.toNat : Int), (laneMode s p : Int), (boolNat egressSide : Int)] % (2 ^ 32 : Nat)).toNat

/-- A time in ps before now, as T32, rounded down to whole nanoseconds (R248). -/
def stampBack (s : State) (ps : Int) : T32 := BitVec.ofInt 32 (((s.now.toNat : Int) * 1000 - ps) / 1000)

/-- The edge of BBn_SFD that belongs to a frame (R249): of the polarity set, within the window; of several the newest (DEDUCED, log
entry 189). -/
def sfdEdge (s : State) (p : Nat) (sfd : List SfdEdge) : Option Nat :=
  let falling := s.on (0x40C0 + p) 7
  ((sfd.filter (fun e => e.rising != falling && decide (e.age ≤ s.val (0x40C0 + p) 8))).map (fun e => e.age)).min?

/-- The ingress stamp of a frame that begins at a phase of 0.5 ns of this tick (R248, R249). -/
def ingressStamp (s : State) (p phase : Nat) (sfd : List SfdEdge) : State × T32 :=
  let plain := stampBack s (internalLatency s p false + s.ival (0x40C0 + p) 3 - 500 * (phase : Int))
  if 30 ≤ p then (s, stampBack s (-500 * (phase : Int)))
  else if p < 6 ∧ s.val (0x40C0 + p) 6 = 1 then
    match sfdEdge s p sfd with
    | some age => (s, stampBack s ((age : Int) * 1000 + s.ival (0x40C0 + p) 9))
    | none => (raiseLimited (bump s 0x4100 9) p 1000000000 0x40C1 2 p (be 1 p), plain)
  else (s, plain)

/-- The egress stamp of a frame that leaves at a phase of this tick, as TX in ps (R248); a TS port stamps at the medium (R249). -/
def egressStamp (s : State) (p phase : Nat) : Int :=
  (s.time.tx : Int) * 1000 + 500 * (phase : Int) + (if 30 ≤ p then 0 else internalLatency s p true + s.ival (0x40C0 + p) 4)

def stagedOn (s : State) (p : Nat) : Option Staged := (s.fab.staging[p]?).getD none

def setStaged (s : State) (p : Nat) (x : Option Staged) : State :=
  { s with fab := { s.fab with staging := s.fab.staging.setIfInBounds p x } }

/-- A port can take a new frame: its link is up, the state forwards, and the frame before has ended or, where preemption is enabled, is a
preempted one that the new frame interrupts (R177). -/
def canReceive (s : State) (p : Nat) : Bool :=
  portForwards s p && forwardingState s && (stagedOn s p).isNone &&
    ((portLink s p).receiving.isNone || (decide (p < 6) && s.on (0x3900 + p) 1 && (portLink s p).suspended.isNone))

/-- FRAME_HEAD_RECEIVED (R84): the first bytes stand in the port's staging buffer, with the frame's stamp; a frame in reception that it
interrupts is suspended. -/
def execFrameHeadReceived (port : Fin 38) (head : Bytes) (whole : Bool) (mark : RxMark) (s : State) :
    Host.Outcome State Fault Refusal :=
  if canReceive s port.val then
    let r := ingressStamp s port.val mark.phase.val mark.sfd
    let s1 := setLink r.1 port.val (fun k =>
      if k.receiving.isSome then { k with receiving := none, suspended := k.receiving } else k)
    .next (setStaged s1 port.val (some { bytes := head, ended := if whole then some .complete else none, stamp := r.2 }))
  else .next s

/-- What Lookup holds while it forms a verdict. -/
structure Look where
  s : State
  f : Frame
  x : Parsed
  dests : List Nat

/-- A step discards the frame: the counter of the port, if any. -/
def Look.drop (l : Look) (sub : Option Nat) : Look :=
  let s1 := match sub with | some k => bumpN l.s 0x3480 l.f.ingress k | none => l.s
  { l with s := s1, f := { l.f with verdict := { l.f.verdict with dropped := true } }, dests := [] }

def Look.on (l : Look) (step : Look → Look) : Look := if l.f.verdict.dropped then l else step l

def Look.verdict (l : Look) (g : Verdict → Verdict) : Look := { l with f := { l.f with verdict := g l.f.verdict } }

/-- Step 1 of R119. -/
def lookSource (l : Look) : Look := if l.x.smac / 2 ^ 40 % 2 = 1 ∨ l.x.smac = 0 then l.drop (some 0x0E) else l

/-- Step 2 of R119: VLAN classification and ingress filtering (R120); ports 38 to 42 name their VLAN (R117). -/
def lookVlan (l : Look) : Look :=
  let p := l.f.ingress
  let vid :=
    if 38 ≤ p then hdrVid l.f.header
    else match l.x.tag with
    | some t => if t.1 = 0 then l.s.val (0x3440 + p) 1 else t.1
    | none => l.s.val (0x3440 + p) 1
  let named := match l.x.tag with | some t => decide (1 ≤ t.1) && decide (t.1 ≤ 4094) | none => false
  let e := vlanEntry l.s.cfg vid
  let acc := l.s.val (0x3440 + p) 2
  let l1 := l.verdict (fun v => { v with
    vid := vid, fid := bitsOf e 124 113,
    pcp := if decide (38 ≤ p) && hdrDatagram l.f.header then hdrPcp l.f.header else match l.x.tag with | some t => t.2 | none => 0,
    tagged := l.x.tag.isSome, learn := decide (p < 38) && bitOf e 126 })
  if 38 ≤ p then l1
  else if vid = 4095 ∨ (acc = 1 ∧ !named) ∨ (acc = 2 ∧ named) ∨ !(bitOf e 127) ∨ (l.s.on (0x3440 + p) 3 ∧ !(bitOf e (43 + p))) then
    (l1.verdict (fun v => { v with learn := false })).drop (some 4)
  else l1

/-- A meter colours the frame (R133, R134): 0 green, 1 yellow, 2 red, 3 not valid. -/
def Look.meter (l : Look) (m : Nat) : Look × Nat :=
  let r := meterDecide l.s m
  ({ l with s := r.1, f := { l.f with verdict := { l.f.verdict with
      meters := if r.2 ≤ 1 then l.f.verdict.meters ++ [(m, r.2 == 0)] else l.f.verdict.meters,
      yellow := l.f.verdict.yellow || r.2 == 1 } } }, r.2)

/-- Floods are not followed in Safe and LightSleep, where only static and learned entries forward (R23, R30, R385). -/
def mayFlood (s : State) : Bool := match s.op.state with | .safe | .lightSleep => false | _ => true

/-- The set before its reductions (R117, R126): ports, flooded, the entry points at the ingress port, discarded. -/
def rawSet (s : State) (p vid fid : Nat) (x : Parsed) : List Nat × Bool × Bool × Bool :=
  let e := vlanEntry s.cfg vid
  let members := vlanMembers e
  let multi := decide (x.dmac / 2 ^ 40 % 2 = 1)
  if x.dmac = 2 ^ 48 - 1 then (if mayFlood s then members else [], true, false, false)
  else match fwdFind s fid x.dmac with
  | some (_, w) =>
    if w.discard then ([], false, false, true)
    else
      let set := if w.group then mcastGroup s w.dest else if 0x80 ≤ w.dest then groupMembers s (w.dest - 0x80) else [w.dest]
      (set, false, !multi && !w.group && w.dest == p, false)
  | none =>
    if multi then (if s.on (0x3440 + p) 0x0D ∧ mayFlood s then members else [], true, false, false)
    else if bitOf e 125 ∧ s.on (0x3440 + p) 0x0C ∧ mayFlood s then (members, true, false, false)
    else ([], false, false, false)

/-- In Safe with 2000h.06 at 0, only traffic to and from MGMT goes on (R30). -/
def safeSet (s : State) (p : Nat) (set : List Nat) : List Nat :=
  if s.op.state = .safe ∧ !(s.on 0x2000 6) ∧ p ≠ 39 then set.filter (fun q => q == 39) else set

/-- The set after R126, with the members of dead groups counted (R99). -/
def Look.reduce (l : Look) (set : List Nat) : Look :=
  let v := l.f.verdict
  let r := reduceSet l.s set (vlanMembers (vlanEntry l.s.cfg v.vid)) l.f.ingress (lagHash l.s l.f.ingress v.handle l.x)
  { l with s := r.2.foldl (fun t q => bumpN t 0x3100 q 0x0B) l.s, dests := safeSet l.s l.f.ingress r.1 }

/-- The port that a destination code names: BUSGW for a legacy bus, else the device port (R215). -/
def codePort (code : Nat) : Nat := if code < 0x0100 then 42 else code - 0x0100

/-- A frame without destinations is discarded without count (R126). -/
def Look.settle (l : Look) : Look := if l.dests.isEmpty then l.drop none else l

/-- Step 3 of R119: the destination set, and the flood meter (R117, R126, R127). A legacy message goes to the port that its internal header
names (R304), a datagram of BE3 to its entry's port (R310). -/
def lookDest (l : Look) : Look :=
  let v := l.f.verdict
  let p := l.f.ingress
  let named := codePort (hdrDstBus l.f.header)
  if p = 42 ∧ hdrLegacy l.f.header then
    { l with dests := safeSet l.s p ([named].filter (fun q => portForwards l.s q)) }.settle
  else if p = 42 ∧ hdrDatagram l.f.header then (l.reduce [named]).settle
  else match (List.range' 38 5).find? (fun q => ownMac q == l.x.dmac) with
  | some q =>
    if bitOf (vlanEntry l.s.cfg v.vid) (43 + q) then (l.reduce [q]).settle else l.drop (some 4)
  | none =>
    let r := rawSet l.s p v.vid v.fid l.x
    if r.2.2.2 then l.drop none
    else
      let m := l.s.val (0x3440 + p) 0x0E
      let lm := if r.2.1 ∧ m ≠ 0x0FFF then l.meter m else (l, 0)
      if lm.2 = 2 then lm.1.drop (some 7)
      else if lm.2 = 3 then lm.1.drop (some 6)
      else
        let l1 := lm.1.reduce r.1
        if l1.dests.isEmpty ∧ r.2.2.1 then { (l1.drop none) with s := bump l1.s 0x3520 8 } else l1.settle

/-- Step 4 of R119: the handle is counted (R129). -/
def lookStream (l : Look) : Look :=
  let h := l.f.verdict.handle
  if h = 0x07FF then l else { l with s := bumpW l.s 0x3640 3 h 1 }

/-- The limit of a frame's length (R131): the port's, which a legacy message has none of (DEDUCED, log entry 24), and the filter's where it
sets one. -/
def lengthLimit (s : State) (p h : Nat) (legacy : Bool) : Nat × Bool :=
  let e := filterEntry s h
  let m := bitsOf e 40 27
  let base := if legacy then 9216 else s.val (0x3000 + p) 5
  if bitOf e 63 ∧ m ≠ 0 then (min m base, true) else (base, false)

/-- An oversize frame is counted (R131, R132), and closes the gate of a filter that says so. -/
def countOversize (s : State) (p h : Nat) (stream : Bool) : State :=
  let s1 := bumpN s 0x3100 p 0x0A
  let e := filterEntry s h
  let s2 := if stream then bumpAt s1 0x3640 6 h 0x3640 else s1
  if bitOf e 63 ∧ bitOf e 62 ∧ bitOf e 61 then closeGate s2 (bitsOf e 60 53) 3 else s2

/-- A discard at step 5 prevents learning (R125). -/
def Look.filterDrop (l : Look) (sub : Option Nat) : Look := (l.verdict (fun v => { v with learn := false })).drop sub

/-- Step 5 of R119: maximum length, stream gate, meter (R130 to R134). The traffic classes they force stand beside. -/
def lookFilter (whole : Bool) (l : Look) : Look × Option Nat :=
  let h := l.f.verdict.handle
  let e := filterEntry l.s h
  let lim := lengthLimit l.s l.f.ingress h (decide (l.f.ingress = 42) && hdrLegacy l.f.header)
  let l0 := l.verdict (fun v => { v with lenLimit := lim.1, streamLimit := lim.2 })
  if whole ∧ lim.1 < l.f.bytes.length then ({ (l0.filterDrop none) with s := countOversize l0.s l.f.ingress h lim.2 }, none)
  else if !(bitOf e 63) then
    (if h = 0x07FF then l0 else { l0 with s := bumpW l0.s 0x3640 4 h 1 }, none)
  else
    let g := bitsOf e 60 53
    let gd := if bitOf e 61 then gateDecide l0.s g else (l0.s, true, none)
    let l1 := { l0 with s := gd.1 }
    if !gd.2.1 then
      let l2 := l1.filterDrop (some 6)
      (if bitOf (gateHeader l1.s.cfg g) 127 then { l2 with s := bumpAt l2.s 0x3640 5 h 0x3640 } else l2, none)
    else
      let l2 := if bitOf e 61 then l1.verdict (fun v => { v with gate := some g }) else l1
      let lm := if bitOf e 52 then l2.meter (bitsOf e 51 41) else (l2, 0)
      if lm.2 = 2 then
        let l3 := lm.1.filterDrop (some 7)
        ({ l3 with s := bumpAt l3.s 0x3640 7 h 0x3640 }, none)
      else if lm.2 = 3 then (lm.1.filterDrop (some 6), none)
      else
        let s3 := bumpW lm.1.s 0x3640 4 h 1
        let s4 := if lm.2 = 1 then bumpW s3 0x3640 8 h 1 else s3
        let tc := match gd.2.2 with | some t => some t | none => if bitOf e 26 then some (bitsOf e 25 23) else none
        ({ lm.1 with s := s4 }, tc)

/-- Step 6 of R119: sequence generation, recovery, replication and PRP (R136, R138, R140). -/
def lookSequence (l : Look) : Look :=
  let h := l.f.verdict.handle
  let e := frerEntry l.s h
  let mode1 := decide (l.f.ingress < 6) && l.s.val (0x3440 + l.f.ingress) 0x0B == 1
  let rec_ := bitOf e 30 && mode1
  let valid := bitOf (recoveryEntry l.s.cfg (bitsOf e 29 20)) 63
  let l1 :=
    if rec_ then l.verdict (fun v => { v with recover := if valid then some (bitsOf e 29 20) else none, recoverInvalid := !valid })
    else if bitOf e 31 then
      let n := tnat l.s.look.generators h
      let l2 := l.verdict (fun v => { v with seqNo := some n })
      { l2 with s := { l2.s with look := { l2.s.look with generators := tput l2.s.look.generators h ((n + 1) % 65536) } } }
    else l
  let l2 := if bitOf e 19 then (l1.reduce (mcastGroup l1.s (bitsOf e 18 9))).settle else l1
  (List.range 3).foldl (fun (a : Look) i =>
    let v := a.s.val 0x3720 (i + 1)
    let pa := v / 256
    let pb := v % 256
    if v = 0xFFFF ∨ !(a.dests.contains pa || a.dests.contains pb) then a
    else
      let n := vget a.s.look.prpSeq i
      let both := (List.range 43).filter (fun q => a.dests.contains q || ((q == pa || q == pb) && q != a.f.ingress && portForwards a.s q))
      let a1 := a.verdict (fun w => { w with prp := w.prp ++ [(i, n)] })
      { a1 with
        dests := both,
        s := { a1.s with look := { a1.s.look with prpSeq := a1.s.look.prpSeq.setIfInBounds i ((n + 1) % 65536) } } }) l2

/-- Step 7 of R119: the traffic class (R143). -/
def lookClass (forced : Option Nat) (l : Look) : Look :=
  let p := l.f.ingress
  let trust := l.s.val (0x3440 + p) 5
  let tc :=
    match forced with
    | some t => t
    | none =>
      if 38 ≤ p then hdrTc l.f.header
      else match trust, l.x.dscp, l.f.verdict.tagged with
      | 2, some d, _ => beNat (cfgBytes l.s.cfg 0x3400 3) / 8 ^ d % 8
      | 2, none, true => l.s.val (0x3440 + p) 7 / 8 ^ l.f.verdict.pcp % 8
      | 1, _, true => l.s.val (0x3440 + p) 7 / 8 ^ l.f.verdict.pcp % 8
      | _, _, _ => l.s.val (0x3440 + p) 6
  let lowered := decide (tc = 7) && !(l.s.on (0x3440 + p) 8)
  let t := if lowered then 6 else tc
  let kept := if 38 ≤ p then hdrDatagram l.f.header else l.f.verdict.tagged
  let l1 := l.verdict (fun v => { v with tc := t, pcp := if kept then v.pcp else t })
  if lowered then { l1 with s := bumpN l1.s 0x3480 p 0x0D } else l1

/-- The mirror sessions that copy a frame (R141), by the set before inspection. -/
def mirrorsOf (s : State) (f : Frame) (set : List Nat) : List Nat :=
  (List.range 4).filter (fun m =>
    s.on (0x3740 + m) 1 &&
      (bitOf (s.val (0x3740 + m) 2) f.ingress || set.any (fun q => bitOf (s.val (0x3740 + m) 3) q) ||
        (f.verdict.handle != 0x07FF && s.val (0x3740 + m) 4 == f.verdict.handle)))

/-- May a destination be cut through (R92)? Its gate is open for it, the guard band of a frame that has not ended included (R173). -/
def mayCut (s : State) (f : Frame) (whole : Bool) (port tc : Nat) (mirror : Option Nat) : Bool :=
  !whole && decide (f.ingress < 38) && decide (port < 38) && s.on (0x3000 + f.ingress) 6 && s.on 0x3260 3 &&
    decide (rateOf (portLink s port).rate.toNat ≤ rateOf (portLink s f.ingress).rate.toNat) &&
    (queue s (queueNo port tc)).isEmpty && gateAllows s port tc (some f) mirror

/-- The trap that takes a frame (R118): the trap port's bucket and class, or a discard. -/
def trapOf (x : Parsed) (h : Bytes) : Option (Option (Nat × Nat)) :=
  match x.etherType with
  | some 0x88F7 => some (some (0, 6))
  | some 0x88FB => some (some (0, 6))
  | some 0x88B5 =>
    let b := byteAt h x.payload
    if 0x20 ≤ b ∧ b ≤ 0x3F then some (some (1, 7)) else some none
  | _ => if x.dmac / 16 = 0x0180C200000 then some none else none

/-- A PTP frame of an enabled instance of profile 2 that the port belongs to (R246): UDP over IPv4 to the PTP multicast address and a PTP
port, with the instance's domain (PRESUMED, log entry 188). -/
def udpPtp (s : State) (ingress : Nat) (x : Parsed) (h : Bytes) : Bool :=
  let udp := x.payload + byteAt h x.payload % 16 * 4
  x.ipVersion == some 4 && x.proto == some 17 && x.dst == some 0xE0000181 && (x.l4dst == some 319 || x.l4dst == some 320) &&
    (List.range 4).any (fun i => s.on (0x4030 + i) 1 && s.val (0x4030 + i) 2 == 2 && decide (ingress < 38) &&
      bitOf (s.val (0x4030 + i) 4) ingress && s.val (0x4030 + i) 3 == byteAt h (udp + 12))

/-- The trap that takes a frame that a port received: that of its EtherType or address, or that of PTP on UDP (R118, R246). -/
def trapFor (s : State) (ingress : Nat) (x : Parsed) (h : Bytes) : Option (Option (Nat × Nat)) :=
  if udpPtp s ingress x h then some (some (0, 6)) else trapOf x h

/-- A trap bucket refilled to now (R118). -/
def trapRefill (s : State) (b : Nat) : State :=
  let rate := s.val 0x3400 (6 + b)
  let last := vget s.look.trapLast b
  let lv := (s.look.trapLevel[b]?).getD 0 + (rate * 1000 * 65536 * (s.time.mono - last) / 1000000000 : Nat)
  { s with look := { s.look with
      trapLevel := s.look.trapLevel.setIfInBounds b (min lv (65536 * 65536)), trapLast := s.look.trapLast.setIfInBounds b s.time.mono } }

/-- Traps before any other step (R118). -/
def lookTrap (l : Look) (t : Option (Nat × Nat)) : Look :=
  match t with
  | none => l.drop (some 5)
  | some (b, tc) =>
    let l1 := { l with s := trapRefill l.s b }
    let lv : Int := (l1.s.look.trapLevel.toList[b]?).getD 0
    if lv < 0 then l1.drop (some 0x0A)
    else { (l1.verdict (fun v => { v with trap := some b, tc := tc, handle := 0x07FF })) with dests := [39 + b] }

/-- A frame that a meter coloured yellow and that passed its meters is counted once at its port (R133, 3480h.08). -/
def lookYellow (l : Look) : Look :=
  if l.f.verdict.yellow then { l with s := bumpW l.s (0x3480 + l.f.ingress) 8 0 1 } else l

/-- Steps 1 to 9 for a frame that is not trapped (R119), after which the copies to admit are known. -/
def lookSteps (whole : Bool) (l : Look) : Look × List Want :=
  let a := (((l.on lookSource).on lookVlan).on lookDest).on lookStream
  if a.f.verdict.dropped then (a, [])
  else
    let r := lookFilter whole a
    if r.1.f.verdict.dropped then (r.1, [])
    else
      let q := lookSequence (lookYellow r.1)
      if q.f.verdict.dropped then (q, [])
      else
      let b := lookClass r.2 q
      let set := b.dests
      let zone := sourceZone b.s b.f.ingress b.f.header b.f.verdict.handle b.f.verdict.vid
      let z := zoneInspect b.s { b.f with verdict := { b.f.verdict with set := set, zone := zone } } b.x set
      let f := z.2.2
      let ms := mirrorsOf z.1 f set
      let live := ms.filter (fun m => portForwards z.1 (z.1.val (0x3740 + m) 5))
      let s1 := (ms.filter (fun m => !(portForwards z.1 (z.1.val (0x3740 + m) 5)))).foldl (fun t m => bumpN t 0x3740 m 9) z.1
      let main := z.2.1.map (fun p => ({ port := p, mirror := none, tc := f.verdict.tc, cut := mayCut s1 f whole p f.verdict.tc none } : Want))
      let copies := live.map (fun m =>
        let p := s1.val (0x3740 + m) 5
        let tc := s1.val (0x3740 + m) 8
        ({ port := p, mirror := some m, tc := tc, cut := mayCut s1 f whole p tc (some m) } : Want))
      ({ b with s := s1, f := f }, main ++ copies)

/-- A verdict on a frame's first bytes (R89, R116 to R119): what Lookup found, and the copies to admit. Frames of the kinds that R16 lists
are not trapped where MGMT or GUARD sends them. -/
def verdictOn (s : State) (ingress : Nat) (header bytes : Bytes) (whole : Bool) (stamp : T32) : Look × List Want :=
  let x := parse (bytes.take 128) (s.val (0x3440 + ingress) 4)
  let vid := if 38 ≤ ingress then hdrVid header else match x.tag with
    | some t => if t.1 = 0 then s.val (0x3440 + ingress) 1 else t.1
    | none => s.val (0x3440 + ingress) 1
  let f : Frame :=
    { id := 0, ingress := ingress, bytes := bytes, ended := decide (38 ≤ ingress), bad := false, stamp := stamp,
      verdict := { Verdict.blank with handle := streamHandle s ingress vid x, lenLimit := s.val (0x3000 + ingress) 5, rseq := x.rtag },
      holdings := [], dests := [], held := [], header := header }
  let s1 := wideN s 0x3480 ingress 3 1
  let s2 := if x.incomplete then bumpN s1 0x3480 ingress 0x0B else s1
  let l : Look := { s := s2, f := f, x := x, dests := [] }
  if ingress < 38 ∧ whole ∧ bytes.length < 64 then ({ (l.drop none) with s := bumpN s2 0x3100 ingress 0x0E }, [])
  else if ingress < 38 ∧ x.etherType = some 0x8808 then ({ (l.drop none) with s := bumpN s2 0x3100 ingress 0x10 }, [])
  else match (if exemptFrame f x then none else trapFor s ingress x bytes) with
  | some t =>
    let l1 := lookTrap l t
    (l1, if l1.f.verdict.dropped then [] else l1.dests.map (fun p => ({ port := p, mirror := none, tc := l1.f.verdict.tc, cut := false } : Want)))
  | none => lookSteps (whole || decide (38 ≤ ingress)) l

/-- The copies of a frame leave every queue without a count: a discard at the frame's end that R88 releases. -/
def dropCopies (s : State) (id : Nat) : State :=
  match frameOf s id with
  | none => s
  | some f => f.dests.foldl (fun t d => dropCopy t id d.1 d.2) s

/-- The charges at a frame's end (R118, R132, R133): trap bucket, meters, gate octets; taken even if the FCS proves bad. -/
def chargeEnd (s : State) (f : Frame) : State :=
  let len := f.bytes.length
  let s1 := match f.verdict.trap with
    | some b =>
      let t := trapRefill s b
      { t with look := { t.look with trapLevel := vmod t.look.trapLevel b (fun v => v - ((len + 20) * 65536 : Nat)) } }
    | none => s
  let s2 := f.verdict.meters.foldl (fun t m => meterCharge t m.1 m.2 len) s1
  match f.verdict.gate with
  | some g => let x := gateOf s2 g; setGate s2 g { x with octets := x.octets + len }
  | none => s2

/-- What the PRP duplicate table says of a frame that ended well (R140): the state, whether it passes, and whether a trail is to be
removed. -/
def prpReceive (s : State) (f : Frame) (x : Parsed) : State × Bool × Bool :=
  match prpPair s f.ingress with
  | none => (s, true, false)
  | some (_, planeA) =>
    let d := noFcs f.bytes
    let t := d.drop (d.length - 6)
    let suffix := beAt t 4 2 == 0x88FB
    let size := d.length - 14 - 4 * x.tags
    let ok := suffix && beAt t 2 2 / 4096 == (if planeA then 0xA else 0xB) && beAt t 2 2 % 4096 == size % 4096
    if !ok then
      let s1 := if suffix then bump s 0x3721 5 else s
      (bumpW s1 0x3721 6 0 1, true, false)
    else
      let key := (x.smac, beAt t 0 2)
      if s.look.prpKeys.contains key then (bumpW (bumpW s 0x3721 3 0 1) (0x3480 + f.ingress) 9 0 1, false, true)
      else
        let full := decide (2048 ≤ s.look.prpKeys.length)
        let s1 := if full then bump s 0x3721 4 else s
        let keys := (if full then s.look.prpKeys.drop 1 else s.look.prpKeys) ++ [key]
        ({ s1 with look := { s1.look with prpKeys := keys } }, true, true)

/-- What a frame that has ended well leaves behind it: TCP states, and first packets for the Guard Processor (R192, R197). -/
def afterEnd (s : State) (f : Frame) (x : Parsed) : State :=
  f.verdict.waiting.foldl (fun t w => enqueueFirst t f x w.1 w.2) (f.verdict.flows.foldl (fun t h => flowSegment t x h) s)

/-- Learning at the end of a good frame (R125). -/
def learnFrame (s : State) (f : Frame) (x : Parsed) : State :=
  if f.verdict.learn then learn s f.ingress f.verdict.fid x.smac else s

/-- A good frame at its end: recovery, duplicates, learning, flows and first packets; its stored copies are queued (R92). -/
def goodEnd (s : State) (f : Frame) (x : Parsed) : State :=
  let v := f.verdict
  if v.recoverInvalid then
    dropIfDone (dropCopies (learnFrame (setFrame (bumpN s 0x3480 f.ingress 6) { f with ended := true }) f x) f.id) f.id
  else
    let r := match v.recover with | some n => if v.dropped then (s, true) else recoveryDecide s n f.ingress v.rseq | none => (s, true)
    let q := if v.dropped then (r.1, true, false) else if r.2 then prpReceive r.1 f x else (r.1, false, false)
    let f1 := { f with ended := true, verdict := { v with seqNo := if v.recover.isSome then v.rseq else v.seqNo, prpCut := q.2.2 } }
    let s1 := setFrame q.1 f1
    if !q.2.1 then dropIfDone (dropCopies s1 f.id) f.id
    else dropIfDone (queueHeld (afterEnd (learnFrame s1 f1 x) f1 x) f.id) f.id

/-- A frame is no longer being received: one that it interrupted goes on (R177). -/
def endReception (s : State) (p id : Nat) : State :=
  setLink s p (fun k =>
    if k.receiving = some id then { k with receiving := k.suspended, suspended := none }
    else { k with suspended := if k.suspended = some id then none else k.suspended })

/-- The end of a frame from ports 0 to 37 (R85, R91, R93, R94, R177). -/
def finishFrame (s : State) (id : Nat) (e : FrameEnd) : State :=
  match frameOf s id with
  | none => s
  | some f =>
    let len := f.bytes.length
    let p := f.ingress
    let fcs := f.bytes.drop (len - 4)
    let good := decide (fcs = fcsOf (noFcs f.bytes))
    let marked := decide (fcs = le 4 (crc32 (noFcs f.bytes) ^^^ 0xFFFFFFFF#32).toNat)
    let excess := decide (f.verdict.lenLimit < len) && !f.verdict.dropped
    let tooLong := decide (s.val (0x3000 + p) 5 < len)
    let small := decide (len < 64)
    let s1 := wideN (wideN s 0x3100 p 3 1) 0x3100 p 4 len
    let s2 :=
      if excess then countOversize s1 p f.verdict.handle f.verdict.streamLimit
      else if tooLong then bumpN s1 0x3100 p 0x0A
      else match e with
      | .torn => bumpN s1 0x38C0 p 0x17
      | .aborted => bumpN s1 0x3100 p 7
      | .complete => if small || good then s1 else bumpN s1 0x3100 p (if marked then 8 else 7)
    let s3 := endReception (laneRest (correctCharge (chargeEnd s2 f) id len) f) p id
    match frameOf s3 id with
    | none => s3
    | some g =>
      if small ∨ excess ∨ tooLong ∨ e ≠ .complete ∨ !good then dropIfDone (markBad (setFrame s3 { g with ended := true, bad := true }) id) id
      else goodEnd s3 g (parse (g.bytes.take 128) (s.val (0x3440 + p) 4))

/-- A frame after its verdict: its number, what it asks for, what Lookup read of it, and how its reception ended, if it has. -/
structure Judged where
  ask : Asking
  x : Parsed
  ended : Option FrameEnd
deriving DecidableEq, Repr

/-- The verdict on the frame that is staged on a port (R84, R85, R119). -/
def judgePort (s : State) (p : Nat) : State × Option Judged :=
  match stagedOn s p with
  | none => (s, none)
  | some st =>
    let r := verdictOn s p [] st.bytes (decide (st.ended = some .complete)) st.stamp
    let id := r.1.s.fab.nextId
    let s1 := setLink (setStaged (enterFrame r.1.s r.1.f) p none) p (fun k => { k with receiving := some id })
    (s1, some { ask := { id := id, wants := r.2, charge := cellsFor (s.val (0x3000 + p) 5) }, x := r.1.x, ended := st.ended })

/-- The verdict on a frame that a processor or engine offers (R85, R117): its internal header, and its bytes, to which the FCS is added; it
is complete. -/
def judgeInner (s : State) (p : Nat) (header data : Bytes) (stamp : T32) : State × Option Judged :=
  let b := data ++ fcsOf data
  let r := verdictOn (wideN (wideN s 0x3100 p 3 1) 0x3100 p 4 b.length) p header b true stamp
  (enterFrame r.1.s r.1.f, some { ask := { id := r.1.s.fab.nextId, wants := r.2, charge := cellsFor b.length }, x := r.1.x, ended := none })

/-- What follows the admission of a frame: an internal one is complete, and the end of a staged one is taken if it has come. -/
def settleJudged (s : State) (j : Judged) : State :=
  match frameOf s j.ask.id with
  | none => s
  | some f =>
    if f.ingress < 38 then (match j.ended with | some e => finishFrame s f.id e | none => s)
    else dropIfDone (afterEnd (chargeEnd s f) f j.x) f.id

/-- Frames that have their verdict are admitted together (R87), and what follows admission is done. -/
def settleAll (r : State × List Judged) : State := r.2.foldl settleJudged (admitAll r.1 (r.2.map (fun j => j.ask)))

/-- A frame of a processor or engine passes Lookup and admission. -/
def innerFrame (s : State) (p : Nat) (header data : Bytes) (stamp : T32) : State :=
  let r := judgeInner s p header data stamp
  settleAll (r.1, r.2.toList)

/-- The verdict on one of the frames that wait. -/
def judge (s : State) (src : VerdictSource) : State × Option Judged :=
  match src with
  | .port p => judgePort s p.val
  | .inner p frame => if forwardingState s then judgeInner s (38 + p.val) (frame.take 16) (frame.drop 16) s.now else (s, none)

/-- LOOKUP_VERDICT (R84, R86, R87, R119): the frames that reach admission in one slot, staged on a port or offered by an internal one. -/
def execLookupVerdict (srcs : List VerdictSource) (s : State) : Host.Outcome State Fault Refusal :=
  .next (settleAll (srcs.foldl (fun (a : State × List Judged) src =>
    let r := judge a.1 src
    (r.1, a.2 ++ r.2.toList)) (s, [])))

/-- A frame's bytes with the continuations that followed its first fragment (R177), and true where each carries the count that is due and
the mPacket before it ended with its mCRC. -/
def reassemble (first : Bytes) (parts : List MPacket) : Bytes × Bool :=
  let r := parts.foldl (fun (a : Bytes × Nat × Bool) m =>
    (a.1 ++ m.data, a.2.1 + 1, a.2.2 && decide (m.count.val = a.2.1 % 4) && decide (m.mcrc = mCrc a.1))) (first, 0, true)
  (r.1, r.2.2)

/-- FRAME_END_RECEIVED (R84, R85, R91, R177): the rest of the frame that a port receives; before its verdict it joins the bytes staged, as far
as they have room. -/
def execFrameEndReceived (port : Fin 38) (rest : FrameRest) (aborted : Bool) (s : State) :
    Host.Outcome State Fault Refusal :=
  let p := port.val
  let end_ := fun (ok : Bool) => if aborted then FrameEnd.aborted else if ok then FrameEnd.complete else FrameEnd.torn
  let s0 := if rest.parts.isEmpty then s else wideN s 0x38C0 p 0x16 (1 + rest.parts.length)
  match stagedOn s p with
  | some st =>
    let r := reassemble (st.bytes ++ rest.bytes) rest.parts
    if st.ended.isSome ∨ 192 < r.1.length then .next s
    else .next (setStaged s0 p (some { st with bytes := r.1, ended := some (end_ r.2) }))
  | none =>
    match (portLink s p).receiving with
    | none => .next s
    | some id =>
      match frameOf s id with
      | none => .next (endReception s p id)
      | some f =>
        let r := reassemble (f.bytes ++ rest.bytes) rest.parts
        .next (finishFrame (setFrame s0 { f with bytes := r.1 }) id (end_ r.2))

/-- What a port receives when its link goes down ends there, cut off (R91, R109). -/
def cutReception (s : State) (p : Nat) : State :=
  let s1 := match stagedOn s p with
    | some st =>
      if st.ended.isNone then
        bumpN (wideN (wideN (setStaged s p none) 0x3100 p 3 1) 0x3100 p 4 st.bytes.length) 0x3100 p 7
      else s
    | none => s
  let k := portLink s1 p
  (k.receiving.toList ++ k.suspended.toList).foldl (fun t id => finishFrame t id .aborted) s1

end Sys2Proof.Machine
end

