-- ==== Sys2Proof/Machine/Links.lean ====
section
/-! DEFINITION. Links of the ports (R88, R91, R99, R108, R109, R176): how a port takes and loses its link, what an apply changes of the
fabric, with the commands LINK_UP and LINK_DOWN. -/

namespace Sys2Proof.Machine

/-- A port's link comes up at an allowed rate (R99, R108, R160, R161, R176). -/
def takeLink (s : State) (p rate : Nat) : State :=
  let s1 := linkChanged s p 1 (BitVec.ofNat 8 rate)
  let s2 := setEgress s1 p (fun e => { e with credit := Vector.replicate 8 0, creditAt := Vector.replicate 8 (s.time.mono : Int) })
  let s3 :=
    if rateOf rate * 3 < slopeSum s2.cfg p * 4 then
      raise s2 0x3801 2 p (be 1 p ++ be 4 (slopeSum s2.cfg p / 8000) ++ be 1 rate)
    else s2
  lagChange (preemptStart s3 p) p true

/-- LINK_UP (R108): taken into use at a rate that lane mode and configuration allow, else refused with event 3002h. -/
def execLinkUp (port : Fin 38) (rate : Fin 7) (s : State) : Host.Outcome State Fault Refusal :=
  let p := port.val
  if (portLink s p).link = 0 ∧ s.on (0x3000 + p) 1 ∧ portAwake s p then
    let c := s.val (0x3000 + p) 3
    if (modeRates p (laneMode s p)).contains rate.val ∧ (c = 0 ∨ c = rate.val) then
      let s1 := takeLink s p rate.val
      .next (emcyCleared s s1)
    else .next (raiseLimited s p 1000000000 0x3002 2 p (be 1 p ++ be 1 3))
  else .next s

/-- A port's link goes down (R88, R91, R99, R176): what it receives is cut off, its queues are discarded, aggregation entries reassigned. -/
def dropLink (s : State) (p : Nat) : State :=
  let s1 := linkChanged (cutReception s p) p (restState s p) 0
  let s2 := lagChange (discardQueues s1 p) p false
  if p < 6 ∧ s.on (0x3900 + p) 1 then setPreemption s2 p 4 0 else s2

/-- LINK_DOWN (R99). -/
def execLinkDown (port : Fin 38) (s : State) : Host.Outcome State Fault Refusal :=
  if linkIsUp s port.val then .next (dropLink s port.val) else .next s

/-- A frame of the device itself leaves by a port and is counted there (R109): a message of the given length behind addresses, a VLAN tag
where it carries one, and an EtherType, padded to the least length. -/
def ownFrame (s : State) (p kind : Nat) (tagged : Bool) (len : Nat) (data : Bytes) : State :=
  emit (wideN (wideN s 0x3100 p 5 1) 0x3100 p 6 (max 64 (len + 18 + (if tagged then 4 else 0)))) (.own p kind data)

/-- A port whose link is not up takes the state that its settings give it (R108). -/
def settleLink (s : State) (p : Nat) : State :=
  if linkIsUp s p ∨ (portLink s p).link = restState s p then s else linkChanged s p (restState s p) 0

/-- What an apply changes in the fabric (R82, R99, R106, R108): links of ports switched on, off or re-rated, columns gated and
ungated, budgets and distribution tables formed again. The table is the one in force before. -/
def applyFabric (old : Tbl Bytes) (s : State) : State :=
  let changed := fun (idx sub : Nat) => cfgBytes old idx sub != cfgBytes s.cfg idx sub
  let s1 := (List.range 43).foldl (fun t p =>
    let lane := decide (p < 30) && (if p < 6 then changed 0x3040 (p + 1) else changed 0x3040 (7 + (p - 6) / 4))
    if linkIsUp t p ∧ p < 38 ∧ (restState t p ≠ 0 ∨ lane ∨ changed (0x3000 + p) 3) then dropLink t p else settleLink t p) s
  let s2 := (List.range 14).foldl (fun t j =>
    let g := columnGated t j
    let c := column t j
    let t1 := if c.gated = g then t else setColumn t j { c with gated := g, since := if g then c.since else t.time.mono }
    if (List.range 14).any (fun i => changed (0x3200 + j) (i + 1) || changed (0x3200 + j) (0x31 + i)) then formBudgets t1 j else t1) s1
  (List.range 8).foldl (fun t g => setLag t g (lagRestored t g)) s2

end Sys2Proof.Machine
end

