-- ==== Sys2Proof/Machine/BusOps.lean ====
section
/-! DEFINITION. What the legacy buses, the gateway and the bridge share (chapters 08, 09 and 14): identifiers (R298), the
entries of the routing image (R299, R300), queues of the ports (R274, R281, R284), MVB tables (R287), the check fields of
telegrams (R283), and the digest of Pair outputs (R459). -/

namespace Sys2Proof.Machine

/-- What a state lets a legacy bus do (R290): nothing, capture only, bridge and management traffic only, or all. -/
inductive BusLevel where
  | silent | safe | limited | all
deriving DecidableEq, Repr

/-- The level of the present state (R290); Test behaves as Commissioning (DESIGN CHOICE, log entry 6). -/
def busLevel (s : State) : BusLevel :=
  match s.op.state with
  | .start | .recovery | .lightSleep | .deepSleep => .silent
  | .safe => .safe
  | .commissioning | .test => .limited
  | .normal => .all

/-- The activation pause runs (R534). -/
def inPause (s : State) : Bool := decide (s.upd.activating = 2)

/-- The identifier of a CAN message (R298). -/
def canIdent (f : CanFrame) : Nat :=
  let kind := match f.kind with | .fd => 1 | .xl => 2 | _ => 0
  kind * 2 ^ 30 + boolNat f.ext * 2 ^ 29 + f.id.toNat

/-- What the XL fields of a message are where no XL source gives them: a free value (DESIGN CHOICE, log entry 195). -/
def freeXl (ident : Nat) : XlFields :=
  let v := fun (k : Nat) => Config.freeOf 195 [(ident : Int), (k : Int)]
  { sdt := BitVec.ofInt 8 (v 0), vcid := BitVec.ofInt 8 (v 1), af := BitVec.ofInt 32 (v 2) }

/-- The CAN message of an identifier (R298); FD messages switch the bit rate (DESIGN CHOICE, log entry 195), and XL messages carry the fields
of their XL source (R270). -/
def canOfIdent (ident : Nat) (data : Bytes) (xl : Option XlFields) : CanFrame :=
  let k := ident / 2 ^ 30 % 4
  { kind := if k = 1 then .fd else if k = 2 then .xl else .classical, ext := bitOf ident 29, id := BitVec.ofNat 29 (ident % 2 ^ 29),
    brs := decide (k = 1), esi := false,
    xl := if k = 2 then xl.getD (freeXl ident) else { sdt := 0, vcid := 0, af := 0 }, data := data }

/-- The arbitration field as a number; the lowest wins (R274). -/
def canKey (f : CanFrame) : Nat :=
  if f.ext then f.id.toNat / 2 ^ 18 * 2 ^ 19 + 2 ^ 18 + f.id.toNat % 2 ^ 18 else f.id.toNat % 2 ^ 11 * 2 ^ 19

/-- The entries, transforms, Ethernet destinations and polls of the routing image in force (R299). -/
def routeImage (s : State) : Bytes := cfgBytes s.cfg 0x4700 1

def routeCount (img : Bytes) : Nat := if img.isEmpty then 0 else beAt img 12 2
def transformCount (img : Bytes) : Nat := beAt img 14 2
def etherCount (img : Bytes) : Nat := byteAt img 16
def pollCount (img : Bytes) : Nat := if img.isEmpty then 0 else beAt img 18 2
def transformAt (img : Bytes) (n : Nat) : Bytes := slice img (32 + 32 * beAt img 12 2 + 64 * n) 64
def etherAt (img : Bytes) (n : Nat) : Bytes := slice img (32 + 32 * beAt img 12 2 + 64 * transformCount img + 16 * n) 16
def pollAt (img : Bytes) (n : Nat) : Bytes :=
  slice img (32 + 32 * beAt img 12 2 + 64 * transformCount img + 16 * etherCount img + 16 * n) 16

/-- A routing entry (R300). -/
structure Route where
  valid : Bool
  latest : Bool
  stale : Nat
  tc : Nat
  srcBus : Nat
  srcId : Nat
  srcMask : Nat
  dstBus : Nat
  dstId : Nat
  transform : Nat
  len : Nat
  fill : Nat
  slot : Nat
  period : Nat
  phase : Nat
  timeout : Nat
deriving DecidableEq, Repr

/-- Entry n of an image. -/
def routeAt (img : Bytes) (n : Nat) : Route :=
  let w := beAt img (32 + 32 * n) 32
  { valid := bitOf w 255, latest := bitOf w 254, stale := bitsOf w 253 252, tc := bitsOf w 251 249, srcBus := bitsOf w 247 232,
    srcId := bitsOf w 231 200, srcMask := bitsOf w 199 168, dstBus := bitsOf w 167 152, dstId := bitsOf w 151 120,
    transform := bitsOf w 119 110, len := bitsOf w 109 98, fill := bitsOf w 97 90, slot := bitsOf w 89 86,
    period := bitsOf w 85 70, phase := bitsOf w 69 54, timeout := bitsOf w 53 38 }

/-- Valid entries with their numbers, ascending. -/
def routes (img : Bytes) : List (Nat × Route) :=
  ((List.range (routeCount img)).map (fun n => (n, routeAt img n))).filter (fun e => e.2.valid)

/-- The number of a bus code among the legacy ports (CN0 to CN7, SP0 to SP5), or none. -/
def legacyPort (bus : Nat) : Option Nat :=
  if bus < 8 then some bus else if 0x10 ≤ bus ∧ bus ≤ 0x15 then some (bus - 0x10 + 8) else none

/-- The bus code names a shared port (R453). -/
def sharedBus (s : State) (bus : Nat) : Bool := match legacyPort bus with | some n => sharedPort s n | none => false

/-- The bus code names a shared port that only receives (R454). -/
def quietBus (s : State) (bus : Nat) : Bool := match legacyPort bus with | some n => pairQuiet s n | none => false

/-- The value a digest takes of an output (R459). -/
def outputR (bus ident : Nat) (data : Bytes) : BitVec 32 :=
  crc32c 0xFFFFFFFF#32 (be 2 bus ++ be 4 ident ++ be 2 data.length ++ data)

/-- A digest with one output more (R459). -/
def Digest.add (d : Digest) (r : BitVec 32) : Digest := { count := d.count + 1, sum := d.sum + r, xor := d.xor ^^^ r }

/-- The period of the Pair cycle (R458): that of the enabled time trigger of target 3, number 1, or 20 ms. -/
def pairPeriod (s : State) : Nat :=
  match (List.range 16).find? (fun k => s.on (0x4060 + k) 1 && s.val (0x4060 + k) 2 == 3 && s.val (0x4060 + k) 3 == 1) with
  | some k => s.val (0x4060 + k) 7
  | none => 20000000

/-- A message on a bus is a Pair output (R459). -/
def isPairOutput (s : State) (bus ident : Nat) (mvb : Bool) : Bool :=
  sharedBus s bus && (mvb || (routes (routeImage s)).any (fun e => e.2.dstBus == bus && e.2.dstId == ident))

/-- A Pair output enters the digest of the cycle that its SOF stamp lies in (R458, R459): one that has ended and waits for its judgement, or
the running one. -/
def noteOutput (s : State) (bus ident : Nat) (data : Bytes) (mvb : Bool) (stamp : T32) : State :=
  if isPairOutput s bus ident mvb then
    let r := outputR bus ident data
    let within := fun (e : T32 × Digest) => decide ((stamp - e.1).toNat < pairPeriod s)
    if s.pair.ownDone.any within then
      { s with pair := { s.pair with ownDone := s.pair.ownDone.map (fun e => if within e then (e.1, e.2.add r) else e) } }
    else { s with pair := { s.pair with own := s.pair.own.add r } }
  else s

/-- What the device itself sent is digested in the roles that send, at its read-back (R459). -/
def noteSent (s : State) (bus ident : Nat) (data : Bytes) (mvb : Bool) : State :=
  if pairPassive s then s else noteOutput s bus ident data mvb s.now

/-- What it receives is digested in the roles that only receive (R459). -/
def noteHeard (s : State) (bus ident : Nat) (data : Bytes) (mvb : Bool) (stamp : T32) : State :=
  if pairPassive s then noteOutput s bus ident data mvb stamp else s

def canPort (s : State) (cn : Nat) : CanPort := (s.can[cn]?).getD CanPort.reset

def setCan (s : State) (cn : Nat) (f : CanPort → CanPort) : State := { s with can := vmod s.can cn f }

/-- Event 4406h, at most once per second and port (R274). -/
def queueFull (s : State) (cn : Nat) : State := raiseLimited (bumpN s 0x4420 cn 8) cn 1000000000 0x4406 2 0xFF (be 1 cn)

/-- A message is offered to a CAN port's queue (R274): true when it was taken. -/
def canOffer (s : State) (cn : Nat) (f : CanFrame) (bridge : Option Nat) : State × Bool :=
  let c := canPort s cn
  if !(canOn c) then (s, false)
  else if 32 ≤ c.queue.length then (queueFull s cn, false)
  else (setCan s cn (fun c => { c with
    queue := c.queue ++ [{ frame := f, attempts := 0, mgmt := false, bridge := bridge, order := c.entered }], entered := c.entered + 1 }), true)

/-- A message stands in a cyclic slot and replaces one that still waits there (R274). -/
def slotOffer (s : State) (cn slot : Nat) (f : CanFrame) : State :=
  setCan s cn (fun c => { c with
    slotsWaiting := (c.slotsWaiting.filter (fun e => e.1 != slot)) ++
      [(slot, { frame := f, attempts := 0, mgmt := false, bridge := none, order := c.entered })],
    entered := c.entered + 1 })

def serialPort (s : State) (sp : Nat) : SerialPort := (s.serial[sp]?).getD SerialPort.reset

def setSerial (s : State) (sp : Nat) (f : SerialPort → SerialPort) : State := { s with serial := vmod s.serial sp f }

def serialMode (s : State) (sp : Nat) : Nat := s.val (0x4500 + sp) 1
def serialProtocol (s : State) (sp : Nat) : Nat := s.val (0x4500 + sp) 4

/-- The length of a character in bits: start bit, data, parity, stop bits (R280). -/
def charBits (s : State) (sp : Nat) : Nat :=
  let c := s.val (0x4500 + sp) 3
  1 + (7 + bitsOf c 7 6) + (if bitsOf c 5 4 = 0 then 0 else 1) + 1 + bitsOf c 3 3

/-- n tenths of a character time in nanoseconds, rounded up (R282 to R284). -/
def charTenths (s : State) (sp n : Nat) : Nat :=
  let rate := max 1 (s.val (0x4500 + sp) 2)
  (n * charBits s sp * 100000000 + rate - 1) / rate

def crc16Byte (poly : BitVec 16) (c : BitVec 16) (b : Byte) : BitVec 16 :=
  (List.range 8).foldl (fun (x : BitVec 16) (_ : Nat) => if x.getLsbD 15 then (x <<< 1) ^^^ poly else x <<< 1) (c ^^^ (b.setWidth 16 <<< 8))

/-- CRC-16/CCITT-FALSE. -/
def crcCcitt (b : Bytes) : Nat := (b.foldl (crc16Byte 0x1021#16) 0xFFFF#16).toNat

def crcModbusByte (c : BitVec 16) (b : Byte) : BitVec 16 :=
  (List.range 8).foldl (fun (x : BitVec 16) (_ : Nat) => if x.getLsbD 0 then (x >>> 1) ^^^ 0xA001#16 else x >>> 1) (c ^^^ b.setWidth 16)

/-- CRC-16/MODBUS. -/
def crcModbus (b : Bytes) : Nat := (b.foldl crcModbusByte 0xFFFF#16).toNat

/-- A Modbus frame: its bytes and the CRC, low byte first (R284). -/
def modbusFrame (b : Bytes) : Bytes := b ++ le 2 (crcModbus b)

/-- The template n of a port (R283). -/
def templateAt (s : State) (sp n : Nat) : Bytes := slice (cfgBytes s.cfg (0x4500 + sp) 0x0C) (32 * n) 32
def tplValid (t : Bytes) : Bool := bitOf (byteAt t 0) 7
def tplRule (t : Bytes) : Nat := bitsOf (byteAt t 0) 5 4
def tplStart (t : Bytes) : Nat := byteAt t 1
def tplEnd (t : Bytes) : Bytes := slice t 13 (byteAt t 12)
def tplCheckSize (t : Bytes) : Nat := match byteAt t 15 with | 0 => 0 | 1 => 1 | 2 => 1 | 3 => 2 | 4 => 2 | _ => 4

/-- The check value of a telegram's covered bytes (R283). -/
def tplCheck (t b : Bytes) : Nat :=
  match byteAt t 15 with
  | 0 => 0
  | 1 => (b.foldl (fun n x => n + x.toNat) 0) % 256
  | 2 => b.foldl (fun n x => n ^^^ x.toNat) 0
  | 3 => crcCcitt b
  | 4 => crcModbus b
  | _ => (crc32 b).toNat

/-- Bytes written over a string at an offset, within its length. -/
def putAt (d : Bytes) (off : Nat) (x : Bytes) : Bytes :=
  (d.take off ++ x ++ d.drop (off + x.length)).take d.length

/-- The check field as it stands in a telegram (R283). -/
def tplCheckBytes (t b : Bytes) : Bytes :=
  let n := tplCheckSize t
  if byteAt t 17 = 1 then le n (tplCheck t b) else be n (tplCheck t b)

/-- Where a telegram's check field starts: just before the end bytes. -/
def tplCheckAt (t : Bytes) (len : Nat) : Nat := len - byteAt t 12 - tplCheckSize t

/-- The bytes the check field covers. -/
def tplCovered (t b : Bytes) : Bytes := slice b (byteAt t 16) (tplCheckAt t b.length - byteAt t 16)

/-- A telegram as it is sent (R283): the data with the template's start bytes, key byte, length field, check field and end
bytes written over it (DEDUCED, log entry 34). -/
def telegramOf (t : Bytes) (key : Nat) (data : Bytes) : Bytes :=
  let a := putAt data 0 (slice t 2 (tplStart t))
  let b := if byteAt t 6 = 0xFF then a else putAt a (byteAt t 6) (be 1 key)
  let c := if tplRule t = 1 then putAt b (byteAt t 7) (beInt (byteAt t 8) ((data.length : Int) - signed 1 (byteAt t 9))) else b
  let d := putAt c (data.length - byteAt t 12) (tplEnd t)
  putAt d (tplCheckAt t data.length) (tplCheckBytes t (tplCovered t d))

/-- A message enters a serial port's transmit queue (R281). -/
def serialOffer (s : State) (sp ident : Nat) (data : Bytes) : State :=
  if serialMode s sp = 0 ∨ serialMode s sp = 4 then s
  else setSerial s sp (fun p => { p with txQueue := p.txQueue ++ [(ident, data)] })

/-- The identifier of a Modbus request (R298): register type, slave and register. -/
def modbusIdent (r : ModbusReq) : Nat :=
  2 * 2 ^ 28 + (if r.function = 4 then 0 else 2 ^ 24) + r.address.toNat * 2 ^ 16 + beAt r.pdu 0 2

/-- The client sends a request (R284). -/
def modbusSend (s : State) (sp : Nat) (r : ModbusReq) : State :=
  serialOffer s sp (modbusIdent r) (modbusFrame ([r.address, r.function] ++ r.pdu))

/-- While a lock on a Modbus target of the port is held, only the requests under it go out (R322). -/
def modbusBlocked (s : State) (sp : Nat) (r : ModbusReq) : Bool :=
  match s.br.lock with
  | .held _ target _ =>
    target / 256 == 0x10 + sp && !(match r.bridgeTag with
      | some tag => s.br.txs.any (fun t => t.tag == tag && t.locked)
      | none => false)
  | _ => false

/-- A request is offered to the client of a port (R284): it goes out, waits among at most 16, or is refused. -/
def modbusOffer (s : State) (sp : Nat) (r : ModbusReq) : State × Bool :=
  let p := serialPort s sp
  if p.client.isNone && !(modbusBlocked s sp r) then
    let s1 := setSerial s sp (fun p => { p with client := some (r, s.val (0x4500 + sp) 0x0F), clientSent := false })
    (modbusSend s1 sp r, true)
  else
    if p.clientQueue.length < 16 then (setSerial s sp (fun p => { p with clientQueue := p.clientQueue ++ [r] }), true)
    else (s, false)

/-- The next queued request goes out, or the client rests (R284). -/
def modbusNext (s : State) (sp : Nat) : State :=
  match (serialPort s sp).clientQueue.find? (fun r => !(modbusBlocked s sp r)) with
  | none => setSerial s sp (fun p => { p with client := none, clientSent := false })
  | some r =>
    modbusSend (setSerial s sp (fun p => { p with
      client := some (r, s.val (0x4500 + sp) 0x0F), clientQueue := p.clientQueue.erase r, clientSent := false })) sp r

/-- SP0 and SP1 form one redundant segment (R286). -/
def mvbRedundant (s : State) : Bool := decide (s.val 0x4600 1 = 1) && decide (serialMode s 0 = 4)

/-- The segment a serial port belongs to. -/
def mvbSegOf (s : State) (sp : Nat) : Nat := if mvbRedundant s then 0 else sp

/-- A port-table entry (R287): source, F-code, port address, sink-time limit. -/
structure MvbEntry where
  valid : Bool
  source : Bool
  fcode : Nat
  addr : Nat
  limit : Nat
deriving DecidableEq, Repr

def mvbEntry (t : Tbl Bytes) (seg n : Nat) : MvbEntry :=
  let w := beAt (cfgBytes t (0x4600 + seg) 3) (8 * n) 8
  { valid := bitOf w 63, source := bitOf w 62, fcode := bitsOf w 61 59, addr := bitsOf w 58 47, limit := bitsOf w 46 31 }

def mvbEntries (t : Tbl Bytes) (seg : Nat) : List (Nat × MvbEntry) :=
  ((List.range ((cfgBytes t (0x4600 + seg) 3).length / 8)).map (fun n => (n, mvbEntry t seg n))).filter (fun e => e.2.valid)

def mvbFind (s : State) (seg addr : Nat) : Option (Nat × MvbEntry) := (mvbEntries s.cfg seg).find? (fun e => e.2.addr == addr)

/-- The size of a port by its F-code (R287). -/
def mvbSize (fcode : Nat) : Nat := 2 ^ (fcode + 1)

def mvbSeg (s : State) (seg : Nat) : MvbSeg := (s.mvb[seg]?).getD MvbSeg.reset

def setMvb (s : State) (seg : Nat) (f : MvbSeg → MvbSeg) : State := { s with mvb := vmod s.mvb seg f }

/-- The value of a port: zeros until it is first written (R288). -/
def mvbValue (s : State) (seg : Nat) (e : MvbEntry) : Bytes := (tget (mvbSeg s seg).values e.addr).getD (zeros (mvbSize e.fcode))

/-- A source port's buffer is written whole (R288); what the bridge has written is noted (R290). -/
def mvbWrite (s : State) (seg addr : Nat) (data : Bytes) (bridge : Bool) : State :=
  match mvbFind s seg addr with
  | some (_, e) =>
    if e.source then setMvb s seg (fun m => { m with
      values := tput m.values addr (padTo (mvbSize e.fcode) data), updated := tput m.updated addr s.time.mono,
      written := if !bridge || m.written.contains addr then m.written else m.written ++ [addr] })
    else s
  | none => s

/-- An MVB sink of a bus and address is stale (R289). -/
def sinkStale (s : State) (bus addr : Nat) : Bool := (mvbSeg s (mvbSegOf s (bus - 0x10))).stale.contains addr

/-- A serial port in MVB mode. -/
def isMvb (s : State) (bus : Nat) : Bool := (bus == 0x10 || bus == 0x11) && serialMode s (bus - 0x10) == 4

/-- The identifier of an MVB port (R298). -/
def mvbIdent (addr : Nat) : Nat := 4 * 2 ^ 28 + addr

/-- The source of a latest-value entry is stale (R308). -/
def heldStale (s : State) (r : Route) (h : HeldValue) : Bool :=
  h.timedOut || (isMvb s r.srcBus && sinkStale s r.srcBus (r.srcId % 4096))

/-- The register key of the map of a port running protocol 3 (R313). -/
def regKey (sp typ reg : Nat) : Nat := sp * 2 ^ 17 + typ * 2 ^ 16 + reg % 65536

/-- Registers are written into the map, two bytes each (R313). -/
def writeRegs (t : Tbl Nat) (sp typ reg : Nat) (data : Bytes) : Tbl Nat :=
  (List.range (data.length / 2)).foldl (fun (m : Tbl Nat) (i : Nat) => tput m (regKey sp typ (reg + i)) (beAt data (2 * i) 2)) t

end Sys2Proof.Machine
end

