-- ==== Sys2Proof/Machine/Bridge.lean ====
section
/-! DEFINITION. The Remote Access Bridge (R316 to R329), with the commands BRIDGE_HELD_READ, BRIDGE_POSTED_WRITE,
BRIDGE_FAR_COMPLETION, BRIDGE_READ_BOUND_EXPIRY, BRIDGE_ABANDONED_TIMEOUT, the lock's commands, BRIDGE_STATUS_POLL,
BRIDGE_CACHE_EXPIRY, LATE_FAULT_READ and STRANDED_READ_READ. -/

namespace Sys2Proof.Machine

/-- An entry of the page map (R316). -/
structure Page where
  valid : Bool
  kind : Nat
  free : Bool
  lockable : Bool
  depth : Nat
  bus : Nat
  node : Nat
  base : Nat
  holding : Bool
deriving DecidableEq, Repr

def pageAt (t : Tbl Bytes) (p : Nat) : Page :=
  let b := slice (cfgBytes t 0x4800 2) (16 * p) 16
  let w := beNat b
  { valid := decide (b.length = 16) && bitOf w 127, kind := bitsOf w 126 125, free := bitOf w 124, lockable := bitOf w 123,
    depth := bitsOf w 122 120, bus := bitsOf w 119 104, node := bitsOf w 103 96, base := bitsOf w 95 80, holding := bitOf w 79 }

/-- The size of a slot by kind (R317). -/
def slotSize (kind : Nat) : Nat := match kind with | 1 => 2 | 2 => 32 | _ => 16

/-- The far target of a page (R318). -/
def targetOf (p : Page) : Nat := if p.kind = 3 then 0x1000000 + p.bus else p.bus * 256 + p.node

/-- The bridge serves (R324). -/
def bridgeServes (s : State) : Bool := match s.op.state with | .commissioning | .normal | .test => true | _ => false

/-- The check of an access (R317, R321): 0 allowed, 8 bad access, 9 invalid page. -/
def accessCheck (s : State) (page off len : Nat) (write : Bool) : Nat :=
  let p := pageAt s.cfg page
  if !(s.on 0x4800 1) || !p.valid then 9
  else
    let size := slotSize p.kind
    let inSlot := decide (1 ≤ len) && decide (off % size + len ≤ size)
    if p.kind = 1 ∧ write then (if p.holding ∧ off % 2 = 0 ∧ (len = 2 ∨ len = 4) ∧ off + len ≤ 4096 then 0 else 8)
    else if !inSlot then 8
    else if p.kind = 2 then
      match mvbFind s (mvbSegOf s (p.bus - 0x10)) (p.base + off / 32) with
      | some (_, e) => if write ∧ !(e.source && decide (off % 32 + len ≤ mvbSize e.fcode)) then 8 else 0
      | none => 8
    else if write ∧ off % size ≠ 0 then 8
    else 0

/-- The bytes of a value that an access asks for. What a value shorter than the access leaves in the rest is a free value
(DESIGN CHOICE, log entry 36). -/
def accessBytes (value : Bytes) (off len : Nat) : Bytes :=
  let b := slice value off len
  b ++ (padTo len (Config.freeBytesOf 36 [(off : Int), (len : Int)] value)).drop b.length

/-- A record enters a queue of 64 (R321). -/
def pushBridge (q : List Bytes) (r : Bytes) : List Bytes := (q ++ [r]).drop (q.length + 1 - 64)

/-- A late-fault record (R321), counted, with event 4801h. -/
def lateFault (s : State) (x : BridgeTx) (cause code : Nat) : State :=
  let r := be 4 x.seq.toNat ++ be 1 x.tag ++ be 1 cause ++ be 2 x.page ++ be 2 x.offset ++ be 2 x.length ++ be 4 code ++
    be 4 s.now.toNat ++ be 2 (txSecondsOf s) ++ zeros 10
  let full := decide (64 ≤ s.br.lateFaults.length)
  let s1 := { s with br := { s.br with lateFaults := pushBridge s.br.lateFaults r, lateLost := s.br.lateLost || full } }
  let s2 := if full then bump s1 0x4810 8 else s1
  raise (bump s2 0x4810 7) 0x4801 2 0xFF (be 4 x.seq.toNat ++ be 1 x.tag ++ be 1 cause)

/-- A stranded-read record (R320, R321), with event 4802h. -/
def strandedRead (s : State) (x : BridgeTx) (at_ : T32) (value : Bytes) : State :=
  let r := be 4 x.seq.toNat ++ be 1 x.tag ++ be 1 0 ++ be 2 x.page ++ be 2 x.offset ++ be 2 x.length ++ be 4 at_.toNat ++
    be 4 s.now.toNat ++ be 2 (txSecondsOf s) ++ zeros 2 ++ padTo 16 value
  let full := decide (64 ≤ s.br.stranded.length)
  let s1 := { s with br := { s.br with stranded := pushBridge s.br.stranded r, strandedLost := s.br.strandedLost || full } }
  let s2 := if full then bump s1 0x4810 9 else s1
  raise s2 0x4802 2 0xFF (be 4 x.seq.toNat ++ be 1 x.tag ++ be 2 x.page)

/-- A held read completes to HOST (R320), with 4802h. -/
def completeRead (s : State) (x : BridgeTx) (data : Bytes) (result : BitVec 8) : State :=
  emit { s with br := { s.br with lastSeq := x.seq, lastResult := result } } (.bridge data)

/-- All bytes 0xFF (R320). -/
def allOnes (n : Nat) : Bytes := List.replicate n 0xFF

def bridgeTx (s : State) (tag : Nat) : Option BridgeTx := s.br.txs.find? (fun x => x.tag == tag)

def setTx (s : State) (tag : Nat) (f : BridgeTx → BridgeTx) : State :=
  { s with br := { s.br with txs := s.br.txs.map (fun x => if x.tag == tag then f x else x) } }

/-- The tag a lock holds. -/
def lockTag (s : State) : Option Nat := match s.br.lock with | .none => none | .waiting _ _ t _ => some t | .held _ _ t => some t

/-- The lowest free tag (R318). -/
def freeTag (s : State) : Option Nat :=
  (List.range 256).find? (fun t => (bridgeTx s t).isNone && lockTag s != some t)

/-- The target holds a lock, or waits for one. -/
def lockedTarget (s : State) (target : Nat) : Bool × Bool :=
  match s.br.lock with
  | .held _ t _ => (t == target, false)
  | .waiting _ t _ _ => (false, t == target)
  | .none => (false, false)

/-- The far request of a transaction (R317): CANopen and MOS objects by index and subindex, Modbus registers. -/
def sdoRequestOf (p : Page) (x : BridgeTx) : Bytes :=
  let head := le 2 p.base ++ be 1 (x.offset / 16)
  match x.data with
  | none => [0x40] ++ head ++ zeros 4
  | some d =>
    if d.length ≤ 4 then be 1 (0x23 + 4 * (4 - d.length)) ++ head ++ padTo 4 d
    else [0x21] ++ head ++ le 4 d.length

def modbusReqOf (p : Page) (x : BridgeTx) : ModbusReq :=
  let reg := be 2 (p.base + x.offset / 2)
  let fp : Nat × Bytes := match x.data with
    | none => (if p.holding then 3 else 4, reg ++ be 2 1)
    | some d => if d.length = 2 then (6, reg ++ d) else (0x10, reg ++ be 2 2 ++ be 1 4 ++ d)
  { address := BitVec.ofNat 8 p.node, function := BitVec.ofNat 8 fp.1, pdu := fp.2, poll := none, bridgeTag := some x.tag }

/-- The far request of a transaction is issued (R317, R320). -/
def issueTx (s : State) (x : BridgeTx) : State :=
  let p := pageAt s.cfg x.page
  if p.kind = 3 then
    setTx (emit s (.far x.tag x.target (be 2 p.base ++ be 1 (x.offset / 16) ++ x.data.getD []))) x.tag (fun y => { y with state := .sent })
  else
    let r := if p.kind = 0 then canOffer s p.bus (classicFrame (0x600 + p.node) (sdoRequestOf p x)) (some x.tag)
      else modbusOffer s (p.bus - 0x10) (modbusReqOf p x)
    if r.2 then setTx r.1 x.tag (fun y => { y with state := .issued }) else r.1

/-- The next transaction of a target starts, when none is out (R318), the lock lets it (R322), and no pause runs (R324). -/
def serveTarget (s : State) (target : Nat) : State :=
  let mine := s.br.txs.filter (fun x => x.target == target)
  let lk := lockedTarget s target
  if mine.any (fun x => x.state != .queued) || inPause s || lk.2 then s
  else match mine.find? (fun x => !lk.1 || x.locked) with
  | some x => issueTx s x
  | none => s

/-- Every target that waits is served, as when a port's queue has taken one request less (R318). -/
def serveAll (s : State) : State := ((s.br.txs.map (fun x => x.target)).eraseDups).foldl serveTarget s

/-- A transaction ends: its tag is free and its target goes on (R318). -/
def endTx (s : State) (x : BridgeTx) : State :=
  serveTarget { s with br := { s.br with txs := s.br.txs.filter (fun y => y.tag != x.tag) } } x.target

/-- A request that was not sent is taken out of its port's queue (R320). -/
def withdrawRequest (s : State) (x : BridgeTx) : State :=
  let p := pageAt s.cfg x.page
  match x.state with
  | .issued =>
    if p.kind = 0 then setCan s p.bus (fun c => { c with queue := c.queue.filter (fun m => m.bridge != some x.tag) })
    else
      let sp := p.bus - 0x10
      match (serialPort s sp).client with
      | some (r, _) =>
        if r.bridgeTag = some x.tag then
          modbusNext (setSerial s sp (fun q => { q with txQueue := q.txQueue.erase (modbusIdent r, modbusFrame ([r.address, r.function] ++ r.pdu)) })) sp
        else setSerial s sp (fun q => { q with clientQueue := q.clientQueue.filter (fun y => y.bridgeTag != some x.tag) })
      | none => setSerial s sp (fun q => { q with clientQueue := q.clientQueue.filter (fun y => y.bridgeTag != some x.tag) })
  | _ => s

/-- A value is kept for the cache lifetime (R319). -/
def cachePut (s : State) (page slot : Nat) (v : Bytes) : State :=
  { s with br := { s.br with cache := (s.br.cache.filter (fun e => !(e.1 == page && e.2.1 == slot))) ++ [(page, slot, v)] } }

def cacheDrop (s : State) (test : Nat → Nat → Bool) : State :=
  { s with br := { s.br with cache := s.br.cache.filter (fun e => !(test e.1 e.2.1)) } }

/-- A write to slots discards their kept values (R319). -/
def dropWritten (s : State) (page off len : Nat) : State :=
  let size := slotSize (pageAt s.cfg page).kind
  cacheDrop s (fun pg sl => pg == page && decide (off / size ≤ sl) && decide (sl ≤ (off + len - 1) / size))

/-- The masked value that a status poll compares (R323). -/
def maskedValue (s : State) (n : Nat) (v : Bytes) : List Byte :=
  let mask := slice (cfgBytes s.cfg 0x4800 4) (16 * n + 8) 8
  (List.range 8).map (fun i => BitVec.ofNat 8 (byteAt v i &&& byteAt mask i))

/-- A status poll has read its slot (R323). -/
def pollRead (s : State) (n page : Nat) (v : Bytes) : State :=
  let same := match tget s.br.polls n with
    | some old => maskedValue s n old.value == maskedValue s n v
    | none => false
  if same then s
  else raise { s with br := { s.br with polls := tput s.br.polls n { value := v, changedAt := s.now } } } 0x4804 1 0xFF (be 1 n ++ be 2 page)

/-- A far response arrives (R320, R323). -/
def farValue (s : State) (x : BridgeTx) (d : Bytes) : State :=
  let p := pageAt s.cfg x.page
  let inOff := x.offset % slotSize p.kind
  let keep := fun (t : State) => if p.free then cachePut t x.page (x.offset / slotSize p.kind) d else t
  match x.use_, x.state with
  | .write, _ => endTx (dropWritten s x.page x.offset (x.data.getD []).length) x
  | .prefetch, _ => endTx (keep s) x
  | .poll n, _ => endTx (pollRead s n x.page (accessBytes d inOff x.length)) x
  | .held, .abandoned at_ record => endTx (if record then strandedRead s x at_ (accessBytes d inOff x.length) else s) x
  | .held, _ => endTx (keep (completeRead s x (accessBytes d inOff x.length) 0)) x

/-- A far access fails (R320, R321). -/
def farFailure (s : State) (x : BridgeTx) (cause code : Nat) : State :=
  match x.use_, x.state with
  | .held, .abandoned _ _ => endTx (lateFault s x cause code) x
  | .held, _ => endTx (lateFault (completeRead s x (allOnes x.length) 1) x cause code) x
  | _, _ => endTx (lateFault s x cause code) x

/-- The cause of a far failure by the page's kind (R321). -/
def farCause (s : State) (x : BridgeTx) : Nat := match (pageAt s.cfg x.page).kind with | 0 => 2 | 1 => 3 | _ => 4

/-- The far request has been sent (R320). -/
def farSent (s : State) (tag : Nat) : State :=
  setTx s tag (fun x => match x.state with | .issued => { x with state := .sent } | _ => x)

/-- A far completion of a transaction whose request was sent. -/
def farCompletion (s : State) (tag : Nat) (r : FarResult) : State :=
  match bridgeTx s tag with
  | none => s
  | some x =>
    if x.state = .queued ∨ x.state = .issued then s
    else match r with
    | .data d => farValue s x d
    | .done => farValue s x []
    | .failed code => farFailure s x (farCause s x) code.toNat
    | .timeout => farFailure s x 1 0

/-- A transaction is accepted under a number and a tag and waits for its target (R318). -/
def acceptTx (s : State) (tag page off len : Nat) (data : Option Bytes) (u : BridgeUse) : State :=
  let target := targetOf (pageAt s.cfg page)
  let x : BridgeTx :=
    { tag := tag, seq := s.br.seq, page := page, offset := off, length := len, data := data, state := .queued, use_ := u,
      target := target, locked := (lockedTarget s target).1 && (match u with | .held | .write => true | _ => false) }
  serveTarget { s with br := { s.br with txs := s.br.txs ++ [x], seq := s.br.seq + 1 } } target

/-- An access that fails at once: its number, and the record of cause 6, 8 or 9 (R321, R324). -/
def refuseAccess (s : State) (page off len cause : Nat) : State × BridgeTx :=
  let x : BridgeTx :=
    { tag := 0, seq := s.br.seq, page := page, offset := off, length := len, data := none, state := .queued, use_ := .write,
      target := 0, locked := false }
  (lateFault { s with br := { s.br with seq := s.br.seq + 1 } } x cause 0, x)

/-- The slots that a read also fetches on a side-effect-free page (R319). -/
def prefetchAll (s : State) (page off : Nat) : State :=
  let p := pageAt s.cfg page
  let size := slotSize p.kind
  if p.free then
    (List.range' 1 p.depth).foldl (fun t k =>
      let at_ := (off / size + k) * size
      if at_ < 4096 then
        match freeTag t with
        | some tag => acceptTx t tag page at_ size none .prefetch
        | none => t
      else t) s
  else s

/-- BRIDGE_HELD_READ (R317, R319, R320): a local MVB value, a kept value, or a far read. With every tag in use the access
stays with HOST (R318). -/
def execBridgeHeldRead (offset : BitVec 24) (length : Nat) (s : State) : Host.Outcome State Fault Refusal :=
  let page := offset.toNat / 4096
  let off := offset.toNat % 4096
  if !(isOpen s 17) then .next s
  else
    let p := pageAt s.cfg page
    let size := slotSize p.kind
    let seqd := fun (t : State) => { t with br := { t.br with seq := t.br.seq + 1 } }
    let blank : BridgeTx :=
      { tag := 0, seq := s.br.seq, page := page, offset := off, length := length, data := none, state := .queued, use_ := .held,
        target := 0, locked := false }
    let c := accessCheck s page off length false
    if !(bridgeServes s) then .next (seqd (completeRead (bumpW s 0x4810 3 0 1) blank (allOnes length) 5))
    else if c ≠ 0 then
      let r := refuseAccess (bumpW s 0x4810 3 0 1) page off length c
      .next (completeRead r.1 r.2 (allOnes length) 4)
    else if p.kind = 2 then
      let seg := mvbSegOf s (p.bus - 0x10)
      match mvbFind s seg (p.base + off / 32) with
      | some (_, e) => .next (seqd (completeRead (bumpW s 0x4810 3 0 1) blank (accessBytes (mvbValue s seg e) (off % 32) length) 0))
      | none => .next s
    else match s.br.cache.find? (fun e => e.1 == page && e.2.1 == off / size) with
    | some (_, _, v) =>
      .next (seqd (completeRead (bumpW (bumpW s 0x4810 3 0 1) 0x4810 5 0 1) blank (accessBytes v (off % size) length) 0))
    | none =>
      match freeTag s with
      | none => .next s
      | some tag => .next (prefetchAll (acceptTx (bumpW s 0x4810 3 0 1) tag page off length none .held) page off)

/-- BRIDGE_POSTED_WRITE (R317, R319): accepted at once and queued, or written to the source port's buffer. -/
def execBridgePostedWrite (offset : BitVec 24) (data : Bytes) (s : State) : Host.Outcome State Fault Refusal :=
  let page := offset.toNat / 4096
  let off := offset.toNat % 4096
  if !(isOpen s 17) then .next s
  else
    let p := pageAt s.cfg page
    let c := accessCheck s page off data.length true
    if !(bridgeServes s) then .next (refuseAccess (bumpW s 0x4810 4 0 1) page off data.length 6).1
    else if c ≠ 0 then .next (refuseAccess (bumpW s 0x4810 4 0 1) page off data.length c).1
    else if p.kind = 2 then
      let seg := mvbSegOf s (p.bus - 0x10)
      match mvbFind s seg (p.base + off / 32) with
      | some (_, e) =>
        let s1 := mvbWrite (bumpW s 0x4810 4 0 1) seg e.addr (putAt (mvbValue s seg e) (off % 32) data) true
        .next { s1 with br := { s1.br with seq := s1.br.seq + 1 } }
      | none => .next s
    else match freeTag s with
      | none => .next s
      | some tag =>
        let s1 := dropWritten (bumpW s 0x4810 4 0 1) page off data.length
        .next (acceptTx s1 tag page off data.length (some data) .write)

/-- BRIDGE_FAR_COMPLETION (R320). -/
def execBridgeFarCompletion (tag : Fin 256) (result : FarResult) (s : State) : Host.Outcome State Fault Refusal :=
  .next (farCompletion s tag.val result)

/-- BRIDGE_READ_BOUND_EXPIRY (R320): the read completes as all 0xFF; an unsent request is cancelled, a sent one abandoned. -/
def execBridgeReadBoundExpiry (tag : Fin 256) (s : State) : Host.Outcome State Fault Refusal :=
  match bridgeTx s tag.val with
  | none => .next s
  | some x =>
    match x.use_, x.state with
    | .held, .sent =>
      let s1 := completeRead (bump s 0x4810 6) x (allOnes x.length) 3
      .next (setTx s1 tag.val (fun y => { y with state := .abandoned s.now (!(inPause s)) }))
    | .held, .abandoned _ _ => .next s
    | .held, _ => .next (endTx (withdrawRequest (completeRead (bump s 0x4810 6) x (allOnes x.length) 2) x) x)
    | _, _ => .next s

/-- BRIDGE_ABANDONED_TIMEOUT (R320): a late fault of cause 1. -/
def execBridgeAbandonedTimeout (tag : Fin 256) (s : State) : Host.Outcome State Fault Refusal :=
  match bridgeTx s tag.val with
  | none => .next s
  | some x =>
    match x.state with
    | .abandoned _ _ => .next (farFailure s x 1 0)
    | _ => .next s

/-- The lock is released: the target and the port go on (R322). -/
def releaseLock (s : State) : State :=
  match s.br.lock with
  | .none => s
  | .waiting _ target _ _ => serveTarget { s with br := { s.br with lock := .none } } target
  | .held _ target _ =>
    let s1 := serveTarget { s with br := { s.br with lock := .none } } target
    let sp := target / 256 - 0x10
    if 0x10 ≤ target / 256 ∧ target / 256 ≤ 0x15 ∧ (serialPort s1 sp).client.isNone then modbusNext s1 sp else s1

/-- A transaction of the target is out (R322). -/
def targetBusy (s : State) (target : Nat) : Bool := s.br.txs.any (fun x => x.target == target && x.state != .queued)

/-- A lock is granted (R322): the kept values of its target are discarded (R319). -/
def grantLock (s : State) (page target tag : Nat) : State :=
  serveTarget (cacheDrop { s with br := { s.br with lock := .held page target tag } } (fun pg _ => targetOf (pageAt s.cfg pg) == target)) target

/-- A request for a lock (R322); the result code. -/
def lockRequest (s : State) (page : Nat) : State × Nat :=
  if page = 0xFFFF then (releaseLock s, 0)
  else if 4096 ≤ page then (s, 8)
  else
    let p := pageAt s.cfg page
    let idle : Bool := match s.br.lock with | .none => true | _ => false
    match freeTag s with
    | some tag =>
      if s.on 0x4800 1 ∧ p.valid ∧ p.lockable ∧ p.kind ≤ 1 ∧ idle then
        (if targetBusy s (targetOf p) then { s with br := { s.br with lock := .waiting page (targetOf p) tag s.time.mono } }
         else grantLock s page (targetOf p) tag, 0)
      else (s, 0x0F)
    | none => (s, 0x0F)

/-- BRIDGE_LOCK_REQUEST (R322). -/
def execBridgeLockRequest (ses : SessionNo) (page : BitVec 16) (s : State) : Host.Outcome State Fault Refusal :=
  .next (command s ses 0x4801 1 (be 2 page.toNat) (fun t => lockRequest t page.toNat))

/-- BRIDGE_LOCK_RELEASE (R322). -/
def execBridgeLockRelease (ses : SessionNo) (s : State) : Host.Outcome State Fault Refusal :=
  .next (command s ses 0x4801 1 (be 2 0xFFFF) (fun t => lockRequest t 0xFFFF))

/-- BRIDGE_LOCK_GRANT (R322): the target's transaction has ended, or 100 ms have passed since the request. -/
def execBridgeLockGrant (s : State) : Host.Outcome State Fault Refusal :=
  match s.br.lock with
  | .waiting page target tag since =>
    if !(targetBusy s target) ∨ since + 100000000 ≤ s.time.mono then .next (grantLock s page target tag) else .next s
  | _ => .next s

/-- A record in the lock's own name (R322). -/
def lockFault (s : State) (page tag : Nat) : State :=
  lateFault s { tag := tag, seq := s.br.seq, page := page, offset := 0, length := 0, data := none, state := .queued, use_ := .write,
                target := 0, locked := true } 5 0

/-- BRIDGE_LOCK_EXPIRY (R322): queued transactions under the lock fail with cause 5. -/
def execBridgeLockExpiry (s : State) : Host.Outcome State Fault Refusal :=
  match s.br.lock with
  | .held page target tag =>
    let under := s.br.txs.filter (fun x => x.locked && x.target == target && (x.state == .queued || x.state == .issued))
    let s1 := releaseLock { s with br := { s.br with txs := s.br.txs.filter (fun x => !(under.contains x)) } }
    let s2 := under.foldl (fun t x =>
      let t1 := withdrawRequest t x
      match x.use_ with
      | .held => lateFault (completeRead t1 x (allOnes x.length) 1) x 5 0
      | _ => lateFault t1 x 5 0) s1
    .next (raise (bump (lockFault s2 page tag) 0x4810 0x0B) 0x4803 3 0xFF (be 2 page ++ be 4 under.length))
  | _ => .next s

/-- BRIDGE_STATUS_POLL (R323): the slot is read as a transaction without a bound, or the poll is skipped. -/
def execBridgeStatusPoll (poll : Fin 32) (s : State) : Host.Outcome State Fault Refusal :=
  let r := slice (cfgBytes s.cfg 0x4800 4) (16 * poll.val) 16
  let page := beAt r 0 2
  let off := beAt r 2 2
  let len := byteAt r 4
  let running := s.br.txs.any (fun x => match x.use_ with | .poll n => n == poll.val | _ => false)
  if r.length < 16 ∨ !(bridgeServes s) ∨ inPause s then .next s
  else if running then .next (bump s 0x4810 0x0A)
  else if accessCheck s page off len false ≠ 0 then .next (refuseAccess s page off len (accessCheck s page off len false)).1
  else
    let p := pageAt s.cfg page
    if p.kind = 2 then
      let seg := mvbSegOf s (p.bus - 0x10)
      match mvbFind s seg (p.base + off / 32) with
      | some (_, e) => .next (pollRead s poll.val page (accessBytes (mvbValue s seg e) (off % 32) len))
      | none => .next s
    else match freeTag s with
      | some tag => .next (acceptTx s tag page off len none (.poll poll.val))
      | none => .next (bump s 0x4810 0x0A)

/-- BRIDGE_CACHE_EXPIRY (R319). -/
def execBridgeCacheExpiry (page : Fin 4096) (slot : Nat) (s : State) : Host.Outcome State Fault Refusal :=
  .next (cacheDrop s (fun pg sl => pg == page.val && sl == slot))

/-- A record as it is read, with bit 0 of its flags when records were lost before it (R321). -/
def flagRecord (r : Bytes) (lost : Bool) : Bytes := if lost then putAt r 22 [0x01] else r

/-- The oldest late-fault record is returned and removed (R321). -/
def takeLateFault (s : State) : State × Bytes :=
  match s.br.lateFaults with
  | [] => (s, zeros 32)
  | r :: rest => ({ s with br := { s.br with lateFaults := rest, lateLost := false } }, flagRecord r s.br.lateLost)

/-- The oldest stranded-read record is returned and removed (R321). -/
def takeStranded (s : State) : State × Bytes :=
  match s.br.stranded with
  | [] => (s, zeros 40)
  | r :: rest => ({ s with br := { s.br with stranded := rest, strandedLost := false } }, flagRecord r s.br.strandedLost)

/-- LATE_FAULT_READ (R321). -/
def execLateFaultRead (ses : SessionNo) (s : State) : Host.Outcome State Fault Refusal :=
  .next (readCommand s ses 0x4820 1 takeLateFault)

/-- STRANDED_READ_READ (R321). -/
def execStrandedReadRead (ses : SessionNo) (s : State) : Host.Outcome State Fault Refusal :=
  .next (readCommand s ses 0x4830 1 takeStranded)

/-- The bridge at a change into a state that does not serve it (R324): every transaction ends with cause 6. -/
def bridgeStop (s : State) : State :=
  let s0 := s.br.txs.foldl withdrawRequest { s with br := { s.br with txs := [], lock := .none, cache := [] } }
  s.br.txs.foldl (fun t x =>
    match x.use_, x.state with
    | .held, .abandoned _ _ => lateFault t x 6 0
    | .held, _ => lateFault (completeRead t x (allOnes x.length) 5) x 6 0
    | _, _ => lateFault t x 6 0) s0

/-- The end of the activation pause (R324): what was out fails with cause 7, and the rest starts. -/
def bridgeAfterPause (s : State) : State :=
  let out := s.br.txs.filter (fun x => x.state != .queued)
  let s0 := { s with br := { s.br with txs := s.br.txs.filter (fun x => x.state == .queued) } }
  let s1 := out.foldl (fun t x =>
    match x.use_, x.state with
    | .held, .abandoned _ _ => lateFault t x 7 0
    | .held, _ => lateFault (completeRead t x (allOnes x.length) 1) x 7 0
    | _, _ => lateFault t x 7 0) s0
  s1.br.txs.foldl (fun t x => serveTarget t x.target) s1

/-- What the objects of R328 show. -/
def liveBridge (s : State) (ses idx sub : Nat) : Option Bytes :=
  let poll := tget s.br.polls (getOwn s ses 0x4840 1)
  match idx, sub with
  | 0x4800, 5 => some (be 2 (s.br.txs.length + (if (lockTag s).isSome then 1 else 0)))
  | 0x4801, 2 => some (be 1 (match s.br.lock with | .none => 0 | .waiting _ _ _ _ => 1 | .held _ _ _ => 2))
  | 0x4802, 1 => some (be 1 s.br.lastResult.toNat)
  | 0x4802, 2 => some (be 4 s.br.lastSeq.toNat)
  | 0x4820, 2 => some (be 1 s.br.lateFaults.length)
  | 0x4830, 2 => some (be 1 s.br.stranded.length)
  | 0x4840, 2 => some (match poll with | some v => v.value | none => [])
  | 0x4840, 3 => some (be 4 (match poll with | some v => v.changedAt.toNat | none => 0))
  | _, _ => none

/-- The apply of a new page map or poll list: kept values of the old map are discarded, and polls start anew. -/
def applyBridge (old : Tbl Bytes) (s : State) : State :=
  let same := fun (sub : Nat) => cfgBytes old 0x4800 sub == cfgBytes s.cfg 0x4800 sub
  let s1 := if same 2 && same 1 then s else cacheDrop s (fun _ _ => true)
  if same 4 then s1 else { s1 with br := { s1.br with polls := [] } }

/-- The rules of validation for the bridge (R316, R317, R323). -/
def bridgeRules (t : Tbl Bytes) : Option (Nat × Nat) :=
  let map := cfgBytes t 0x4800 2
  let n := map.length / 16
  let bad (i : Nat) : Option Nat :=
    let p := pageAt t i
    let w := beAt map (16 * i) 16
    let bound := bitsOf w 78 75
    let life := bitsOf w 74 65
    if !p.valid then none
    else if bound = 0 ∨ 10 < bound ∨ (p.free ∧ (life = 0 ∨ 1000 < life)) ∨ w % 2 ^ 65 ≠ 0 ∨ (p.kind = 3 ∧ 15 < p.bus) ∨ (p.kind = 0 ∧ (p.node = 0 ∨ 127 < p.node)) ∨
        (p.kind = 1 ∧ (p.node = 0 ∨ 247 < p.node)) ∨ (2 ≤ p.kind ∧ p.node ≠ 0) then some 1
    else if p.kind = 0 then (if 8 ≤ p.bus ∨ p.node = cfgNat t 0x2110 5 then some 4 else none)
    else if p.kind = 1 then
      (if p.bus < 0x10 ∨ 0x15 < p.bus ∨ cfgNat t (0x4500 + (p.bus - 0x10)) 4 ≠ 2 ∨ cfgNat t (0x4500 + (p.bus - 0x10)) 1 = 0 ∨ cfgNat t (0x4500 + (p.bus - 0x10)) 1 = 4 then some 4 else none)
    else if p.kind = 2 then (if p.bus ≠ 0x10 ∧ p.bus ≠ 0x11 ∨ cfgNat t (0x4500 + (p.bus - 0x10)) 1 ≠ 4 then some 4 else none)
    else none
  match (List.range n).findSome? bad with
  | some r => some (okey 0x4800 2, r)
  | none =>
    let polls := cfgBytes t 0x4800 4
    let m := polls.length / 16
    let badPoll := fun (i : Nat) =>
      let r := slice polls (16 * i) 16
      decide (byteAt r 4 = 0) || decide (16 < byteAt r 4) || decide (byteAt r 5 ≠ 0) || decide (beAt r 6 2 < 10) || decide (4096 ≤ beAt r 0 2)
    if map.length % 16 ≠ 0 ∨ 4096 < n then some (okey 0x4800 2, 1)
    else if polls.length % 16 ≠ 0 ∨ 32 < m ∨ (List.range m).any badPoll then some (okey 0x4800 4, 1)
    else if (cfgBytes t 0x4800 3).length % 20 ≠ 0 ∨ 16 < (cfgBytes t 0x4800 3).length / 20 then some (okey 0x4800 3, 1)
    else none

end Sys2Proof.Machine
end

