-- ==== Sys2Proof/Machine/Buses.lean ====
section
/-! DEFINITION. The legacy bus ports (chapter 08): the commands of CAN, serial and MVB ports, what their objects show, the
apply and the validation of their settings, and what a change of state does to them. The hand-over is ENGINE_HANDOVER. -/

namespace Sys2Proof.Machine

/-- A Pool Manager buffer of BE0 or BE1 is given back (R273). -/
def freeRx (s : State) (cn : Nat) (m : CanRx) : State :=
  match m.buffer with
  | some h => poolFreeOp s (3 + cn / 4) h
  | none => s

/-- Management uses this 11-bit identifier on the port (R278). -/
def mgmtId (t : Tbl Bytes) (cn id : Nat) : Bool :=
  let node := cfgNat t 0x2110 5
  decide (cfgNat t 0x2111 (cn + 1) ≠ 0xFF) && [0x080 + node, 0x580 + node, 0x600 + node, 0x700 + node].contains id

/-- Entry n of a port's filter image (R272). -/
def filterAt (t : Tbl Bytes) (cn n : Nat) : Nat := beAt (cfgBytes t (0x4400 + cn) 0x0E) (8 * n) 8

def filterCount (t : Tbl Bytes) (cn : Nat) : Nat := (cfgBytes t (0x4400 + cn) 0x0E).length / 8

/-- A frame matches a filter entry (R272). -/
def filterHit (w : Nat) (f : CanFrame) : Bool :=
  let kind := match f.kind with | .classical => 1 | .fd => 2 | .xl => 3 | .remote => 0
  let mask := bitsOf w 28 0
  bitOf w 63 && (bitOf w 62 == f.ext) && (bitsOf w 61 60 == 0 || bitsOf w 61 60 == kind) &&
    (f.id.toNat &&& mask == bitsOf w 57 29 &&& mask)

/-- Where a received frame goes: FIFO 0 or 1, or none (R272). -/
def filterDest (s : State) (cn : Nat) (f : CanFrame) : Option Nat :=
  match (List.range (filterCount s.cfg cn)).find? (fun n => filterHit (filterAt s.cfg cn n) f) with
  | some n => if bitsOf (filterAt s.cfg cn n) 59 58 < 2 then some (bitsOf (filterAt s.cfg cn n) 59 58) else none
  | none => if s.val (0x4400 + cn) 0x0D = 1 then some 1 else none

def fifoOf (c : CanPort) (n : Nat) : List CanRx := if n = 0 then c.fifo0 else c.fifo1

def setFifo (c : CanPort) (n : Nat) (l : List CanRx) : CanPort := if n = 0 then { c with fifo0 := l } else { c with fifo1 := l }

/-- A frame enters its FIFO by the FIFO's policy (R273). -/
def fifoPut (s : State) (cn n : Nat) (m : CanRx) : State :=
  let l := fifoOf (canPort s cn) n
  if l.length < 64 then setCan s cn (fun c => setFifo c n (fifoOf c n ++ [m]))
  else
    let s1 := raiseLimited (bumpN s 0x4420 cn (5 + n)) (2 * cn + n) 1000000000 0x4405 2 0xFF (be 1 cn ++ be 1 n)
    if bitOf (s.val (0x4400 + cn) 0x0C) n then
      match l with
      | old :: rest => freeRx (setCan s1 cn (fun c => setFifo c n (rest ++ [m]))) cn old
      | [] => s1
    else freeRx s1 cn m

/-- A frame that the filters accept, with the stamp of its start; a long XL data field takes a buffer of class C2 (R273). -/
def canAccept (s : State) (cn : Nat) (f : CanFrame) (stamp : T32) : State :=
  match filterDest s cn f with
  | none => bumpW s (0x4420 + cn) 7 0 1
  | some n =>
    if f.kind = .xl ∧ 64 < f.data.length then
      let r := poolRequestOne s (3 + cn / 4) 2048 false
      match r.2 with
      | some h => fifoPut r.1 cn n { frame := f, stamp := stamp, buffer := some h }
      | none => bumpN r.1 0x4420 cn 0x0E
    else fifoPut s cn n { frame := f, stamp := stamp, buffer := none }

/-- The controller's state follows its error counters (R275, ISO 11898-1), with event 4401h at error passive. -/
def canConfine (s : State) (cn : Nat) : State :=
  let c := canPort s cn
  if !(canRunning c) then s
  else if 128 ≤ c.txErr ∨ 128 ≤ c.rxErr then
    (if c.ctl = .active then
      raise (setCan s cn (fun c => { c with ctl := .passive })) 0x4401 2 0xFF (be 1 cn ++ be 1 c.txErr ++ be 1 c.rxErr)
     else s)
  else setCan s cn (fun c => { c with ctl := .active })

/-- Automatic recoveries in the last 60 s (R276). -/
def recentRecoveries (s : State) (c : CanPort) : Nat := (c.recoveries.filter (fun t => decide (s.time.mono < t + 60000000000))).length

/-- Bus-off (R276): the queue, the slots, the count, event 4402h; and held off where the recovery limit is reached. -/
def canBusOff (s : State) (cn : Nat) : State :=
  let c := canPort s cn
  let drop := s.on (0x4400 + cn) 0x0B
  let n := if drop then c.queue.length else 0
  let s1 := setCan s cn (fun c => { c with ctl := .busOff, queue := if drop then [] else c.queue, slotsWaiting := [], slotsPaused := true, commanded := false })
  let s2 := (List.range n).foldl (fun t _ => bumpN t 0x4420 cn 0x0D) s1
  let s3 := raise (bumpN s2 0x4420 cn 0x0A) 0x4402 3 0xFF (be 1 cn ++ be 4 n)
  let limit := s.val (0x4400 + cn) 0x0A
  let recent := recentRecoveries s c
  if s.val (0x4400 + cn) 8 = 0 ∧ limit ≠ 0 ∧ limit ≤ recent then
    raise (setCan s3 cn (fun c => { c with ctl := .heldOff })) 0x4404 3 0xFF (be 1 cn ++ be 4 recent)
  else s3

/-- The receive error counter after a good frame (ISO 11898-1): one less, or from above 127 a free value of 119 to 127. -/
def goodReceive (s : State) (cn : Nat) : State :=
  let c := canPort s cn
  if 127 < c.rxErr then
    let r := drawNat s 37
    setCan r.1 cn (fun c => { c with rxErr := 119 + r.2 % 9 })
  else setCan s cn (fun c => { c with rxErr := c.rxErr - 1 })

/-- A format that the port is not set for (R270). -/
def badFormat (s : State) (cn : Nat) (f : CanFrame) : Bool :=
  match f.kind with
  | .fd => decide (s.val (0x4400 + cn) 2 = 0)
  | .xl => decide (s.val (0x4400 + cn) 2 < 2)
  | _ => false

/-- A good frame: taken by management or the bridge, discarded, or filtered (R270, R272, R278, R317). -/
def canGood (s : State) (cn : Nat) (f : CanFrame) (stamp : T32) : State :=
  let base := !f.ext && f.kind != .xl
  let id := f.id.toNat
  let bridge := base && s.br.txs.any (fun x => x.target / 256 == cn && x.state != .queued && x.target < 0x1000000 && id == 0x580 + x.target % 256)
  if f.kind = .remote then bumpN s 0x4420 cn 0x0C
  else if base ∧ isMgmtCan s cn ∧ id = 0x600 + nodeId s then s
  else if base ∧ isMgmtCan s cn ∧ id = 0 then bumpN s 0x4420 cn 0x0F
  else if bridge then s
  else if busLevel s = .safe then s
  else canAccept (noteHeard s cn (canIdent f) f.data false stamp) cn f stamp

/-- A port's queue, slots and FIFOs are emptied, their buffers freed. -/
def canClear (s : State) (cn : Nat) : State :=
  let c := canPort s cn
  (c.fifo0 ++ c.fifo1).foldl (fun t m => freeRx t cn m) (setCan s cn (fun c => { c with queue := [], slotsWaiting := [], fifo0 := [], fifo1 := [] }))

/-- A port begins to integrate, where its mode and the state let it run (R277, R290). -/
def canBegin (s : State) (cn : Nat) : State :=
  let off := decide (s.val (0x4400 + cn) 1 = 0) || decide (busLevel s = .silent)
  setCan s cn (fun c => { c with
    reconfigure := false, oldCfg := [], ctl := if off then .off else .integrating, since := s.time.mono, txErr := 0, rxErr := 0,
    commanded := false, slotsPaused := decide (busLevel s ≠ .all) })

/-- 11 nominal bit times of a port in ns (R271, R277). -/
def elevenBits (s : State) (cn : Nat) : Nat :=
  let n := s.val (0x4400 + cn) 3
  11 * ((bitsOf n 31 24 + 1) * (3 + bitsOf n 23 16 + bitsOf n 15 9)) * 625 / 100

/-- The ports that have integrated are error active: a bus that carried no frame has been recessive for 11 bits (DEDUCED, log entry
193). -/
def canIntegrate (s : State) : State :=
  (List.range 8).foldl (fun t cn =>
    let c := canPort t cn
    if c.ctl = .integrating ∧ c.since + elevenBits t cn ≤ t.time.mono then setCan t cn (fun c => { c with ctl := .active }) else t) s

/-- A port whose settings have changed has ended its frame (R277): its queue is counted as discarded, and it begins anew. -/
def canSwitch (s : State) (cn : Nat) : State :=
  let s1 := (List.range (canPort s cn).queue.length).foldl (fun t _ => bumpN t 0x4420 cn 0x0D) (canClear s cn)
  emcyCleared s (canBegin s1 cn)

/-- What a port does under the settings that still hold for the frame in progress (R277). -/
def underOld (s : State) (cn : Nat) (f : State → State) : State :=
  let held := (canPort s cn).oldCfg.foldl (fun t e => cfgPut t (e.1 / 256) (e.1 % 256) e.2) s.cfg
  { f { s with cfg := held } with cfg := s.cfg }

/-- A frame ends at a running port (R270, R272, R273, R275, R278). -/
def canTakeFrame (s : State) (cn : Nat) (f : CanFrame) (error : Option CanReceiveError) (stamp : T32) : State :=
  let worse := fun (n : Nat) =>
    canConfine (setCan (bumpN s 0x4420 cn 0x0B) cn (fun c => { c with rxErr := min 255 (c.rxErr + n) })) cn
  match error with
  | some .heavy => worse 8
  | some .light => worse 1
  | none =>
    if badFormat s cn f then worse 1
    else canGood (canConfine (goodReceive (bumpW s (0x4420 + cn) 3 0 1) cn) cn) cn f stamp

/-- CAN_FRAME_RECEIVED (R269, R270, R272, R273, R278): a frame that began so many ns ago ends. A port that had not integrated when it began
does not take it, and has integrated at its end; one that waits to stop takes the frame in progress under its old settings (R277). -/
def execCanFrameReceived (cn : Fin 8) (frame : CanFrame) (arrival : CanArrival) (s : State) :
    Host.Outcome State Fault Refusal :=
  let n := cn.val
  let c := canPort s n
  let began := s.time.mono - arrival.age
  if busLevel s = .silent then .next s
  else if c.ctl = .integrating then .next (setCan s n (fun c => { c with ctl := .active }))
  else if !(canRunning c) ∨ began < c.since + elevenBits s n then .next s
  else if c.reconfigure then
    (if began ≤ c.stoppedAt then .next (canSwitch (underOld s n (fun t => canTakeFrame t n frame arrival.error (s.now - BitVec.ofNat 32 arrival.age))) n)
     else .next s)
  else .next (canTakeFrame s n frame arrival.error (s.now - BitVec.ofNat 32 arrival.age))

/-- A message meets its end on CN or SP in the hand-over FIFO of BE3 (R303); a full FIFO loses it. -/
def handOver (s : State) (m : GwMsg) : State × Bool :=
  if s.gw.fifo.length < 1024 then ({ s with gw := { s.gw with fifo := s.gw.fifo ++ [m] } }, true)
  else (raiseLimited (bump s 0x4710 6) 0 1000000000 0x4702 2 0xFF (be 2 m.bus), false)

/-- The oldest message of a CAN port is handed over, FIFO 0 before FIFO 1 (R268, R273). Where routing is off it is
discarded (R315). -/
def canHandover (s : State) (cn : Nat) : State :=
  let c := canPort s cn
  let n := if c.fifo0.isEmpty then 1 else 0
  match fifoOf c n with
  | [] => s
  | m :: rest =>
    let s1 := setCan s cn (fun c => setFifo c n rest)
    if busLevel s ≠ .all then freeRx s1 cn m
    else
      let xl := if m.frame.kind = .xl then some m.frame.xl else none
      let r := handOver s1 { bus := cn, ident := canIdent m.frame, data := m.frame.data, stamp := m.stamp, buffer := m.buffer, xl := xl }
      if r.2 then r.1 else freeRx r.1 cn m

/-- The oldest message of a serial port, or sink update of an MVB segment, is handed over (R268). -/
def serialHandover (s : State) (sp : Nat) : State :=
  match (serialPort s sp).ready with
  | [] => s
  | (ident, data, stamp) :: rest =>
    let s1 := setSerial s sp (fun p => { p with ready := rest })
    if busLevel s ≠ .all then s1
    else (handOver s1 { bus := 0x10 + sp, ident := ident, data := data, stamp := stamp, buffer := none, xl := none }).1

/-- ENGINE_HANDOVER (R268). The engines stand still in the activation pause (R290). -/
def execEngineHandover (bus : BusPort) (s : State) : Host.Outcome State Fault Refusal :=
  if inPause s then .next s
  else match bus with
  | .can n => .next (canHandover s n.val)
  | .serial n => .next (serialHandover s n.val)

/-- A message may be sent in the present state (R290). -/
def maySend (s : State) (m : CanTx) : Bool :=
  match busLevel s with
  | .silent => false
  | .safe => m.mgmt
  | .limited => m.mgmt || m.bridge.isSome
  | .all => true

/-- The message that the controller offers for arbitration, with its slot if it is a slot's (R274). -/
def canOffered (s : State) (cn : Nat) : Option (Option Nat × CanTx) :=
  let c := canPort s cn
  let all := (c.queue.map (fun m => ((none : Option Nat), m))) ++ c.slotsWaiting.map (fun e => (some e.1, e.2))
  (all.filter (fun e => maySend s e.2)).foldl (fun (acc : Option (Option Nat × CanTx)) e =>
    match acc with
    | none => some e
    | some b =>
      if canKey e.2.frame < canKey b.2.frame ∨ (canKey e.2.frame = canKey b.2.frame ∧ e.2.order < b.2.order) then some e else some b) none

/-- A message leaves its queue or slot. -/
def canRemove (s : State) (cn : Nat) (e : Option Nat × CanTx) : State :=
  match e.1 with
  | none => setCan s cn (fun c => { c with queue := c.queue.filter (fun m => m.order != e.2.order) })
  | some n => setCan s cn (fun c => { c with slotsWaiting := c.slotsWaiting.filter (fun x => x.1 != n) })

/-- One attempt more; after the limit the message is discarded (R274). -/
def canRetry (s : State) (cn : Nat) (e : Option Nat × CanTx) : State :=
  let limit := s.val (0x4400 + cn) 7
  let upd := fun (m : CanTx) => if m.order = e.2.order then { m with attempts := m.attempts + 1 } else m
  if limit ≠ 0 ∧ limit ≤ e.2.attempts + 1 then bumpN (canRemove s cn e) 0x4420 cn 9
  else setCan s cn (fun c => { c with queue := c.queue.map upd, slotsWaiting := c.slotsWaiting.map (fun x => (x.1, upd x.2)) })

/-- What an error adds to TEC (R275, ISO 11898-1): nothing where an error-passive port misses its acknowledgement, or for a stuff error
within the arbitration field. -/
def sendErrorCount (c : CanPort) (k : CanSendError) : Nat :=
  match k with
  | .ack => if c.ctl = .passive then 0 else 8
  | .arbitrationStuff => 0
  | .other => 8

/-- The offered message was sent, lost arbitration or met an error (R274 to R276). -/
def canSend (s : State) (n : Nat) (result : CanSendResult) : State :=
  if !(canRunning (canPort s n)) ∨ s.val (0x4400 + n) 1 ≠ 1 ∨ pairQuiet s n then s
  else match canOffered s n with
  | none => s
  | some e =>
    match result with
    | .success =>
      let s1 := emit (bumpW (canRemove s n e) (0x4420 + n) 4 0 1) (.can n e.2.frame)
      let s2 := noteSent s1 n (canIdent e.2.frame) e.2.frame.data false
      let s3 := canConfine (setCan s2 n (fun c => { c with txErr := c.txErr - 1 })) n
      serveAll (sdoPump (match e.2.bridge with | some tag => farSent s3 tag | none => s3) n 128)
    | .arbitrationLost => canRetry s n e
    | .error k =>
      let more := sendErrorCount (canPort s n) k
      let s1 := canRetry (setCan (bumpN s 0x4420 n 0x0B) n (fun c => { c with txErr := min 256 (c.txErr + more) })) n e
      if 256 ≤ (canPort s1 n).txErr then canBusOff s1 n else canConfine s1 n

/-- CAN_FRAME_SENT (R274 to R277); a port that waits to stop ends the frame in progress under its old settings. -/
def execCanFrameSent (cn : Fin 8) (result : CanSendResult) (s : State) : Host.Outcome State Fault Refusal :=
  if (canPort s cn.val).reconfigure then .next (canSwitch (underOld s cn.val (fun t => canSend t cn.val result)) cn.val)
  else .next (canSend s cn.val result)

/-- BUS_OFF_HOLDOFF_EXPIRY (R276). -/
def execBusOffHoldoffExpiry (cn : Fin 8) (s : State) : Host.Outcome State Fault Refusal :=
  if (canPort s cn.val).ctl = .busOff ∧ s.val (0x4400 + cn.val) 8 = 0 then
    .next (setCan s cn.val (fun c => { c with ctl := .recovering }))
  else .next s

/-- BUS_OFF_RECOVERY_COMPLETE (R276): error active with both counters at 0; the slots resume; event 4403h. -/
def execBusOffRecoveryComplete (cn : Fin 8) (s : State) : Host.Outcome State Fault Refusal :=
  let c := canPort s cn.val
  if c.ctl = .recovering then
    let s1 := setCan s cn.val (fun c => { c with
      ctl := .active, txErr := 0, rxErr := 0, slotsPaused := decide (busLevel s ≠ .all), commanded := false,
      recoveries := if c.commanded then c.recoveries else s.time.mono :: c.recoveries })
    .next (emcyCleared s (raise s1 0x4403 1 0xFF (be 1 cn.val)))
  else .next s

/-- A recovery is asked for (R276). -/
def canRecover (s : State) (cn : Nat) : State × Nat :=
  match (canPort s cn).ctl with
  | .busOff => (setCan s cn (fun c => { c with ctl := .recovering, commanded := true }), 0)
  | .heldOff => (setCan s cn (fun c => { c with ctl := .recovering, commanded := true, recoveries := [] }), 0)
  | _ => (s, 0x0F)

/-- CAN_RECOVER_COMMAND (R276). -/
def execCanRecoverCommand (ses : SessionNo) (cn : Fin 8) (value : BitVec 8) (s : State) : Host.Outcome State Fault Refusal :=
  .next (command s ses (0x4400 + cn.val) 0x16 (be 1 value.toNat) (fun t => if value = 1 then canRecover t cn.val else (t, 8)))

/-- CAN_PORT_RECONFIGURE (R277): no frame is in progress; the queue is counted as discarded, the new settings take effect, and the port
integrates again. -/
def execCanPortReconfigure (cn : Fin 8) (s : State) : Host.Outcome State Fault Refusal :=
  if (canPort s cn.val).reconfigure then .next (canSwitch s cn.val) else .next s

/-- A message is complete and waits for the hand-over (R268, R282). -/
def serialDone (s : State) (sp ident : Nat) (data : Bytes) (stamp : T32) : State :=
  let s1 := noteHeard s (0x10 + sp) ident data false stamp
  setSerial (bumpW s1 (0x4510 + sp) 5 0 1) sp (fun p => { p with ready := p.ready ++ [(ident, data, stamp)] })

/-- The search starts again. -/
def serialReset (s : State) (sp : Nat) : State := setSerial s sp (fun p => { p with msg := [], template := none, bad := false })

/-- The collected characters as bytes, and the stamp of the first (R269). -/
def msgBytes (p : SerialPort) : Bytes := p.msg.map (fun c => c.1.setWidth 8)

def msgStamp (s : State) (p : SerialPort) : T32 := match p.msg with | c :: _ => c.2 | [] => s.now

/-- The end of a raw message (R282). -/
def rawEnd (s : State) (sp : Nat) : State :=
  let p := serialPort s sp
  let s1 := serialReset s sp
  if p.bad ∨ p.msg.isEmpty then s1 else serialDone s1 sp 0 (msgBytes p) (msgStamp s p)

/-- The lowest template whose start bytes end with the last character (R283). -/
def templateStart (s : State) (sp : Nat) (msg : List (BitVec 9 × T32)) : Option Nat :=
  (List.range 8).find? (fun n =>
    let t := templateAt s sp n
    let k := tplStart t
    let last := msg.drop (msg.length - k)
    tplValid t && decide (k ≤ msg.length) && (last.map (fun c => c.1.setWidth 8) == slice t 2 k) &&
      (!(bitOf (byteAt t 0) 6) || (match last with | c :: _ => c.1.getLsbD 8 | [] => false)))

/-- The length of a telegram as far as it is known: the template's rule (R283); 0 for one that cannot be. -/
def telegramLength (t b : Bytes) : Option Nat :=
  match tplRule t with
  | 0 => some (beAt t 10 2)
  | 1 =>
    if b.length < byteAt t 7 + byteAt t 8 then none
    else
      let n := (beAt b (byteAt t 7) (byteAt t 8) : Int) + signed 1 (byteAt t 9)
      some (if n < 1 ∨ 256 < n then 0 else n.toNat)
  | _ =>
    let e := tplEnd t
    if tplStart t + e.length ≤ b.length ∧ b.drop (b.length - e.length) = e then some b.length
    else if 256 ≤ b.length then some 0 else none

/-- A telegram is complete: its check decides (R283). -/
def telegramEnd (s : State) (sp n : Nat) (b : Bytes) : State :=
  let t := templateAt s sp n
  let stamp := msgStamp s (serialPort s sp)
  let s1 := serialReset s sp
  if slice b (tplCheckAt t b.length) (tplCheckSize t) = tplCheckBytes t (tplCovered t b) then
    serialDone s1 sp (2 ^ 28 + n * 256 + (if byteAt t 6 = 0xFF then 0 else byteAt b (byteAt t 6))) b stamp
  else bumpN s1 0x4510 sp 0x0A

/-- A character of the template protocol (R283). -/
def templateChar (s : State) (sp : Nat) : State :=
  let p := serialPort s sp
  let chosen := match p.template with
    | some n => some (n, p.msg)
    | none =>
      match templateStart s sp p.msg with
      | some n => some (n, p.msg.drop (p.msg.length - max 1 (tplStart (templateAt s sp n))))
      | none => none
  match chosen with
  | none => setSerial s sp (fun p => { p with msg := p.msg.drop (p.msg.length - 3) })
  | some (n, msg) =>
    let s1 := setSerial s sp (fun p => { p with template := some n, msg := msg })
    let b := msg.map (fun c => c.1.setWidth 8)
    match telegramLength (templateAt s sp n) b with
    | none => s1
    | some len => if len = 0 ∨ len < b.length then serialReset s1 sp else if len = b.length then telegramEnd s1 sp n b else s1

/-- A character enters the message search of the port's protocol (R282). -/
def searchChar (s : State) (sp : Nat) (c : BitVec 9) (stamp : T32) : State :=
  let s1 := setSerial s sp (fun p => { p with msg := p.msg ++ [(c, stamp)] })
  let p := serialPort s1 sp
  match serialProtocol s sp with
  | 0 =>
    let term := s.val (0x4500 + sp) 0x0B
    if s.val (0x4500 + sp) 0x0A ≤ p.msg.length ∨ (0x0100 ≤ term ∧ term = 0x0100 + c.toNat % 256) then rawEnd s1 sp else s1
  | 1 => templateChar s1 sp
  | _ => if 256 < p.msg.length then setSerial s1 sp (fun p => { p with bad := true, msg := p.msg.take 256 }) else s1

/-- The port receives in this state (R280, R290). -/
def serialListens (s : State) (sp : Nat) : Bool :=
  let mode := serialMode s sp
  decide (1 ≤ mode) && decide (mode ≤ 3) &&
    (match busLevel s with | .all => true | .limited => serialProtocol s sp == 2 | _ => false)

/-- A receive error is counted (R282). -/
def countCharError (s : State) (sp : Nat) (e : CharError) : State :=
  match e with
  | .none => s
  | .framing => bumpN s 0x4510 sp 6
  | .parity => bumpN s 0x4510 sp 7
  | .breakCond => bumpN s 0x4510 sp 0x0E

/-- A character from the buffer or the line goes to the search. A receive error discards the message it lies in (R282); a template search
starts again at the next character. -/
def takeChar (s : State) (sp : Nat) (x : BitVec 9 × CharError × T32) : State :=
  if x.2.1 = .none then searchChar s sp x.1 x.2.2
  else if serialProtocol s sp = 1 then serialReset s sp
  else setSerial s sp (fun p => { p with bad := true, msg := p.msg ++ [(0, x.2.2)] })

/-- The port drives its half-duplex line (R281). -/
def serialDrives (s : State) (sp : Nat) : Bool := decide (serialMode s sp = 3) && decide (s.time.mono < (serialPort s sp).busyUntil)

/-- SERIAL_CHARACTER_RECEIVED (R269, R280 to R282): a character whose start bit began so many ns ago ends. Echoes are no received data.
While BE2 stands still, characters wait in the 4 KiB buffer. -/
def execSerialCharacterReceived (sp : Fin 6) (char : BitVec 9) (arrival : CharArrival) (s : State) :
    Host.Outcome State Fault Refusal :=
  let n := sp.val
  if !(serialListens s n) ∨ serialDrives s n then .next s
  else
    let x := (char, arrival.error, s.now - BitVec.ofNat 32 arrival.age)
    let s1 := setSerial (countCharError (bumpW s (0x4510 + n) 3 0 1) n arrival.error) n (fun p => { p with lastRx := some s.time.mono })
    let b := (serialPort s n).buffer
    if inPause s then
      if b.length < 4096 then .next (setSerial s1 n (fun p => { p with buffer := p.buffer ++ [x] }))
      else .next (raiseLimited (bumpN s1 0x4510 n 8) n 1000000000 0x4503 2 0xFF (be 1 n))
    else .next ((b ++ [x]).foldl (fun t c => takeChar t n c) (setSerial s1 n (fun p => { p with buffer := [] })))

/-- The longest gap that a Modbus frame may hold, in nanoseconds (R284). -/
def modbusGap (s : State) (sp : Nat) : Nat := if 19200 < s.val (0x4500 + sp) 2 then 750000 else charTenths s sp 15

/-- SERIAL_IDLE_GAP (R282 to R284): a gap of so many nanoseconds after the last character. -/
def execSerialIdleGap (sp : Fin 6) (gap : Nat) (s : State) : Host.Outcome State Fault Refusal :=
  let n := sp.val
  let p := serialPort s n
  if !(serialListens s n) ∨ inPause s ∨ p.msg.isEmpty then .next s
  else match serialProtocol s n with
  | 0 => if charTenths s n (10 * s.val (0x4500 + n) 9) ≤ gap then .next (rawEnd s n) else .next s
  | 1 =>
    match p.template with
    | some t => if charTenths s n (10 * byteAt (templateAt s n t) 18) < gap then .next (bumpN (serialReset s n) 0x4510 n 0x0B) else .next s
    | none => .next s
  | _ =>
    if modbusGap s n < gap ∧ !p.bad then .next (setSerial (bumpN s 0x4510 n 0x0B) n (fun p => { p with bad := true })) else .next s

/-- The level of SPn_DE that the port's mode asks for now (R280, R281, R290). -/
def deLevel (s : State) (sp : Nat) : Bool :=
  let up := (busLevel s == .all || busLevel s == .limited) && (serialMode s sp == 2 || serialDrives s sp)
  up == s.on (0x4500 + sp) 0x11

/-- SPn_DE of every port takes its level. -/
def refreshDe (s : State) : State :=
  (List.range 6).foldl (fun t sp =>
    if (serialPort t sp).de = deLevel t sp then t
    else emit (setSerial t sp (fun p => { p with de := deLevel t sp })) (.pin (4 + sp) (deLevel t sp))) s

/-- How long a transmission of n characters holds the line in ns: lead, characters and lag (R281). -/
def driveTime (s : State) (sp n : Nat) : Nat :=
  let rate := max 1 (s.val (0x4500 + sp) 2)
  ((s.val (0x4500 + sp) 5 + s.val (0x4500 + sp) 6 + 16 * n * charBits s sp) * 62500000 + rate - 1) / rate

/-- A message waits: the line has not been idle for the turnaround in RS-485 mode or for a server's response, or the port still drives it
(R281, R284). -/
def mustWait (s : State) (sp : Nat) : Bool :=
  serialDrives s sp || ((serialMode s sp == 3 || serialProtocol s sp == 3) &&
    (match (serialPort s sp).lastRx with
     | some t => decide (s.time.mono < t + 1000 * s.val (0x4500 + sp) 7)
     | none => false))

/-- The port may send in this state and role (R290, R454); outside Normal only what the bridge asked for. -/
def serialMaySend (s : State) (sp : Nat) : Bool :=
  let mode := serialMode s sp
  decide (1 ≤ mode) && decide (mode ≤ 3) && !(inPause s) && !(pairQuiet s (8 + sp)) &&
    (match busLevel s with
     | .all => true
     | .limited => serialProtocol s sp == 2 && (match (serialPort s sp).client with | some (r, _) => r.bridgeTag.isSome | none => false)
     | _ => false)

/-- The port sends n characters of a message: in RS-485 mode SPn_DE stands for them (R281). -/
def driveLine (s : State) (sp n : Nat) (data : Bytes) : State :=
  let s1 := if serialMode s sp = 3 then refreshDe (setSerial s sp (fun p => { p with busyUntil := s.time.mono + driveTime s sp n })) else s
  emit (bumpW s1 (0x4510 + sp) 4 0 n) (.serial sp (data.take n))

/-- SERIAL_TRANSMIT (R281): the oldest message is sent once the line is idle; in RS-485 mode with echo check, the echoed characters
decide. -/
def execSerialTransmit (sp : Fin 6) (echo : Bytes) (s : State) : Host.Outcome State Fault Refusal :=
  let n := sp.val
  if !(serialMaySend s n) ∨ mustWait s n then .next s
  else match (serialPort s n).txQueue with
  | [] => .next s
  | (ident, data) :: rest =>
    let s1 := setSerial s n (fun p => { p with txQueue := rest })
    let checked := decide (serialMode s n = 3) && s.on (0x4500 + n) 8
    match if checked then (List.range data.length).find? (fun i => data[i]? != echo[i]?) else none with
    | some i =>
      let s2 := driveLine s1 n (i + 1) data
      .next (raiseLimited (bumpN s2 0x4510 n 9) n 1000000000 0x4501 2 0xFF (be 1 n))
    | none =>
      let s2 := noteSent (driveLine s1 n data.length data) (0x10 + n) ident data false
      match (serialPort s2 n).client with
      | some (r, _) =>
        let s3 := setSerial s2 n (fun p => { p with clientSent := true })
        .next (match r.bridgeTag with | some tag => farSent s3 tag | none => s3)
      | none => .next s2

/-- The request of the client ends without an answer (R284): a timeout is reported. -/
def modbusTimeout (s : State) (sp : Nat) (r : ModbusReq) : State :=
  let s1 := raise (bumpN s 0x4510 sp 0x0C) 0x4502 2 0xFF (be 1 sp ++ be 1 r.address.toNat ++ be 1 r.function.toNat)
  let s2 := modbusNext s1 sp
  match r.bridgeTag with
  | some tag => farCompletion (farSent s2 tag) tag .timeout
  | none => s2

/-- A response of the outstanding request (R284, R312). -/
def modbusResponse (s : State) (sp : Nat) (r : ModbusReq) (b : Bytes) (stamp : T32) : State :=
  let fn := byteAt b 1
  if byteAt b 0 ≠ r.address.toNat then s
  else if fn = r.function.toNat + 0x80 ∧ b.length = 3 then
    let s1 := modbusNext s sp
    match r.bridgeTag with
    | some tag => farCompletion s1 tag (.failed (BitVec.ofNat 32 (byteAt b 2)))
    | none => s1
  else if fn ≠ r.function.toNat then s
  else if fn = 3 ∨ fn = 4 then
    let count := beAt r.pdu 2 2
    if byteAt b 2 = 2 * count ∧ b.length = 3 + 2 * count then
      let data := b.drop 3
      let s1 := modbusNext s sp
      match r.bridgeTag, r.poll with
      | some tag, _ => farCompletion s1 tag (.data data)
      | none, some _ => setSerial s1 sp (fun p => { p with ready := p.ready ++ [(modbusIdent r, data, stamp)] })
      | none, none => s1
    else s
  else if b.length = 6 ∧ slice b 2 4 = r.pdu.take 4 then
    let s1 := modbusNext s sp
    match r.bridgeTag with
    | some tag => farCompletion s1 tag .done
    | none => s1
  else s

/-- A register of a server port is mapped: a destination covers it, a source names it, or it has been written (R313). -/
def regMapped (s : State) (sp typ reg : Nat) : Bool :=
  let img := routeImage s
  let ident := 2 * 2 ^ 28 + typ * 2 ^ 24 + s.val (0x4500 + sp) 0x0D * 2 ^ 16 + reg
  (tget s.gw.modbus (regKey sp typ reg)).isSome ||
    (routes img).any (fun e =>
      (e.2.dstBus == 0x10 + sp && e.2.dstId / 2 ^ 24 == 32 + typ && decide (e.2.dstId % 65536 ≤ reg) && decide (reg < e.2.dstId % 65536 + e.2.len / 2)) ||
      (typ == 1 && e.2.srcBus == 0x10 + sp && (ident &&& e.2.srcMask == e.2.srcId &&& e.2.srcMask)))

/-- A holding register of a server port that an entry names as source (R313). -/
def regSource (s : State) (sp reg : Nat) : Bool :=
  let ident := 2 * 2 ^ 28 + 2 ^ 24 + s.val (0x4500 + sp) 0x0D * 2 ^ 16 + reg
  (routes (routeImage s)).any (fun e => e.2.srcBus == 0x10 + sp && (ident &&& e.2.srcMask == e.2.srcId &&& e.2.srcMask))

/-- What a server request gives: an exception, a read's registers, or a write of registers (R284, R313). -/
inductive ServerResult where
  | exception (code : Nat)
  | read (data : Bytes)
  | write (reg : Nat) (data : Bytes)
deriving DecidableEq, Repr

/-- The server's decision on a request without its CRC. -/
def serverDecide (s : State) (sp : Nat) (b : Bytes) : ServerResult :=
  let fn := byteAt b 1
  let reg := beAt b 2 2
  let count := beAt b 4 2
  if fn = 3 ∨ fn = 4 then
    let typ := if fn = 4 then 0 else 1
    if b.length ≠ 6 ∨ count = 0 ∨ 125 < count then .exception 3
    else if (List.range count).all (fun i => regMapped s sp typ (reg + i)) then
      .read ((List.range count).flatMap (fun i => be 2 (tnat s.gw.modbus (regKey sp typ (reg + i)))))
    else .exception 2
  else if fn = 6 then
    if b.length ≠ 6 then .exception 3 else if regSource s sp reg then .write reg (slice b 4 2) else .exception 2
  else if fn = 0x10 then
    if count = 0 ∨ 123 < count ∨ byteAt b 6 ≠ 2 * count ∨ b.length ≠ 7 + 2 * count then .exception 3
    else if regSource s sp reg then .write reg (b.drop 7) else .exception 2
  else .exception 1

/-- A request to the server (R284): executed, and answered unless it went to address 0 or the port only receives. -/
def modbusServe (s : State) (sp : Nat) (b : Bytes) (stamp : T32) : State :=
  let own := s.val (0x4500 + sp) 0x0D
  let addr := byteAt b 0
  if addr ≠ own ∧ addr ≠ 0 then s
  else
    let answer := fun (t : State) (d : Bytes) =>
      if addr = 0 ∨ pairQuiet s (8 + sp) then t else serialOffer t sp (2 * 2 ^ 28 + own * 2 ^ 16) (modbusFrame (be 1 own ++ d))
    match serverDecide s sp b with
    | .exception c => if addr = 0 then s else answer (bumpN s 0x4510 sp 0x0D) (be 1 (byteAt b 1 + 0x80) ++ be 1 c)
    | .read d => answer s (be 1 (byteAt b 1) ++ be 1 d.length ++ d)
    | .write reg d =>
      let s1 := { s with gw := { s.gw with modbus := writeRegs s.gw.modbus sp 1 reg d } }
      let s2 := setSerial s1 sp (fun p => { p with ready := p.ready ++ [(2 * 2 ^ 28 + 2 ^ 24 + own * 2 ^ 16 + reg, d, stamp)] })
      answer s2 (slice b 1 5)

/-- MODBUS_FRAME_END (R284). -/
def execModbusFrameEnd (sp : Fin 6) (s : State) : Host.Outcome State Fault Refusal :=
  let n := sp.val
  let p := serialPort s n
  if !(serialListens s n) ∨ inPause s ∨ serialProtocol s n < 2 ∨ p.msg.isEmpty then .next s
  else
    let b := msgBytes p
    let s1 := serialReset s n
    if p.bad then .next s1
    else if b.length < 4 ∨ b.drop (b.length - 2) ≠ le 2 (crcModbus (b.take (b.length - 2))) then .next (bumpN s1 0x4510 n 0x0A)
    else
      let s2 := bumpW s1 (0x4510 + n) 5 0 1
      let body := b.take (b.length - 2)
      if serialProtocol s n = 3 then .next (modbusServe s2 n body (msgStamp s p))
      else match p.client with
      | some (r, _) => if p.clientSent then .next (serveAll (modbusResponse s2 n r body (msgStamp s p))) else .next s2
      | none => .next s2

/-- MODBUS_RESPONSE_TIMEOUT (R284): the request is repeated, or a timeout is reported. -/
def execModbusResponseTimeout (sp : Fin 6) (s : State) : Host.Outcome State Fault Refusal :=
  let n := sp.val
  let p := serialPort s n
  match p.client with
  | none => .next s
  | some (r, left) =>
    if !p.clientSent ∨ inPause s then .next s
    else if 0 < left then
      .next (modbusSend (setSerial s n (fun p => { p with client := some (r, left - 1), clientSent := false })) n r)
    else .next (serveAll (modbusTimeout s n r))

/-- The device status of a segment (R285, R289): "some device disturbance" is bit 4; the other bits are a free value (DESIGN CHOICE, log
entry 39). -/
def mvbStatus (s : State) (seg : Nat) : Nat :=
  let v := (Config.freeOf 39 [(seg : Int)] % 65536).toNat
  let d := !(mvbSeg s seg).stale.isEmpty
  if bitOf v 4 = d then v else if d then v + 16 else v - 16

/-- An MVB port runs: mode 4 and a state with bus traffic (R286, R290). -/
def mvbRuns (s : State) (sp : Nat) : Bool := decide (serialMode s sp = 4) && decide (busLevel s ≠ .silent)

/-- A source conflict (R288), which a passive role does not apply to its shared segments (R454). -/
def sourceConflict (s : State) (seg addr : Nat) : State :=
  if pairQuiet s (8 + seg) then s else raise (bumpN s 0x4610 seg 9) 0x4604 3 0xFF (be 1 seg ++ be 2 addr)

/-- A slave frame of the device leaves on its segment (R285, R286). -/
def mvbSend (s : State) (seg : Nat) (data : Bytes) : State := emit (bumpW s (0x4610 + seg) 4 0 1) (.mvb seg data)

/-- The sources are answered in this state (R290): all in Normal, those that the bridge wrote in Commissioning. -/
def mvbAnswers (s : State) (seg addr : Nat) : Bool :=
  !(pairQuiet s (8 + seg)) &&
    (match busLevel s with | .all => true | .limited => (mvbSeg s seg).written.contains addr | _ => false)

/-- MVB_MASTER_FRAME (R285, R288). -/
def execMvbMasterFrame (sp : Fin 2) (fcode : BitVec 4) (address : BitVec 12) (collision : Bool) (s : State) :
    Host.Outcome State Fault Refusal :=
  if !(mvbRuns s sp.val) then .next s
  else
    let seg := mvbSegOf s sp.val
    let s1 := bumpW s (0x4610 + seg) 3 0 1
    let own := decide (address.toNat = s.val (0x4600 + seg) 2)
    let speaks := !(pairQuiet s (8 + seg)) && (busLevel s == .all || busLevel s == .limited)
    if fcode = 15 then (if own ∧ speaks then .next (mvbSend s1 seg (be 2 (mvbStatus s seg))) else .next s1)
    else if fcode = 12 then
      match (mvbSeg s seg).txMsgs with
      | m :: rest => if own ∧ speaks then .next (mvbSend (setMvb s1 seg (fun x => { x with txMsgs := rest })) seg m) else .next s1
      | [] => .next s1
    else match mvbFind s seg address.toNat with
    | some (_, e) =>
      if e.source ∧ e.fcode = fcode.toNat ∧ mvbAnswers s seg e.addr then
        let s2 := mvbSend s1 seg (mvbValue s seg e)
        .next (if collision then sourceConflict s2 seg e.addr else noteSent s2 (0x10 + seg) (mvbIdent e.addr) (mvbValue s seg e) true)
      else .next s1
    | none => .next s1

/-- A sink takes a valid update (R285, R289), stamped at the frame's start (R269). -/
def sinkUpdate (s : State) (seg : Nat) (e : MvbEntry) (data : Bytes) (stamp : T32) : State :=
  let was := (mvbSeg s seg).stale.contains e.addr
  let d := padTo (mvbSize e.fcode) data
  let s1 := setMvb (bumpW s (0x4610 + seg) 5 0 1) seg (fun m => { m with
    values := tput m.values e.addr d, updated := tput m.updated e.addr s.time.mono, stale := m.stale.filter (fun a => a != e.addr) })
  let s2 := if was then raise s1 0x4602 1 0xFF (be 1 seg ++ be 2 e.addr) else s1
  setSerial s2 seg (fun p => { p with ready := p.ready ++ [(mvbIdent e.addr, d, stamp)] })

/-- A valid slave frame (R285, R288). -/
def mvbTake (s : State) (seg : Nat) (f : MvbSlaveFrame) (stamp : T32) : State :=
  if f.fcode = 12 then
    (if (mvbSeg s seg).rxMsgs.length < 8 then setMvb s seg (fun m => { m with rxMsgs := m.rxMsgs ++ [f.data] })
     else bumpN s 0x4610 seg 0x0A)
  else match mvbFind s seg f.address.toNat with
  | some (_, e) =>
    if e.fcode ≠ f.fcode.toNat then s
    else if e.source then noteHeard (sourceConflict s seg e.addr) (0x10 + seg) (mvbIdent e.addr) f.data true stamp
    else sinkUpdate s seg e f.data stamp
  | none => s

/-- MVB_SLAVE_FRAME (R285, R286, R289): on a redundant segment the trusted line counts, and switches to the other when only
that one is valid. -/
def execMvbSlaveFrame (sp : Fin 2) (frame : MvbSlaveFrame) (s : State) : Host.Outcome State Fault Refusal :=
  if !(mvbRuns s sp.val) then .next s
  else
    let seg := mvbSegOf s sp.val
    let stamp := s.now - BitVec.ofNat 32 frame.age
    if mvbRedundant s then
      let b := (mvbSeg s seg).lineB
      let here := if b then frame.lineBValid else frame.lineAValid
      let other := if b then frame.lineAValid else frame.lineBValid
      if here then .next (mvbTake s seg frame stamp)
      else if other then
        let s1 := setMvb s seg (fun m => { m with lineB := !m.lineB })
        .next (mvbTake (raise (bumpN s1 0x4610 seg 7) 0x4603 2 0xFF (be 1 seg ++ be 1 (boolNat (!b)))) seg frame stamp)
      else .next (bumpN s 0x4610 seg 6)
    else if frame.lineAValid then .next (mvbTake s seg frame stamp)
    else .next (bumpN s 0x4610 seg 6)

/-- The age of a port in ms (R295). -/
def mvbAge (s : State) (seg addr : Nat) : Nat :=
  match tget (mvbSeg s seg).updated addr with
  | some t => min 65535 ((s.time.mono - t) / 1000000)
  | none => 0

/-- SINK_TIME_LIMIT_EXPIRY (R289). -/
def execSinkTimeLimitExpiry (sp : Fin 2) (entry : Fin 256) (s : State) : Host.Outcome State Fault Refusal :=
  let seg := mvbSegOf s sp.val
  let e := mvbEntry s.cfg seg entry.val
  if !(mvbRuns s sp.val) ∨ !e.valid ∨ e.source ∨ e.limit = 0 ∨ (mvbSeg s seg).stale.contains e.addr then .next s
  else
    let s1 := setMvb s seg (fun m => { m with stale := m.stale ++ [e.addr] })
    .next (raise (bumpN s1 0x4610 seg 8) 0x4601 2 0xFF (be 1 seg ++ be 2 e.addr ++ be 2 e.limit))

/-- The rate that the fractional divisor of 160 MHz achieves under 16-fold oversampling (R280). Its resolution is not stated: the value is
free, no farther off than the nearer of the two rates that whole divisors give (DESIGN CHOICE, log entry 40). -/
def rateAchieved (rate : Nat) : Nat :=
  let n := 10000000 / max 1 rate
  let below := 10000000 / (n + 1)
  let off := if n = 0 then rate - below else min (10000000 / n - rate) (rate - below)
  if off = 0 then rate else rate - off + (Config.freeOf 40 [(rate : Int)] % (2 * off + 1 : Nat)).toNat

/-- The code of a controller state (R291). -/
def CanCtl.code : CanCtl → Nat
  | .off => 0
  | .integrating => 1
  | .active => 2
  | .passive => 3
  | .busOff => 4
  | .recovering => 5
  | .heldOff => 6

/-- What the objects of R291, R293 and R295 show. -/
def liveBuses (s : State) (ses idx sub : Nat) : Option Bytes :=
  if 0x4400 ≤ idx ∧ idx ≤ 0x4407 then
    let c := canPort s (idx - 0x4400)
    match sub with
    | 0x13 => some (be 1 c.ctl.code)
    | 0x14 => some (be 1 (min 255 c.txErr))
    | 0x15 => some (be 1 c.rxErr)
    | _ => none
  else if 0x4500 ≤ idx ∧ idx ≤ 0x4505 then
    match sub with
    | 0x10 => some (be 4 (rateAchieved (s.val idx 2)))
    | _ => none
  else if idx = 0x4600 ∨ idx = 0x4601 then
    let seg := idx - 0x4600
    let e := mvbEntry s.cfg seg (getOwn s ses idx 7)
    match sub with
    | 4 => some (be 2 (mvbStatus s seg))
    | 5 => some ((List.range 32).map (fun b => BitVec.ofNat 8 ((List.range 8).foldl (fun (n : Nat) (k : Nat) =>
        let x := mvbEntry s.cfg seg (8 * b + k)
        if x.valid && !x.source && (mvbSeg s seg).stale.contains x.addr then n + 2 ^ k else n) 0)))
    | 6 => some (be 1 (boolNat (mvbSeg s seg).lineB))
    | 8 => some (if e.valid then mvbValue s seg e else [])
    | 9 => some (be 2 (if e.valid then mvbAge s seg e.addr else 0))
    | _ => none
  else none

/-- Did the settings of an object change between two tables? -/
def changedIn (old new : Tbl Bytes) (idx : Nat) (subs : List Nat) : Bool :=
  subs.any (fun k => cfgBytes old idx k != cfgBytes new idx k)

/-- A CAN port's settings change (R277): a running port waits for the frame in progress under the settings of before; one that is off takes
the new ones at once. -/
def canApply (old : Tbl Bytes) (s : State) (cn : Nat) : State :=
  let c := canPort s cn
  if c.ctl = .off then canBegin s cn
  else if c.reconfigure then s
  else setCan s cn (fun c => { c with
    reconfigure := true, stoppedAt := s.time.mono,
    oldCfg := (List.range' 1 14).map (fun k => (okey (0x4400 + cn) k, cfgBytes old (0x4400 + cn) k)) })

/-- The apply of bus settings (R277, R288): a changed CAN port reconfigures, a changed serial port starts its search anew,
and an MVB table keeps the values of the ports it still has. -/
def applyBuses (old : Tbl Bytes) (s : State) : State :=
  let s1 := (List.range 8).foldl (fun t cn =>
    if changedIn old s.cfg (0x4400 + cn) (List.range' 1 14) then canApply old t cn else t) s
  let s2 := (List.range 6).foldl (fun t sp =>
    if changedIn old s.cfg (0x4500 + sp) (List.range' 1 17) then setSerial t sp (fun p => { p with msg := [], template := none, bad := false, buffer := [] }) else t) s1
  (List.range 2).foldl (fun t seg =>
    if changedIn old s.cfg (0x4600 + seg) [3] then
      let kept := fun (a : Nat) =>
        match (mvbEntries s.cfg seg).find? (fun e => e.2.addr == a), (mvbEntries old seg).find? (fun e => e.2.addr == a) with
        | some x, some y => x.2.source == y.2.source && x.2.fcode == y.2.fcode
        | _, _ => false
      setMvb t seg (fun m => { m with
        values := m.values.filter (fun e => kept e.1),
        updated := (mvbEntries s.cfg seg).foldl (fun (u : Tbl Nat) e => if (tget u e.2.addr).isSome then u else tput u e.2.addr s.time.mono)
          (m.updated.filter (fun e => kept e.1)),
        stale := m.stale.filter kept, written := m.written.filter kept })
    else t) (refreshDe s2)

/-- In a silent state every CAN controller is off and the ports' messages are gone (R290). -/
def busSilence (s : State) : State :=
  let s1 := (List.range 8).foldl (fun t cn => setCan (canClear t cn) cn (fun c => { c with
    ctl := .off, txErr := 0, rxErr := 0, slotsPaused := true, reconfigure := false, oldCfg := [] })) s
  { s1 with
    serial := s1.serial.map (fun p => { SerialPort.reset with de := p.de }),
    mvb := s1.mvb.map (fun m => { m with rxMsgs := [], txMsgs := [] }) }

/-- In a state that uses the buses an enabled CAN controller starts; only the full level runs the slots (R290). -/
def busStart (s : State) (lvl : BusLevel) : State :=
  (List.range 8).foldl (fun t cn => setCan t cn (fun c =>
    let c1 := if c.ctl = .off ∧ s.val (0x4400 + cn) 1 ≠ 0 then { c with ctl := .integrating, since := s.time.mono } else c
    { c1 with slotsPaused := decide (lvl ≠ .all) || !(canRunning c1 || decide (c1.ctl = .integrating)), slotsWaiting := if lvl = .all then c1.slotsWaiting else [] })) s

/-- Entry into Safe drops the serial messages in work. -/
def serialDrop (s : State) : State :=
  { s with serial := s.serial.map (fun p => { p with
      txQueue := [], msg := [], template := none, bad := false, ready := [], buffer := [], client := none, clientQueue := [], clientSent := false }) }

/-- Outside Normal only the bridge sends on a serial port (R290): what the gateway had queued there goes. -/
def serialLimit (s : State) : State :=
  (List.range 6).foldl (fun t sp =>
    let mine := fun (r : ModbusReq) => r.bridgeTag.isSome
    let t1 := setSerial t sp (fun p => { p with clientQueue := p.clientQueue.filter mine })
    match (serialPort t1 sp).client with
    | some (r, _) => if mine r then t1 else modbusNext (setSerial t1 sp (fun p => { p with txQueue := [] })) sp
    | none => setSerial t1 sp (fun p => { p with txQueue := [] })) s

/-- What entering a state does to the buses (R290): in the silent states everything stops; in the others CAN ports that were
off start, and the slots run only in Normal. -/
def busEnter (s : State) : State :=
  match busLevel s with
  | .silent => refreshDe (busSilence s)
  | .safe => refreshDe (serialDrop (busStart s .safe))
  | .limited => refreshDe (serialLimit (busStart s .limited))
  | .all => refreshDe (busStart s .all)

/-- A wake sets every sink's age to 0 (R290). -/
def busWake (s : State) : State :=
  (List.range 2).foldl (fun t seg => setMvb t seg (fun m => { m with
    updated := (mvbEntries s.cfg seg).foldl (fun (u : Tbl Nat) e => tput u e.2.addr s.time.mono) m.updated })) s

/-- The end of the activation pause (R290): Modbus requests in progress are reported as timeouts, and what came on Modbus ports in it stays
unanswered. -/
def busAfterPause (s : State) : State :=
  (List.range 6).foldl (fun t sp =>
    let t1 := if serialProtocol t sp < 2 then t else setSerial t sp (fun p => { p with buffer := [], msg := [], bad := false })
    match (serialPort t1 sp).client with
    | some (r, _) => modbusTimeout t1 sp r
    | none => t1) s

/-- The timing limits of a CAN port (R271): reason 1 for a field, 4 for a rate. -/
def timingRule (t : Tbl Bytes) (cn : Nat) : Option (Nat × Nat) :=
  let idx := 0x4400 + cn
  let n := cfgNat t idx 3
  let nb := bitsOf n 31 24 + 1
  let n1 := bitsOf n 23 16 + 1
  let n2 := bitsOf n 15 9 + 1
  let nd := nb * (1 + n1 + n2)
  let data := fun (sub top : Nat) =>
    let d := cfgNat t idx sub
    let seg2 := bitsOf d 21 18 + 1
    let div := (bitsOf d 31 27 + 1) * (1 + (bitsOf d 26 22 + 1) + seg2)
    if seg2 < bitsOf d 17 14 + 1 then some (okey idx sub, 1)
    else if top * div < 160000000 ∨ nd < div then some (okey idx sub, 4)
    else none
  if n1 < 2 ∨ n2 < bitsOf n 8 2 + 1 then some (okey idx 3, 1)
  else if 1000000 * nd < 160000000 ∨ 160000000 < 10000 * nd then some (okey idx 3, 4)
  else match data 4 8000000 with
  | some e => some e
  | none =>
    if cn < 4 then data 5 20000000
    else if cfgBytes t idx 5 ≠ defaultOf idx 5 then some (okey idx 5, 4)
    else if cfgNat t idx 2 = 2 then some (okey idx 2, 4)
    else none

/-- The rules on a filter entry (R272, R278). -/
def filterRule (t : Tbl Bytes) (cn : Nat) : Option (Nat × Nat) :=
  let b := cfgBytes t (0x4400 + cn) 0x0E
  let key := okey (0x4400 + cn) 0x0E
  if b.length % 8 ≠ 0 ∨ 512 < b.length then some (key, 1)
  else match (List.range (b.length / 8)).findSome? (fun n =>
      let w := filterAt t cn n
      if !(bitOf w 63) then none
      else if bitsOf w 59 58 = 3 ∨ (!(bitOf w 62) ∧ bitsOf w 57 40 ≠ 0) then some 1
      else if !(bitOf w 62) ∧ mgmtId t cn (bitsOf w 39 29) then some 4
      else none) with
  | some r => some (key, r)
  | none => none

/-- The rules on a template (R283). -/
def templateBad (t : Bytes) : Bool :=
  tplValid t &&
    (decide (byteAt t 0 % 16 ≠ 0) || decide (tplRule t = 3) || decide (4 < tplStart t) || (decide (tplStart t = 0) && decide (tplRule t ≠ 2)) ||
      (decide (tplRule t = 1) && decide (byteAt t 8 ≠ 1) && decide (byteAt t 8 ≠ 2)) ||
      (decide (tplRule t = 0) && (decide (beAt t 10 2 = 0) || decide (256 < beAt t 10 2))) || decide (2 < byteAt t 12) ||
      (decide (tplRule t = 2) && decide (byteAt t 12 = 0)) || decide (5 < byteAt t 15) || decide (1 < byteAt t 17) || decide (byteAt t 18 = 0) ||
      decide (slice t 19 13 ≠ zeros 13))

/-- The rules on a serial port (R280, R283, R293). -/
def serialRule (t : Tbl Bytes) (sp : Nat) : Option (Nat × Nat) :=
  let idx := 0x4500 + sp
  let mode := cfgNat t idx 1
  let c := cfgNat t idx 3
  let rate := cfgNat t idx 2
  let got := rateAchieved rate
  let tpl := cfgBytes t idx 0x0C
  let term := cfgNat t idx 0x0B
  if 4 < mode ∨ (mode = 4 ∧ 1 < sp) then some (okey idx 1, 1)
  else if 2 < bitsOf c 7 6 ∨ 2 < bitsOf c 5 4 ∨ c % 8 ≠ 0 then some (okey idx 3, 1)
  else if 3 < cfgNat t idx 4 then some (okey idx 4, 1)
  else if term ≠ 0 ∧ (term < 0x0100 ∨ 0x01FF < term) then some (okey idx 0x0B, 1)
  else if tpl.length % 32 ≠ 0 ∨ 256 < tpl.length ∨ (List.range (tpl.length / 32)).any (fun n => templateBad (slice tpl (32 * n) 32)) then
    some (okey idx 0x0C, 1)
  else if rate < 100 * (if got ≤ rate then rate - got else got - rate) then some (okey idx 2, 4)
  else none

/-- The rules on an MVB segment (R286, R287). -/
def mvbRule (t : Tbl Bytes) (seg : Nat) : Option (Nat × Nat) :=
  let idx := 0x4600 + seg
  let b := cfgBytes t idx 3
  let es := (mvbEntries t seg).map (fun e => e.2)
  if b.length % 8 ≠ 0 ∨ 2048 < b.length ∨ es.any (fun e => decide (4 < e.fcode)) then some (okey idx 3, 1)
  else if (List.range es.length).any (fun i => (es.drop (i + 1)).any (fun e => match es[i]? with | some x => x.addr == e.addr | none => false)) then
    some (okey idx 3, 4)
  else if cfgNat t idx 1 = 1 ∧ (seg = 1 ∨ cfgNat t 0x4501 1 ≠ 4) then some (okey idx 1, 4)
  else none

/-- The rules of validation for the legacy buses. -/
def busRules (t : Tbl Bytes) : Option (Nat × Nat) :=
  match (List.range 8).findSome? (fun cn => match timingRule t cn with | some e => some e | none => filterRule t cn) with
  | some e => some e
  | none =>
    match (List.range 6).findSome? (fun sp => serialRule t sp) with
    | some e => some e
    | none => (List.range 2).findSome? (fun seg => mvbRule t seg)

end Sys2Proof.Machine
end

