-- ==== Sys2Proof/Machine/Gateway.lean ====
section
/-! DEFINITION. Gateway routing (R298 to R315), with the commands GATEWAY_ROUTE_MESSAGE, GATEWAY_DESTINATION_DELIVERY,
LATEST_VALUE_GRID_POINT, CAN_SLOT_GRID_POINT, SOURCE_TIMEOUT_EXPIRY, GATEWAY_DATAGRAM_RECEIVED and
MODBUS_POLL_GRID_POINT. -/

namespace Sys2Proof.Machine

/-- Routing runs (R315). -/
def routing (s : State) : Bool := busLevel s == .all && !(inPause s)

/-- A move of a transform (R301). -/
def moveAt (img : Bytes) (tr k : Nat) : Nat := beAt (transformAt img tr) (4 * k) 4

/-- One valid move: source offset, destination offset, length, swapped. -/
def applyMove (src : Bytes) (d : Bytes) (w : Nat) : Bytes :=
  if bitOf w 31 then
    let f := slice src (bitsOf w 29 19) (bitsOf w 7 0 + 1)
    putAt d (bitsOf w 18 8) (if bitOf w 30 then f.reverse else f)
  else d

/-- The destination data of an entry (R301); none where the source is too short. -/
def buildData (img : Bytes) (r : Route) (src : Bytes) : Option Bytes :=
  let blank := List.replicate r.len (BitVec.ofNat 8 r.fill)
  if r.transform = 1023 then some (putAt blank 0 src)
  else
    let moves := (List.range 16).map (moveAt img r.transform)
    if moves.any (fun w => bitOf w 31 && decide (src.length < bitsOf w 29 19 + bitsOf w 7 0 + 1)) then none
    else some (moves.foldl (applyMove src) blank)

/-- The internal header of a frame of BE3 (R117, R215; layout: DEDUCED, log entry 24): PCP and VID, traffic class, kind, source and
destination. -/
def gwHeader (pcp vid tc kind srcBus srcId dstBus dstId : Nat) : Bytes :=
  be 2 (pcp * 8192 + vid) ++ be 1 tc ++ be 1 kind ++ be 2 srcBus ++ be 4 srcId ++ be 2 dstBus ++ be 4 dstId

/-- A legacy message leaves on BUSGW as an internal frame, which passes Lookup and the Zone Gate (R17, R304). Its routing entry and mode
stand behind its header, with the fields of a CAN XL source. -/
def sendInternal (s : State) (n : Nat) (r : Route) (srcBus srcId : Nat) (data : Bytes) (xl : Option XlFields) (stamp : T32) : State :=
  innerFrame s 42 (gwHeader 0 0 r.tc 1 srcBus srcId r.dstBus r.dstId ++ be 2 n ++ be 1 (boolNat r.latest) ++ xlBytes xl)
    (be 6 (ownMac (codePort r.dstBus)) ++ be 6 (ownMac 42) ++ be 2 0x88B6 ++ data) stamp

/-- A gateway datagram leaves for its Ethernet destination, past Lookup and the Zone Gate (R17, R309, R310), with
the PCP of its entry (DEDUCED, log entry 212). -/
def sendDatagram (s : State) (r : Route) (srcBus srcId : Nat) (data : Bytes) (stamp : T32) (flags : Nat) : State :=
  let dest := bitsOf r.dstId 21 16
  let chan := r.dstId % 65536
  let e := etherAt (routeImage s) dest
  let key := dest * 65536 + chan
  let seq := tnat s.gw.seqs key
  let body := be 1 1 ++ be 1 flags ++ be 2 chan ++ be 2 srcBus ++ be 4 srcId ++ be 4 stamp.toNat ++ be 2 seq ++ be 2 data.length ++ data
  let b := slice e 2 6 ++ be 6 (ownMac 42) ++ be 2 0x88B6 ++ body
  let hdr := gwHeader (byteAt e 10 % 8) (beAt e 8 2 % 4096) r.tc 2 srcBus srcId (0x0100 + beAt e 0 2) 0
  innerFrame { s with gw := { s.gw with seqs := tput s.gw.seqs key ((seq + 1) % 65536) } } 42 hdr (b ++ zeros (60 - b.length)) s.now

/-- A held value is replaced (R306), and a stale condition ends with event 4705h (R308). -/
def setHeld (s : State) (n : Nat) (data : Bytes) (xl : Option XlFields) (stamp : T32) : State :=
  let was := match tget s.gw.held n with | some h => h.reported | none => false
  let s1 := { s with gw := { s.gw with held := tput s.gw.held n { value := data, xl := xl, stamp := stamp, timedOut := false, reported := false } } }
  if was then raise s1 0x4705 1 0xFF (be 2 n) else s1

/-- A message goes out on a legacy bus by the port's kind (R306). A Pair entry in shadow sends nothing (R455). -/
def legacySend (s : State) (bus ident : Nat) (data : Bytes) (xl : Option XlFields) : State :=
  if quietBus s bus then s
  else if bus < 8 then (canOffer s bus (canOfIdent ident data xl) none).1
  else
    let sp := bus - 0x10
    match serialProtocol s sp with
    | 1 => serialOffer s sp ident (telegramOf (templateAt s sp (ident / 256 % 256)) (ident % 256) data)
    | 2 =>
      let reg := be 2 (ident % 65536)
      let fp : Nat × Bytes := if data.length = 2 then (6, reg ++ data) else (0x10, reg ++ be 2 (data.length / 2) ++ be 1 data.length ++ data)
      (modbusOffer s sp { address := BitVec.ofNat 8 (ident / 65536 % 256), function := BitVec.ofNat 8 fp.1, pdu := fp.2, poll := none, bridgeTag := none }).1
    | _ => serialOffer s sp ident data

/-- A destination that its bus master collects: an MVB source port, or registers of a server port (R307). -/
def collected (s : State) (bus : Nat) : Bool := isMvb s bus || (decide (0x10 ≤ bus) && decide (bus ≤ 0x15) && serialProtocol s (bus - 0x10) == 3)

/-- A collected destination is written (R288, R307, R313). -/
def writeCollected (s : State) (bus ident : Nat) (data : Bytes) : State :=
  let sp := bus - 0x10
  if isMvb s bus then mvbWrite s (mvbSegOf s sp) (ident % 4096) data false
  else { s with gw := { s.gw with modbus := writeRegs s.gw.modbus sp (ident / 2 ^ 24 % 2) (ident % 65536) data } }

/-- One matching entry routes a message (R301, R304, R306). -/
def routeOne (s : State) (m : GwMsg) (e : Nat × Route) : State :=
  let img := routeImage s
  let r := e.2
  match buildData img r m.data with
  | none => raiseLimited (bump s 0x4710 7) 0 1000000000 0x4703 2 0xFF (be 2 e.1)
  | some d =>
    let s1 := bumpW s 0x4710 3 0 1
    if r.dstBus < 0x0100 then
      (if quietBus s1 r.dstBus ∧ !r.latest ∧ !(collected s1 r.dstBus) then s1 else sendInternal s1 e.1 r m.bus m.ident d m.xl m.stamp)
    else if r.latest then setHeld s1 e.1 d m.xl m.stamp
    else if r.dstBus < 0x0126 then sendDatagram s1 r m.bus m.ident d m.stamp 0
    else sendInternal s1 e.1 r m.bus m.ident d m.xl m.stamp

/-- GATEWAY_ROUTE_MESSAGE (R303, R304): the oldest message is matched, up to 16 entries, and its buffer given back. -/
def execGatewayRouteMessage (s : State) : Host.Outcome State Fault Refusal :=
  if !(routing s) then .next s
  else match s.gw.fifo with
  | [] => .next s
  | m :: rest =>
    let s1 := { s with gw := { s.gw with fifo := rest } }
    let hits := (routes (routeImage s)).filter (fun e => e.2.srcBus == m.bus && (m.ident &&& e.2.srcMask == e.2.srcId &&& e.2.srcMask))
    let s2 := if hits.isEmpty then bumpW s1 0x4710 4 0 1 else (hits.take 16).foldl (fun t e => routeOne t m e) s1
    let s3 := (List.range (hits.length - 16)).foldl (fun t _ => bump t 0x4710 5) s2
    .next (match m.buffer with | some h => poolFreeOp s3 (3 + m.bus / 4) h | none => s3)

/-- GATEWAY_DESTINATION_DELIVERY (R306): the oldest internal frame at BUSGW is sent, or replaces the held value. -/
def execGatewayDestinationDelivery (s : State) : Host.Outcome State Fault Refusal :=
  if inPause s then .next s
  else match s.gw.internal with
  | [] => .next s
  | o :: rest =>
    let s0 := { s with gw := { s.gw with internal := rest } }
    let s1 := match o.buffer with | some h => poolFreeOp s0 6 h | none => s0
    if busLevel s ≠ .all then .next s1
    else
      let s2 := if o.latest then setHeld s1 o.entry o.data o.xl o.stamp else s1
      if collected s2 o.dest then .next (writeCollected s2 o.dest o.ident o.data)
      else if o.latest then .next s2
      else .next (legacySend s2 o.dest o.ident o.data o.xl)

/-- The held value of an entry is sent by its stale action (R307, R308). -/
def latestSend (s : State) (n : Nat) (r : Route) : State :=
  match tget s.gw.held n with
  | none => s
  | some h =>
    let stale := heldStale s r h
    let s1 := if stale ∧ !h.reported then
        raise (bump { s with gw := { s.gw with held := tput s.gw.held n { h with reported := true } } } 0x4710 8) 0x4704 2 0xFF (be 2 n)
      else s
    if stale ∧ r.stale = 1 then s1
    else
      let d := if stale ∧ r.stale = 2 then List.replicate r.len (BitVec.ofNat 8 r.fill) else h.value
      if r.dstBus < 8 then (if quietBus s1 r.dstBus ∨ (canPort s1 r.dstBus).slotsPaused then s1 else slotOffer s1 r.dstBus r.slot (canOfIdent r.dstId d h.xl))
      else if r.dstBus < 0x0100 then (if collected s1 r.dstBus then s1 else legacySend s1 r.dstBus r.dstId d h.xl)
      else if r.dstBus < 0x0126 then sendDatagram s1 r r.srcBus r.srcId d h.stamp (if stale ∧ r.stale = 0 then 3 else 1)
      else sendInternal s1 n r r.srcBus r.srcId d h.xl h.stamp

/-- A grid point of a latest-value entry (R307). In the activation pause only the CAN slots go on (R315). -/
def gridSend (s : State) (n : Nat) : State :=
  let r := routeAt (routeImage s) n
  match tget s.gw.next n with
  | none => s
  | some at_ =>
    if at_ ≤ s.time.tx then
      let s1 := { s with gw := { s.gw with next := tput s.gw.next n (at_ + 1000000 * r.period) } }
      if busLevel s = .all ∧ (!(inPause s) ∨ r.dstBus < 8) then latestSend s1 n r else s1
    else s

/-- LATEST_VALUE_GRID_POINT (R307). -/
def execLatestValueGridPoint (entry : Fin 4096) (s : State) : Host.Outcome State Fault Refusal := .next (gridSend s entry.val)

/-- The entry that fills a cyclic slot (R300, R302). -/
def slotEntry (s : State) (cn slot : Nat) : Option Nat :=
  ((routes (routeImage s)).find? (fun e => e.2.latest && e.2.dstBus == cn && e.2.slot == slot)).map (fun e => e.1)

/-- CAN_SLOT_GRID_POINT (R274, R307): the slot's grid is that of the entry it belongs to. -/
def execCanSlotGridPoint (cn : Fin 8) (slot : Fin 16) (s : State) : Host.Outcome State Fault Refusal :=
  match slotEntry s cn.val slot.val with
  | some n => .next (gridSend s n)
  | none => .next s

/-- SOURCE_TIMEOUT_EXPIRY (R308). -/
def execSourceTimeoutExpiry (entry : Fin 4096) (s : State) : Host.Outcome State Fault Refusal :=
  let r := routeAt (routeImage s) entry.val
  match tget s.gw.held entry.val with
  | some h =>
    if busLevel s = .all ∧ r.valid ∧ r.latest ∧ r.timeout ≠ 0 then
      .next { s with gw := { s.gw with held := tput s.gw.held entry.val { h with timedOut := true } } }
    else .next s
  | none => .next s

/-- GATEWAY_DATAGRAM_RECEIVED (R311): the payload after the EtherType, with the ingress stamp of its frame. -/
def execGatewayDatagramReceived (port : Fin 38) (datagram : DatagramIn) (s : State) : Host.Outcome State Fault Refusal :=
  if !(routing s) then .next s
  else
    let len := beAt datagram.payload 16 2
    if byteAt datagram.payload 0 ≠ 1 ∨ datagram.payload.length < 18 + len then .next (bump s 0x4710 9)
    else .next (handOver s { bus := 0x0100 + port.val, ident := beAt datagram.payload 2 2, data := slice datagram.payload 18 len, stamp := datagram.stamp, buffer := none, xl := none }).1

/-- The read of a poll is offered to the client of its port (R312); a busy client skips it. -/
def pollOffer (s : State) (n : Nat) : State :=
  let p := pollAt (routeImage s) n
  let sp := byteAt p 0
  let mine := fun (r : ModbusReq) => r.poll == some n
  let c := serialPort s sp
  let busy := (match c.client with | some (r, _) => mine r | none => false) || c.clientQueue.any mine
  if !(routing s) ∨ serialProtocol s sp ≠ 2 ∨ pairQuiet s (8 + sp) then s
  else if busy then bump s 0x4710 0x0A
  else
    let r := modbusOffer s sp
      { address := BitVec.ofNat 8 (byteAt p 1), function := BitVec.ofNat 8 (byteAt p 2), pdu := slice p 4 2 ++ be 2 (byteAt p 3),
        poll := some n, bridgeTag := none }
    if r.2 then r.1 else bump s 0x4710 0x0A

/-- MODBUS_POLL_GRID_POINT (R312). -/
def execModbusPollGridPoint (poll : Fin 256) (s : State) : Host.Outcome State Fault Refusal :=
  match tget s.gw.pollNext poll.val with
  | none => .next s
  | some at_ =>
    if at_ ≤ s.time.tx then
      .next (pollOffer { s with gw := { s.gw with
        pollNext := tput s.gw.pollNext poll.val (at_ + 1000000 * beAt (pollAt (routeImage s) poll.val) 6 2) } } poll.val)
    else .next s

/-- The engine that serves a destination (R307): BE0 to BE3. -/
def engineOf (bus : Nat) : Nat := if bus < 4 then 0 else if bus < 8 then 1 else if bus < 0x0100 then 2 else 3

/-- An occurrence of an engine's cycle trigger (R251, R307, R312): entries and polls of period 0. -/
def engineCycle (s : State) (be_ : Nat) : State :=
  if routing s then
    let img := routeImage s
    let s1 := (routes img).foldl (fun t e =>
      if e.2.latest && e.2.period == 0 && engineOf e.2.dstBus == be_ then latestSend t e.1 e.2 else t) s
    if be_ = 2 then
      (List.range (pollCount img)).foldl (fun t n => if beAt (pollAt img n) 6 2 = 0 then pollOffer t n else t) s1
    else s1
  else s

/-- The first grid point that is not past, of a phase and period in ms (R307, R312). -/
def gridNext (s : State) (phase period : Nat) : Nat :=
  let first := s.gw.base + 1000000 * phase
  let p := 1000000 * period
  if s.time.tx ≤ first ∨ p = 0 then first else first + (s.time.tx - first + p - 1) / p * p

/-- Every grid of the image goes on from its next point (R307, R312). -/
def setGrids (s : State) : State :=
  let img := routeImage s
  let ns := (routes img).filter (fun e => e.2.latest && e.2.period != 0 && !(collected s e.2.dstBus))
  let ps := (List.range (pollCount img)).filter (fun n => beAt (pollAt img n) 6 2 != 0)
  { s with gw := { s.gw with
    next := ns.foldl (fun (t : Tbl Nat) e => tput t e.1 (gridNext s e.2.phase e.2.period)) [],
    pollNext := ps.foldl (fun (t : Tbl Nat) n => tput t n (gridNext s (beAt (pollAt img n) 8 2) (beAt (pollAt img n) 6 2))) [] } }

/-- The grids of an image start at the apply instant (R307, R312, R314). -/
def startGrids (s : State) : State := setGrids { s with gw := { s.gw with base := s.time.tx } }

/-- A new routing image takes effect (R314): held values stay where the new entry sends the same. -/
def applyGateway (old : Tbl Bytes) (s : State) : State :=
  let o := cfgBytes old 0x4700 1
  if o = routeImage s then s
  else
    let keep := fun (n : Nat) =>
      let a := routeAt o n
      let b := routeAt (routeImage s) n
      decide (n < routeCount (routeImage s)) && b.valid && b.latest && a.dstBus == b.dstBus && a.dstId == b.dstId && a.len == b.len
    startGrids { s with gw := { s.gw with held := s.gw.held.filter (fun e => keep e.1) } }

/-- What entering a state does to the gateway (R315): outside Normal nothing is routed; in Start, Recovery and the sleep
states held values are cleared. -/
def gatewayEnter (s : State) : State :=
  let s1 := if busLevel s = .silent then { s with gw := { s.gw with held := [], modbus := [], internal := [] } } else s
  if busLevel s = .all then setGrids s1 else { s1 with gw := { s1.gw with fifo := [] } }

/-- A step of T32 leaves every grid on its points; a larger step than R171 allows starts them at the step instant (R171, R244; DEDUCED, log
entry 191). -/
def stepGrids (s : State) (delta : Int) : State :=
  if delta.natAbs < 2147483648 then setGrids s else startGrids s

/-- What the objects of R326 show. -/
def liveGateway (s : State) (ses idx sub : Nat) : Option Bytes :=
  let img := routeImage s
  match idx, sub with
  | 0x4700, 2 => some (be 4 (beAt img 8 4))
  | 0x4700, 3 => some (be 2 (routeCount img))
  | 0x4700, 5 =>
    let n := getOwn s ses 0x4700 4
    match tget s.gw.held n with
    | some h => some (be 1 (if heldStale s (routeAt img n) h then 2 else 1) ++ h.value)
    | none => some (be 1 0)
  | _, _ => none

/-- The identifier's form fits its bus code in this configuration (R298, R302). -/
def identFits (t : Tbl Bytes) (bus ident : Nat) (source : Bool) : Bool :=
  if bus < 8 then
    cfgNat t (0x4400 + bus) 1 != 0 && decide (bitsOf ident 31 30 ≤ 2) && decide (bitsOf ident 31 30 ≤ cfgNat t (0x4400 + bus) 2) &&
      (bitOf ident 29 || decide (ident % 2 ^ 29 < 2048))
  else if 0x10 ≤ bus ∧ bus ≤ 0x15 then
    let sp := bus - 0x10
    let mode := cfgNat t (0x4500 + sp) 1
    let proto := cfgNat t (0x4500 + sp) 4
    if mode = 4 then
      decide (ident / 4096 = 4 * 2 ^ 16) && !(sp == 1 && cfgNat t 0x4600 1 == 1) && (mvbEntries t sp).any (fun e => e.2.addr == ident % 4096 && e.2.source != source)
    else if mode = 0 then false
    else match proto with
    | 0 => decide (ident = 0)
    | 1 => decide (ident / 65536 = 2 ^ 12)
    | _ => decide (ident / 2 ^ 25 = 2 ^ 4) && decide (bitsOf ident 28 25 = 0)
  else if 0x0100 ≤ bus ∧ bus ≤ 0x0100 + 41 then decide (ident / 2 ^ 22 = 0)
  else false

/-- The destination length is allowed (R302). -/
def lengthFits (t : Tbl Bytes) (r : Route) : Bool :=
  if r.dstBus < 8 then
    match bitsOf r.dstId 31 30 with
    | 0 => decide (r.len ≤ 8)
    | 1 => decide (r.len ≤ 8) || [12, 16, 20, 24, 32, 48, 64].contains r.len
    | _ => decide (r.dstBus < 4) && decide (1 ≤ r.len) && decide (r.len ≤ 2048)
  else if 0x10 ≤ r.dstBus ∧ r.dstBus ≤ 0x15 ∧ cfgNat t (0x4500 + (r.dstBus - 0x10)) 1 = 4 then
    (mvbEntries t (if cfgNat t 0x4600 1 = 1 then 0 else r.dstBus - 0x10)).any (fun e => e.2.addr == r.dstId % 4096 && mvbSize e.2.fcode == r.len)
  else decide (r.len ≤ 256)

/-- The rules on one routing entry (R300 to R302). -/
def routeRule (t : Tbl Bytes) (img : Bytes) (n : Nat) (r : Route) : Option Nat :=
  let w := beAt img (32 + 32 * n) 32
  let moves := if r.transform < transformCount img then (List.range 16).map (moveAt img r.transform) else []
  if 6 < r.tc ∨ r.stale = 3 ∨ 2048 < r.len ∨ (r.period ≠ 0 ∧ r.period ≤ r.phase) ∨ w % 2 ^ 38 ≠ 0 ∨ bitOf w 248 then some 1
  else if !(identFits t r.srcBus r.srcId true) ∨ !(identFits t r.dstBus r.dstId false) then some 4
  else if !(lengthFits t r) then some 4
  else if r.transform ≠ 1023 ∧ transformCount img ≤ r.transform then some 4
  else if moves.any (fun m => bitOf m 31 && (decide (2048 < bitsOf m 29 19 + bitsOf m 7 0 + 1) || decide (r.len < bitsOf m 18 8 + bitsOf m 7 0 + 1))) then some 4
  else if r.dstBus < 8 ∧ !(bitOf r.dstId 29) ∧ mgmtId t r.dstBus (r.dstId % 2048) then some 4
  else if r.srcBus < 8 ∧ !(bitOf r.srcId 29) ∧ mgmtId t r.srcBus (r.srcId % 2048) then some 4
  else if 0x0100 ≤ r.dstBus ∧ r.dstBus < 0x0126 ∧ etherCount img ≤ bitsOf r.dstId 21 16 then some 4
  else none

/-- The rules on an Ethernet destination and on a poll (R310, R312). -/
def etherBad (e : Bytes) : Bool := decide (37 < beAt e 0 2) || decide (4094 < beAt e 8 2) || decide (7 < byteAt e 10)

def pollRule (t : Tbl Bytes) (p : Bytes) : Option Nat :=
  if 5 < byteAt p 0 ∨ (byteAt p 2 ≠ 3 ∧ byteAt p 2 ≠ 4) ∨ byteAt p 3 = 0 ∨ 125 < byteAt p 3 ∨ (beAt p 6 2 ≠ 0 ∧ beAt p 6 2 ≤ beAt p 8 2) then some 1
  else if cfgNat t (0x4500 + byteAt p 0) 4 ≠ 2 then some 4
  else none

/-- The rules of validation for the gateway (R302, R325). -/
def gatewayRules (t : Tbl Bytes) : Option (Nat × Nat) :=
  let img := cfgBytes t 0x4700 1
  let key := okey 0x4700 1
  if img.isEmpty then none
  else if routeCount img = 0 ∨ 4096 < routeCount img ∨ 1023 < transformCount img ∨ 64 < etherCount img ∨ 256 < pollCount img ∨ beAt img 8 4 = 0 ∨
      beAt img 8 4 = 0xFFFFFFFF then some (key, 1)
  else
    let rs := routes img
    match rs.findSome? (fun e => routeRule t img e.1 e.2) with
    | some r => some (key, r)
    | none =>
      let slots := (rs.filter (fun e => e.2.latest && decide (e.2.dstBus < 8))).map (fun e => (e.2.dstBus, e.2.slot))
      if (List.range slots.length).any (fun i => (slots.drop (i + 1)).any (fun x => slots[i]? == some x)) then some (key, 4)
      else if 256 < (rs.filter (fun e => e.2.srcMask != 0xFFFFFFFF)).length then some (key, 5)
      else if (List.range (etherCount img)).any (fun n => etherBad (etherAt img n)) then some (key, 1)
      else match (List.range (pollCount img)).findSome? (fun n => pollRule t (pollAt img n)) with
      | some r => some (key, r)
      | none => none

end Sys2Proof.Machine
end

