-- ==== Sys2Proof/Machine/AudioStreams.lean ====
section
/-! DEFINITION. The audio streams (R331, R332, R334 to R336): the media clock's grid, the frames of output streams, the frames of input
streams, with the commands INPUT_STREAM_FRAME and STREAM_LOSS_TIMEOUT. -/

namespace Sys2Proof.Machine

/-- Audio runs (R347). -/
def audioRuns (s : State) : Bool := match s.op.state with | .commissioning | .normal | .test | .safe => true | _ => false

/-- The point that the block grid runs through (R331): the last occurrence of the trigger of target 4, or its next point before one has come;
0 without such a trigger. -/
def mediaOrigin (s : State) : T32 :=
  match (List.range 16).findSome? (fun k =>
    if s.on (0x4060 + k) 1 ∧ s.val (0x4060 + k) 2 = 4 then (s.time.triggers[k]?).getD none else none) with
  | some g => (match s.aud.grid with | some o => o | none => g.next)
  | none => 0#32

/-- The last block boundary (R331). -/
def blockBoundary (s : State) : T32 :=
  let o := mediaOrigin s
  let d : Int := if o = 0#32 then (s.now.toNat : Int) else signed 4 (s.now - o).toNat
  s.now - BitVec.ofInt 32 (d % 125000)

/-- The presentation time of a frame whose block has ended at the last boundary (R332; that the first sample was taken 125 µs before it is
DEDUCED, log entry 209). -/
def presentationTime (s : State) : T32 := blockBoundary s - 125000#32 + BitVec.ofNat 32 (1000 * s.val 0x4A00 1)

/-- A field of a stream frame that the manual does not state: free bytes (log entry 197). -/
def streamFree (what n stream : Nat) (count : Nat) : Bytes :=
  padTo n (Config.freeBytesOf 197 [(what : Int), (stream : Int), (count : Int)] [])

/-- The checksum of an IPv4 header whose checksum field holds 0. -/
def ipChecksum (h : Bytes) : Nat :=
  let t := (List.range (h.length / 2)).foldl (fun a i => a + beAt h (2 * i) 2) 0
  let f := t % 65536 + t / 65536
  65535 - (f % 65536 + f / 65536)

/-- The samples of a frame, sample by sample, each with its channels in order, most significant byte first. -/
def sampleBytes (channels : Nat) (sample : Nat → Nat → Int) : Bytes :=
  (List.range 6).flatMap (fun k => (List.range channels).flatMap (fun ch => beInt 3 (sample ch k)))

/-- An IEEE 1722 AAF frame behind its addresses (R334; the standard's layout is PRESUMED, log entry 197). -/
def aafFrame (streamId : Bytes) (count : Nat) (time : T32) (channels : Nat) (samples : Bytes) : Bytes :=
  be 2 0x22F0 ++ be 1 2 ++ be 1 0x81 ++ be 1 (count % 256) ++ be 1 0 ++ streamId ++ be 4 time.toNat ++ be 1 3 ++ be 2 (0x5000 + channels) ++
    be 1 24 ++ be 2 samples.length ++ be 2 0 ++ samples

/-- The RTP header extension of R335. Of which announcement it tells is not stated: free values (log entry 197). -/
def priorityExtension (n count prio mask : Nat) : Bytes :=
  be 2 0xBEDE ++ be 2 3 ++ be 1 0x1A ++ be 1 prio ++ streamFree 1 2 n count ++ be 1 mask ++ be 4 (Config.unitId.toNat % 2 ^ 32) ++
    streamFree 2 2 n count ++ be 1 0

/-- An AES67 frame behind its addresses: RTP over UDP and IPv4 (R334; the standards' layouts are PRESUMED, log entry 197). -/
def rtpFrame (n count : Nat) (addr : Bytes) (port pt : Nat) (ext samples : Bytes) : Bytes :=
  let rtp := be 1 (if ext.isEmpty then 0x80 else 0x90) ++ be 1 (pt % 128) ++ be 2 (count % 65536) ++ streamFree 3 4 n count ++ streamFree 4 4 n 0 ++
    ext ++ samples
  let udp := streamFree 5 2 n 0 ++ be 2 port ++ be 2 (8 + rtp.length) ++ streamFree 6 2 n count ++ rtp
  let head := be 1 0x45 ++ streamFree 7 1 n 0 ++ be 2 (20 + udp.length) ++ streamFree 8 4 n count ++ streamFree 9 1 n 0 ++ be 1 17
  let from_ := streamFree 10 4 n 0
  be 2 0x0800 ++ head ++ be 2 (ipChecksum (head ++ zeros 2 ++ from_ ++ addr)) ++ from_ ++ addr ++ udp

/-- The output channel that feeds a channel of an output stream (R333). -/
def feeder (s : State) (n ch : Nat) : Option Nat :=
  (List.range 64).find? (fun o => s.val (0x4A80 + o) 1 == 1 && s.val (0x4A80 + o) 2 == n && s.val (0x4A80 + o) 3 == ch)

/-- The channels of an output stream that carry a priority, with the highest of them (R335; DEDUCED, log entry 209). -/
def streamMark (s : State) (n channels : Nat) : Nat × Nat :=
  let live := (List.range channels).filterMap (fun ch => match feeder s n ch with
    | some o => (let p := (s.aud.current[o]?).getD 0xFF; if p = 0xFF then none else some (ch, p))
    | none => none)
  (live.foldl (fun m e => max m e.2) 0, live.foldl (fun m e => m + 2 ^ e.1) 0)

/-- The frame of an output stream for this block, without tag and FCS (R332, R334, R335). -/
def streamBytes (s : State) (n : Nat) : Bytes :=
  let idx := 0x4AE0 + n
  let channels := s.val idx 3
  let count := vget s.aud.sent n
  let samples := sampleBytes channels (fun ch k => match feeder s n ch with
    | some o => (((s.aud.given[o]?).getD [])[k]?).getD 0
    | none => 0)
  let m := streamMark s n channels
  let body :=
    if s.val idx 2 = 0 then aafFrame (padTo 8 (cfgBytes s.cfg idx 4)) count (presentationTime s) channels samples
    else rtpFrame n count (padTo 4 (cfgBytes s.cfg idx 6)) (s.val idx 7) (s.val idx 8) (if s.on idx 9 then priorityExtension n count m.1 m.2 else []) samples
  let b := padTo 6 (cfgBytes s.cfg idx 5) ++ be 6 (ownMac 41) ++ body
  b ++ zeros (60 - b.length)

/-- An enabled output stream sends its frame of the block, with the VID and the traffic class of its object (R334). -/
def sendStream (s : State) (n : Nat) : State :=
  let idx := 0x4AE0 + n
  if s.on idx 1 then
    innerFrame { s with aud := { s.aud with sent := s.aud.sent.setIfInBounds n (vget s.aud.sent n + 1) } } 41
      (be 2 (s.val idx 0x0B) ++ be 1 (s.val idx 0x0C) ++ zeros 13) (streamBytes s n) s.now
  else s

/-- Every output stream sends its frame. -/
def sendStreams (s : State) : State := (List.range 32).foldl sendStream s

def audStream (s : State) (n : Nat) : AudioStream :=
  (s.aud.streams[n]?).getD { state := 0, frames := [], last := [], mark := none, lastAt := 0, concealed := 0 }

def setStream (s : State) (n : Nat) (f : AudioStream → AudioStream) : State :=
  { s with aud := { s.aud with streams := vmod s.aud.streams n f } }

/-- A frame belongs to an input stream: by its stream ID, or by its destination address and UDP port (R334). -/
def streamMatches (s : State) (n : Nat) (key : AudioKey) : Bool :=
  let idx := 0x4AC0 + n
  match key with
  | .aaf i => s.val idx 2 == 0 && beNat (cfgBytes s.cfg idx 4) == i.toNat
  | .rtp a p => s.val idx 2 == 1 && beNat (cfgBytes s.cfg idx 6) == a.toNat && s.val idx 7 == p.toNat

/-- A frame with the instant at which it is output (R332): its presentation time, or 500 µs after it has come, the later of the two. -/
def withOutput (now : T32) (f : AudioFrame) : AudioFrame :=
  { f with presentation := if f.tv ∧ 500000 ≤ (f.presentation - now).toNat then f.presentation else now + 500000#32 }

/-- A frame is late (R336): it has less than 250 µs to its presentation time. -/
def isLate (now : T32) (f : AudioFrame) : Bool := f.tv && decide (signed 4 (f.presentation - now).toNat < 250000)

/-- INPUT_STREAM_FRAME (R334, R336): late frames are discarded; a frame restores a lost stream. -/
def execInputStreamFrame (stream : Fin 32) (frame : AudioFrame) (s : State) : Host.Outcome State Fault Refusal :=
  if !(audioRuns s) ∨ !(s.on (0x4AC0 + stream.val) 1) ∨ inPause s ∨ !(streamMatches s stream.val frame.key) then .next s
  else if isLate s.now frame then .next (bump s 0x4B20 4)
  else .next (setStream s stream.val (fun x => { x with frames := x.frames ++ [withOutput s.now frame], state := 2, lastAt := s.time.mono }))

/-- STREAM_LOSS_TIMEOUT (R336): a running stream is lost 10 ms after its last valid frame. -/
def execStreamLossTimeout (stream : Fin 32) (s : State) : Host.Outcome State Fault Refusal :=
  let x := audStream s stream.val
  if x.state = 2 ∧ x.lastAt + 10000000 ≤ s.time.mono then
    .next (raise (bump (setStream s stream.val (fun y => { y with state := 3, frames := [] })) 0x4B20 0x0A) 0x4A02 2 0xFF (be 1 stream.val))
  else .next s

/-- One block of an input stream (R336): the frame that is due, or the block before it faded to zero. How the fade is
quantised is not stated: its samples are free values (DESIGN CHOICE, log entry 44). -/
def streamBlock (s : State) (n : Nat) : State :=
  let x := audStream s n
  if x.state = 0 then (if s.on (0x4AC0 + n) 1 then setStream s n (fun y => { y with state := 1 }) else s)
  else
    match x.frames.find? (fun f => dueT32 f.presentation s.now) with
    | some f =>
      setStream s n (fun y => { y with
        frames := y.frames.erase f, last := f.samples.map (fun v => signed 3 v.toNat), mark := f.mark.map (fun m => (m.1.val, m.2.toNat)), concealed := 0 })
    | none =>
      if x.state = 2 then
        let faded := if x.concealed = 0 then (List.range x.last.length).map (fun (k : Nat) => Config.freeOf 44 [(x.last[k]?).getD 0, (k : Int)]) else x.last.map (fun _ => 0)
        bump (setStream s n (fun y => { y with last := faded, mark := none, concealed := y.concealed + 1 })) 0x4B20 5
      else setStream s n (fun y => { y with last := [], mark := none })

end Sys2Proof.Machine
end

