-- ==== Sys2Proof/Machine/Audio.lean ====
section
/-! DEFINITION. Announcement and intercom audio (chapter 10), with the commands AUDIO_BLOCK, AMBIENT_MEASURE_WINDOW, CALL_REQUEST, CALL_ANSWER, CALL_END, ALERTING_TIMEOUT, CALL_QUEUE_TIMEOUT,
PLAYER_START_CLIP and PLAYER_STOP. -/

namespace Sys2Proof.Machine

/-- A gain byte in tenths of a decibel; none is off (R339). -/
def gainTenths (g : Nat) : Option Int := if g = 0 then none else some (-5 * (255 - (g : Int)))

/-- The gain of a crosspoint (R339). -/
def matrixGain (s : State) (i o : Nat) : Option Int := gainTenths (byteAt (cfgBytes s.cfg 0x4A00 9) (64 * i + o))

/-- The input and output channels and the priority limit of an endpoint (R354). -/
def endpointAt (s : State) (n : Nat) : Option (Nat × Nat × Nat) :=
  let b := cfgBytes s.cfg 0x4B10 1
  if 4 * n + 4 ≤ b.length then some (byteAt b (4 * n), byteAt b (4 * n + 1), byteAt b (4 * n + 2)) else none

/-- The inputs and outputs of a call's parties. -/
def callInputs (s : State) (c : Call) : List Nat :=
  ([c.caller, c.callee].filterMap (fun n => endpointAt s n)).map (fun e => e.1)
def callOutputs (s : State) (c : Call) : List Nat :=
  ([c.caller, c.callee].filterMap (fun n => endpointAt s n)).map (fun e => e.2.1)

/-- The directory entry of a clip (R338): offset, sample count, rate. -/
def clipAt (s : State) (c : Nat) : Nat × Nat × Nat :=
  let e := slice (cfgBytes s.cfg 0x4A00 5) (8 * c) 8
  (beAt e 0 4, beAt e 4 3, byteAt e 7)

/-- The six samples of a player's block (R338). A 48 kHz clip is played as it stands, its 16 bits uppermost; the conversion
from 16 kHz is not stated bit for bit: its samples are free values (DESIGN CHOICE, log entry 45). -/
def playerSamples (s : State) (clip pos : Nat) : List Int :=
  let e := clipAt s clip
  let b := cfgBytes s.cfg 0x4A00 5
  let raw := fun (k : Nat) => if k < e.2.1 then signed 2 (beAt b (e.1 + 2 * k) 2) * 256 else 0
  if e.2.2 = 0 then (List.range 6).map (fun k => raw (pos + k))
  else (List.range 6).map (fun k => if k % 3 = 0 then raw (pos + k / 3) else Config.freeOf 45 [raw (pos + k / 3), raw (pos + k / 3 + 1), (k : Int)])

/-- A player after its block: it ends behind its last sample. -/
def playerStep (s : State) (p : Option (Nat × Nat)) : Option (Nat × Nat) :=
  match p with
  | none => none
  | some (c, pos) =>
    let e := clipAt s c
    let next := pos + (if e.2.2 = 0 then 6 else 2)
    if e.2.1 ≤ next then none else some (c, next)

/-- The samples of an input channel in this block, the priority its stream carries for it, and whether it is active by that or by a player
(R333, R335, R340). -/
def inputSamples (s : State) (tdm : List (BitVec 24)) (i : Nat) : List Int × Option Nat × Bool :=
  let idx := 0x4A40 + i
  let n := s.val idx 2
  let ch := s.val idx 3
  match s.val idx 1 with
  | 1 =>
    let x := audStream s n
    let p := match x.mark with | some m => (if bitOf m.2 ch then some m.1 else none) | none => none
    ((List.range 6).map (fun k => (x.last[6 * ch + k]?).getD 0), p, p.isSome)
  | 2 =>
    if s.on (0x4B00 + n) 1 then
      ((List.range 6).map (fun k => match tdm[(n * 16 + ch) * 6 + k]? with | some v => signed 3 v.toNat | none => 0), none, false)
    else (List.replicate 6 0, none, false)
  | 3 =>
    match (s.aud.players[n]?).getD none with
    | some (c, pos) => (playerSamples s c pos, none, true)
    | none => (List.replicate 6 0, none, false)
  | _ => (List.replicate 6 0, none, false)

/-- A block's level in 0.1 dBFS, which the manual does not define further: a free value of the samples (DESIGN CHOICE, log entry 43). -/
def levelOf (xs : List Int) : Int := signed 2 (Config.freeOf 43 xs % 65536).toNat

/-- One input channel in a block (R340): its level, whether it is active, and its priority. -/
def inputBlock (s : State) (tdm : List (BitVec 24)) (i : Nat) : AudioInput :=
  let old := (s.aud.inputs[i]?).getD { active := false, since := 0, lastActive := none, level := 0, priority := 0, samples := [] }
  let kind := s.val (0x4A40 + i) 1
  let r := inputSamples s tdm i
  let level := levelOf r.1
  let own := s.val (0x4A40 + i) 4
  let reached := decide (kind ≠ 0) && decide (kind ≠ 3) && decide (s.ival (0x4A40 + i) 5 ≤ level)
  let last := if reached then some s.time.mono else old.lastActive
  let held := match last with | some t => decide (s.time.mono ≤ t + 500000000) | none => false
  let active := decide (kind ≠ 0) && (r.2.2 || (decide (kind ≠ 3) && held))
  { active := active, since := if active then (if old.active then old.since else s.aud.blocks) else old.since, lastActive := last, level := level,
    priority := match r.2.1 with | some p => min p own | none => own, samples := r.1 }

def audInput (s : State) (i : Nat) : AudioInput :=
  (s.aud.inputs[i]?).getD { active := false, since := 0, lastActive := none, level := 0, priority := 0, samples := [] }

/-- The priority of an input: its call's, or its own (R341). -/
def inputPriority (s : State) (i : Nat) : Nat :=
  match s.aud.calls.find? (fun c => c.connected && (callInputs s c).contains i) with
  | some c => c.priority
  | none => (audInput s i).priority

/-- The highest priority on an output; none with no active input and no call (R341). -/
def outputPriority (s : State) (o : Nat) : Option Nat :=
  let ins := ((List.range 64).filter (fun i => (audInput s i).active && (matrixGain s i o).isSome)).map (inputPriority s)
  let cs := (s.aud.calls.filter (fun c => c.connected && (callOutputs s c).contains o)).map (fun c => c.priority)
  (ins ++ cs).foldl (fun (m : Option Nat) p => some (match m with | some q => max p q | none => p)) none

/-- Active inputs of priority 7 on an output. -/
def emergencyInputs (s : State) (o : Nat) : List Nat :=
  (List.range 64).filter (fun i => (audInput s i).active && (matrixGain s i o).isSome && inputPriority s i == 7)

/-- The grant of an output (R342): kept while its input is active, else the input that became active first, the lower number
of one block. -/
def grantOf (s : State) (o : Nat) : Nat :=
  let now := (s.aud.grants[o]?).getD 0xFF
  let es := emergencyInputs s o
  if es.contains now then now
  else
    match es.foldl (fun (b : Option Nat) i =>
      match b with
      | none => some i
      | some j => if (audInput s i).since < (audInput s j).since then some i else some j) none with
    | some i => i
    | none => 0xFF

/-- What an output mixes (R341): each contributing input with its gain in tenths of a decibel, and whether it comes from a
call. -/
def contributions (s : State) (o : Nat) (p : Option Nat) : List (Nat × Int × Bool) :=
  (List.range 64).filterMap (fun i =>
    let joined := s.aud.calls.any (fun c => c.connected && (callInputs s c).contains i && (callOutputs s c).contains o)
    match (if joined then some 0 else matrixGain s i o) with
    | none => none
    | some g =>
      let prio := inputPriority s i
      let duck := s.val (0x4A80 + o) 5
      if prio = 7 ∧ p = some 7 ∧ i ≠ (s.aud.grants[o]?).getD 0xFF then none
      else if p = some prio ∨ joined then some (i, g, joined)
      else if duck = 255 then none
      else some (i, g - 10 * (duck : Int), joined))

/-- Full scale of 24 bits (R341). -/
def saturate24 (v : Int) : Int := if v < -8388608 then -8388608 else if 8388607 < v then 8388607 else v

/-- An output that feeds a slot of a running TDM port gives its samples there (R333, R354). -/
def giveTdm (s : State) (o : Nat) (samples : List Int) : State :=
  if s.val (0x4A80 + o) 1 = 2 ∧ s.on (0x4B00 + s.val (0x4A80 + o) 2) 1 then emit s (.audio o samples) else s

/-- One output channel in a block (R341). The sum at other gains than 0 dB, and during a ramp, is not stated bit for bit: it
is a free value of the samples and gains (DESIGN CHOICE, log entry 42); it saturates as the sum does. -/
def outputBlock (s : State) (o : Nat) : State :=
  let idx := 0x4A80 + o
  let p := outputPriority s o
  let cs := contributions s o p
  let own := match gainTenths (s.val idx 4) with | some g => some g | none => none
  let floor := gainTenths (s.val idx 0x0B)
  let base : Option Int := match own, (if p = some 7 then floor else none) with
    | some a, some b => some (max a b)
    | none, b => b
    | a, none => a
  let gain : Option Int := base.map (fun g => g + (s.aud.ambient[o]?).getD 0)
  let mix : List (Nat × Int) := match gain with | some g => cs.map (fun c => (c.1, c.2.1 + g)) | none => []
  let oldMix := (s.aud.mix[o]?).getD []
  let at_ := if mix = oldMix then (s.aud.mixAt[o]?).getD 0 else s.aud.blocks
  let settled := decide (s.val 0x4A00 8 * 8 ≤ s.aud.blocks - at_)
  let sum := fun (k : Nat) =>
    if settled ∧ mix.all (fun m => m.2 = 0) then mix.foldl (fun (v : Int) m => v + ((audInput s m.1).samples[k]?).getD 0) 0
    else Config.freeOf 42 ([(o : Int), (k : Int), if settled then 0 else (s.aud.blocks : Int)] ++ mix.flatMap (fun m => [((audInput s m.1).samples[k]?).getD 0, m.2]))
  let sums := (List.range 6).map sum
  let hot := (sums.filter (fun v => saturate24 v ≠ v)).length
  let s1 := { s with aud := { s.aud with
    mix := s.aud.mix.setIfInBounds o mix, mixAt := s.aud.mixAt.setIfInBounds o at_, current := s.aud.current.setIfInBounds o (p.getD 0xFF),
    given := s.aud.given.setIfInBounds o (sums.map saturate24) } }
  let s2 := (List.range hot).foldl (fun t _ => bump t 0x4B20 6) s1
  let s3 := if 0 < hot then raiseLimited s2 0 1000000000 0x4A05 2 0xFF (be 1 o) else s2
  giveTdm s3 o (sums.map saturate24)

/-- Emergency active (R343). -/
def emergencyActive (s : State) : Bool :=
  s.aud.grants.toList.any (fun g => g != 0xFF) || (s.aud.calls.any (fun c => c.connected && c.priority == 7)) || s.aud.callQueue.any (fun c => c.priority == 7)

/-- Event 4A01h on a change of the emergency state (R343). Which reference its end carries is not stated: a free value. -/
def noteEmergency (s : State) (ref : Nat) : State :=
  let e := emergencyActive s
  if e = s.aud.emergency then s
  else
    let s1 := { s with aud := { s.aud with emergency := e } }
    if e then raise s1 0x4A01 2 0xFF (be 1 1 ++ be 2 ref)
    else
      let r := drawNat s1 46
      raise r.1 0x4A01 2 0xFF (be 1 0 ++ be 2 r.2)

/-- Every input of a block. -/
def blockInputs (s : State) (tdm : List (BitVec 24)) : Vector AudioInput 64 :=
  (List.range 64).foldl (fun v i => v.setIfInBounds i (inputBlock s tdm i)) s.aud.inputs

/-- Every grant of a block (R342). -/
def blockGrants (s : State) : Vector Nat 64 :=
  (List.range 64).foldl (fun v o => v.setIfInBounds o (grantOf s o)) s.aud.grants

/-- The inputs of a block enter the state (R340). -/
def blockIn (s : State) (tdm : List (BitVec 24)) : State := { s with aud := { s.aud with inputs := blockInputs s tdm } }

/-- The device's own Guard Processor decides grants and calls: not in the roles in which the peer's does (R348), nor while a debugger
halts it (R440). -/
def decides (s : State) : Bool := !(pairPassive s) && !s.gp.halted

/-- The grants of a block (R342), frozen in Safe (R347), with the emergency state (R343). In the passive roles they are those of the
accepted capsule (R348). -/
def blockGrant (s : State) : State :=
  if s.op.state = .safe ∨ !(decides s) then s
  else
    let gs := blockGrants s
    noteEmergency { s with aud := { s.aud with grants := gs } } ((gs.toList.find? (fun g => g != 0xFF)).getD 0)

/-- The players move on, and the block is counted. -/
def blockEnd (s : State) : State :=
  { s with aud := { s.aud with players := s.aud.players.map (playerStep s), blocks := s.aud.blocks + 1 } }

/-- One running block: streams, inputs, grants, outputs, players. -/
def runBlock (s : State) (tdm : List (BitVec 24)) : State :=
  blockEnd (sendStreams ((List.range 64).foldl outputBlock (blockGrant (blockIn ((List.range 32).foldl streamBlock (bumpW s 0x4B20 3 0 1)) tdm))))

/-- A block of the activation pause: every output gives zeros (R347). -/
def pauseBlock (s : State) : State :=
  let quiet := { s with aud := { s.aud with given := Vector.replicate 64 (List.replicate 6 0) } }
  sendStreams ((List.range 64).foldl (fun t o => giveTdm t o (List.replicate 6 0)) quiet)

/-- AUDIO_BLOCK (R331, R341): inputs, grants and outputs of one block. In the activation pause every output sends zeros. -/
def execAudioBlock (tdmIn : List (BitVec 24)) (s : State) : Host.Outcome State Fault Refusal :=
  if !(audioRuns s) then .next s
  else if inPause s then .next (pauseBlock s)
  else .next (runBlock s tdmIn)

/-- AMBIENT_MEASURE_WINDOW (R344): the noise of the window is a free value (DESIGN CHOICE, log entry 47), frozen while the output carries more
than calls; the gain moves towards its target. -/
def execAmbientMeasureWindow (output : Fin 64) (s : State) : Host.Outcome State Fault Refusal :=
  let o := output.val
  let idx := 0x4A80 + o
  if !(audioRuns s) ∨ s.op.state = .safe ∨ inPause s then .next s
  else if s.val idx 6 = 0 then
    .next { s with aud := { s.aud with ambient := s.aud.ambient.setIfInBounds o 0, noise := s.aud.noise.setIfInBounds o none } }
  else
    let busy := (contributions s o (outputPriority s o)).any (fun c => !c.2.2)
    let r := drawNat s 47
    let s1 := if busy then s else { r.1 with aud := { r.1.aud with noise := r.1.aud.noise.setIfInBounds o (some (signed 2 (r.2 % 65536))) } }
    let target : Int := match (s1.aud.noise[o]?).getD none with
      | some n => max 0 (min 120 ((n - s1.ival idx 7) * (s1.val idx 8 : Int) / 10))
      | none => 0
    let slew : Int := s1.val 0x4A00 7
    let a := (s1.aud.ambient[o]?).getD 0
    .next { s1 with aud := { s1.aud with ambient := s1.aud.ambient.setIfInBounds o (if a < target then min target (a + slew) else max target (a - slew)) } }

/-- The status data of a call (R345; layout: DEDUCED, log entry 48): command, state, reference, position, cause, priority, 0. -/
def callStatus (c : Call) (state cause : Nat) : Bytes :=
  be 1 c.command ++ be 1 state ++ be 2 c.ref.toNat ++ be 1 (if state = 1 then c.position else 0) ++ be 1 cause ++ be 1 c.priority ++ be 1 0

/-- The address of a call's party: the sender of what it last sent, or, where it has sent nothing, one that the manual does not name, a free
value (DESIGN CHOICE, log entry 210). -/
def partyAt (known : Option Contact) (endpoint : Nat) : Nat × Nat :=
  match known with
  | some a => (a.1.toNat, a.2.val)
  | none => ((Config.freeOf 48 [(endpoint : Int), 0] % 2 ^ 48).toNat, (Config.freeOf 48 [(endpoint : Int), 1] % 4095).toNat)

/-- A status datagram on channel 0x0002 (R309, R345). Its traffic class is not stated: a free value (log entry 210). -/
def statusTo (s : State) (known : Option Contact) (endpoint : Nat) (data : Bytes) : State :=
  let a := partyAt known endpoint
  let seq := tnat s.aud.statusSeqs a.1
  let body := be 1 1 ++ be 1 0 ++ be 2 2 ++ be 2 0x0129 ++ be 4 2 ++ be 4 s.now.toNat ++ be 2 seq ++ be 2 data.length ++ data
  innerFrame { s with aud := { s.aud with statusSeqs := tput s.aud.statusSeqs a.1 ((seq + 1) % 65536) } } 41
    (be 2 a.2 ++ be 1 (Config.freeOf 48 [(endpoint : Int), 2] % 8).toNat ++ zeros 13)
    (be 6 a.1 ++ be 6 (ownMac 41) ++ be 2 0x88B6 ++ body ++ zeros (46 - body.length)) s.now

/-- A status goes to both parties (R345, R346). -/
def tellCall (s : State) (c : Call) (state cause : Nat) : State :=
  let d := callStatus c state cause
  statusTo (statusTo s c.callerAt c.caller d) c.calleeAt c.callee d

/-- A refusal (R346): its status, its count, event 4A04h. -/
def refuseCall (s : State) (c : Call) (cause : Nat) : State :=
  raise (bump (tellCall s c 4 cause) 0x4B20 9) 0x4A04 2 0xFF (be 2 c.caller ++ be 1 cause)

/-- A request is admitted: alerting (R346). -/
def admitCall (s : State) (c : Call) : State :=
  let d := { c with connected := false, order := s.aud.callOrder }
  tellCall { s with aud := { s.aud with calls := s.aud.calls ++ [d], callOrder := s.aud.callOrder + 1 } } d 2 0

/-- Queued callers hear of a changed position (R346). -/
def tellPositions (s : State) : State :=
  let q := s.aud.callQueue
  let fresh := (List.range q.length).filterMap (fun i => match q[i]? with
    | some c => some ({ c with position := i + 1 }, c.position != i + 1)
    | none => none)
  (fresh.filter (fun e => e.2)).foldl (fun t e => tellCall t e.1 1 0) { s with aud := { s.aud with callQueue := fresh.map (fun e => e.1) } }

/-- A call leaves the table, with its status. -/
def closeCall (s : State) (c : Call) (cause : Nat) : State :=
  tellCall { s with aud := { s.aud with calls := s.aud.calls.filter (fun x => x.ref != c.ref) } } { c with command := 3 } 3 cause

/-- The queue head is admitted while a place is free (R346); not in Safe (R347). -/
def admitHead (s : State) : State :=
  match s.aud.callQueue with
  | c :: rest =>
    if s.aud.calls.length < 16 ∧ s.op.state ≠ .safe then
      tellPositions (admitCall { s with aud := { s.aud with callQueue := rest } } c)
    else s
  | [] => s

/-- A call ends (R346). -/
def endCall (s : State) (c : Call) (cause : Nat) : State := noteEmergency (admitHead (closeCall s c cause)) c.ref.toNat

/-- The place of a request in the queue: by priority, then arrival (R346). -/
def queueCall (q : List Call) (c : Call) : List Call :=
  q.filter (fun x => decide (c.priority ≤ x.priority)) ++ [c] ++ q.filter (fun x => decide (x.priority < c.priority))

/-- The call of lowest priority, latest admitted first (R346). -/
def preemptible (s : State) : Option Call :=
  (s.aud.calls.filter (fun c => decide (c.priority < 7))).foldl (fun (b : Option Call) c =>
    match b with
    | none => some c
    | some d => if c.priority < d.priority ∨ (c.priority = d.priority ∧ d.order < c.order) then some c else some d) none

/-- A new request (R345, R346). A reference in use again is ignored. -/
def newCall (s : State) (r : CallRequest) : State :=
  let caller := r.caller.toNat
  let prio := match endpointAt s caller with | some e => min r.priority.toNat e.2.2 | none => r.priority.toNat
  let c : Call := { ref := r.reference, priority := prio, caller := caller, callee := r.callee.toNat, connected := false, order := s.aud.callOrder,
                    command := 1, position := 0, callerAt := r.sender, calleeAt := none }
  if (s.aud.calls ++ s.aud.callQueue).any (fun x => x.ref == c.ref) then s
  else if s.op.state = .safe then refuseCall s c 4
  else if s.aud.calls.length < 16 then admitCall s c
  else match (if prio = 7 then preemptible s else none) with
  | some v =>
    let s1 := raise (bump (closeCall s v 1) 0x4B20 8) 0x4A03 2 0xFF (be 2 v.ref.toNat ++ be 2 c.ref.toNat)
    admitCall s1 c
  | none =>
    if s.aud.callQueue.length < 32 then
      noteEmergency (tellPositions { s with aud := { s.aud with callQueue := queueCall s.aud.callQueue c, callOrder := s.aud.callOrder + 1 } }) c.ref.toNat
    else refuseCall s c 3

/-- An answer connects an alerting call (R346). -/
def answerCall (s : State) (ref : BitVec 16) (sender : Option Contact) : State :=
  match s.aud.calls.find? (fun c => c.ref == ref && !c.connected) with
  | some c =>
    let d := { c with connected := true, command := 2, calleeAt := sender }
    let s1 := { s with aud := { s.aud with calls := s.aud.calls.map (fun x => if x.ref == ref then d else x) } }
    noteEmergency (tellCall (bumpW s1 0x4B20 7 0 1) d 0 0) ref.toNat
  | none => s

/-- An end frees a call, or takes a request out of the queue (R346). -/
def hangUp (s : State) (ref : BitVec 16) : State :=
  match s.aud.calls.find? (fun c => c.ref == ref) with
  | some c => endCall s c 0
  | none =>
    match s.aud.callQueue.find? (fun c => c.ref == ref) with
    | some c => noteEmergency (tellPositions (tellCall { s with aud := { s.aud with callQueue := s.aud.callQueue.filter (fun x => x.ref != ref) } } { c with command := 3 } 3 0)) ref.toNat
    | none => s

/-- What the Guard Processor does with a request, by its command (R345, R346). -/
def callAct (s : State) (r : CallRequest) : State :=
  if r.kind = 1 then newCall s r
  else if r.kind = 2 then answerCall s r.reference r.sender
  else if r.kind = 3 then hangUp s r.reference
  else s

/-- A request reaches the Guard Processor (R345). Calls stand still in the activation pause (R347); a device in a passive role decides
no calls (R348; DEDUCED, log entry 208); while a debugger halts the processor the request waits (R440). -/
def callCommand (s : State) (r : CallRequest) : State :=
  if !(audioRuns s) ∨ inPause s ∨ pairPassive s then s
  else if s.gp.halted then { s with aud := { s.aud with mailbox := s.aud.mailbox ++ [r] } }
  else callAct s r

/-- The requests that waited are served (R440). -/
def serveMailbox (s : State) : State :=
  s.aud.mailbox.foldl callAct { s with aud := { s.aud with mailbox := [] } }

/-- CALL_REQUEST (R346). -/
def execCallRequest (req : CallRequest) (s : State) : Host.Outcome State Fault Refusal := .next (callCommand s req)

/-- A request that names a call alone: an answer (2) or an end (3). -/
def callNamed (kind : BitVec 8) (ref : BitVec 16) (sender : Option Contact) : CallRequest :=
  { kind := kind, caller := 0, callee := 0, priority := 0, reference := ref, sender := sender }

/-- CALL_ANSWER (R346). -/
def execCallAnswer (answer : CallReply) (s : State) : Host.Outcome State Fault Refusal :=
  .next (callCommand s (callNamed 2 answer.ref answer.sender))

/-- CALL_END (R346). -/
def execCallEnd (ref : BitVec 16) (s : State) : Host.Outcome State Fault Refusal :=
  .next (callCommand s (callNamed 3 ref none))

/-- ALERTING_TIMEOUT (R346). -/
def execAlertingTimeout (ref : BitVec 16) (s : State) : Host.Outcome State Fault Refusal :=
  match s.aud.calls.find? (fun c => c.ref == ref && !c.connected) with
  | some c => if decides s then .next (endCall s c 2) else .next s
  | none => .next s

/-- CALL_QUEUE_TIMEOUT (R346). -/
def execCallQueueTimeout (ref : BitVec 16) (s : State) : Host.Outcome State Fault Refusal :=
  match (if decides s then s.aud.callQueue.find? (fun c => c.ref == ref && decide (c.priority < 7)) else none) with
  | some c =>
    let s1 := { s with aud := { s.aud with callQueue := s.aud.callQueue.filter (fun x => x.ref != ref) } }
    .next (tellPositions (tellCall s1 c 3 5))
  | none => .next s

/-- A clip starts on a player, or 0xFF stops it (R338). -/
def startClip (s : State) (p c : Nat) : State :=
  if c = 0xFF then { s with aud := { s.aud with players := s.aud.players.setIfInBounds p none } }
  else if 63 < c ∨ (clipAt s c).2.1 = 0 then raise s 0x4A06 2 0xFF (be 1 p ++ be 1 c)
  else { s with aud := { s.aud with players := s.aud.players.setIfInBounds p (some (c, 0)) } }

/-- A player command (R338, R354); the result code. One that names a player or a clip that does not exist answers 0x07 (R349; DEDUCED, log
entry 131). -/
def playerCommand (s : State) (v : Nat) : State × Nat :=
  if 2048 ≤ v ∨ (63 < v % 256 ∧ v % 256 ≠ 0xFF) then (s, 7) else (startClip s (v / 256) (v % 256), 0)

/-- PLAYER_START_CLIP (R338). -/
def execPlayerStartClip (ses : SessionNo) (player : Fin 8) (clip : BitVec 8) (s : State) : Host.Outcome State Fault Refusal :=
  let v := 256 * player.val + clip.toNat
  .next (command s ses 0x4B10 5 (be 2 v) (fun t => playerCommand t v))

/-- PLAYER_STOP (R338). -/
def execPlayerStop (ses : SessionNo) (player : Fin 8) (s : State) : Host.Outcome State Fault Refusal :=
  let v := 256 * player.val + 255
  .next (command s ses 0x4B10 5 (be 2 v) (fun t => playerCommand t v))

/-- What entering a state does to audio (R347). -/
def audioEnter (s : State) : State :=
  if s.op.state = .safe then
    let q := s.aud.callQueue
    serveMailbox (noteEmergency (q.foldl (fun t c => refuseCall t c 4) { s with aud := { s.aud with callQueue := [] } }) 0)
  else if audioRuns s then s
  else
    noteEmergency { s with aud := { AudioBlock.reset with blocks := s.aud.blocks, callOrder := s.aud.callOrder, emergency := s.aud.emergency } } 0

/-- The apply of audio settings: a stream switched off stops, one whose identity changed waits anew. -/
def applyAudio (old : Tbl Bytes) (s : State) : State :=
  (List.range 32).foldl (fun t n =>
    if changedIn old s.cfg (0x4AC0 + n) (List.range' 1 8) then
      setStream t n (fun _ => { state := if s.on (0x4AC0 + n) 1 then 1 else 0, frames := [], last := [], mark := none, lastAt := s.time.mono, concealed := 0 })
    else t) s

/-- What the objects of R350 to R354 show. -/
def liveAudio (s : State) (idx sub : Nat) : Option Bytes :=
  if idx = 0x4A00 then
    match sub with
    | 2 => some (be 1 (boolNat (emergencyActive s)))
    | 3 => some (be 1 (s.aud.calls.filter (fun c => c.connected)).length)
    | 4 => some (be 1 s.aud.callQueue.length)
    | _ => none
  else if 0x4A40 ≤ idx ∧ idx ≤ 0x4A7F then
    match sub with
    | 6 => some (beInt 2 (audInput s (idx - 0x4A40)).level)
    | 7 => some (be 1 (boolNat (audInput s (idx - 0x4A40)).active))
    | _ => none
  else if 0x4A80 ≤ idx ∧ idx ≤ 0x4ABF then
    let o := idx - 0x4A80
    match sub with
    | 9 => some (be 1 ((s.aud.ambient[o]?).getD 0).toNat)
    | 0x0A => some (be 1 ((s.aud.current[o]?).getD 0xFF))
    | 0x0C => some (be 1 ((s.aud.grants[o]?).getD 0xFF))
    | _ => none
  else if 0x4AC0 ≤ idx ∧ idx ≤ 0x4ADF ∧ sub = 0x0A then some (be 1 (audStream s (idx - 0x4AC0)).state)
  else if 0x4AE0 ≤ idx ∧ idx ≤ 0x4AFF ∧ sub = 0x0A then
    some (be 1 (if !(s.on idx 1) then 0 else if audioRuns s then 2 else 1))
  else if idx = 0x4B10 ∧ sub = 2 then
    some (padTo 128 (s.aud.calls.flatMap (fun c => callStatus c (if c.connected then 0 else 2) 0)))
  else if idx = 0x4B10 ∧ sub = 4 then some (padTo 256 (s.aud.callQueue.flatMap (fun c => callStatus c 1 0)))
  else none

/-- The rules of validation for audio (R333, R338, R349 to R354). -/
def audioRules (t : Tbl Bytes) : Option (Nat × Nat) :=
  let sinks := ((List.range 64).filter (fun o => cfgNat t (0x4A80 + o) 1 != 0)).map (fun o => (o, [cfgNat t (0x4A80 + o) 1, cfgNat t (0x4A80 + o) 2, cfgNat t (0x4A80 + o) 3]))
  let same := (sinks.find? (fun a => sinks.any (fun b => decide (b.1 < a.1) && b.2 == a.2)))
  let badIn := (List.range 64).find? (fun i =>
    let k := cfgNat t (0x4A40 + i) 1
    let n := cfgNat t (0x4A40 + i) 2
    let c := cfgNat t (0x4A40 + i) 3
    decide (3 < k) || (k == 1 && (decide (31 < n) || decide (7 < c))) || (k == 2 && (decide (3 < n) || decide (15 < c))) || (k == 3 && decide (7 < n)))
  let badOut := (List.range 64).find? (fun o =>
    let k := cfgNat t (0x4A80 + o) 1
    let n := cfgNat t (0x4A80 + o) 2
    let c := cfgNat t (0x4A80 + o) 3
    let d := cfgNat t (0x4A80 + o) 5
    decide (2 < k) || (k == 1 && (decide (31 < n) || decide (7 < c))) || (k == 2 && (decide (3 < n) || decide (15 < c))) || (decide (60 < d) && d != 255))
  let ends := cfgBytes t 0x4B10 1
  if (cfgBytes t 0x4A00 9).length ≠ 4096 then some (okey 0x4A00 9, 1)
  else if ends.length % 4 ≠ 0 ∨ 256 < ends.length ∨ (List.range (ends.length / 4)).any (fun n =>
      decide (63 < byteAt ends (4 * n)) || decide (63 < byteAt ends (4 * n + 1)) || decide (7 < byteAt ends (4 * n + 2))) then some (okey 0x4B10 1, 1)
  else if 2 < bitsOf (cfgNat t 0x4A00 0x0B) 1 0 ∨ 2 < bitsOf (cfgNat t 0x4A00 0x0B) 3 2 ∨ 15 < cfgNat t 0x4A00 0x0B then some (okey 0x4A00 0x0B, 1)
  else match badIn, badOut with
  | some i, _ => some (okey (0x4A40 + i) 2, 1)
  | _, some o => some (okey (0x4A80 + o) 2, 1)
  | _, _ =>
    match same with
    | some x => some (okey (0x4A80 + x.1) 1, 4)
    | none => none

end Sys2Proof.Machine
end

