-- ==== Sys2Proof/Machine/Segments.lean ====
section
/-! DEFINITION. Managed segments and PHY resets (R390, R399 to R403), with the commands SEGMENT_WAKE_REQUEST,
SEGMENT_SLEEP_REQUEST, SEGMENT_END_ISOLATION, TS_SEGMENT_ENERGY, LEASE_EXPIRY, DRAIN_QUIET_COMPLETE, SEGMENT_OVERRUN and
PHY_RELEASE_STAGGER. -/

namespace Sys2Proof.Machine

def managed (s : State) (p : Nat) : Bool := s.on (0x2440 + p) 1

/-- The ports behind a PHY reset pin: BB0 to BB5, then EL0 to EL5. -/
def phyPorts (k : Nat) : List Nat := if k < 6 then [k] else List.range' (6 + 4 * (k - 6)) 4

/-- A PHY is to run: one of its ports is enabled, in a serving state, and neither asleep nor isolated (R384, R390, R399). -/
def phyWanted (s : State) (k : Nat) : Bool :=
  (phyPorts k).any (fun p =>
    s.on (0x3000 + p) 1 && decide (p < 6 ∨ 0 < laneMode s p) && segState s p != 1 && segState s p != 4 &&
      (match s.op.state with
        | .commissioning | .normal | .test | .safe => true
        | .lightSleep => bitOf (s.val 0x2400 0x0C) p
        | _ => false))

/-- The reset pins follow, but for those that wait for their turn in the release order (R390). -/
def refreshPhy (s : State) : State :=
  let bits := (List.range 12).foldl (fun (n : Nat) k => if phyWanted s k && !(s.slp.phyWait.contains k) then n + 2 ^ k else n) 0
  { s with pins := { s.pins with phyReset := BitVec.ofNat 12 bits } }

/-- A segment takes a state; a change raises event 2406h. -/
def setSegment (s : State) (p st lease : Nat) : State :=
  let was := segState s p
  let s1 := { s with slp := { s.slp with segments := vmod s.slp.segments p (fun g => { g with state := st, lease := lease }) } }
  if was = st then s1 else raise s1 0x2406 1 p (be 1 p ++ be 1 st)

/-- The end of a fresh lease (R400). -/
def freshLease (s : State) (p : Nat) : Nat := s.time.mono + s.val (0x2440 + p) 2 * 1000000000

/-- A wake request (R400): the segment is Awake with a fresh lease, unless it is isolated (R402). -/
def segWake (s : State) (p : Nat) : State :=
  if managed s p ∧ s.op.state = .normal ∧ segState s p ≠ 4 then refreshPhy (setSegment s p 2 (freshLease s p)) else s

/-- A sleep request (R401): an awake segment drains, its queued frames discarded. -/
def segSleep (s : State) (p : Nat) : State :=
  if managed s p ∧ s.op.state = .normal ∧ segState s p = 2 then discardQueues (setSegment s p 3 0) p else s

/-- A link that a segment loses (R399). -/
def segUnlink (s : State) (p : Nat) : State :=
  if linkIsUp s p then dropLink s p else settleLink s p

/-- A draining segment is quiet and falls asleep (R401). -/
def segAsleep (s : State) (p : Nat) : State := refreshPhy (segUnlink (setSegment s p 1 0) p)

/-- A segment request of 2440h.06; the result code. -/
def segRequest (s : State) (p v : Nat) : State × Nat :=
  if v = 0 ∨ 3 < v then (s, 8)
  else if !(managed s p) ∨ s.op.state ≠ .normal then (s, 0x0F)
  else if v = 1 then (segWake s p, 0)
  else if v = 2 then (segSleep s p, 0)
  else if segState s p = 4 then (refreshPhy (segUnlink (setSegment s p 1 0) p), 0)
  else (s, 0x0F)

/-- The role that a request needs beyond the object's own (R407): 3 is for a Maintainer. -/
def segRole (s : State) (ses v : Nat) : Bool := decide (v ≠ 3) || decide (2 ≤ roleOf s ses)

/-- A session's segment request. -/
def segCommand (s : State) (ses : SessionNo) (p v : Nat) : State :=
  command s ses (0x2440 + p) 6 (be 1 v) (fun t => if segRole t ses.val v then segRequest t p v else (t, 5))

/-- SEGMENT_WAKE_REQUEST (R400). -/
def execSegmentWakeRequest (ses : SessionNo) (port : Fin 38) (s : State) : Host.Outcome State Fault Refusal :=
  .next (segCommand s ses port.val 1)

/-- SEGMENT_SLEEP_REQUEST (R401). -/
def execSegmentSleepRequest (ses : SessionNo) (port : Fin 38) (s : State) : Host.Outcome State Fault Refusal :=
  .next (segCommand s ses port.val 2)

/-- SEGMENT_END_ISOLATION (R402). -/
def execSegmentEndIsolation (ses : SessionNo) (port : Fin 38) (s : State) : Host.Outcome State Fault Refusal :=
  .next (segCommand s ses port.val 3)

/-- TS_SEGMENT_ENERGY (R400). -/
def execTsSegmentEnergy (ts : Fin 8) (s : State) : Host.Outcome State Fault Refusal :=
  if segState s (30 + ts.val) = 1 then .next (segWake s (30 + ts.val)) else .next s

/-- The lease of a segment has run out. -/
def leaseOver (s : State) (p : Nat) : Bool := match s.slp.segments[p]? with | some g => decide (g.lease ≤ s.time.mono) | none => false

/-- LEASE_EXPIRY (R401). -/
def execLeaseExpiry (port : Fin 38) (s : State) : Host.Outcome State Fault Refusal :=
  if leaseOver s port.val then .next (segSleep s port.val) else .next s

/-- DRAIN_QUIET_COMPLETE (R401). -/
def execDrainQuietComplete (port : Fin 38) (s : State) : Host.Outcome State Fault Refusal :=
  if segState s port.val = 3 ∧ s.op.state = .normal then .next (segAsleep s port.val) else .next s

/-- SEGMENT_OVERRUN (R402). -/
def execSegmentOverrun (port : Fin 38) (s : State) : Host.Outcome State Fault Refusal :=
  let p := port.val
  if segState s p = 3 ∧ s.op.state = .normal then
    let s1 := segUnlink (setSegment s p 4 0) p
    .next (refreshPhy (raise (bump (bumpN s1 0x2440 p 7) 0x2470 0x0C) 0x2407 3 p (be 1 p)))
  else .next s

/-- The next PHY leaves reset, in the order of R390. -/
def releasePhy (s : State) : State :=
  match s.slp.phyWait with
  | [] => s
  | _ :: rest => refreshPhy { s with slp := { s.slp with phyWait := rest } }

/-- PHY_RELEASE_STAGGER (R390). -/
def execPhyReleaseStagger (s : State) : Host.Outcome State Fault Refusal := .next (releasePhy s)

/-- A wake starts the release order at the entry to Normal (R390): with a stagger, all but the first wait. -/
def staggerPhy (s : State) : State :=
  let order := (List.range 12).filter (fun k => phyWanted s k && !(s.pins.phyReset.getLsbD k))
  if s.val 0x2400 0x0D = 0 then refreshPhy { s with slp := { s.slp with phyWait := [] } }
  else releasePhy { s with slp := { s.slp with phyWait := order } }

/-- Segments at the entry of a state (R403); `wakeSet` names those that wake with it. -/
def segmentsEnter (s : State) (fromSleep : Bool) (wakeSet : Nat) : State :=
  let all := List.range 38
  match s.op.state with
  | .normal =>
    all.foldl (fun t p =>
      if !(managed t p) then setSegment t p 0 0
      else if segState t p = 4 then t
      else if bitOf wakeSet p then setSegment t p 2 (freshLease t p)
      else if fromSleep && segState t p == 2 then t
      else segUnlink (setSegment t p 1 0) p) s
  | .commissioning | .test => all.foldl (fun t p => if !(managed t p) then setSegment t p 0 0 else if segState t p = 4 then t else setSegment t p 2 0) s
  | .lightSleep | .deepSleep => all.foldl (fun t p => if managed t p ∧ segState t p ≠ 4 then setSegment t p 1 0 else t) s
  | .start | .recovery => { s with slp := { s.slp with segments := s.slp.segments.map (fun _ => { state := 0, lease := 0 }) } }
  | .safe => s

/-- The apply of segment settings: a segment that becomes managed is awake with a fresh lease, one that ceases to be is
free. A start leaves them to the entry of its state (R403). -/
def applySegments (old : Tbl Bytes) (s : State) : State :=
  let s1 := (List.range 38).foldl (fun t p =>
    if changedIn old s.cfg (0x2440 + p) [1] then
      (if managed t p then (if t.op.state = .safe ∨ t.op.state = .start then t else setSegment t p 2 (freshLease t p)) else segUnlink (setSegment t p 0 0) p)
    else t) s
  refreshPhy s1

/-- The lease that remains, in seconds rounded up (R407). -/
def leaseLeft (s : State) (p : Nat) : Nat :=
  match s.slp.segments[p]? with
  | some g => if g.state = 2 ∧ s.op.state = .normal then (g.lease - s.time.mono + 999999999) / 1000000000 else 0
  | none => 0

end Sys2Proof.Machine
end

