-- ==== Sys2Proof/Machine/Position.lean ====
section
/-! DEFINITION. The Position Unit without the commands that can apply a change set (R357 to R368): edges, cross-check, D64,
firing and missed targets, door sides; the commands QUADRATURE_ERROR, CROSS_CHECK_WINDOW_END, D64_EXTENSION,
DISTANCE_CHARGE_JOURNAL and SET_DOOR_SIDE. -/

namespace Sys2Proof.Machine

def odo (s : State) (k : Nat) : OdoChannel :=
  (s.pos.channels[k]?).getD { aLevel := false, bLevel := false, dist := 0, silent := 0, speed := 0, lastEdge := none }

def setOdo (s : State) (k : Nat) (f : OdoChannel → OdoChannel) : State :=
  { s with pos := { s.pos with channels := vmod s.pos.channels k f } }

def odoMode (s : State) (k : Nat) : Nat := s.val (0x4C10 + k) 1

/-- The cross-check runs (R360). -/
def crossOn (s : State) : Bool :=
  s.on 0x4C00 3 && decide (1 ≤ odoMode s 0) && decide (odoMode s 0 ≤ 4) && decide (1 ≤ odoMode s 1) && decide (odoMode s 1 ≤ 4)

/-- The driving channel (R359, R360). -/
def driving (s : State) : Nat := if crossOn s then s.pos.drive else s.val 0x4C00 1

/-- Is an edge counted in this mode, and is it a reverse edge (R357)? -/
def countedEdge (mode : Nat) (e : OdoEdge) : Option Bool :=
  match mode, e with
  | 1, .a rising bHigh => some (rising == bHigh)
  | 1, .b rising aHigh => some (rising != aHigh)
  | 2, .a true bHigh => some bHigh
  | 3, .a true _ => some false
  | 4, .a true bHigh => some bHigh
  | _, _ => none

/-- The fraction accumulator and D32 after an edge of the driving channel (R359). -/
def advance (s : State) (scale : Nat) (reverse : Bool) : State :=
  let sub := reverse && s.val 0x4C00 2 == 1
  let total : Int := (s.pos.acc.toNat : Int) + (if sub then -(scale : Int) else scale)
  { s with pos := { s.pos with
    acc := BitVec.ofInt 16 total, d32 := s.pos.d32 + BitVec.ofInt 32 (total / 65536), direction := boolNat reverse } }

/-- A counted edge of a channel (R358, R359); the second component says that D32 changed. -/
def countEdge (s : State) (k : Nat) (e : OdoEdge) : State × Bool :=
  let s0 := setOdo s k (fun c => match e with
    | .a r b => { c with aLevel := r, bLevel := b }
    | .b r a => { c with bLevel := r, aLevel := a })
  match countedEdge (odoMode s k) e with
  | none => (s0, false)
  | some rev =>
    let scale := s.val (0x4C10 + k) 2
    let close := match (odo s k).lastEdge with | some t => decide (s.time.mono < t + 5000) | none => false
    let s1 := setOdo s0 k (fun c => { c with dist := c.dist + scale, lastEdge := some s.time.mono })
    let s2 := if close then raiseLimited (bump s1 0x4C30 4) k 1000000000 0x4C04 2 0xFF (be 1 k) else s1
    if k = driving s then
      let s3 := advance s2 scale rev
      (s3, s3.pos.d32 != s.pos.d32)
    else (s2, false)

/-- The channel settings in force are applied, so that edges count (R362): in Start from the end of phase 6, or 5 of a start from
DeepSleep; never in DeepSleep. -/
def odoApplied (s : State) : Bool :=
  match s.op.state with
  | .deepSleep => false
  | .start => decide ((if s.op.warm then 6 else 7) ≤ s.op.phase)
  | _ => true

/-- QUADRATURE_ERROR (R358): A and B have changed within one tick. -/
def execQuadratureError (channel : Fin 2) (s : State) : Host.Outcome State Fault Refusal :=
  let s1 := setOdo s channel.val (fun c => { c with aLevel := !c.aLevel, bLevel := !c.bLevel })
  if (odoMode s channel.val = 1 ∨ odoMode s channel.val = 2) ∧ odoApplied s then .next (bump s1 0x4C30 3) else .next s1

/-- What a window decides (R360): the new state and the driving channel. -/
structure CrossResult where
  state : Nat
  drive : Nat
  failed : Option Nat
  agree : Nat
deriving DecidableEq, Repr

/-- The comparison of a window, with the silent windows that include it. -/
def crossDecide (s : State) (d0 d1 : Nat) (silent0 silent1 : Nat) : CrossResult :=
  let m := max d0 d1
  let primary := s.val 0x4C00 1
  let within := decide (100 * (max d0 d1 - min d0 d1) ≤ s.val 0x4C00 5 * m)
  let rising := match s.pos.zeroSpeeds with
    | a :: b :: _ => decide (b ≤ a)
    | _ => true
  if s.pos.check = 3 then
    let n := if within ∧ s.val 0x4C00 6 ≤ m then s.pos.agree + 1 else 0
    if 3 ≤ n then { state := 0, drive := primary, failed := none, agree := 0 }
    else { state := 3, drive := s.pos.drive, failed := none, agree := n }
  else if m < s.val 0x4C00 6 then { state := 0, drive := primary, failed := none, agree := 0 }
  else if 3 ≤ silent0 then { state := 3, drive := 1, failed := some 0, agree := 0 }
  else if 3 ≤ silent1 then { state := 3, drive := 0, failed := some 1, agree := 0 }
  else if !within then
    (if rising then { state := 1, drive := if d0 < d1 then 0 else 1, failed := none, agree := 0 }
     else { state := 2, drive := if d0 < d1 then 1 else 0, failed := none, agree := 0 })
  else { state := 0, drive := primary, failed := none, agree := 0 }

/-- CROSS_CHECK_WINDOW_END (R359, R360): speeds of the window, and the comparison where the cross-check is on. -/
def execCrossCheckWindowEnd (s : State) : Host.Outcome State Fault Refusal :=
  if !(odoApplied s) then .next s
  else
    let win := max 1 (s.val 0x4C00 4)
    let d0 := (odo s 0).dist / 65536
    let d1 := (odo s 1).dist / 65536
    let m := max d0 d1
    let quiet := fun (k d : Nat) => if d = 0 ∧ s.val 0x4C00 6 ≤ m then (odo s k).silent + 1 else 0
    let s1 := setOdo (setOdo s 0 (fun c => { c with speed := c.dist * 1000 / (65536 * win), dist := 0, silent := quiet 0 d0 })) 1
      (fun c => { c with speed := c.dist * 1000 / (65536 * win), dist := 0, silent := quiet 1 d1 })
    if !(crossOn s) then .next { s1 with pos := { s1.pos with check := 0, drive := s.val 0x4C00 1 } }
    else
      let r := crossDecide s d0 d1 (quiet 0 d0) (quiet 1 d1)
      let speed := (odo s1 (driving s)).speed
      let s2 := { s1 with pos := { s1.pos with
        check := r.state, drive := r.drive, agree := r.agree,
        zeroSpeeds := if r.state = 0 then (speed :: s1.pos.zeroSpeeds).take 2 else s1.pos.zeroSpeeds } }
      let s3 := match r.failed with
        | some k => raise (bump s2 0x4C30 7) 0x4C01 3 0xFF (be 1 k)
        | none => if r.state = 1 then bump s2 0x4C30 5 else if r.state = 2 then bump s2 0x4C30 6 else s2
      .next (if r.state = s.pos.check then s3 else raise s3 0x4C02 2 0xFF (be 1 r.state ++ be 1 r.drive ++ be 4 d0 ++ be 4 d1))

/-- The extension of D32 to D64 (R361). -/
def extendD64 (s : State) : State :=
  { s with pos := { s.pos with
    d64 := (s.pos.d64 + signed 4 (s.pos.d32 - s.pos.lastD32).toNat) % (2 ^ 64 : Nat), lastD32 := s.pos.d32 } }

/-- The MP runs (R383, R528): not in a sleep state. -/
def mpRuns (s : State) : Bool := served s

/-- D64_EXTENSION (R361). -/
def execD64Extension (s : State) : Host.Outcome State Fault Refusal := if mpRuns s then .next (extendD64 s) else .next s

/-- D64 and Q go to the journal (R362, R373). -/
def journalDistance (s : State) : State :=
  let s1 := extendD64 s
  jAppend { s1 with pos := { s1.pos with saved := some (s1.pos.d64, s1.pow.charge) } } (.distance s1.pos.d64 s1.pow.charge) .nobody

/-- DISTANCE_CHARGE_JOURNAL (R362, R373): only what has changed is appended. -/
def execDistanceChargeJournal (s : State) : Host.Outcome State Fault Refusal :=
  let s1 := extendD64 s
  if mpRuns s ∧ s1.pos.saved ≠ some (s1.pos.d64, s1.pow.charge) then .next (journalDistance s) else .next s1

/-- Door-side levels (R368): bits 7 to 4 name the outputs, bits 3 to 0 their levels; only enabled outputs follow. -/
def setDoors (s : State) (v : Nat) : State :=
  if s.op.state = .normal then
    let mask := v / 16 % 16 &&& s.val 0x4C40 1
    let d := s.pos.doors.toNat
    { s with pos := { s.pos with doors := BitVec.ofNat 4 ((d &&& (15 - mask)) ||| (v &&& mask)) } }
  else s

/-- SET_DOOR_SIDE (R368): refused outside Normal. -/
def setDoorWrite (s : State) (v : Nat) : State × Nat := if s.op.state = .normal then (setDoors s v, 0) else (s, 0x0F)

def execSetDoorSide (ses : SessionNo) (value : BitVec 8) (s : State) : Host.Outcome State Fault Refusal :=
  .next (command s ses 0x4C40 3 (be 1 value.toNat) (fun t => setDoorWrite t value.toNat))

def posEvent (s : State) (n : Nat) : PosEvent := (s.pos.events[n]?).getD { target := 0, state := 0, firedAt := 0 }

def setPosEvent (s : State) (n : Nat) (f : PosEvent → PosEvent) : State :=
  { s with pos := { s.pos with events := vmod s.pos.events n f } }

/-- An armed target is due or past (R9, R364). -/
def posDue (s : State) (n : Nat) : Bool := (posEvent s n).state == 1 && dueT32 (posEvent s n).target s.pos.d32

/-- An event fires (R364 to R366). The apply of the set armed for it is the caller's. -/
def fireEvent (applySet : State → Nat → State) (s : State) (n : Nat) (stamp : T32) : State :=
  let idx := 0x4C60 + n
  let rep := s.val idx 5
  let s1 := setPosEvent (bumpW s 0x4C30 0x0B 0 1) n (fun e =>
    if rep = 0 then { e with state := 2, firedAt := stamp } else { e with target := e.target + BitVec.ofNat 32 rep, firedAt := stamp })
  let s2 := fixSwaps s1 n
  let par := s.val idx 4
  match s.val idx 3 with
  | 1 => if par / 256 < 8 then startClip s2 (par / 256) (par % 256) else s2
  | 2 => applySet s2 n
  | 3 => segWake s2 par
  | 4 => segSleep s2 par
  | 5 => setDoors s2 par
  | 6 => raise s2 0x4C62 1 0xFF (be 1 n ++ be 2 par ++ be 4 s2.pos.d32.toNat)
  | _ => s2

/-- A missed target (R367): fired late, or skipped. -/
def missEvent (applySet : State → Nat → State) (s : State) (n : Nat) (stamp : T32) : State :=
  let idx := 0x4C60 + n
  if s.val idx 6 = 0 then
    fireEvent applySet (raise (bump s 0x4C30 9) 0x4C61 2 0xFF (be 1 n ++ be 1 0)) n stamp
  else
    let rep := s.val idx 5
    let d := (s.pos.d32 - (posEvent s n).target).toNat
    let s1 := setPosEvent s n (fun e => if rep = 0 then { e with state := 2 } else { e with target := e.target + BitVec.ofNat 32 ((d / rep + 1) * rep) })
    raise (bump s1 0x4C30 0x0A) 0x4C61 2 0xFF (be 1 n ++ be 1 1)

/-- Every armed target is compared at a change of D32 in Normal (R364), with the stamp of the edge or of the step; the events
in `passed` were passed by a forward step (R363). -/
def compareTargets (applySet : State → Nat → State) (s : State) (stamp : T32) (passed : List Nat) : State :=
  if s.op.state = .normal then
    ((List.range 64).filter (posDue s)).foldl (fun t n =>
      if passed.contains n then missEvent applySet t n stamp else fireEvent applySet t n stamp) s
  else s

/-- Missed targets at the entry to Normal (R367). The change set that waited for one was cancelled with the change of state
(R67), so event 4C63h stands for its apply. -/
def missedAtEntry (s : State) : State :=
  if s.op.state ≠ .normal then s
  else ((List.range 64).filter (posDue s)).foldl (fun t n => missEvent (fun u k => raise u 0x4C63 2 0xFF (be 1 k)) t n s.now) s

/-- An event is armed by a write of its target or its enable (R364, R365). -/
def armEvent (s : State) (n : Nat) : State :=
  setPosEvent s n (fun e => { e with target := BitVec.ofNat 32 (s.val (0x4C60 + n) 2), state := if s.on (0x4C60 + n) 1 then 1 else 0 })

/-- The apply of position settings: events whose target or enable was written are armed anew, changed door outputs are
driven low (R368), and the cross-check starts again (R360). -/
def applyPosition (carried : Nat → Nat → Bool) (old : Tbl Bytes) (s : State) : State :=
  let s1 := (List.range 64).foldl (fun t n => if carried (0x4C60 + n) 1 || carried (0x4C60 + n) 2 then armEvent t n else t) s
  let gone := cfgNat old 0x4C40 1 ^^^ s.val 0x4C40 1
  let s2 := { s1 with pos := { s1.pos with doors := BitVec.ofNat 4 (s1.pos.doors.toNat &&& (15 - gone % 16)) } }
  if changedIn old s.cfg 0x4C00 [1, 3, 4, 5, 6] || changedIn old s.cfg 0x4C10 [1] || changedIn old s.cfg 0x4C11 [1] then
    let s3 := { s2 with pos := { s2.pos with
      check := 0, agree := 0, drive := s.val 0x4C00 1,
      channels := s2.pos.channels.map (fun c => { c with dist := 0, silent := 0 }) } }
    if s.pos.check = 0 then s3 else raise s3 0x4C02 2 0xFF (be 1 0 ++ be 1 (s.val 0x4C00 1) ++ zeros 8)
  else s2

/-- The entry of a state (R362, R368): D64 to the journal, door outputs low. -/
def positionEnter (s : State) : State :=
  let s1 := if s.op.state = .start then s else journalDistance s
  { s1 with pos := { s1.pos with doors := 0 } }

/-- What the objects of R377 and R378 show. -/
def livePosition (s : State) (idx sub : Nat) : Option Bytes :=
  if 0x4C60 ≤ idx ∧ idx ≤ 0x4C9F then
    match sub with
    | 7 => some (be 1 (posEvent s (idx - 0x4C60)).state)
    | 8 => some (be 4 (posEvent s (idx - 0x4C60)).firedAt.toNat)
    | _ => none
  else match idx, sub with
  | 0x4C00, 7 => some (be 4 s.pos.d32.toNat)
  | 0x4C00, 8 => some (be 4 (odo s (driving s)).speed)
  | 0x4C00, 9 => some (be 1 s.pos.direction)
  | 0x4C00, 0x0A => some (be 1 s.pos.check)
  | 0x4C00, 0x0B => some (be 1 (driving s))
  | 0x4C10, 4 => some (be 4 (odo s 0).speed)
  | 0x4C11, 4 => some (be 4 (odo s 1).speed)
  | 0x4C20, 1 => some (beInt 8 s.pos.d64)
  | 0x4C20, 3 => some (beInt 8 s.pos.lastStep)
  | 0x4C40, 2 => some (be 1 s.pos.doors.toNat)
  | _, _ => none

/-- The rules of validation for position events (R366). -/
def positionRules (t : Tbl Bytes) : Option (Nat × Nat) :=
  (List.range 64).findSome? (fun n =>
    let idx := 0x4C60 + n
    let act := cfgNat t idx 3
    let par := cfgNat t idx 4
    let rep := cfgNat t idx 5
    if 6 < act then some (okey idx 3, 1)
    else if (act = 3 ∨ act = 4) ∧ 37 < par then some (okey idx 4, 1)
    else if 0 < rep ∧ rep < 1000 then some (okey idx 5, 1)
    else if act = 5 ∧ (par / 16 % 16) &&& (15 - cfgNat t 0x4C40 1 % 16) ≠ 0 then some (okey idx 4, 4)
    else none)

end Sys2Proof.Machine
end

