-- ==== Sys2Proof/Machine/Power.lean ====
section
/-! DEFINITION. Measurement, battery and load shedding (R369 to R376), temperature and supply records (R587, R589, R590),
with the commands ADC_SEQUENCE_COMPLETE, HOUSEKEEPING_SEQUENCE, ENERGY_BUDGET_EVALUATION, LOW_VOLTAGE_TIMER,
CHARGE_RECALIBRATION and SET_CHARGE. -/

namespace Sys2Proof.Machine

/-- mA·ns in one mAh. -/
def mAhUnits : Int := 3600000000000

/-- Battery management is active (R372). -/
def batteryOn (s : State) : Bool := s.on 0x4D00 1

/-- The capacity, 0.1 Ah, in the unit of Q. -/
def capacity (s : State) : Int := (s.val 0x4D00 1 : Int) * 100 * mAhUnits

/-- The ADC code of the battery voltage input (R372). -/
def voltageCode (s : State) : Nat := if s.val 0x4D00 5 = 0 then 8 else s.val 0x4D00 5 - 1

/-- The codes of a sequence: 0 to 3 as configured, 4 housekeeping (R370, R371). -/
def sequenceCodes (s : State) (n : Nat) : List Nat :=
  if n < 4 then (List.range (s.val (0x4CA0 + n) 2)).map (fun k => byteAt (cfgBytes s.cfg (0x4CA0 + n) 1) k)
  else if voltageCode s = 8 then [6, 8, 9, 7] else [6, 8, 9, 7, voltageCode s]

/-- A raw code of 12 bits: codes 6 and 7 are signed (R369). -/
def rawCode (ch : Nat) (w : BitVec 16) : Int :=
  let v := w.toNat % 4096
  if ch = 6 ∨ ch = 7 then (if v < 2048 then (v : Int) else (v : Int) - 4096) else v

/-- Q clamped to 0 and the capacity (R372). -/
def clampCharge (s : State) (q : Int) : Int := if q < 0 then 0 else if capacity s < q then capacity s else q

/-- A shunt conversion counts charge (R372). -/
def countCharge (s : State) (code : Int) : State :=
  let r : Int := (max 1 (s.val 0x4D00 4) : Nat)
  let i := code * 50000
  let gap := match s.pow.lastShunt with | some t => s.time.mono - t | none => 0
  let dt := min gap 200000000
  let s1 := { s with pow := { s.pow with
    charge := clampCharge s (s.pow.charge - i * (dt : Int) / r), current := i.tdiv r, lastShunt := some s.time.mono } }
  if 200000000 < gap then
    raise (bump { s1 with pow := { s1.pow with confidence := 1 } } 0x4D60 5) 0x4D05 2 0xFF (be 4 ((gap - 200000000) / 1000000))
  else s1

/-- The junction temperature against its threshold (R587). -/
def judgeTj (s : State) : State :=
  if s.ival 0x2500 6 < s.pins.tj ∧ !s.pins.tjWarn then
    raise (bump { s with pins := { s.pins with tjWarn := true } } 0x2560 6) 0x2501 2 0xFF (beInt 2 s.pins.tj)
  else if s.pins.tj < s.ival 0x2500 6 - s.val 0x2500 7 ∧ s.pins.tjWarn then
    let s1 := { s with pins := { s.pins with tjWarn := false } }
    emcyCleared s (raise s1 0x2502 1 0xFF (beInt 2 s.pins.tj))
  else s

/-- The battery voltage in mV from a code of its input. -/
def noteVoltage (s : State) (ch : Nat) (mv : Nat) : State :=
  if batteryOn s ∧ ch = voltageCode s then
    { s with pow := { s.pow with voltage := some (min 65535 (if ch = 8 then mv else mv * s.val 0x4D00 6 / 100)) } }
  else s

/-- One converted channel (R369, R372, R587, R589, R590). -/
def convert (s : State) (ch : Nat) (v : Int) : State :=
  let n := v.toNat
  if ch < 6 then
    let mv := n * 2500 / 4096
    noteVoltage (putStore s 0x4CB0 (ch + 1) 0 (be 2 mv)) ch mv
  else if ch = 6 then
    let s1 := putStore s 0x4CB0 7 0 (beInt 4 (v * 50))
    if batteryOn s then countCharge s1 v else s1
  else if ch = 7 then
    let s1 := putStore s 0x4CB0 8 0 (beInt 2 v)
    judgeTj { s1 with pins := { s1.pins with tj := v, tjMax := if s.pins.tjMax < v then v else s.pins.tjMax } }
  else if ch = 8 then
    let mv := min 65535 (n * 20)
    let s1 := putStore s 0x4CB0 9 0 (be 2 mv)
    let s2 := { s1 with pins := { s1.pins with vin := mv, vinMin := min s.pins.vinMin mv, vinMax := max s.pins.vinMax mv } }
    let s3 := if n * 20 < 9000 then bump s2 0x2560 3 else if 60000 < n * 20 then bump s2 0x2560 4 else s2
    noteVoltage s3 8 mv
  else if ch = 9 then
    let mv := n * 2
    let s1 := putStore s 0x4CB0 0x0A 0 (be 2 mv)
    let s2 := { s1 with pins := { s1.pins with v5in := mv, v5Min := min s.pins.v5Min mv, v5Max := max s.pins.v5Max mv } }
    if mv < 4750 ∨ 5250 < mv then bump s2 0x2560 5 else s2
  else s

/-- A sequence starts converting, or waits for the ones before it; false where it is still under way (R370). -/
def startSequence (s : State) (n : Nat) : State × Bool :=
  if s.pow.sequences.any (fun e => e.1 == n) then (s, false)
  else ({ s with pow := { s.pow with sequences := s.pow.sequences ++ [(n, s.now)] } }, true)

/-- ADC_SEQUENCE_COMPLETE (R370): the converting sequence ends with these raw codes, and the next one starts. -/
def execAdcSequenceComplete (codes : List (BitVec 16)) (s : State) : Host.Outcome State Fault Refusal :=
  match s.pow.sequences with
  | [] => .next s
  | (n, at_) :: rest =>
    let pairs := ((sequenceCodes s n).zip codes).map (fun e => (e.1, rawCode e.1 e.2))
    let s1 := { s with pow := { s.pow with sequences := rest.map (fun e => (e.1, if rest.head? = some e then s.now else e.2)) } }
    let s2 := if n < 4 then
      putStore (putStore s1 (0x4CA0 + n) 3 0 (padTo 16 (pairs.flatMap (fun e => beInt 2 e.2)))) (0x4CA0 + n) 4 0 (be 4 at_.toNat)
      else s1
    .next (pairs.foldl (fun t e => convert t e.1 e.2) s2)

/-- HOUSEKEEPING_SEQUENCE (R371): awake and not in Normal; in Start from 100 ms after reset release. -/
def execHousekeepingSequence (s : State) : Host.Outcome State Fault Refusal :=
  match s.op.state with
  | .normal | .lightSleep | .deepSleep => .next s
  | .start => if s.op.startedAt + 100000000 ≤ s.time.mono then .next (startSequence s 4).1 else .next s
  | _ => .next (startSequence s 4).1

/-- The usable energy in mA·ns·mV (R374); one Wh is 3.6·10¹⁸ of them. -/
def energyUnits (s : State) : Int :=
  let floor := capacity s * (100 - s.val 0x4D00 2 : Nat) / 100
  let q := s.pow.charge - floor
  (if q < 0 then 0 else q) * (s.val 0x4D00 3 : Int)

def whUnits : Int := 3600000000000000000

/-- E and Rsv as their objects show them, in whole Wh. -/
def energyWh (s : State) : Nat := min 65535 (energyUnits s / whUnits).toNat
def reserveWh (s : State) : Nat := min 65535 (s.val 0x4D20 1 * s.val 0x4D20 2 / 60)

/-- E is below, or above, the reserve plus so many Wh. -/
def energyBelow (s : State) (wh : Nat) : Bool :=
  decide (energyUnits s * 60 < ((s.val 0x4D20 1 * s.val 0x4D20 2 + 60 * wh : Nat) : Int) * whUnits)
def energyAbove (s : State) (wh : Nat) : Bool :=
  decide (((s.val 0x4D20 1 * s.val 0x4D20 2 + 60 * wh : Nat) : Int) * whUnits < energyUnits s * 60)

def stageOn (s : State) (k : Nat) : Bool := bitOf s.pow.stages (k - 1)
def stageEnabled (s : State) (k : Nat) : Bool := bitOf (s.val 0x4D20 0x0B) (k - 1)

/-- The highest stage engaged (4D20h.0C). -/
def topStage (s : State) : Nat := (List.range 6).foldl (fun n k => if 0 < k ∧ stageOn s k then k else n) 0

/-- LSO0 to LSO3 as the stages ask, in Normal (R375). -/
def budgetOutputs (s : State) : State :=
  let bit := fun (k : Nat) (v : Nat) => if stageOn s k then v else 0
  let v := if batteryOn s then bit 5 1 + bit 4 2 + bit 2 4 + bit 1 8 else 0
  { s with pins := { s.pins with lso := BitVec.ofNat 4 v } }

/-- Ports that stage 3 asks to sleep (R375, R376): never AUDIO, nor a port of the emergency path. -/
def shedPorts (s : State) : List Nat :=
  (List.range 38).filter (fun p => bitOf (s.val 0x4D20 0x0D) p && !(bitOf (s.val 0x4D20 0x0E) p))

/-- A change of stage is counted, told, and its outputs follow (R374). -/
def stageChanged (s : State) : State :=
  budgetOutputs (raise (bump s 0x4D60 3) 0x4D01 2 0xFF (be 1 (topStage s) ++ be 2 (energyWh s)))

/-- A stage engages (R374, R375). -/
def engage (s : State) (k : Nat) (byVoltage : Bool) : State :=
  let s1 := { s with pow := { s.pow with
    stages := s.pow.stages ||| 2 ^ (k - 1),
    voltageStages := if byVoltage then s.pow.voltageStages ||| 2 ^ (k - 1) else s.pow.voltageStages } }
  let s2 := if byVoltage then raise (bump s1 0x4D60 4) 0x4D02 2 0xFF (be 1 k ++ be 2 (s.pow.voltage.getD 0)) else s1
  let s3 := if k = 3 then (shedPorts s2).foldl segSleep s2 else s2
  stageChanged s3

/-- May a stage release (R374)? -/
def releasable (s : State) (k : Nat) : Bool :=
  energyAbove s (s.val 0x4D20 (3 + k) + s.val 0x4D20 9) &&
    (List.range 6).all (fun j => !(decide (k < j)) || !(stageOn s j)) &&
    (!(bitOf s.pow.voltageStages (k - 1)) || (match s.pow.voltage with | some v => decide (s.val 0x4D20 0x0A + 1000 < v) | none => false))

/-- A stage releases, or one that is no longer enabled. -/
def release (s : State) (k : Nat) : State :=
  let keep := 31 - 2 ^ (k - 1)
  stageChanged { s with pow := { s.pow with stages := s.pow.stages &&& keep, voltageStages := s.pow.voltageStages &&& keep } }

/-- The energy budget (R374, R375): stages engage from the lowest, release from the highest, and the reserve is judged. -/
def evaluateBudget (s : State) : State :=
  let s1 := [1, 2, 3, 4, 5].foldl (fun t k =>
    if stageEnabled t k && !(stageOn t k) && energyBelow t (t.val 0x4D20 (3 + k)) then engage t k false else t) s
  let s2 := [5, 4, 3, 2, 1].foldl (fun t k => if stageOn t k && releasable t k then release t k else t) s1
  if !(energyAbove s2 0) then
    let s3 := [1, 2, 3, 4, 5].foldl (fun t k => if stageEnabled t k && !(stageOn t k) then engage t k false else t) s2
    if s3.pow.reserve then s3
    else raise { s3 with pow := { s3.pow with reserve := true } } 0x4D03 3 0xFF (be 2 (energyWh s3))
  else { s2 with pow := { s2.pow with reserve := false } }

/-- ENERGY_BUDGET_EVALUATION (R374): every 100 ms in Normal. -/
def execEnergyBudgetEvaluation (s : State) : Host.Outcome State Fault Refusal :=
  if s.op.state = .normal ∧ batteryOn s ∧ gpWorks s then .next (emcyCleared s (evaluateBudget s)) else .next s

/-- The battery voltage is below the shed voltage (R374). -/
def voltageLow (s : State) : Bool := match s.pow.voltage with | some v => decide (v < s.val 0x4D20 0x0A) | none => false

/-- LOW_VOLTAGE_TIMER (R374): 2 s below the shed voltage; the lowest enabled stage that is not engaged engages. -/
def execLowVoltageTimer (s : State) : Host.Outcome State Fault Refusal :=
  if s.op.state = .normal ∧ batteryOn s ∧ voltageLow s ∧ gpWorks s then
    match [1, 2, 3, 4, 5].find? (fun k => stageEnabled s k && !(stageOn s k)) with
    | some k => .next (engage s k true)
    | none => .next s
  else .next s

/-- Q in mAh. -/
def chargeMah (s : State) : Int := s.pow.charge / mAhUnits

/-- CHARGE_RECALIBRATION (R373): 300 s at or above the full voltage at no more than the tail current. -/
def execChargeRecalibration (s : State) : Host.Outcome State Fault Refusal :=
  let full : Bool := match s.pow.voltage with
    | some v => decide (s.val 0x4D00 7 ≤ v) && decide (-s.pow.current ≤ (s.val 0x4D00 8 : Int))
    | none => false
  if batteryOn s ∧ full ∧ mpRuns s then
    let s1 := { s with pow := { s.pow with charge := capacity s, confidence := 2 } }
    .next (raise (bump s1 0x4D60 6) 0x4D04 1 0xFF (beInt 4 (chargeMah s1)))
  else .next s

/-- A write of 4D00h.0B (R373). -/
def setChargeWrite (s : State) (v : Bytes) : State × Nat :=
  ({ s with pow := { s.pow with charge := signed 4 (beNat v) * mAhUnits, confidence := 2 } }, 0)

/-- SET_CHARGE (R373). -/
def execSetCharge (ses : SessionNo) (value : Bytes) (s : State) : Host.Outcome State Fault Refusal :=
  .next (command s ses 0x4D00 0x0B value (fun t => setChargeWrite t value))

/-- The charge that a sleep used (R373): the sleep load for the slept milliseconds. -/
def sleepCharge (s : State) (ms : Nat) : State :=
  if batteryOn s then
    { s with pow := { s.pow with
      charge := clampCharge s (s.pow.charge - ((s.val 0x4D00 9 * ms * 1000000 : Nat) : Int)), lastShunt := none } }
  else s

/-- A stage that is no longer enabled is passed over (R375). -/
def dropDisabled (s : State) : State :=
  [5, 4, 3, 2, 1].foldl (fun t k => if stageOn t k && !(stageEnabled t k) then release t k else t) s

/-- Sequences at the entry of a state (R370, R371): those that a time trigger has started and that still wait start no conversion outside
Normal, and none stays in a sleep state. -/
def sequencesEnter (s : State) : State :=
  let keep := match s.op.state with
    | .normal => s.pow.sequences
    | .lightSleep | .deepSleep => []
    | _ => s.pow.sequences.take 1 ++ (s.pow.sequences.drop 1).filter (fun e => decide (4 ≤ e.1))
  { s with pow := { s.pow with sequences := keep } }

/-- The entry of a state (R23, R371, R372): the levels of LSO0 to LSO3, and the conversions that wait. -/
def powerEnter (s : State) : State :=
  let s1 := sequencesEnter s
  match s.op.state with
  | .start | .recovery => { s1 with pins := { s1.pins with lso := 0 } }
  | .normal => budgetOutputs (dropDisabled s1)
  | _ => s1

/-- The apply of battery settings: without battery management no stage stays, and the outputs are low (R372); a new
threshold is judged (R587). -/
def applyPower (b : State) : State :=
  let s := judgeTj b
  if batteryOn s then (if s.op.state = .normal then emcyCleared s (budgetOutputs (dropDisabled s)) else s)
  else
    let s1 := { s with
      pow := { s.pow with stages := 0, voltageStages := 0, reserve := false, voltage := none, lastShunt := none, current := 0 },
      pins := { s.pins with lso := 0 } }
    emcyCleared s s1

/-- Active ports of a kind, for the power model of R575. -/
def activePorts (s : State) (lo hi : Nat) : Nat := ((List.range' lo (hi - lo)).filter (fun p => linkIsUp s p)).length

/-- An edge lane is active: one of its ports has a link. -/
def activeLanes (s : State) : Nat := ((List.range 6).filter (fun k => (List.range' (6 + 4 * k) 4).any (linkIsUp s))).length

/-- The power estimate in mW from VIN (R575); the rate of forwarded bits is a free value (DESIGN CHOICE, log entry 50). -/
def powerEstimate (s : State) : Nat :=
  let bits := (Config.freeOf 50 [(s.time.mono : Int)]).toNat
  let p := 1900 + 420 * activePorts s 0 6 + 380 * activeLanes s + 30 * activePorts s 30 38 + (if s.host.link = 1 then 150 else 0) +
    18 * bits / 1000000000
  min 65535 (p * 100 / 92)

/-- The domains that are off (R576). -/
def domainsOff (s : State) : Nat :=
  let bb := (List.range 6).foldl (fun n p => if laneMode s p = 0 ∨ !(s.on (0x3000 + p) 1) then n + 2 ^ p else n) 0
  let el := (List.range 6).foldl (fun n k => if laneMode s (6 + 4 * k) = 0 then n + 2 ^ (6 + k) else n) 0
  let ts := (List.range 8).foldl (fun n k => if s.on (0x3000 + 30 + k) 1 then n else n + 2 ^ (12 + k)) 0
  let pcie := if s.host.link = 0 ∨ s.host.d3hot then 2 ^ 20 else 0
  let used := (List.range 64).any (fun i => s.on (0x4A40 + i) 1 || s.on (0x4A80 + i) 1) || (List.range 32).any (fun i => s.on (0x4AC0 + i) 1)
  bb + el + ts + pcie + (if used then 0 else 2 ^ 21)

/-- What the objects of R379, R380, R589 show. -/
def livePower (s : State) (idx sub : Nat) : Option Bytes :=
  match idx, sub with
  | 0x4D00, 0x0A => some (beInt 4 (chargeMah s))
  | 0x4D00, 0x0C => some (beInt 4 s.pow.current)
  | 0x4D00, 0x0D => some (be 2 (s.pow.voltage.getD 0))
  | 0x4D00, 0x0E => some (be 2 (energyWh s))
  | 0x4D00, 0x0F => some (be 1 s.pow.confidence)
  | 0x4D20, 3 => some (be 2 (reserveWh s))
  | 0x4D20, 0x0C => some (be 1 (topStage s))
  | 0x2500, 1 => some (be 2 s.pins.vin)
  | 0x2500, 2 => some (be 2 s.pins.v5in)
  | 0x2500, 3 => some (be 2 s.pins.vinMin)
  | 0x2500, 4 => some (be 2 s.pins.vinMax)
  | 0x2500, 5 => some (beInt 2 s.pins.tj)
  | 0x2500, 8 => some (be 2 (powerEstimate s))
  | 0x2500, 9 => some (be 4 (domainsOff s))
  | 0x2500, 0x0A => some (be 4 s.pins.porCount.toNat)
  | _, _ => none

/-- An enabled time trigger of target 1 starts a sequence with these codes at a period of no more than so many ns. -/
def sequenceRuns (t : Tbl Bytes) (codes : List Nat) (period : Nat) : Bool :=
  (List.range 16).any (fun k =>
    let n := cfgNat t (0x4060 + k) 3
    let chans := (cfgBytes t (0x4CA0 + n) 1).take (cfgNat t (0x4CA0 + n) 2)
    cfgNat t (0x4060 + k) 1 == 1 && cfgNat t (0x4060 + k) 2 == 1 && decide (n < 4) && decide (cfgNat t (0x4060 + k) 7 ≤ period) &&
      codes.all (fun c => chans.any (fun b => b.toNat == c)))

/-- The rules of validation (R370, R374, R376, R380, R588). -/
def powerRules (t : Tbl Bytes) : Option (Nat × Nat) :=
  let badSeq := (List.range 4).find? (fun n => ((cfgBytes t (0x4CA0 + n) 1).take (cfgNat t (0x4CA0 + n) 2)).any (fun b => decide (9 < b.toNat)))
  let v := if cfgNat t 0x4D00 5 = 0 then 8 else cfgNat t 0x4D00 5 - 1
  match badSeq with
  | some n => some (okey (0x4CA0 + n) 1, 1)
  | none =>
    if !([4, 5, 6, 7].all (fun k => decide (cfgNat t 0x4D20 (k + 1) < cfgNat t 0x4D20 k))) then some (okey 0x4D20 4, 4)
    else if (cfgNat t 0x4D20 0x0D) &&& (cfgNat t 0x4D20 0x0E) ≠ 0 then some (okey 0x4D20 0x0D, 4)
    else if cfgNat t 0x4D00 1 ≠ 0 ∧ !(sequenceRuns t [6, v] 100000000) then some (okey 0x4D00 1, 4)
    else if !(sequenceRuns t [7, 8, 9] 1000000000) then some (okey 0x4060 1, 4)
    else none

end Sys2Proof.Machine
end

