-- ==== Sys2Proof/Machine/Clock.lean ====
section
/-! DEFINITION. The Time Unit, anchors, PTP, TPO pins and capture inputs (R234 to R265), with the commands EPOCH_ANCHOR_WRITE,
PREVIOUS_ANCHOR_CLEAR, PTP_MESSAGE_RECEIVED, PTP_MESSAGE_INTERVAL, SYNC_RECEIPT_TIMEOUT, SOURCE_INSTANCE_CHANGE,
PRIMARY_REVERT, HOLDOVER_LIMIT_EXPIRY, CONVERTER_PULSE_END, TPO_PROGRAM_PULSE, TPO_PULSE_END, TPO_LOW_PERIOD_END,
TPI_EDGE_CAPTURE and CAPTURE_READ. -/

namespace Sys2Proof.Machine

/-- One tick of the counter (R234): the integer part of ACC + INC is added to T32, and to TX with it (R236). In DeepSleep
only the monotonic count goes on. -/
def clockTick (s : State) : State :=
  match s.op.state with
  | .deepSleep => { s with time := { s.time with mono := s.time.mono + 4 } }
  | _ =>
    let sum := s.time.acc.toNat + s.time.inc.toNat
    let n := sum / 2 ^ 32
    { s with time := { s.time with
      t32 := s.time.t32 + BitVec.ofNat 32 n, acc := BitVec.ofNat 32 sum, tx := s.time.tx + n, mono := s.time.mono + n } }

/-- The nominal increment (R234) and the bounds of R235. -/
def nominalInc : BitVec 40 := 0x0400000000
def clampInc (v : Nat) : BitVec 40 := BitVec.ofNat 40 (if v < 0x03FF7CED91 then 0x03FF7CED91 else if 0x040083126F < v then 0x040083126F else v)

/-- A new anchor (R239). -/
def writeAnchor (s : State) : State :=
  let a : Anchor := { tx := s.time.tx, t32 := s.time.t32, seq := s.time.anchorSeq, timescale := s.time.timescale, sync := s.time.sync,
                      stepInstant := s.time.stepInstant, lastStep := s.time.lastStep }
  { s with time := { s.time with anchor := some a, anchorSeq := s.time.anchorSeq + 1 } }

/-- The 32 bytes of an anchor; zeros where there is none (R239). -/
def anchorBytes (a : Option Anchor) : Bytes :=
  match a with
  | none => zeros 32
  | some x => txBytes x.tx ++ be 4 x.t32.toNat ++ be 2 x.seq.toNat ++ be 1 x.timescale.toNat ++ be 1 x.sync.toNat ++
      be 4 x.stepInstant.toNat ++ beInt 8 x.lastStep ++ zeros 2

/-- The MP's time service runs: from phase 2 of a start, not in a sleep state, and not in an activation pause (R239, R383,
R534). -/
def timeServes (s : State) : Bool :=
  match s.op.state with
  | .start => decide (2 < s.op.phase)
  | .lightSleep | .deepSleep => false
  | _ => !(inPause s)

/-- EPOCH_ANCHOR_WRITE (R239). -/
def execEpochAnchorWrite (s : State) : Host.Outcome State Fault Refusal := if timeServes s then .next (writeAnchor s) else .next s

/-- PREVIOUS_ANCHOR_CLEAR (R239): 4.2 s after a step. -/
def execPreviousAnchorClear (s : State) : Host.Outcome State Fault Refusal :=
  .next { s with time := { s.time with prevAnchor := none } }

/-- The timescale changes, with a new anchor (R237, R239). -/
def setTimescale (s : State) (code : BitVec 8) : State :=
  if s.time.timescale = code then s else writeAnchor { s with time := { s.time with timescale := code } }

def ptpInst (s : State) (i : Nat) : PtpInst := (s.time.inst[i]?).getD PtpInst.reset

def setInst (s : State) (i : Nat) (f : PtpInst → PtpInst) : State := { s with time := { s.time with inst := vmod s.time.inst i f } }

/-- A port belongs to an instance (R246). -/
def ptpMember (s : State) (i p : Nat) : Bool := decide (i < 4) && s.on (0x4030 + i) 1 && decide (p < 38) && bitOf (s.val (0x4030 + i) 4) p

/-- External port configuration (R247). -/
def fixedRoles (s : State) (i : Nat) : Bool := s.val (0x4030 + i) 5 == 1

def fixedRole (s : State) (i p : Nat) : Nat := byteAt (cfgBytes s.cfg (0x4030 + i) 6) p

/-- The order of two clocks (R247): the data sets of IEEE 1588 field by field, the smaller first. -/
def rankKey (r : ClockRank) : List Nat :=
  [r.priority1.toNat, r.clockClass.toNat, r.accuracy.toNat, r.variance.toNat, r.priority2.toNat, r.identity.toNat, r.steps.toNat]

def lexLess (a b : List Nat) : Bool :=
  match a, b with
  | x :: r, y :: t => decide (x < y) || (decide (x = y) && lexLess r t)
  | _, _ => false

/-- The device's own clock in an instance; accuracy and variance are those IEEE 1588 gives a clock that does not state them
(PRESUMED, log entry 51). -/
def ownRank (s : State) (i : Nat) : ClockRank :=
  { priority1 := BitVec.ofNat 8 (s.val (0x4030 + i) 7), clockClass := BitVec.ofNat 8 (s.val (0x4030 + i) 9), accuracy := 0xFE, variance := 0xFFFF,
    priority2 := BitVec.ofNat 8 (s.val (0x4030 + i) 8), identity := Config.unitId, steps := 0 }

/-- The clock heard on a port, while the port belongs to the instance and its link is up. -/
def heardOn (s : State) (i p : Nat) : Option ClockRank :=
  if ptpMember s i p && linkIsUp s p then ((ptpInst s i).heard.find? (fun e => e.1.val == p)).map (fun e => e.2) else none

/-- The best clock heard that is better than the device's own, with its port (R247); the standard gives a clock of class 1 to 127 no slave
port in the profiles of IEEE 1588 (PRESUMED, log entry 190). -/
def bestClock (s : State) (i : Nat) : Option (Nat × ClockRank) :=
  let own := ownRank s i
  if s.val (0x4030 + i) 2 ≠ 0 ∧ 1 ≤ own.clockClass.toNat ∧ own.clockClass.toNat ≤ 127 then none
  else (List.range 38).foldl (fun (b : Option (Nat × ClockRank)) p =>
    match heardOn s i p with
    | none => b
    | some r => if lexLess (rankKey r) (rankKey (match b with | some x => x.2 | none => own)) then some (p, r) else b) none

/-- The port in the slave state (R247): fixed, or the one the best clock announces itself on. -/
def slavePort (s : State) (i : Nat) : Option Nat :=
  if !(s.on (0x4030 + i) 1) then none
  else if fixedRoles s i then (List.range 38).find? (fun p => ptpMember s i p && fixedRole s i p == 2 && linkIsUp s p)
  else (bestClock s i).map (fun b => b.1)

/-- What the device announces of the clock it follows, or of itself. -/
def announced (s : State) (i : Nat) : ClockRank :=
  match bestClock s i with
  | some b => { b.2 with steps := b.2.steps + 1 }
  | none => ownRank s i

/-- A port in the passive state (R247): fixed, or one that hears a better clock than the device would announce there (PRESUMED, log entry
190). -/
def passivePort (s : State) (i p : Nat) : Bool :=
  if fixedRoles s i then fixedRole s i p == 3
  else slavePort s i != some p && (match heardOn s i p with | some r => lexLess (rankKey r) (rankKey (announced s i)) | none => false)

/-- A port in the master state. -/
def masterPort (s : State) (i p : Nat) : Bool :=
  ptpMember s i p && linkIsUp s p && (if fixedRoles s i then fixedRole s i p == 1 else slavePort s i != some p && !(passivePort s i p))

/-- The sources in the order of R242: the primary, then the fallbacks. -/
def sourceOrder (s : State) : List Nat :=
  let f := s.val 0x4010 2
  (s.val 0x4010 1 :: [f / 4096 % 16, f / 256 % 16, f / 16 % 16]).filter (fun i => decide (i < 4))

/-- The source that R242 selects now. -/
def bestSource (s : State) : Option Nat := (sourceOrder s).find? (fun i => (slavePort s i).isSome)

/-- The sync state changes with event 4001h (R242, R267). -/
def setSync (s : State) (st : BitVec 8) (offset : Int) : State :=
  if s.time.sync = st then s
  else
    let src := match s.time.source with | some i => i.val | none => 0xFF
    raise { s with time := { s.time with sync := st, goodRun := 0, badRun := 0, holdoverSince := if st = 3 then some s.time.mono else none } }
      0x4001 1 0xFF (be 1 st.toNat ++ be 1 src ++ beInt 8 offset)

/-- The source instance is selected (R245); the first selection of a start is no change. -/
def selectSource (s : State) (i : Nat) : State :=
  let old := s.time.source
  if h : i < 4 then
    if old = some ⟨i, h⟩ then s
    else
      let s1 := { s with time := { s.time with source := some ⟨i, h⟩, goodRun := 0, badRun := 0 } }
      match old with
      | none => s1
      | some o => raise (bump s1 0x4100 5) 0x4002 2 0xFF (be 1 o.val ++ be 1 i)
  else s

/-- The first source of a start is taken as soon as an instance has a slave port (R242). -/
def firstSource (s : State) : State :=
  match s.time.source, bestSource s with
  | none, some i => selectSource s i
  | _, _ => s

/-- The state of an instance that shows in 4030h.11 (R261). -/
def instState (s : State) (i : Nat) : BitVec 8 :=
  if !(s.on (0x4030 + i) 1) then 0
  else match slavePort s i with
    | some _ => 2
    | none => if fixedRoles s i then 4 else if (ptpInst s i).state = 3 then 3 else 1

/-- No instance has a slave port any more (R245, R258): there is no source, which 4002h tells as 0xFF (DESIGN CHOICE, log entry 186). -/
def loseSource (s : State) : State :=
  match s.time.source with
  | none => s
  | some o => raise (bump { s with time := { s.time with source := none, goodRun := 0, badRun := 0 } } 0x4100 5) 0x4002 2 0xFF (be 1 o.val ++ be 1 0xFF)

/-- The primary instance has selected the device itself as grandmaster (R242); not while a fallback is the source (DEDUCED, log entry
187). -/
def noteGrandmaster (s : State) (i : Nat) : State :=
  if instState s i = 3 ∧ s.val 0x4010 1 = i ∧ bestSource s = none ∧ s.time.sync ≠ 4 then
    setSync { loseSource s with time := { (loseSource s).time with inc := nominalInc } } 4 0
  else s

/-- What an instance hears on a port changes, and the best master clock algorithm judges it (R247). -/
def judgeClocks (s : State) (i : Nat) (p : Fin 38) (r : Option ClockRank) : State :=
  let s1 := setInst s i (fun x => { x with
    heard := x.heard.filter (fun e => e.1 != p) ++ (match r with | some c => [(p, c)] | none => []) })
  noteGrandmaster (firstSource (setInst s1 i (fun x => { x with state := if (bestClock s1 i).isSome then 2 else 3 }))) i

/-- The bytes of a PTP timestamp, from TX in ps. -/
def ptpStamp (ps : Int) : Bytes := txBytes (ps / 1000).toNat

/-- The length of a PTP message by its type, and of the headers of UDP over IPv4 (PRESUMED from IEEE 1588, log entry 188). -/
def ptpLength (s : State) (i typ : Nat) : Nat :=
  (if typ = 0x0B then 64 else if typ = 2 ∨ typ = 3 ∨ typ = 9 ∨ typ = 0x0A then 54 else 44) + (if s.val (0x4030 + i) 2 = 2 then 28 else 0)

/-- A message of an instance leaves on a port by the transport of its profile (R246): type (IEEE 1588), domain, sequence number and the
timestamp it carries. -/
def sendPtp (s : State) (i p typ : Nat) (stamp : Bytes) : State :=
  ownFrame s p (if s.val (0x4030 + i) 2 = 2 then 6 else 3) false (ptpLength s i typ)
    (be 1 typ ++ be 1 (s.val (0x4030 + i) 3) ++ be 2 (ptpInst s i).sequence.toNat ++ stamp)

/-- TX in ns at a stamp that a frame carries. -/
def stampTx (s : State) (t : T32) : Int := (s.time.tx : Int) + signed 4 (t - s.now).toNat

/-- The delay that the instance holds, from what a message says in ps; never negative. -/
def setDelay (s : State) (i : Nat) (twice : Int) : State := setInst s i (fun x => { x with delay := max 0 (twice / 2) })

/-- When the last delay request left a port. -/
def askedOn (s : State) (i : Nat) (p : Fin 38) : Option Int := ((ptpInst s i).asked.find? (fun e => e.1 == p)).map (fun e => e.2)

/-- PTP_MESSAGE_RECEIVED (R246, R247). -/
def execPtpMessageReceived (inst : Fin 4) (port : Fin 38) (msg : PtpMessage) (s : State) : Host.Outcome State Fault Refusal :=
  let i := inst.val
  let p := port.val
  if !(ptpMember s i p) ∨ !(timeServes s) then .next s
  else match msg with
    | .announce r => if fixedRoles s i ∨ r.identity = Config.unitId then .next s else .next (judgeClocks s i port (some r))
    | .announceTimeout => if fixedRoles s i then .next s else .next (judgeClocks s i port none)
    | .pdelayReq t =>
      if s.val (0x4030 + i) 2 = 0 then
        .next (sendPtp (sendPtp s i p 3 (ptpStamp (stampTx s t * 1000))) i p 0x0A (ptpStamp (egressStamp s p 0)))
      else .next s
    | .delayReq t =>
      if s.val (0x4030 + i) 2 ≠ 0 ∧ masterPort s i p then .next (sendPtp s i p 9 (ptpStamp (stampTx s t * 1000))) else .next s
    | .pdelayResp t held =>
      if s.val (0x4030 + i) 2 = 0 ∧ slavePort s i = some p then
        match askedOn s i port with
        | some t1 => .next (setDelay s i (stampTx s t * 1000 - t1 - held))
        | none => .next s
      else .next s
    | .delayResp received =>
      if s.val (0x4030 + i) 2 ≠ 0 ∧ slavePort s i = some p then
        match askedOn s i port, (ptpInst s i).syncDiff with
        | some t3, some d => .next (setDelay s i (d + (received - t3)))
        | _, _ => .next s
      else .next s
    | .management => .next s

/-- PTP_MESSAGE_INTERVAL (R246 to R248, R261): a two-step Sync with its Follow_Up, an Announce, or a delay request, which leaves at a phase
of this tick. -/
def execPtpMessageInterval (inst : Fin 4) (port : Fin 38) (due : PtpDue) (s : State) :
    Host.Outcome State Fault Refusal :=
  let i := inst.val
  let p := port.val
  if !(ptpMember s i p) ∨ !(linkIsUp s p) ∨ !(timeServes s) then .next s
  else
    let next := fun (t : State) => setInst t i (fun x => { x with sequence := x.sequence + 1 })
    let stamp := egressStamp s p due.phase.val
    let ask := fun (t : State) => setInst t i (fun x => { x with asked := x.asked.filter (fun e => e.1 != port) ++ [(port, stamp)] })
    match due.kind with
    | .sync => if masterPort s i p then .next (next (sendPtp (sendPtp s i p 0 []) i p 8 (ptpStamp stamp))) else .next s
    | .announce => if masterPort s i p then .next (next (sendPtp s i p 0x0B [])) else .next s
    | .delay =>
      if s.val (0x4030 + i) 2 = 0 then .next (next (ask (sendPtp s i p 2 [])))
      else if slavePort s i = some p then .next (next (ask (sendPtp s i p 1 [])))
      else .next s

/-- Holdover or free-run after the loss of the source (R242). -/
def loseSync (s : State) : State :=
  if s.time.sync = 2 ∨ (s.time.sync = 1 ∧ s.time.lockedOnce) then
    setSync { s with time := { s.time with inc := s.time.lastLockedInc } } 3 s.time.offset
  else if s.time.sync = 1 then setSync { s with time := { s.time with inc := nominalInc } } 0 s.time.offset
  else s

/-- SYNC_RECEIPT_TIMEOUT (R242): no Sync of the source, be it lost altogether, for its receipt timeout. In Acquiring another source comes
first. -/
def execSyncReceiptTimeout (s : State) : Host.Outcome State Fault Refusal :=
  if !(timeServes s) ∨ (s.time.source = none ∧ s.time.sync ≠ 1 ∧ s.time.sync ≠ 2) then .next s
  else
    let s1 := bump s 0x4100 4
    let other : Bool := match bestSource s1 with | some k => decide (s.time.source.map (fun i => i.val) ≠ some k) | none => false
    if s1.time.sync = 1 ∧ other then .next s1 else .next (loseSync s1)

/-- SOURCE_INSTANCE_CHANGE (R245): the source has lost its last slave port; the next of R242 is selected. -/
def execSourceInstanceChange (s : State) : Host.Outcome State Fault Refusal :=
  match s.time.source with
  | none => .next (firstSource s)
  | some i =>
    if (slavePort s i.val).isSome ∨ !(timeServes s) then .next s
    else match bestSource s with
      | some k => .next (selectSource s k)
      | none => .next (loseSource s)

/-- PRIMARY_REVERT (R245): the primary has held a slave port for 4010h.08 seconds. -/
def execPrimaryRevert (s : State) : Host.Outcome State Fault Refusal :=
  let p := s.val 0x4010 1
  if s.val 0x4010 8 ≠ 0 ∧ (slavePort s p).isSome ∧ timeServes s ∧ s.time.source.isSome then .next (selectSource s p) else .next s

/-- HOLDOVER_LIMIT_EXPIRY (R242, R245). -/
def execHoldoverLimitExpiry (s : State) : Host.Outcome State Fault Refusal :=
  match s.time.holdoverSince with
  | some t =>
    if s.time.sync = 3 then
      let secs := (s.time.mono - t) / 1000000000
      .next (raise (setSync { s with time := { s.time with inc := nominalInc } } 0 s.time.offset) 0x4004 3 0xFF (be 4 secs))
    else .next s
  | none => .next s

/-- The first grid point of a trigger at the apply instant (R250, R166, R167). -/
def triggerGrid (s : State) (k : Nat) : T32 :=
  let idx := 0x4060 + k
  let period := s.val idx 7
  if s.on idx 4 then
    let b := cfgBytes s.cfg idx 6
    let tx0 := beAt b 0 6 * 1000000000 + beAt b 6 4
    let now := s.time.tx
    let g := if now < tx0 ∧ tx0 ≤ now + 2147483648 then tx0
      else if period = 0 then now else now + (tx0 % period + period - now % period) % period
    s.now + BitVec.ofNat 32 (g - now)
  else gridPoint (BitVec.ofNat 32 (s.val idx 5)) s.now period

/-- A trigger's grid starts, or ends where it is disabled (R250). -/
def startTrigger (s : State) (k : Nat) : State :=
  let g : Option TriggerGrid := if s.on (0x4060 + k) 1 then some { next := triggerGrid s k, passed := 0 } else none
  { s with time := { s.time with triggers := s.time.triggers.setIfInBounds k g } }

def tpo (s : State) (pin : Nat) : TpoPin := (s.time.tpo[pin]?).getD { level := false, next := none, given := 0, ended := false, passed := 0 }

def setTpo (s : State) (pin : Nat) (f : TpoPin → TpoPin) : State := { s with time := { s.time with tpo := vmod s.time.tpo pin f } }

/-- A level of a TPO pin; a change leaves the device. -/
def setTpoLevel (s : State) (pin : Nat) (b : Bool) : State :=
  if (tpo s pin).level = b then s else emit (setTpo s pin (fun x => { x with level := b })) (.pin pin b)

/-- The newest value of an object among the sealed records of the journal. -/
def journalValue (s : State) (key : Nat) : Option Bytes :=
  s.jour.recs.foldl (fun (found : Option Bytes) r => match r.body with | .value k v => if r.sealed && k == key then some v else found | _ => found) none

/-- A value of a pulse program: in Start and Recovery that of the last committed configuration (R255). -/
def tpoVal (s : State) (pin sub : Nat) : Nat :=
  match s.op.state with
  | .start | .recovery =>
    match journalValue s (okey (0x4080 + pin) sub) with
    | some v => beNat v
    | none => beNat (defaultOf (0x4080 + pin) sub)
  | _ => s.val (0x4080 + pin) sub

/-- A pin's program runs in the present state (R255). -/
def programRuns (s : State) (pin : Nat) : Bool :=
  tpoVal s pin 2 != 0 && decide (tpoVal s pin 2 ≤ 2) && bitOf (tpoVal s pin 8) s.op.state.code && s.op.state != .normal

/-- The first pulse of a program (R255): on the grid of R166 or under R9 for an absolute one; counted from the entry to the
state for a relative one, whose first pulse may have passed. -/
def firstPulse (s : State) (pin : Nat) : T32 :=
  let first := tpoVal s pin 4
  let period := tpoVal s pin 5
  if tpoVal s pin 3 = 0 then
    (if tpoVal s pin 2 = 2 then gridPoint (BitVec.ofNat 32 first) s.now period else BitVec.ofNat 32 first)
  else
    let at_ := s.time.entered + first
    if s.time.mono ≤ at_ then s.now + BitVec.ofNat 32 (at_ - s.time.mono)
    else if tpoVal s pin 2 = 2 ∧ 0 < period then
      s.now + BitVec.ofNat 32 ((period - (s.time.mono - at_) % period) % period)
    else s.now

/-- A program starts (R255); `fresh` after a write of it. An absolute program that has run to its end starts again only then. -/
def startProgram (s : State) (pin : Nat) (fresh : Bool) : State :=
  let absolute := decide (tpoVal s pin 3 = 0)
  let x := tpo s pin
  if programRuns s pin then
    if !fresh && absolute && x.ended then setTpo s pin (fun y => { y with next := none })
    else setTpo s pin (fun y => { y with
      next := some (firstPulse s pin), given := if absolute && !fresh then y.given else 0, ended := false, passed := 0 })
  else setTpo s pin (fun y => { y with next := none, ended := y.ended && !fresh })

/-- The programs that the MP has read from the journal start (R255). -/
def startPrograms (s : State) : State := (List.range 4).foldl (fun t pin => startProgram t pin false) s

/-- TPO_PROGRAM_PULSE (R255, R256): the pulse that is due is given, or falls within a low period. -/
def execTpoProgramPulse (pin : Fin 4) (s : State) : Host.Outcome State Fault Refusal :=
  let p := pin.val
  match (tpo s p).next with
  | none => .next s
  | some g =>
    if !(dueT32 g s.now) ∨ !(programRuns s p) then .next s
    else
      let once := decide (tpoVal s p 2 = 1)
      let after : Option T32 := if once then none else some (g + BitVec.ofNat 32 (tpoVal s p 5))
      if s.time.lowPeriod then
        .next (bump (setTpo s p (fun x => { x with next := after, ended := once, passed := x.passed + 1 })) 0x4100 0x0A)
      else
        let last := once || (decide (tpoVal s p 7 ≠ 0) && decide (tpoVal s p 7 ≤ (tpo s p).given + 1))
        .next (setTpoLevel (setTpo s p (fun x => { x with
          next := if last then none else after, given := x.given + 1, ended := last, passed := x.passed + 1 })) p true)

/-- TPO_PULSE_END (R255). -/
def execTpoPulseEnd (pin : Fin 4) (s : State) : Host.Outcome State Fault Refusal :=
  if s.op.state = .normal then .next s else .next (setTpoLevel s pin.val false)

/-- CONVERTER_PULSE_END (R253). -/
def execConverterPulseEnd (pin : Fin 4) (s : State) : Host.Outcome State Fault Refusal :=
  if s.op.state = .normal then .next (setTpoLevel s pin.val false) else .next s

/-- TPO_LOW_PERIOD_END (R256). -/
def execTpoLowPeriodEnd (s : State) : Host.Outcome State Fault Refusal :=
  .next { s with time := { s.time with lowPeriod := false } }

/-- The checks of a write to a pulse program (R255, R263). -/
def tpoWriteOk (s : State) (pin sub : Nat) (v : Bytes) : Bool :=
  let get := fun k => if k = sub then beNat v else s.val (0x4080 + pin) k
  let relative := decide (sub = 3 ∨ sub = 4) && decide (get 3 = 1) && decide (get 4 < 1000000)
  let width := decide (sub = 5 ∨ sub = 6) && decide (get 5 < get 6 + 1000)
  !relative && !width

/-- The entry of a state (R250, R255, R256): every pin is cut low for 1 ms, programs start anew, and the grids of the triggers
are computed at the first entry to Normal or Commissioning. -/
def clockEnter (s : State) (fromStart : Bool) : State :=
  let s1 := (List.range 4).foldl (fun t pin => setTpoLevel t pin false) s
  let s2 := { s1 with time := { s1.time with lowPeriod := true, entered := s1.time.mono } }
  let s3 := match s.op.state with
    | .start => { s2 with time := { s2.time with tpo := s2.time.tpo.map (fun x => { x with next := none }) } }
    | _ => startPrograms s2
  match s.op.state with
  | .normal | .commissioning => if fromStart then (List.range 16).foldl startTrigger s3 else s3
  | .deepSleep => { s3 with time := { s3.time with triggers := Vector.replicate 16 none } }
  | _ => s3

/-- The apply of time settings: changed triggers take their new grid, changed instances start again (R247, R250). -/
def applyTime (old : Tbl Bytes) (s : State) : State :=
  let s1 := (List.range 16).foldl (fun t k => if changedIn old s.cfg (0x4060 + k) [1, 2, 3, 4, 5, 6, 7] then startTrigger t k else t) s
  let s2 := (List.range 4).foldl (fun t i =>
    if changedIn old s.cfg (0x4030 + i) [1, 2, 3, 4, 5, 6] then setInst t i (fun _ => PtpInst.reset) else t) s1
  firstSource s2

/-- The time block at reset release (R236, R237): only the monotonic count goes on. -/
def clockRestart (s : State) : State :=
  let s1 := (List.range 4).foldl (fun t pin => setTpoLevel t pin false) s
  { s1 with time := { TimeBlock.reset with mono := s1.time.mono, entered := s1.time.mono, lowPeriod := true } }

/-- The time block at a start from DeepSleep (R236, R238): T32 and TX restored, timescale 3, Acquiring. The pins and the entry to Start
stay as they are. -/
def clockRestore (s : State) (tx : Nat) : State :=
  { s with time := { TimeBlock.reset with
      mono := s.time.mono, entered := s.time.entered, lowPeriod := s.time.lowPeriod, tpo := s.time.tpo, tpi := s.time.tpi,
      tx := tx, t32 := BitVec.ofNat 32 tx, timescale := 3, sync := 1 } }

/-- n more on an S32 counter (R10). -/
def bumpMany (s : State) (idx sub n : Nat) : State :=
  let k := ckey idx sub 0
  if n = 0 ∨ s32Max ≤ tnat s.cnt k then s
  else bump { s with cnt := tput s.cnt k (min (s32Max - 1) (tnat s.cnt k + n - 1)) } idx sub

/-- A grid after a step to `now` (R244): its next point, how many lie behind it, and how many a forward step has passed. A backward step
takes back the points between the new T32 and the old one, but none before the grid's first; a larger step than R171 allows starts the grid
at the step instant (DEDUCED, log entry 191). -/
def stepGrid (next now : T32) (passed : Nat) (delta : Int) (period : Nat) : TriggerGrid × Nat :=
  let before := now - BitVec.ofInt 32 delta
  let ahead : Int := signed 4 (next - before).toNat - delta
  if period = 0 then ({ next := next, passed := passed }, 0)
  else if 2147483648 ≤ delta.natAbs then ({ next := now, passed := 0 }, 0)
  else if ahead < 0 then
    let n := ((-ahead).toNat + period - 1) / period
    ({ next := now + BitVec.ofInt 32 (ahead + (n * period : Nat)), passed := passed + n }, n)
  else
    let back := min passed (ahead.toNat / period)
    let left := ahead.toNat - back * period
    if 2147483648 < left then ({ next := gridPoint (now + BitVec.ofNat 32 left) now period, passed := 0 }, 0)
    else ({ next := now + BitVec.ofNat 32 left, passed := passed - back }, 0)

/-- The trigger grids and the periodic programs after a step (R244). -/
def stepTriggers (s : State) (delta : Int) : State :=
  let s1 := (List.range 16).foldl (fun t k =>
    match (t.time.triggers[k]?).getD none with
    | some g =>
      let r := stepGrid g.next t.now g.passed delta (t.val (0x4060 + k) 7)
      bumpMany { t with time := { t.time with triggers := t.time.triggers.setIfInBounds k (some r.1) } } 0x4100 6 r.2
    | none => t) s
  (List.range 4).foldl (fun t pin =>
    match (tpo t pin).next with
    | some g =>
      if tpoVal t pin 2 = 2 then
        let r := stepGrid g t.now (tpo t pin).passed delta (tpoVal t pin 5)
        bumpMany (setTpo t pin (fun x => { x with next := some r.1.next, passed := r.1.passed })) 0x4100 6 r.2
      else t
    | none => t) s1

/-- What the instances hold in TX moves with a step. -/
def stepInstances (s : State) (delta : Int) : State :=
  (List.range 4).foldl (fun t i => setInst t i (fun x => { x with
    asked := x.asked.map (fun e => (e.1, e.2 + delta * 1000)), syncDiff := x.syncDiff.map (fun d => d + delta * 1000) })) s

/-- A step of T32 (R244), but for the armed change set: TX becomes the time of the source, the anchor moves, lists and grids
follow, event 4003h tells it. -/
def stepTime (s : State) (target : Nat) : State :=
  let delta : Int := (target : Int) - s.time.tx
  let now := s.time.t32 + BitVec.ofInt 32 delta
  let s1 := { s with time := { s.time with
    t32 := now, tx := target, prevAnchor := s.time.anchor, stepInstant := now, lastStep := delta } }
  let s2 := bump (writeAnchor s1) 0x4100 3
  let s3 := raise s2 0x4003 2 0xFF (beInt 8 delta ++ be 4 now.toNat ++ be 4 s2.zone.logNext.toNat)
  stepGrids (stepLists (stepTriggers (stepInstances s3 delta) delta) delta) delta

/-- TPI_EDGE_CAPTURE (R257): the stamp is moved back by the filter time. -/
def execTpiEdgeCapture (input : Fin 2) (rising : Bool) (s : State) : Host.Outcome State Fault Refusal :=
  let n := input.val
  let idx := 0x40A0 + n
  let wanted := bitOf (s.val idx 2) (if rising then 0 else 1)
  if !(s.on idx 1) ∨ !wanted ∨ s.op.state = .deepSleep then .next s
  else
    let x := (s.time.tpi[n]?).getD { fifo := [], count := 0 }
    if 16 ≤ x.fifo.length then .next (raiseLimited (bump s 0x4100 8) n 1000000000 0x40A1 2 0xFF (be 1 n))
    else
      let stamp := s.now - BitVec.ofNat 32 (s.val idx 3)
      let c := x.count + 1
      let s1 := { s with time := { s.time with tpi := s.time.tpi.setIfInBounds n { fifo := x.fifo ++ [(stamp, rising, c)], count := c } } }
      .next (if s.on idx 4 then raise s1 0x40A2 0 0xFF (be 1 n ++ be 1 (if rising then 1 else 2) ++ be 4 stamp.toNat) else s1)

/-- The oldest capture leaves its FIFO (R257, R264). -/
def takeCapture (s : State) (n : Nat) : State × Bytes :=
  let x := (s.time.tpi[n]?).getD { fifo := [], count := 0 }
  match x.fifo with
  | [] => (s, zeros 8)
  | c :: rest =>
    ({ s with time := { s.time with tpi := s.time.tpi.setIfInBounds n { x with fifo := rest } } },
      be 4 c.1.toNat ++ be 1 (if c.2.1 then 1 else 2) ++ be 1 rest.length ++ be 2 c.2.2.toNat)

/-- CAPTURE_READ (R257). -/
def execCaptureRead (ses : SessionNo) (input : Fin 2) (s : State) : Host.Outcome State Fault Refusal :=
  .next (readCommand s ses (0x40A0 + input.val) 5 (fun t => takeCapture t input.val))

/-- The frequency adjustment in ppb (R258). -/
def ppb (s : State) : Int := ((s.time.inc.toNat : Int) - 0x0400000000) * 1000000000 / 0x0400000000

/-- What the objects of R258 to R265 show. -/
def liveTime (s : State) (idx sub : Nat) : Option Bytes :=
  if 0x4030 ≤ idx ∧ idx ≤ 0x4033 then
    let x := ptpInst s (idx - 0x4030)
    match sub with
    | 0x0E => some (be 8 (if instState s (idx - 0x4030) = 3 ∨ (bestClock s (idx - 0x4030)).isSome then (announced s (idx - 0x4030)).identity.toNat else 0))
    | 0x0F => some (beInt 8 x.offset)
    | 0x10 => some (be 4 (min 0xFFFFFFFF (x.delay / 1000).toNat))
    | 0x11 => some (be 1 (instState s (idx - 0x4030)).toNat)
    | _ => none
  else if 0x4060 ≤ idx ∧ idx ≤ 0x406F ∧ sub = 8 then some (be 4 (match (s.time.triggers[idx - 0x4060]?).getD none with | some g => g.next.toNat | none => 0))
  else if 0x4080 ≤ idx ∧ idx ≤ 0x4083 ∧ sub = 9 then some (be 1 (boolNat (tpo s (idx - 0x4080)).level))
  else if 0x40A0 ≤ idx ∧ idx ≤ 0x40A1 ∧ sub = 6 then some (be 1 (match s.time.tpi[idx - 0x40A0]? with | some x => x.fifo.length | none => 0))
  else if 0x40C0 ≤ idx ∧ idx ≤ 0x40E5 then
    match sub with
    | 1 => some (beInt 4 (internalLatency s (idx - 0x40C0) false))
    | 2 => some (beInt 4 (internalLatency s (idx - 0x40C0) true))
    | 6 => if 0x40DE ≤ idx then some (be 1 1) else none
    | _ => none
  else match idx, sub with
  | 0x4000, 1 => some (be 4 s.time.t32.toNat)
  | 0x4000, 2 => some (txBytes s.time.tx)
  | 0x4000, 3 => some (be 1 s.time.sync.toNat)
  | 0x4000, 4 => some (be 1 s.time.timescale.toNat)
  | 0x4000, 5 => some (be 1 (match s.time.source with | some i => i.val | none => 0xFF))
  | 0x4000, 6 => some (beInt 8 s.time.offset)
  | 0x4000, 7 => some (be 8 s.time.inc.toNat)
  | 0x4000, 8 => some (beInt 4 (ppb s))
  | 0x4000, 9 => some (beInt 8 s.time.lastStep)
  | 0x4000, 0x0A => some (be 4 s.time.stepInstant.toNat)
  | 0x4020, 1 => some (anchorBytes s.time.anchor)
  | 0x4020, 2 => some (anchorBytes s.time.prevAnchor)
  | _, _ => none

/-- The rules of validation for the servo, the instances and the triggers (R252, R259, R261); cycle times of the Guard
Processor's tasks are ruled where they are assigned. -/
def timeRules (t : Tbl Bytes) : Option (Nat × Nat) :=
  let f := cfgNat t 0x4010 2
  let nib := [f / 4096 % 16, f / 256 % 16, f / 16 % 16]
  if f % 16 ≠ 15 ∨ nib.any (fun n => decide (3 < n) && n != 15) then some (okey 0x4010 2, 1)
  else match (List.range 4).findSome? (fun i =>
      let roles := cfgBytes t (0x4030 + i) 6
      if 2 ^ 38 ≤ cfgNat t (0x4030 + i) 4 then some (okey (0x4030 + i) 4, 1)
      else if roles.any (fun b => decide (3 < b.toNat)) then some (okey (0x4030 + i) 6, 1)
      else if 1 < (roles.filter (fun b => b == 2)).length then some (okey (0x4030 + i) 6, 4)
      else if (List.range i).any (fun j => cfgNat t (0x4030 + j) 3 == cfgNat t (0x4030 + i) 3) then some (okey (0x4030 + i) 3, 4)
      else none) with
    | some r => some r
    | none => (List.range 16).findSome? (fun k =>
      let idx := 0x4060 + k
      let target := cfgNat t idx 2
      let n := cfgNat t idx 3
      let period := cfgNat t idx 7
      if 5 < target then some (okey idx 2, 1)
      else if (if target = 4 then decide (0 < n) else decide (3 < n)) then some (okey idx 3, 1)
      else if cfgNat t idx 1 = 0 then none
      else if target = 5 ∧ (List.range k).any (fun j => cfgNat t (0x4060 + j) 1 == 1 && cfgNat t (0x4060 + j) 2 == 5 && cfgNat t (0x4060 + j) 3 == n) then
        some (okey idx 3, 4)
      else if target = 5 ∧ period ≤ 2 * cfgNat t (0x4080 + n) 1 then some (okey (0x4080 + n) 1, 4)
      else if target = 4 ∧ period % 125000 ≠ 0 then some (okey idx 7, 4)
      else if target = 1 ∧ period < (2 + cfgNat t (0x4CA0 + n) 2) * 1000 then some (okey idx 7, 4)
      else none)

end Sys2Proof.Machine
end

