-- ==== Sys2Proof/Machine/Doublet.lean ====
section
/-! DEFINITION. The windows, cycles and debug view of the Guard Processor (R410 to R424, R429 to R431, R439, R440), with the
commands GP_PASS1_CLOSE, GP_INTERRUPT, GP_CYCLE, DEBUG_HALT, DEBUG_SINGLE_STEP, DEBUG_RESUME, DEBUG_READ and DEBUG_WRITE, and
TRIGGER_OCCURRENCE (R250 to R254). -/

namespace Sys2Proof.Machine

/-- The tasks that wait: those started, task 4 while first packets or verdicts are there, task 5 while a validation is
pending. -/
def taskWaits (s : State) (t : Nat) : Bool :=
  s.gp.waiting.contains t || (t == 4 && (!s.zone.queue.isEmpty || !s.zone.verdicts.isEmpty)) || (t == 5 && s.cs.validating.isSome)

/-- The task that takes the next window (R429, R430). -/
def nextTask (s : State) : Option Nat :=
  let early5 := if 3 ≤ s.gp.sinceFive then [5] else []
  let early6 := if s.gp.testDoneAt + 1000000000 ≤ s.time.mono then [6] else []
  ([0, 1, 2, 3] ++ early5 ++ early6 ++ [4, 5, 6]).find? (taskWaits s)

/-- A window opens for the task that comes next (R411, R413); interrupts that came in pass 2 are taken at its start (R420). -/
def gpOpen (s : State) : State :=
  if s.gp.pass = 0 ∧ gpWorks s then
    match nextTask s with
    | none => s
    | some t =>
      let fresh := decide (s.gp.task ≠ some t) || s.gp.ended
      { s with gp := { s.gp with
        task := some t, pass := 1, window := s.gp.window + 1, opened := s.time.mono, ended := false, retired := 0,
        replay := s.gp.later.take 128, later := s.gp.later.drop 128, hold := [], again := [], sig1 := 0,
        sinceFive := if t = 5 then 0 else s.gp.sinceFive + 1, part := if fresh then 0 else s.gp.part + 1,
        taskSince := if fresh then s.time.mono else s.gp.taskSince,
        starts := if fresh then s.gp.starts.setIfInBounds t s.now else s.gp.starts } }
  else s

/-- GP_PASS1_CLOSE (R411, R418 to R424): pass 1 has done this work, with these hardware upsets, and closes; pass 2 starts. -/
def execGpPass1Close (cause : CloseCause) (count : GpCount) (work : GpPassOne) (s : State) :
    Host.Outcome State Fault Refusal :=
  let s0 := gpOpen s
  if s0.gp.pass = 1 ∧ gpWorks s0 then
    let s1 := match cause with
      | .taskEnd => s0
      | .length => bumpW s0 0x2940 4 0 1
      | .replayFull => bumpW s0 0x2940 5 0 1
      | .holdFull => bumpW s0 0x2940 6 0 1
    let s2 := passOne { s1 with gp := { s1.gp with retired := count.retired, nextPc := count.nextPc, ended := cause == .taskEnd } } work.acts work.upsets
    .next { s2 with gp := { s2.gp with
      pass := 2, opened := s2.time.mono, longestPass := max s2.gp.longestPass (s2.time.mono - s2.gp.opened) } }
  else .next s0

/-- An input that comes from outside the window's work (R419, R420): in pass 1 it is recorded with its point, else it waits for the next
pass 1, which takes it at its start. The point, a count of retired instructions, is a free value (DESIGN CHOICE, log entry 52). -/
def recordInput (s : State) (kind : Nat) (value : BitVec 32) (target : Option DebugTarget) : State :=
  if s.gp.pass = 1 ∧ s.gp.replay.length < 128 then
    let d := drawNat s 52
    let e : ReplayEntry := { kind := kind, point := d.2 % 2 ^ 20, value := value, target := target }
    let at_ := d.1.gp.replay
    { d.1 with gp := { d.1.gp with
      replay := at_.takeWhile (fun x => decide (x.point ≤ e.point)) ++ [e] ++ at_.dropWhile (fun x => decide (x.point ≤ e.point)) } }
  else { s with gp := { s.gp with later := s.gp.later ++ [{ kind := kind, point := 0, value := value, target := target }] } }

/-- GP_INTERRUPT (R419, R420): taken in pass 1 with its point, or kept for the next pass 1. -/
def execGpInterrupt (vector : BitVec 32) (s : State) : Host.Outcome State Fault Refusal :=
  let s0 := gpOpen s
  if s0.gp.running then .next (recordInput s0 0 vector none) else .next s0

/-- The task that a GP cycle starts (R431). -/
def cycleTask (c : Nat) : Nat := match c with | 0 => 3 | 1 => 1 | 2 => 2 | _ => 6

/-- A GP cycle starts its task; false where the task still runs or waits (R254). -/
def startGpCycle (s : State) (c : Nat) : State × Bool :=
  let t := cycleTask c
  if s.gp.waiting.contains t then (s, false)
  else (gpOpen { s with gp := { s.gp with waiting := s.gp.waiting ++ [t] } }, true)

/-- A cycle that an enabled time trigger drives (R431). -/
def cycleTriggered (s : State) (c : Nat) : Bool :=
  (List.range 16).any (fun k => s.on (0x4060 + k) 1 && s.val (0x4060 + k) 2 == 3 && s.val (0x4060 + k) 3 == c)

/-- GP_CYCLE (R431): the GP's own timer, for a cycle that no trigger drives. -/
def execGpCycle (cycle : Fin 4) (s : State) : Host.Outcome State Fault Refusal :=
  if gpWorks s ∧ !(cycleTriggered s cycle.val) then .next (startGpCycle s cycle.val).1 else .next s

/-- An occurrence is skipped (R254). -/
def triggerSkip (s : State) : State := bump s 0x4100 6

/-- An occurrence finds its cycle still running (R254). -/
def triggerOverrun (s : State) (k target number : Nat) : State :=
  raiseLimited (bump s 0x4100 7) k 1000000000 0x4061 2 0xFF (be 1 k ++ be 1 target ++ be 1 number)

/-- The effect of an occurrence at `g` in Normal (R251, R254); an engine's cycle may still run from the last one. -/
def triggerEffect (s : State) (k : Nat) (g : T32) (running : Bool) : State :=
  let target := s.val (0x4060 + k) 2
  let n := s.val (0x4060 + k) 3
  let started := fun (r : State × Bool) => if r.2 then emit r.1 (.trigger target) else triggerOverrun r.1 k target n
  if s.time.lowPeriod then triggerSkip s
  else match target with
    | 1 => started (startSequence s n)
    | 2 => if inPause s then triggerSkip s else if running then triggerOverrun s k target n else emit (engineCycle s n) (.trigger 2)
    | 3 => if inPause s then triggerSkip s else if gpWorks s then started (startGpCycle s n) else triggerOverrun s k target n
    | 4 => if inPause s then triggerSkip s else emit { s with aud := { s.aud with grid := some g } } (.trigger 4)
    | 5 => setTpoLevel s n true
    | _ => s

/-- TRIGGER_OCCURRENCE (R250, R254): the occurrence that is due; its grid advances in every state. How long an engine's cycle takes the
manual does not say, so the command tells whether the last one still runs. -/
def execTriggerOccurrence (hit : TriggerHit) (s : State) : Host.Outcome State Fault Refusal :=
  let k := hit.trigger.val
  match (s.time.triggers[k]?).getD none with
  | none => .next s
  | some g =>
    if dueT32 g.next s.now then
      let s1 := { s with time := { s.time with
        triggers := s.time.triggers.setIfInBounds k (some { next := g.next + BitVec.ofNat 32 (s.val (0x4060 + k) 7), passed := g.passed + 1 }) } }
      if s.op.state = .normal then .next (triggerEffect s1 k g.next hit.running) else .next s1
    else .next s

/-- Debug is open (R541, R601). -/
def debugOpen (s : State) : Bool := !s.upd.lockFuse || s.tap.isOpen

/-- The GP may be debugged (R439). -/
def gpDebug (s : State) : Bool :=
  debugOpen s && s.gp.running && (match s.op.state with | .commissioning | .test => true | _ => false)

/-- 2900h.01 (R443). -/
def doubletState (s : State) : Nat :=
  if s.gp.running then (if s.gp.halted then 4 else 2)
  else if s.op.state = .safe then 3
  else if (s.op.state = .start ∧ s.op.phase = 4) ∨ (s.upd.activating = 2 ∧ s.upd.phase = 3) then 1
  else 0

/-- DEBUG_HALT (R440): by request, or at a breakpoint. The window stays open. -/
def execDebugHalt (breakpoint : Bool) (s : State) : Host.Outcome State Fault Refusal :=
  let s0 := gpOpen s
  if gpDebug s0 ∧ !s0.gp.halted ∧ s0.gp.pass ≠ 2 ∧ (!breakpoint ∨ !s0.gp.breakpoints.isEmpty) then
    .next (raise { s0 with gp := { s0.gp with halted := true, haltedAt := s0.time.mono } } 0x2904 1 0xFF (be 1 4))
  else .next s0

/-- DEBUG_SINGLE_STEP (R440): pass 1 retires one instruction and stands again. -/
def execDebugSingleStep (s : State) : Host.Outcome State Fault Refusal :=
  if gpDebug s ∧ s.gp.halted ∧ s.gp.pass = 1 then .next { s with gp := { s.gp with retired := s.gp.retired + 1 } } else .next s

/-- DEBUG_RESUME (R440): the pass timeout goes on from where it stopped. -/
def execDebugResume (s : State) : Host.Outcome State Fault Refusal :=
  if gpDebug s ∧ s.gp.halted then
    .next (gpOpen (serveMailbox (raise { s with gp := { s.gp with halted := false, opened := s.gp.opened + (s.time.mono - s.gp.haltedAt) } } 0x2904 1 0xFF (be 1 2))))
  else .next s

/-- What the debugger sees of the GP: registers and region 1 of pass 1 (R440). A register that no debugger has set holds what the
firmware put there, a free value (DESIGN CHOICE, log entry 53). -/
def debugValue (s : State) (t : DebugTarget) : Option (BitVec 32) :=
  let free := fun (kind n : Nat) => BitVec.ofInt 32 (Config.freeOf 53 [kind, n, s.gp.window.toNat])
  match t with
  | .register n => some (match tget s.gp.regs n.val with | some v => BitVec.ofNat 32 v | none => free 0 n.val)
  | .memory r w => if r.val = 0 then some (regionOne s w.val) else none
  | .breakpoint n => some (BitVec.ofNat 32 (tnat s.gp.breakpoints n.val))

/-- DEBUG_READ (R440): without effect on either pass; region 2 does not appear. -/
def execDebugRead (target : DebugTarget) (s : State) : Host.Outcome State Fault Refusal :=
  if gpDebug s then
    match debugValue s target with
    | some v => .next (emit s (.debug v))
    | none => .next s
  else .next s

/-- DEBUG_WRITE (R440): a register or a word of region 1 is set in pass 1 and enters the replay queue as kind 6; a full queue
refuses it. A breakpoint is no action of a pass. -/
def execDebugWrite (target : DebugTarget) (value : BitVec 32) (s : State) : Host.Outcome State Fault Refusal :=
  if !(gpDebug s) then .next s
  else
    let e : ReplayEntry := { kind := 6, point := 0, value := value, target := some target }
    let seen : Bool := match target with | .memory r _ => decide (r.val = 0) | _ => true
    match target with
    | .breakpoint n => .next { s with gp := { s.gp with breakpoints := tput s.gp.breakpoints n.val value.toNat } }
    | _ => if !seen ∨ (s.gp.pass = 1 ∧ 128 ≤ s.gp.replay.length) then .next s else .next (recordInput (debugApply s false e) 6 value (some target))

/-- What the objects of R443 to R445 show. The load is a free value (DESIGN CHOICE, log entry 54). -/
def liveGuard (s : State) (idx sub : Nat) : Option Bytes :=
  if 0x2920 ≤ idx ∧ idx ≤ 0x2926 then
    let n := idx - 0x2920
    match sub with
    | 1 => some (be 1 (n + 1))
    | 2 => some (be 4 ((s.gp.starts[n]?).getD 0).toNat)
    | 3 => some (be 4 ((s.gp.longestRun[n]?).getD 0 / 1000))
    | 4 => some (be 1 (boolNat (taskWaits s n)))
    | _ => none
  else match idx, sub with
  | 0x2900, 1 => some (be 1 (doubletState s))
  | 0x2900, 2 => some (be 1 (if s.gp.pass = 0 then 0xFF else s.gp.task.getD 0xFF))
  | 0x2900, 3 => some (be 1 ((Config.freeOf 54 [(s.time.mono : Int)]).toNat % 101))
  | 0x2900, 4 => some (be 2 (min 65535 s.gp.longestPass))
  | 0x2900, 6 => some (be 4 s.gp.lastProbe.toNat)
  | 0x2900, 7 => some (be 1 s.gp.probeBit)
  | 0x2900, 8 => some (be 4 s.gp.lastTest.toNat)
  | 0x2910, 1 => some (be 1 s.gp.fault.cause.toNat)
  | 0x2910, 2 => some (txBytes s.gp.fault.tx)
  | 0x2910, 3 => some (be 4 s.gp.fault.stamp.toNat)
  | 0x2910, 4 => some (be 1 s.gp.fault.task.toNat)
  | 0x2910, 5 => some (be 4 s.gp.fault.window.toNat)
  | 0x2910, 6 => some (be 8 s.gp.fault.sig1.toNat)
  | 0x2910, 7 => some (be 8 s.gp.fault.sig2.toNat)
  | 0x2910, 8 => some (be 4 s.gp.fault.retired.toNat)
  | 0x2910, 9 => some (be 1 s.gp.fault.entry.toNat)
  | _, _ => none

/-- The rules of validation for triggers of target 3 (R431); cycle 1 is ruled by the Pair (R458). -/
def guardRules (t : Tbl Bytes) : Option (Nat × Nat) :=
  (List.range 16).findSome? (fun k =>
    let idx := 0x4060 + k
    let period := cfgNat t idx 7
    if cfgNat t idx 1 = 0 ∨ cfgNat t idx 2 ≠ 3 then none
    else match cfgNat t idx 3 with
      | 0 => if period = 100000000 then none else some (okey idx 7, 4)
      | 2 => if period = 10000000 then none else some (okey idx 7, 4)
      | 3 => if 10000000 ≤ period ∧ period ≤ 1000000000 then none else some (okey idx 7, 4)
      | _ => none)

end Sys2Proof.Machine
end

