-- ==== Sys2Proof/Machine/Pair.lean ====
section
/-! DEFINITION. The Gateway Pair (R448 to R474): frames, roles, the state capsule, digests, takeover and handover, with the
commands DISCOVERY_TIMEOUT, PRESENCE_FRAME_RECEIVED, PAIR_CYCLE_START, PAIR_CYCLE_END, DIGEST_FRAME_RECEIVED, CYCLE_JUDGEMENT,
CAPSULE_SEGMENT_RECEIVED, CAPSULE_ACCEPT_TIMEOUT, NO_CAPSULE_ACCEPTED, RESIGN_FRAME_RECEIVED, HEALTH_FRAME_SEND,
HEALTH_FRAME_RECEIVED, PEER_LOST_TIMEOUT, RETURN_HOLD_OFF_EXPIRY, SWAP, CLAIM_REQUEST_RECEIVED, CLAIM_FRAME_RECEIVED,
HANDOVER_CAPSULE_TIMEOUT. -/

namespace Sys2Proof.Machine

/-- The plane of a backbone port: 1 A, 2 B, 0 none (R448). -/
def planeOf (s : State) (p : Nat) : Nat := if p < 6 then s.val 0x2A01 (p + 1) else 0

/-- The up ports of a plane; of both for 0 (R449). -/
def planePorts (s : State) (plane : Nat) : List Nat :=
  (List.range 6).filter (fun p => (if plane = 0 then planeOf s p == 1 || planeOf s p == 2 else planeOf s p == plane) && linkIsUp s p)

/-- The 24-byte header of a Pair frame (R449). -/
def pairHeader (s : State) (typ len : Nat) : Bytes :=
  be 1 typ ++ be 1 1 ++ be 2 len ++ be 8 Config.unitId.toNat ++ be 4 s.pair.epoch.toNat ++ be 4 (s.val 0x2A00 6) ++ be 4 s.now.toNat

/-- A Pair frame without FCS (R449): the Pair address; MGMT's address for capsule segments and health, GUARD's for the others; the tag with
the Pair VID and PCP 7, the EtherType, and the payload padded to 42 bytes. -/
def pairFrame (s : State) (typ : Nat) (payload : Bytes) : Bytes :=
  padTo 6 (cfgBytes s.cfg 0x2A00 9) ++ be 6 (ownMac (if typ = 0x30 ∨ typ = 0x34 then 39 else 40)) ++ be 2 0x8100 ++
    be 2 (7 * 8192 + s.val 0x2A00 8) ++ be 2 0x88B5 ++ payload ++ zeros (42 - payload.length)

/-- A Pair frame leaves on the up ports of a plane, or of both (R449). -/
def sendPair (s : State) (plane typ : Nat) (body : Bytes) : State :=
  let b := pairHeader s typ body.length ++ body
  (planePorts s plane).foldl (fun t p => ownFrame t p 5 true b.length (pairFrame t typ b)) s

/-- The resign template (R434, R463): the plane ports as a mask, then the frame with cause 1. -/
def writeTemplate (s : State) : State :=
  let mask := (List.range 6).foldl (fun n p => if planeOf s p = 1 ∨ planeOf s p = 2 then n + 2 ^ p else n) 0
  { s with gp := { s.gp with resignTemplate := if mask = 0 then [] else be 1 mask ++ pairFrame s 0x32 (pairHeader s 0x32 1 ++ be 1 1) } }

/-- The frame of the resign template leaves on its ports (R434). -/
def sendResign (s : State) : State :=
  match s.gp.resignTemplate with
  | [] => s
  | m :: frame => ((List.range 6).filter (fun p => bitOf m.toNat p && linkIsUp s p)).foldl (fun t p => ownFrame t p 5 true 25 frame) s

/-- Messages of the shared buses that wait to be sent are dropped when the device stops driving them (R454, R466). -/
def quietShared (s : State) : State :=
  let s1 := (List.range 8).foldl (fun (t : State) cn =>
    if sharedPort t cn then { t with can := vmod t.can cn (fun c => { c with queue := [], slotsWaiting := [] }) } else t) s
  (List.range 6).foldl (fun (t : State) sp =>
    if sharedPort t (8 + sp) then { t with serial := vmod t.serial sp (fun c => { c with txQueue := [], client := none, clientQueue := [], clientSent := false }) } else t) s1

/-- The shared CAN ports leave the Standby behaviour: they integrate (R463). -/
def driveShared (s : State) : State :=
  (List.range 8).foldl (fun (t : State) cn => if sharedPort t cn && canRunning (canPort t cn) then canBegin t cn else t) s

/-- The role changes with event 2A01h (R451, R452); an Active has a new epoch and a resign template, and where it was passive its shared CAN
ports integrate. -/
def setRole (s : State) (r : PairRole) (code : Nat) : State :=
  if s.pair.role = r then s
  else
    let p := { s.pair with role := r, yielded := false, roleAt := s.time.mono, conflict := none, failed := 0, handover := none,
                           deferred := none, claim := none, noCapsule := false,
                           standbySince := if r = .standby then some s.time.mono else none, peerLost := false }
    let s1 := { s with pair := p, gp := { s.gp with resignTemplate := [] } }
    let s2 := if r = .active then
        writeTemplate { s1 with pair := { s1.pair with epoch := s1.pair.epoch + 1, activeUnit := Config.unitId } }
      else s1
    let s3 := if (r = .discovering ∨ r = .syncing) ∧ (s.pair.role = .active ∨ s.pair.role = .solo) then quietShared s2
      else if r = .active ∧ pairPassive s then driveShared s2
      else s2
    emcyCleared s (raise s3 0x2A01 1 0xFF (be 1 code ++ be 4 s3.pair.epoch.toNat))

/-- The entry of a state (R451): a role is held only within Normal, and discovery begins at every entry into it. -/
def pairEnter (s : State) : State :=
  let s1 := { s with pair := { s.pair with
    digests := [], ownDone := [], own := Digest.zero, heard := false, capsules := [], lastCapsule := none, acceptedAt := none,
    healthAt := none, peerAt := none, peerRole := 0 } }
  let s2 := setRole s1 .solo 0
  if s.op.state = .normal ∧ s.on 0x2A00 1 then setRole s2 .discovering 1 else s2

/-- The apply of Pair settings (R451): enabled in Normal, the device discovers. -/
def applyPair (old : Tbl Bytes) (s : State) : State :=
  if s.op.state = .normal ∧ changedIn old s.cfg 0x2A00 [1] then
    (if s.on 0x2A00 1 then setRole s .discovering 1 else setRole s .solo 0)
  else if s.pair.role = .active then writeTemplate s
  else s

/-- The Pair acts: enabled, in Normal, with a role. -/
def pairActs (s : State) : Bool := decide (s.op.state = .normal) && s.on 0x2A00 1 && s.pair.role != .solo && !(inPause s)

/-- DISCOVERY_TIMEOUT (R452): 300 ms have passed; what has heard nothing becomes Active. What has yielded to its peer listens once more. -/
def execDiscoveryTimeout (s : State) : Host.Outcome State Fault Refusal :=
  if pairActs s ∧ s.pair.role = .discovering ∧ s.pair.roleAt + 300000000 ≤ s.time.mono then
    (if s.pair.yielded then .next { s with pair := { s.pair with yielded := false, roleAt := s.time.mono } } else .next (setRole s .active 4))
  else .next s

/-- The checks of a received Pair frame (R450): discarded and counted, told for a mismatch of the configuration, ignored without a role or
as a second copy, or taken. The last number tells apart the segments of a capsule and the planes of a digest, which R450 does not call
copies; a first copy is remembered for 1 s (DEDUCED, log entry 201). -/
def pairTake (s : State) (hdr : PairHeader) (typ extra : Nat) : State × Bool :=
  let b := hdr.bytes
  let sender := beAt b 4 8
  if !(gpWorks s) then (s, false)
  else if byteAt b 0 ≠ typ ∨ byteAt b 1 ≠ 1 ∨ sender ≠ s.val 0x2A00 7 ∨ b.length ≠ 24 then (bump s 0x2A10 0x0B, false)
  else if beAt b 16 4 ≠ s.val 0x2A00 6 then
    (noteLimit (raiseLimited (bump s 0x2A10 0x0B) 0 10000000000 0x2A06 3 0xFF (be 4 (s.val 0x2A00 6) ++ slice b 16 4)) 0x2A060001, false)
  else if !(pairActs s) then (s, false)
  else
    let key := (typ, beAt b 12 4, beAt b 20 4, extra)
    let kept := s.pair.copies.filter (fun e => decide (s.time.mono ≤ e.2 + 1000000000))
    if kept.any (fun e => e.1 == key) then (s, false)
    else ({ s with pair := { s.pair with copies := (key, s.time.mono) :: kept } }, true)

/-- Two Actives (R465): the higher epoch stays, then the lower Unit ID. A conflict is counted and told once for the peer's epoch (DEDUCED, log
entry 201). -/
def roleConflict (s : State) (hdr : PairHeader) : State :=
  let peer := beAt hdr.bytes 12 4
  let mine := s.pair.epoch.toNat
  let s1 := if s.pair.conflict = some peer then s
    else raise (bump { s with pair := { s.pair with conflict := some peer } } 0x2A10 0x0D) 0x2A07 2 0xFF (be 4 mine ++ be 4 peer)
  if mine < peer ∨ (mine = peer ∧ beAt hdr.bytes 4 8 < Config.unitId.toNat) then setRole s1 .syncing 2 else s1

/-- PRESENCE_FRAME_RECEIVED (R452, R465): between Discovering devices the preferred one, then the lower Unit ID, takes Active;
to an Active it shows that the peer lives. -/
def execPresenceFrameReceived (_port : Fin 38) (hdr : PairHeader) (preferred : Bool) (s : State) : Host.Outcome State Fault Refusal :=
  let r := pairTake s hdr 0x33 0
  if !r.2 then .next r.1
  else
    let t := r.1
    match t.pair.role with
    | .discovering =>
      let me := t.on 0x2A00 3
      if (me && !preferred) || (me == preferred && decide (Config.unitId.toNat < beAt hdr.bytes 4 8)) then .next (setRole t .active 4)
      else .next { t with pair := { t.pair with yielded := true } }
    | .active => .next (emcyCleared t { t with pair := { t.pair with peerLost := false, peerAt := some t.time.mono, peerRole := max 2 t.pair.peerRole } })
    | _ => .next t

/-- A section of a capsule body (R456). -/
def section_ (id : Nat) (b : Bytes) : Bytes := be 1 id ++ be 1 1 ++ zeros 2 ++ be 4 b.length ++ b

/-- The Pair entries (R455): routing entries whose destination is a shared bus. -/
def pairEntries (s : State) : List (Nat × Route) := (routes (routeImage s)).filter (fun e => sharedBus s e.2.dstBus)

/-- Section 0x02: held values of Pair entries (DEDUCED, log entry 55 gives the widths). -/
def heldSection (s : State) : Bytes :=
  (pairEntries s).flatMap (fun e =>
    match tget s.gw.held e.1 with
    | none => be 2 e.1 ++ be 1 0 ++ zeros 10
    | some h => be 2 e.1 ++ be 1 (if h.timedOut then 2 else 1) ++ be 4 h.stamp.toNat ++ be 4 ((s.now - h.stamp).toNat / 1000000) ++
        be 2 h.value.length ++ h.value)

/-- Section 0x03: the contents of the cyclic slots of shared CAN ports. -/
def slotSection (s : State) : Bytes :=
  ((List.range 8).filter (sharedPort s)).flatMap (fun cn => (List.range 16).flatMap (fun k =>
    match slotEntry s cn k with
    | none => []
    | some n => match tget s.gw.held n with
      | none => []
      | some h => be 1 cn ++ be 1 k ++ be 2 h.value.length ++ h.value))

/-- Section 0x04: the source ports of shared MVB segments. -/
def mvbSection (s : State) : Bytes :=
  ((List.range 2).filter (fun sp => isMvb s (0x10 + sp) && sharedPort s (8 + sp))).flatMap (fun sp =>
    (mvbSeg s (mvbSegOf s sp)).values.flatMap (fun e => be 1 sp ++ be 2 e.1 ++ be 1 e.2.length ++ e.2))

/-- Section 0x05: the register maps of shared ports. -/
def registerSection (s : State) : Bytes :=
  (s.gw.modbus.filter (fun e => sharedPort s (8 + e.1 / 2 ^ 17))).flatMap (fun e => be 4 e.1 ++ be 2 e.2)

/-- Section 0x06: datagram sequences by destination. -/
def sequenceSection (s : State) : Bytes := s.gw.seqs.flatMap (fun e => be 4 e.1 ++ be 2 e.2)

/-- A party's address in a capsule: its VID with 4095 for none, and its MAC address. -/
def contactBytes (a : Option Contact) : Bytes :=
  match a with
  | some c => be 2 c.2.val ++ be 6 c.1.toNat
  | none => be 2 4095 ++ zeros 6

/-- A call of section 0x07. -/
def callBytes (c : Call) : Bytes :=
  be 2 c.ref.toNat ++ be 1 c.priority ++ be 2 c.caller ++ be 2 c.callee ++ be 1 (boolNat c.connected) ++ be 4 c.order ++ be 1 c.command ++
    be 1 c.position ++ contactBytes c.callerAt ++ contactBytes c.calleeAt

def audioSection (s : State) : Bytes :=
  be 1 s.aud.calls.length ++ s.aud.calls.flatMap callBytes ++ be 1 s.aud.callQueue.length ++ s.aud.callQueue.flatMap callBytes ++
    s.aud.grants.toList.flatMap (be 1)

/-- The body of a capsule (R456), at most 262,144 bytes: what a longer one loses is its end (DESIGN CHOICE, log entry 207). -/
def capsuleBody (s : State) : Bytes :=
  let secs := [
    section_ 1 (be 4 s.pair.epoch.toNat ++ be 8 Config.unitId.toNat ++ be 1 (s.val 0x2A00 4) ++ be 1 (boolNat s.aud.emergency)),
    section_ 2 (heldSection s), section_ 3 (slotSection s), section_ 4 (mvbSection s), section_ 5 (registerSection s),
    section_ 6 (sequenceSection s), section_ 7 (audioSection s), section_ 8 (be 2 s.slp.ballotNo.toNat)]
  let d : Bytes := secs.flatten
  (be 4 0x4D504331 ++ be 2 8 ++ zeros 2 ++ be 4 s.now.toNat ++ be 4 (min 262144 (16 + d.length)) ++ d).take 262144

/-- A capsule is taken and sent in segments on both planes (R457). -/
def takeCapsule (s : State) (handover : Bool) : State :=
  let seq := s.pair.capsuleSeq + 1
  let body := capsuleBody s
  let n := (body.length + 1023) / 1024
  let s1 := { s with pair := { s.pair with capsuleSeq := seq, shownSeq := seq, shownInstant := s.now } }
  let s2 := (List.range n).foldl (fun t k =>
    sendPair t 0 0x30 (be 2 seq.toNat ++ be 2 k ++ be 2 n ++ be 1 (boolNat handover) ++ zeros 1 ++ be 4 s.now.toNat ++
      be 4 (crc32 body).toNat ++ slice body (1024 * k) 1024)) s1
  bumpW s2 0x2A10 3 0 1

/-- The next capsule instant at least 20 ms ahead (R466), as a T32 value. -/
def nextHandover (s : State) : T32 := s.now + BitVec.ofNat 32 ((s.time.tx + 20000000 + 99999999) / 100000000 * 100000000 - s.time.tx)

/-- A claim reaches the Active (R466): it fixes H, or defers while the device is emergency active. -/
def claimed (s : State) (cause : Nat) : State :=
  if s.pair.handover.isSome then s
  else if s.aud.emergency then { s with pair := { s.pair with deferred := some cause } }
  else { s with pair := { s.pair with handover := some (nextHandover s, cause), deferred := none } }

/-- G_k (R458): the last whole multiple of the period in TX, as a T32 value. -/
def cyclePoint (s : State) : T32 := s.now - BitVec.ofNat 32 (s.time.tx % max 1 (pairPeriod s))

/-- PAIR_CYCLE_START (R450, R457, R458): a new cycle; the Active takes a capsule at whole 100 ms of TX, the others send
presence. -/
def execPairCycleStart (s : State) : Host.Outcome State Fault Refusal :=
  if !(pairActs s) then .next s
  else
    let ended := s.pair.ownDone.any (fun e => e.1 == s.pair.cycleStart)
    let s1 := { s with pair := { s.pair with cycleStart := cyclePoint s, own := if ended then s.pair.own else Digest.zero } }
    match s1.pair.role with
    | .active =>
      let s2 := match s1.pair.deferred with | some c => claimed s1 c | none => s1
      let handsOver : Bool := match s2.pair.handover with | some (h, _) => dueT32 h s2.now && !s2.aud.emergency | none => false
      .next (if s2.time.tx / 1000000 % 100 = 0 ∧ !handsOver then takeCapsule s2 false else s2)
    | _ => .next (sendPair s1 0 0x33 (be 1 (s1.val 0x2A00 3)))

/-- PAIR_CYCLE_END (R460): the cycle's digest is complete; the Active sends it on each plane. -/
def execPairCycleEnd (s : State) : Host.Outcome State Fault Refusal :=
  if !(pairActs s) then .next s
  else
    let d := s.pair.own
    let done := s.pair.ownDone.filter (fun e => e.1 != s.pair.cycleStart) ++ [(s.pair.cycleStart, d)]
    let s1 := { s with pair := { s.pair with ownDone := done.drop (done.length - 4), own := Digest.zero } }
    if s.pair.role = .active then
      let body := fun (plane : Nat) => be 4 s.pair.cycleStart.toNat ++ be 4 d.count.toNat ++ be 4 d.sum.toNat ++ be 4 d.xor.toNat ++
        be 2 s.pair.capsuleSeq.toNat ++ be 1 plane ++ zeros 1
      .next (sendPair (sendPair s1 1 0x31 (body 0)) 2 0x31 (body 1))
    else .next s1

/-- DIGEST_FRAME_RECEIVED (R452, R460, R465). -/
def execDigestFrameReceived (port : Fin 38) (hdr : PairHeader) (digest : DigestBody) (s : State) : Host.Outcome State Fault Refusal :=
  let b := digest.bytes
  let plane := if planeOf s port.val = 0 then byteAt b 18 else planeOf s port.val - 1
  let r := pairTake s hdr 0x31 plane
  if !r.2 then .next r.1
  else
    let t := r.1
    match t.pair.role with
    | .active => .next (roleConflict t hdr)
    | role =>
      let d : Digest := { count := BitVec.ofNat 32 (beAt b 4 4), sum := BitVec.ofNat 32 (beAt b 8 4), xor := BitVec.ofNat 32 (beAt b 12 4) }
      let ds := t.pair.digests ++ [(BitVec.ofNat 32 (beAt b 0 4), plane, d)]
      let t1 := { t with pair := { t.pair with digests := ds.drop (ds.length - 32), heard := true } }
      if role = .discovering then .next (setRole t1 .syncing 2) else .next t1

/-- The sections of a capsule body by identifier (R456). -/
def sectionsOf (b : Bytes) (fuel : Nat) : List (Nat × Bytes) :=
  match fuel with
  | 0 => []
  | n + 1 => if b.length < 8 then [] else (byteAt b 0, slice b 8 (beAt b 4 4)) :: sectionsOf (b.drop (8 + beAt b 4 4)) n

def sectionAt (body : Bytes) (id : Nat) : Bytes :=
  match (sectionsOf (body.drop 16) 64).find? (fun e => e.1 == id) with
  | some e => e.2
  | none => []

/-- Held values of a capsule: for each entry the later source stamp wins (R463). -/
def loadHeld (s : State) (b : Bytes) (fuel : Nat) : State :=
  match fuel with
  | 0 => s
  | n + 1 =>
    if b.length < 13 then s
    else
      let entry := beAt b 0 2
      let stamp := BitVec.ofNat 32 (beAt b 3 4)
      let v := slice b 13 (beAt b 11 2)
      let newer : Bool := match tget s.gw.held entry with | some h => decide ((stamp - h.stamp).toNat < 2147483648) && stamp != h.stamp | none => true
      let s1 := if byteAt b 2 ≠ 0 ∧ newer then
          { s with gw := { s.gw with held := tput s.gw.held entry { value := v, xl := none, stamp := stamp, timedOut := byteAt b 2 == 2, reported := false } } }
        else s
      loadHeld s1 (b.drop (13 + beAt b 11 2)) n

/-- MVB source values of a capsule. -/
def loadMvb (s : State) (b : Bytes) (fuel : Nat) : State :=
  match fuel with
  | 0 => s
  | n + 1 =>
    if b.length < 4 then s
    else loadMvb (setMvb s (mvbSegOf s (byteAt b 0)) (fun g => { g with values := tput g.values (beAt b 1 2) (slice b 4 (byteAt b 3)) }))
      (b.drop (4 + byteAt b 3)) n

/-- A party's address of a capsule. -/
def contactOf (b : Bytes) (o : Nat) : Option Contact :=
  if h : beAt b o 2 < 4095 then some (BitVec.ofNat 48 (beAt b (o + 2) 6), ⟨beAt b o 2, h⟩) else none

/-- Calls of a capsule. -/
def callsOf (b : Bytes) (n : Nat) : List Call :=
  (List.range n).map (fun k =>
    let o := 30 * k
    { ref := BitVec.ofNat 16 (beAt b o 2), priority := byteAt b (o + 2), caller := beAt b (o + 3) 2, callee := beAt b (o + 5) 2,
      connected := byteAt b (o + 7) == 1, order := beAt b (o + 8) 4, command := byteAt b (o + 12), position := byteAt b (o + 13),
      callerAt := contactOf b (o + 14), calleeAt := contactOf b (o + 22) })

/-- Call table, queue and grants of a capsule (R348). -/
def loadAudio (s : State) (b : Bytes) : State :=
  if b.length < 66 then s
  else
    let n := byteAt b 0
    let m := byteAt b (1 + 30 * n)
    let g := slice b (2 + 30 * n + 30 * m) 64
    noteEmergency { s with aud := { s.aud with
      calls := callsOf (b.drop 1) n, callQueue := callsOf (b.drop (2 + 30 * n)) m, grants := Vector.ofFn (fun (o : Fin 64) => byteAt g o.val) } } 0

/-- The last accepted capsule is applied (R463). Slots show the held values of their entries. -/
def applyCapsule (s : State) (c : Capsule) : State :=
  let s1 := loadHeld s (sectionAt c.body 2) 4096
  let s2 := loadMvb s1 (sectionAt c.body 4) 4096
  let regs := sectionAt c.body 5
  let seqs := sectionAt c.body 6
  let s3 := { s2 with gw := { s2.gw with
    modbus := (List.range (regs.length / 6)).foldl (fun (m : Tbl Nat) k => tput m (beAt regs (6 * k) 4) (beAt regs (6 * k + 4) 2)) s2.gw.modbus,
    seqs := (List.range (seqs.length / 6)).foldl (fun (m : Tbl Nat) k => tput m (beAt seqs (6 * k) 4) ((beAt seqs (6 * k + 4) 2 + 256) % 65536)) s2.gw.seqs } }
  let ballot := sectionAt c.body 8
  let s4 := if ballot.length = 2 then { s3 with slp := { s3.slp with ballotNo := BitVec.ofNat 16 (beNat ballot) } } else s3
  loadAudio s4 (sectionAt c.body 7)

/-- The device takes the Active role (R463). -/
def takeActive (s : State) : State := setRole { s with pair := { s.pair with takeoverAt := some s.time.mono } } .active 4

/-- The last accepted capsule, where there is one, is applied (R463). -/
def applyLast (s : State) (c : Option Capsule) : State :=
  match c with
  | some x => applyCapsule s x
  | none => s

/-- A call's party lies on the failed device: which endpoints do, no object says, a free value (DESIGN CHOICE, log entry 202). -/
def onFailed (endpoint : Nat) : Bool := decide (Config.freeOf 202 [(endpoint : Int)] % 2 = 1)

/-- Calls with a party on the failed device end with cause 5 (R348, R464). -/
def endLost (s : State) : State :=
  (s.aud.calls.filter (fun c => onFailed c.caller || onFailed c.callee)).foldl (fun t c => endCall t c 5) s

/-- A takeover (R463): cause 1 resign, 2 silence, 3 disagreement. -/
def takeover (s : State) (cause : Nat) : State :=
  let seq := match s.pair.lastCapsule with | some c => c.seq.toNat | none => 0
  let age := match s.pair.lastCapsule with | some c => (s.now - c.instant).toNat / 1000000 | none => 0
  endLost (applyLast (raise (bump (takeActive s) 0x2A10 8) 0x2A02 3 0xFF (be 1 cause ++ be 2 seq ++ be 4 age)) s.pair.lastCapsule)

/-- Seconds of the takeover hold-off that remain (R462). -/
def holdOffLeft (s : State) : Nat :=
  match s.pair.takeoverAt with
  | some t => (t + s.val 0x2A00 0x0A * 1000000000 - s.time.mono + 999999999) / 1000000000
  | none => 0

/-- A failed cycle (R461, R462). -/
def failedCycle (s : State) (cause : Nat) : State :=
  let s1 := bump { s with pair := { s.pair with failed := s.pair.failed + 1 } } 0x2A10 0x0A
  if s1.pair.failed < 3 then s1
  else if 0 < holdOffLeft s1 then raise (bump s1 0x2A10 0x0C) 0x2A0A 2 0xFF (be 4 (holdOffLeft s1))
  else takeover s1 cause

/-- CYCLE_JUDGEMENT (R461, R462): a Standby judges the cycle that ended 10 ms ago. Without synchronisation it judges silence only. -/
def execCycleJudgement (s : State) : Host.Outcome State Fault Refusal :=
  if !(pairActs s) ∨ s.pair.role ≠ .standby then .next s
  else match s.pair.ownDone.find? (fun e => decide (pairPeriod s + 10000000 ≤ (s.now - e.1).toNat)) with
    | none => .next s
    | some (g, own) =>
      let of := fun (plane : Nat) => (s.pair.digests.find? (fun e => e.1 == g && e.2.1 == plane)).map (fun e => e.2.2)
      let synced := decide (s.time.sync = 2 ∨ s.time.sync = 4)
      let silent := if synced then (of 0).isNone && (of 1).isNone else !s.pair.heard
      let s1 := { s with pair := { s.pair with
        ownDone := s.pair.ownDone.filter (fun e => e.1 != g), heard := false, digests := s.pair.digests.filter (fun e => e.1 != g) } }
      let good := { s1 with pair := { s1.pair with failed := 0 } }
      if silent then
        (if own.count = 0 then .next (failedCycle s1 2) else .next (raise good 0x2A08 2 0xFF (be 4 g.toNat)))
      else if !synced then .next good
      else match of 0, of 1 with
        | some a, some b => if a = own ∧ b = own then .next good else .next (failedCycle s1 3)
        | none, some b =>
          let s2 := fun (t : State) => raise (bump t 0x2A10 6) 0x2A04 2 0xFF (be 1 0 ++ be 4 g.toNat)
          if b = own then .next (s2 good) else .next (failedCycle (s2 s1) 3)
        | some a, none =>
          let s2 := fun (t : State) => raise (bump t 0x2A10 7) 0x2A04 2 0xFF (be 1 1 ++ be 4 g.toNat)
          if a = own then .next (s2 good) else .next (failedCycle (s2 s1) 3)
        | none, none => .next good

/-- A capsule is rejected (R457): reason 1 incomplete, 2 check. -/
def rejectCapsule (s : State) (c : CapsuleIn) (reason : Nat) : State :=
  let s1 := { s with pair := { s.pair with capsules := s.pair.capsules.map (fun x => if x.seq = c.seq ∧ x.instant = c.instant then { x with dead := true } else x) } }
  raise (bump s1 0x2A10 5) 0x2A03 2 0xFF (be 2 c.seq.toNat ++ be 1 reason)

/-- A handover of the instant H completes at the claimant (R466). -/
def handoverIn (s : State) (h : T32) (cause : Nat) : State :=
  applyLast (raise (bump (takeActive s) 0x2A10 9) 0x2A09 1 0xFF (be 4 h.toNat ++ be 1 cause)) s.pair.lastCapsule

/-- A complete and checked capsule is accepted (R457): the epoch and the Active are taken from it, and the calls, queue and grants that the
Active decides (R348); a Syncing device becomes Standby, and a handover capsule ends a claim (R466). -/
def acceptCapsule (s : State) (c : CapsuleIn) (body : Bytes) : State :=
  let role := sectionAt body 1
  let s1 := { s with pair := { s.pair with
    capsules := s.pair.capsules.filter (fun x => !(x.seq == c.seq && x.instant == c.instant)),
    lastCapsule := some { seq := c.seq, instant := c.instant, body := body }, acceptedAt := some s.time.mono,
    shownInstant := c.instant, shownSeq := c.seq, noCapsule := false,
    standbySince := if s.pair.role = .standby ∧ s.pair.standbySince.isNone then some s.time.mono else s.pair.standbySince,
    epoch := if 12 ≤ role.length then BitVec.ofNat 32 (beAt role 0 4) else s.pair.epoch,
    activeUnit := if 12 ≤ role.length then BitVec.ofNat 64 (beAt role 4 8) else s.pair.activeUnit } }
  let s2 := emcyCleared s (loadAudio (bumpW s1 0x2A10 4 0 1) (sectionAt body 7))
  match s2.pair.role with
  | .syncing => setRole s2 .standby 3
  | .standby => match s2.pair.claim with
    | some x => if c.handover then handoverIn s2 c.instant x.2 else s2
    | none => s2
  | _ => s2

/-- CAPSULE_SEGMENT_RECEIVED (R457): a segment joins its capsule; the last one completes it. -/
def execCapsuleSegmentReceived (_port : Fin 38) (hdr : PairHeader) (seg : CapsuleSegment) (s : State) : Host.Outcome State Fault Refusal :=
  let b := seg.bytes
  let seq := BitVec.ofNat 16 (beAt b 0 2)
  let r := pairTake s hdr 0x30 (beAt b 0 4)
  if !r.2 then .next r.1
  else
    let t := r.1
    match t.pair.role with
    | .active => .next (roleConflict t hdr)
    | .syncing | .standby =>
      let instant := BitVec.ofNat 32 (beAt b 8 4)
      let blank : CapsuleIn := { seq := seq, instant := instant, total := beAt b 4 2, check := BitVec.ofNat 32 (beAt b 12 4),
                                 handover := byteAt b 6 % 2 == 1, segments := [], dead := false }
      let old := t.pair.capsules.find? (fun x => x.seq == seq && x.instant == instant)
      let c := old.getD blank
      if c.dead then .next t
      else
        let c1 := { c with segments := tput c.segments (beAt b 2 2) (slice b 16 1024) }
        let others := t.pair.capsules.filter (fun x => !(x.seq == seq && x.instant == instant))
        let t1 := { t with pair := { t.pair with capsules := (others ++ [c1]).drop (others.length + 1 - 16) } }
        let synced := decide (t.time.sync = 2 ∨ t.time.sync = 4)
        if synced ∧ pastT32 (instant + 50000000) t.now then .next (rejectCapsule t1 c1 1)
        else if c1.segments.length < c1.total then .next t1
        else
          let body := c1.segments.flatMap (fun e => e.2)
          if crc32 body = c1.check then .next (acceptCapsule t1 c1 body) else .next (rejectCapsule t1 c1 2)
    | _ => .next t

/-- CAPSULE_ACCEPT_TIMEOUT (R457): the oldest capsule that is still incomplete 50 ms after its instant is discarded. Without synchronisation
the instant does not stand on the device's own time, and the command says that the time has come (DEDUCED, log entry 201). -/
def execCapsuleAcceptTimeout (s : State) : Host.Outcome State Fault Refusal :=
  let synced := decide (s.time.sync = 2 ∨ s.time.sync = 4)
  match s.pair.capsules.find? (fun c => !c.dead && (!synced || dueT32 (c.instant + 50000000) s.now)) with
  | some c => if pairActs s then .next (rejectCapsule s c 1) else .next s
  | none => .next s

/-- NO_CAPSULE_ACCEPTED (R457): 1 s without an accepted capsule; 1001h bit 4 becomes 1. -/
def execNoCapsuleAccepted (s : State) : Host.Outcome State Fault Refusal :=
  if pairActs s ∧ (s.pair.role = .syncing ∨ s.pair.role = .standby) ∧ max s.pair.roleAt (s.pair.acceptedAt.getD 0) + 1000000000 ≤ s.time.mono then
    .next { s with pair := { s.pair with noCapsule := true, standbySince := none } }
  else .next s

/-- RESIGN_FRAME_RECEIVED (R462). -/
def execResignFrameReceived (_port : Fin 38) (hdr : PairHeader) (cause : BitVec 8) (s : State) : Host.Outcome State Fault Refusal :=
  let r := pairTake s hdr 0x32 cause.toNat
  if r.2 ∧ r.1.pair.role = .standby ∧ r.1.pair.epoch.toNat ≤ beAt hdr.bytes 12 4 then .next (takeover r.1 1) else .next r.1

/-- The flags of a health frame (R469). -/
def healthFlags (s : State) : Nat :=
  let test := decide (s.gp.testDoneAt ≠ 0) && decide (s.time.mono ≤ s.gp.testDoneAt + 1000000000)
  let scrub := decide (s.dram.lastPass ≠ 0) && decide (s.time.tx ≤ s.dram.lastPass + 86400000000000)
  let caps := match s.pair.acceptedAt with | some t => decide (s.time.mono ≤ t + 1000000000) | none => false
  boolNat test + 2 * boolNat s.gp.running + 4 * boolNat scrub + 8 * boolNat (decide (lowestMargin s < 25)) +
    16 * boolNat (planeState s 1 == 1) + 32 * boolNat (planeState s 2 == 1) + 64 * boolNat caps

/-- HEALTH_FRAME_SEND (R469). -/
def execHealthFrameSend (s : State) : Host.Outcome State Fault Refusal :=
  if pairActs s ∧ s.pair.role = .standby then .next (sendPair s 0 0x34 (be 4 (healthFlags s) ++ be 1 (lowestMargin s) ++ zeros 3)) else .next s

/-- HEALTH_FRAME_RECEIVED (R469). -/
def execHealthFrameReceived (_port : Fin 38) (hdr : PairHeader) (flags : BitVec 32) (margin : BitVec 8) (s : State) : Host.Outcome State Fault Refusal :=
  let r := pairTake s hdr 0x34 0
  if r.2 ∧ r.1.pair.role = .active then
    .next (emcyCleared r.1 { r.1 with pair := { r.1.pair with
      peerHealth := flags, peerMargin := margin, healthAt := some r.1.time.mono, peerAt := some r.1.time.mono, peerRole := 3, peerLost := false } })
  else .next r.1

/-- PEER_LOST_TIMEOUT (R465): 3 s without presence or health. -/
def execPeerLostTimeout (s : State) : Host.Outcome State Fault Refusal :=
  if pairActs s ∧ s.pair.role = .active ∧ !s.pair.peerLost ∧ max s.pair.roleAt (s.pair.peerAt.getD 0) + 3000000000 ≤ s.time.mono then
    .next (raise { s with pair := { s.pair with peerLost := true } } 0x2A05 3 0xFF (be 1 s.pair.peerRole))
  else .next s

/-- A Standby sends a claim frame, and expects the handover at the next H (R466). -/
def sendClaim (s : State) (cause : Nat) : State :=
  sendPair { s with pair := { s.pair with claim := some (nextHandover s, cause) } } 0 0x35 (be 1 cause)

/-- RETURN_HOLD_OFF_EXPIRY (R466). -/
def execReturnHoldOffExpiry (s : State) : Host.Outcome State Fault Refusal :=
  let held : Bool := match s.pair.standbySince with | some t => decide (t + s.val 0x2A00 5 * 1000000000 ≤ s.time.mono) | none => false
  if pairActs s ∧ s.pair.role = .standby ∧ s.val 0x2A00 4 = 1 ∧ s.on 0x2A00 3 ∧ s.pair.claim.isNone ∧ held then
    .next (sendClaim s 1)
  else .next s

/-- The Standby's health frame has come within 3 s (R467, R533). -/
def standbyPresent (s : State) : Bool := match s.pair.healthAt with | some t => decide (s.time.mono ≤ t + 3000000000) | none => false

/-- A write of 2A00h.0E (R467): the claim request is a frame of type 0x35 with cause 2 (DEDUCED, log entry 56). -/
def swapWrite (s : State) (v : Nat) : State × Nat :=
  if v ≠ 1 then (s, 8)
  else if !(pairActs s) ∨ s.pair.role ≠ .active ∨ !(standbyPresent s) then (s, 0x0F)
  else (sendPair s 0 0x35 (be 1 2), 0)

/-- SWAP (R467). -/
def execSwap (ses : SessionNo) (value : BitVec 8) (s : State) : Host.Outcome State Fault Refusal :=
  .next (command s ses 0x2A00 0x0E (be 1 value.toNat) (fun t => swapWrite t value.toNat))

/-- A frame of type 0x35 arrives (R466, R467): at the Active a claim, at a Standby that has not claimed the request to do so, where its cause
is 2 (DEDUCED, log entry 56). -/
def claimArrives (s : State) (hdr : PairHeader) (cause : Nat) : State :=
  let r := pairTake s hdr 0x35 cause
  if !r.2 then r.1
  else if r.1.pair.role = .active then claimed r.1 cause
  else if r.1.pair.role = .standby ∧ r.1.pair.claim.isNone ∧ cause = 2 then sendClaim r.1 2
  else r.1

/-- CLAIM_REQUEST_RECEIVED (R467). -/
def execClaimRequestReceived (_port : Fin 38) (hdr : PairHeader) (s : State) : Host.Outcome State Fault Refusal :=
  .next (claimArrives s hdr 2)

/-- CLAIM_FRAME_RECEIVED (R466). -/
def execClaimFrameReceived (_port : Fin 38) (hdr : PairHeader) (cause : BitVec 8) (s : State) : Host.Outcome State Fault Refusal :=
  .next (claimArrives s hdr cause.toNat)

/-- The handover at H (R466): the Active sends the handover capsule, stops its Pair outputs and becomes Syncing. -/
def handoverOut (s : State) (h : T32) (cause : Nat) : State :=
  setRole (raise (bump (takeCapsule s true) 0x2A10 9) 0x2A09 1 0xFF (be 4 h.toNat ++ be 1 cause)) .syncing 2

/-- HANDOVER_CAPSULE_TIMEOUT (R466): the claimant takes over from its last capsule, unless that capsule shows the Active
deferring for an emergency. -/
def execHandoverCapsuleTimeout (s : State) : Host.Outcome State Fault Refusal :=
  match s.pair.claim with
  | none => .next s
  | some (h, cause) =>
    if !(pairActs s) ∨ s.pair.role ≠ .standby ∨ !(dueT32 (h + 50000000) s.now) then .next s
    else
      let deferring := match s.pair.lastCapsule with | some c => byteAt (sectionAt c.body 1) 13 == 1 | none => false
      if deferring then .next { s with pair := { s.pair with claim := none } } else .next (handoverIn s h cause)

def PairRole.code : PairRole → Nat
  | .solo => 0
  | .discovering => 1
  | .syncing => 2
  | .standby => 3
  | .active => 4

/-- What the objects of R472 and R473 show. -/
def livePair (s : State) (idx sub : Nat) : Option Bytes :=
  match idx, sub with
  | 0x2A00, 2 => some (be 1 s.pair.role.code)
  | 0x2A00, 0x0B => some (be 4 s.pair.epoch.toNat)
  | 0x2A00, 0x0C => some (be 4 s.pair.shownInstant.toNat)
  | 0x2A00, 0x0D => some (be 2 s.pair.shownSeq.toNat)
  | 0x2A00, 0x0F => some (be 8 s.pair.activeUnit.toNat)
  | 0x2A00, 0x10 => some (be 4 s.pair.peerHealth.toNat)
  | 0x2A01, 7 => some (be 1 (planeState s 1))
  | 0x2A01, 8 => some (be 1 (planeState s 2))
  | _, _ => none

/-- The rules of validation (R448, R449, R453, R458, R472). -/
def pairRules (t : Tbl Bytes) : Option (Nat × Nat) :=
  let planes := (List.range 6).map (fun p => cfgNat t 0x2A01 (p + 1))
  let trig := (List.range 16).findSome? (fun k =>
    let idx := 0x4060 + k
    let period := cfgNat t idx 7
    let base := cfgBytes t idx 6
    let tx := beAt base 0 6 * 1000000000 + beAt base 6 4
    if cfgNat t idx 1 = 0 ∨ cfgNat t idx 2 ≠ 3 ∨ cfgNat t idx 3 ≠ 1 then none
    else if period ≠ 10000000 ∧ period ≠ 20000000 ∧ period ≠ 25000000 ∧ period ≠ 50000000 then some (okey idx 7, 4)
    else if cfgNat t idx 4 = 0 then some (okey idx 4, 4)
    else if tx % period ≠ 0 then some (okey idx 6, 4)
    else none)
  if 2 < planes.foldl max 0 then some (okey 0x2A01 1, 1)
  else match trig with
    | some r => some r
    | none =>
      if cfgNat t 0x2A00 1 = 0 then none
      else if cfgNat t 0x2A00 7 = 0 then some (okey 0x2A00 1, 4)
      else if !(planes.contains 1) ∨ !(planes.contains 2) then some (okey 0x2A01 1, 4)
      else if cfgNat t (0x3440 + 39) 8 = 0 then some (okey (0x3440 + 39) 8, 4)
      else if cfgNat t (0x3440 + 40) 8 = 0 then some (okey (0x3440 + 40) 8, 4)
      else match (List.range 8).find? (fun cn => cfgNat t 0x2A02 (cn + 1) != 0 && cfgNat t (0x4400 + cn) 1 != 1) with
        | some cn => some (okey 0x2A02 (cn + 1), 4)
        | none => match (List.range 6).find? (fun sp => cfgNat t 0x2A02 (sp + 9) != 0 && cfgNat t (0x4500 + sp) 1 != 3 && cfgNat t (0x4500 + sp) 1 != 4) with
          | some sp => some (okey 0x2A02 (sp + 9), 4)
          | none => none

end Sys2Proof.Machine
end

