-- ==== Sys2Proof/Machine/Journal.lean ====
section
/-! DEFINITION. The journal and the health report (chapter 16: R505 to R519), with the commands JOURNAL_RECORD_WRITE,
JOURNAL_COMPACTION_COMPLETE, HEALTH_REPORT_UPDATE, HOURS_POWERED_APPEND and INCLUSION_READ. The widths of record bodies are
the model's (DEDUCED, log entry 58). -/

namespace Sys2Proof.Machine

/-- One entry of an armed set: its object, its length, and the value padded to four bytes (R68). -/
def armedEntry (e : Nat × Bytes) : Bytes := be 4 e.1 ++ be 4 e.2.length ++ e.2 ++ zeros ((4 - e.2.length % 4) % 4)

/-- The body of a record (R511). -/
def bodyBytes (b : JBody) : Bytes :=
  match b with
  | .value k v => be 4 k ++ v
  | .cleared k => be 6 k
  | .armed es => es.flatMap armedEntry
  | .commit g => be 4 g.toNat
  | .checkpointStart => []
  | .checkpointEnd => []
  | .inclusion _ r => r
  | .sleepSnapshot g tx d q src =>
    be 4 g.toNat ++ txBytes tx ++ beInt 8 d ++ beInt 8 q ++ be 4 src.length ++
      src.flatMap (fun e => be 1 (boolNat e.1) ++ be 1 e.2.length ++ e.2.flatMap (be 4))
  | .distance d q => beInt 8 d ++ beInt 8 q
  | .pageCounts t => t.flatMap (fun e => be 4 e.1 ++ be 1 e.2)
  | .pageRetired p sp => be 4 p ++ be 4 sp
  | .bankMap c banks => be 1 c ++ banks.flatMap (fun e => be 1 e.1 ++ be 2 e.2)
  | .safeEntries l => l.flatMap (be 6)
  | .hours n => be 4 n
  | .note k d => be 1 k ++ d

/-- The type of a record (R511). What the table does not name stands under counts (DEDUCED, log entry 58). -/
def recordType (b : JBody) : Nat :=
  match b with
  | .value .. => 1
  | .armed _ => 2
  | .commit _ => 3
  | .checkpointStart => 4
  | .checkpointEnd => 5
  | .inclusion .. => 6
  | .sleepSnapshot .. => 7
  | .cleared _ | .distance .. | .pageCounts _ | .pageRetired .. | .bankMap .. | .safeEntries _ | .hours _ | .note .. => 8

/-- What the check of a record covers (R511): its bytes 4 to 11 and the body. -/
def recordCovered (r : JRec) : Bytes := be 4 (bodyBytes r.body).length ++ be 4 r.seq.toNat ++ bodyBytes r.body

/-- A record as it stands in the flash (R511): the header with its seal, and the body padded with 0xFF to 16 bytes. -/
def recordBytes (r : JRec) : Bytes :=
  let b := bodyBytes r.body
  [0xA5#8] ++ be 1 (recordType r.body) ++ [if r.sealed then 0x5A#8 else 0xFF#8, 0xFF#8] ++ be 4 b.length ++ be 4 r.seq.toNat ++
    be 4 (crc32 (recordCovered r)).toNat ++ b ++ List.replicate ((16 - b.length % 16) % 16) 0xFF#8

/-- The length of a record: header, and the body padded to 16 bytes (R511). -/
def recordSize (b : JBody) : Nat := 16 + ((bodyBytes b).length + 15) / 16 * 16

/-- Where a record of n bytes goes: the number of its first block in the order of filling, and the blocks in use and the fill
after it; none where the erased blocks do not hold it. -/
def placeRecord (s : State) (n : Nat) : Option (Nat × Nat × Nat) :=
  let last := s.jour.inUse - 1
  let start := if s.jour.fill + 16 ≤ 65536 then (last, s.jour.fill) else (last + 1, 16)
  let room := 65536 - start.2
  let more := if n ≤ room then 0 else (n - room + 65519) / 65520
  let fill := if n ≤ room then start.2 + n else 16 + (n - room - 1) % 65520 + 1
  if start.1 + more + 1 ≤ s.jour.blocks.length then some (start.1, start.1 + more + 1, fill) else none

/-- Firmware of the MP runs with the journal at hand: in no sleep state, not in Recovery, and in Start once replay has ended. -/
def journalServed (s : State) : Bool := served s && journalOpen s && s.op.state != .recovery

/-- A value of class I and persistence P takes effect when its record is sealed (R42); a TPO program starts anew (R255), and a
quarantine ends (R389). -/
def valueLands (s : State) (key : Nat) (v : Bytes) : State :=
  let idx := key / 256
  let sub := key % 256
  let s1 := { s with cfg := cfgPut s.cfg idx sub v }
  if 0x4080 ≤ idx ∧ idx ≤ 0x4083 then startProgram s1 (idx - 0x4080) true
  else if 0x2420 ≤ idx ∧ idx ≤ 0x2433 ∧ sub = 7 then
    { s with slp := { s.slp with sources := vmod s.slp.sources (idx - 0x2420) (fun w => { w with quarantined := false, times := [] }) } }
  else s1

/-- The bytes of the newest checkpoint among the records, oldest first. -/
def lastCheckpointSize (recs : List JRec) : Nat :=
  (recs.foldl (fun (acc : Nat × Bool) r =>
    match r.body with
    | .checkpointStart => (recordSize r.body, true)
    | .checkpointEnd => (acc.1 + recordSize r.body, false)
    | b => if acc.2 then (acc.1 + recordSize b, true) else acc) (0, false)).1

/-- What a sealed record brings about: a written value, a cleared counter, a commit mark, the end of a checkpoint. -/
def recordSealed (s : State) (b : JBody) (dest : ReplyTo) : State :=
  match b with
  | .value k v => if dest = .nobody then s else reply (valueLands s k v) dest 0 []
  | .cleared k => reply { s with cnt := tdel s.cnt k } dest 0 []
  | .commit g => { s with cs := { s.cs with
      committed := g, uncommitted := if s.cs.uncommitted.any (fun u => u.gen == g) then (s.cs.uncommitted.dropWhile (fun u => u.gen != g)).drop 1
        else s.cs.uncommitted } }
  | .checkpointEnd =>
    let n := lastCheckpointSize s.jour.recs
    let s1 := { s with jour := { s.jour with checkpointSize := n, checkpointAt := s.time.tx } }
    if ((journalBlocks s) * 65536 - 1048576) / 2 < n ∧ s.jour.state ≠ 2 then
      raise { s1 with jour := { s1.jour with state := 2 } } 0x2606 4 0xFF (be 1 (journalBlocks s) ++ be 4 n)
    else s1
  | _ => s

/-- Fewer than 8 erased blocks remain (R513). -/
def compactIfLow (s : State) : State := if s.jour.blocks.length < s.jour.inUse + 8 then startCompaction s else s

/-- One record is written in two phases (R512). A failed journal keeps nothing and refuses the write (R515). -/
def writeRecord (s : State) (readBackOk : Bool) : State :=
  match s.jour.waiting with
  | [] => s
  | (b, dest) :: rest =>
    if s.jour.state = 2 then reply { s with jour := { s.jour with waiting := rest } } dest 0x0F []
    else match placeRecord s (recordSize b) with
    | none => s
    | some (blk, used, fill) =>
      let block := (s.jour.blocks[blk]?).getD 0
      let r : JRec := { seq := s.jour.seq, body := b, block := block, sealed := readBackOk }
      let j := { s.jour with recs := s.jour.recs ++ [r], seq := s.jour.seq + 1, inUse := used, fill := fill }
      if readBackOk then
        let s1 := bumpW { s with jour := { j with waiting := rest } } 0x2660 3 0 1
        compactIfLow (recordSealed s1 b dest)
      else compactIfLow (flashWorn { s with jour := j } block 2 1 [])

/-- JOURNAL_RECORD_WRITE (R512). -/
def execJournalRecordWrite (readBackOk : Bool) (s : State) : Host.Outcome State Fault Refusal :=
  if journalServed s then .next (writeRecord s readBackOk) else .next s

/-- Every record that waits is written and sealed, as far as the blocks hold them. -/
def sealAll (s : State) (fuel : Nat) : State :=
  match fuel with
  | 0 => s
  | k + 1 => if s.jour.waiting.isEmpty then s else sealAll (writeRecord s true) k

/-- The compaction ends (R513): the blocks older than its checkpoint are erased, and an image bank that waits takes the first
of them (R504). -/
def endCompaction (s : State) : State :=
  let freed := s.jour.blocks.take s.jour.freeing
  let kept := s.jour.blocks.drop s.jour.freeing
  let taken := match s.wear.bankWaiting, freed with
    | w :: rest, b :: _ => some (w, rest, b)
    | _, _ => none
  let back := match taken with | some _ => freed.drop 1 | none => freed
  let s1 := { s with jour := { s.jour with
    blocks := kept ++ back, inUse := s.jour.inUse - freed.length, state := 0, freeing := 0,
    recs := s.jour.recs.filter (fun r => !(freed.contains r.block)) } }
  let s2 := match taken with
    | some (w, rest, b) => journalCheck { s1 with wear := { s1.wear with bankWaiting := rest, spares := s1.wear.spares ++ [(b, w)] } }
    | none => s1
  back.foldl eraseBlock s2

/-- The checkpoint of the running compaction is sealed. -/
def checkpointSealed (s : State) : Bool := !(s.jour.waiting.any (fun e => e.1 == .checkpointEnd))

/-- JOURNAL_COMPACTION_COMPLETE (R513). -/
def execJournalCompactionComplete (s : State) : Host.Outcome State Fault Refusal :=
  if s.jour.state = 1 ∧ checkpointSealed s ∧ journalServed s then .next (endCompaction s) else .next s

/-- The time uncertainty (R516). -/
def timeUncertainty (s : State) : Nat :=
  let base := 4 * s.val 0x4010 6
  if s.time.timescale = 0 then 0xFFFFFFFF
  else if s.time.sync = 2 ∨ s.time.sync = 4 then min base 0xFFFFFFFF
  else if s.time.sync = 3 then
    min (base + 1000 * ((s.time.mono - s.time.holdoverSince.getD s.time.mono) / 1000000000)) 0xFFFFFFFF
  else 0xFFFFFFFF

/-- The flags of the health report (R507); the column bit is bit 4 of the Pair's health word (R469). -/
def reportFlags (s : State) : Nat :=
  let m := lowestMargin s
  boolNat (decide (timeUncertainty s = 0xFFFFFFFF)) * 64 +
    boolNat (decide (s.dram.lastPass = 0 ∨ s.dram.lastPass + 86400000000000 < s.time.tx)) * 32 +
    boolNat (s.fab.columns.toList.any (fun c => c.degraded || c.failed)) * 16 + boolNat (decide (s.jour.state = 2)) * 8 +
    boolNat (decide (m = 0)) * 4 + boolNat (decide (m < 25)) * 2 + boolNat (decide (0 < s.wear.sinceStart))

/-- HEALTH_REPORT_UPDATE (R505 to R507): in every state but Start, LightSleep and DeepSleep. -/
def execHealthReportUpdate (s : State) : Host.Outcome State Fault Refusal :=
  match s.op.state with
  | .start | .lightSleep | .deepSleep => .next s
  | _ =>
    let s1 := (List.range 3).foldl (fun t c => marginEvents t c false) s
    .next { s1 with wear := { s1.wear with
      report := BitVec.ofNat 32 (reportFlags s1), reportAt := s1.now, uncertainty := BitVec.ofNat 32 (timeUncertainty s1) } }

/-- HOURS_POWERED_APPEND (R517). -/
def execHoursPoweredAppend (s : State) : Host.Outcome State Fault Refusal :=
  if journalServed s then
    .next (jAppend { s with wear := { s.wear with hours := s.wear.hours + 1 } } (.hours (s.wear.hours + 1)) .nobody)
  else .next s

/-- A read of 2620h.02 (R519). -/
def inclusionRead (s : State) (ses : Nat) : State × Bytes :=
  ringRead s ses 0x2620 1 48 7 1 s.wear.inclusions.length (BitVec.ofNat 32 (s.wear.inclusionNo + 1))
    (fun d => match s.wear.inclusions[d]? with | some e => e.2 | none => zeros 48)
    (fun x => x.inclLost) (fun x => { x with inclLost := false })

/-- INCLUSION_READ (R519). -/
def execInclusionRead (ses : SessionNo) (s : State) : Host.Outcome State Fault Refusal :=
  .next (readCommand s ses 0x2620 2 (fun t => inclusionRead t ses.val))

/-- What the objects of R517 to R519 show. -/
def liveWear (s : State) (idx sub : Nat) : Option Bytes :=
  match idx, sub with
  | 0x2600, 4 => some (be 1 (margin s 0))
  | 0x2600, 5 => some (be 1 (margin s 1))
  | 0x2600, 6 => some (be 1 (margin s 2))
  | 0x2600, 7 => some (be 1 (lowestMargin s))
  | 0x2600, 8 => some (be 4 s.wear.hours)
  | 0x2600, 9 => some (be 1 (sparesLeft s).length)
  | 0x2600, 0x0A => some (be 1 (journalBlocks s))
  | 0x2610, 1 => some (be 4 s.wear.report.toNat)
  | 0x2610, 2 => some (be 2 s.wear.sinceStart)
  | 0x2610, 3 => some (beInt 2 s.pins.tjMax)
  | 0x2610, 4 => some (be 4 s.wear.uncertainty.toNat)
  | 0x2610, 5 => some (be 4 s.wear.reportAt.toNat)
  | 0x2620, 3 => some (be 4 s.wear.inclusionNo)
  | 0x2620, 4 => some (be 2 s.wear.inclusions.length)
  | 0x2640, 1 => some (be 1 s.jour.state.toNat)
  | 0x2640, 2 => some (be 1 (s.jour.blocks.length - s.jour.inUse))
  | 0x2640, 3 => some (be 4 s.jour.checkpointSize)
  | 0x2640, 4 => some (txBytes s.jour.checkpointAt)
  | _, _ => none

/-- The rule of R513: a checkpoint must fit, reason 5. -/
def journalRules (s : State) (t : Tbl Bytes) : Option (Nat × Nat) :=
  let n := (checkpointOf s t).foldl (fun n b => n + recordSize b) 0
  if (journalBlocks s * 65536 - 1048576) / 2 < n then some (0, 5) else none

end Sys2Proof.Machine
end

