-- ==== Sys2Proof/Machine/OpState.lean ====
section
/-! DEFINITION. Operating states (chapter 01: R22 to R35): the opening and closing of sessions (R47, R58), the discarding of
change sets (R67), the entry of a state, a restart, the GP fault (R432 to R436), and the commands POWER_ON_RESET_RELEASE,
POWER_ON_RESET_REARM, RESET_N_PULSE, WATCHDOG_EXPIRY, REQUEST_RESTART, REQUEST_COMMISSIONING, REQUEST_TEST, REQUEST_RECOVERY,
REQUEST_SLEEP_STATE, REQUEST_SAFE, SAFE_AUTO_RESTART and RESIGN_FRAME_REPEAT. Transitions are single steps here (DEDUCED, log entry 59). -/

namespace Sys2Proof.Machine

/-- A bit of HSTS is set, and vector 0 with it where the host has enabled both (R549, R554). -/
def hostSignal (s : State) (bit : Nat) : State :=
  let s1 := { s with host := { s.host with sts := s.host.sts ||| BitVec.ofNat 32 (2 ^ bit) } }
  if s.host.ien.getLsbD bit && s.host.ctl.getLsbD 2 && s.host.link != 0 then emit s1 (.msix 0) else s1

/-- A validation under way is abandoned (R61): answered with 0x06 where its session is still open. -/
def abandonValidation (s : State) : State :=
  match s.cs.validating with
  | none => s
  | some (_, dest) =>
    let s1 := { s with cs := { s.cs with validating := none, lastResult := 6 } }
    match replySession dest with
    | some n => if isOpen s n then reply s1 dest 6 [] else s1
    | none => s1

/-- The pending set is discarded, with event 2203h; the case of its cause is 1 session
closed, 2 change of state, 3 restart, 4 command. -/
def discardPending (s : State) (cause : Nat) : State :=
  match s.cs.pending with
  | none => s
  | some _ =>
    let s1 := abandonValidation s
    raise { s1 with cs := { s1.cs with pending := none } } 0x2203 2 0xFF (be 1 1 ++ openCode 0x2203 cause)

/-- The armed set is cancelled, with event 2203h. -/
def cancelArmed (s : State) (cause : Nat) : State :=
  match s.cs.armed with
  | none => s
  | some _ => raise { s with cs := { s.cs with armed := none, dueInPause := none } } 0x2203 2 0xFF (be 1 2 ++ openCode 0x2203 cause)

/-- A session opens with a role (R47, R48), with event 2101h; its read positions name the oldest records held (R71, R519). The
transport: 1 MOS, 2 SDO, 3 SPI, 4 PCIe. -/
def openSession (s : State) (n role transport : Nat) : State :=
  let pos : List (Nat × Nat) :=
    [(okey 0x2301 1, (s.ev.next - BitVec.ofNat 32 s.ev.ring.length).toNat),
     (okey 0x2620 1, s.wear.inclusionNo + 1 - s.wear.inclusions.length),
     (okey 0x2B61 1, (s.pool.misuseNext - BitVec.ofNat 32 s.pool.misuse.length).toNat),
     (okey 0x3D10 1, (s.zone.logNext - BitVec.ofNat 32 s.zone.log.length).toNat)]
  let x := { Session.closed with isOpen := true, role := role, own := pos.foldl (fun (t : Tbl Nat) e => tput t e.1 e.2) [] }
  raise { s with sessions := s.sessions.setIfInBounds n x } 0x2101 0 0xFF (be 1 n ++ be 1 role ++ openCode 0x2101 transport)

/-- A session closes (R47, R58, R76): its pending set is discarded, its snapshots released; event 2103h. Cases of the reason: 1 closed by
the client, 2 idle, 3 MOS disabled, 4 port leaves management, 5 sleep or activation, 6 link down. -/
def closeSession (s : State) (n reason : Nat) : State :=
  if isOpen s n then
    let s0 := forgetReplies s (fun r => replySession r == some n)
    let s1 := { s0 with sessions := s0.sessions.setIfInBounds n Session.closed }
    let s2 := match s1.cs.pending with
      | some p => if p.owner.val = n then discardPending s1 1 else s1
      | none => s1
    let s3 := if n < 8 ∧ reason ≠ 1 then emit s2 (.dtlsEnd n) else s2
    raise s3 0x2103 0 0xFF (be 1 n ++ openCode 0x2103 reason)
  else s

/-- Every MOS session closes. -/
def closeMos (s : State) (reason : Nat) : State := (List.range 8).foldl (fun t n => closeSession t n reason) s

/-- The SDO sessions follow the management ports (R47). -/
def busSessions (s : State) : State :=
  (List.range 8).foldl (fun t cn =>
    if isMgmtCan t cn then (if isOpen t (8 + cn) then t else openSession t (8 + cn) (t.val 0x2111 (cn + 1)) 2)
    else closeSession t (8 + cn) 4) s

/-- The role of the SPI session is read anew (R48); in Recovery it is Maintainer (R539). -/
def spiRole (s : State) : State :=
  let r := if s.op.state = .recovery then 2 else s.val 0x2110 3
  { s with sessions := vmod s.sessions 16 (fun x => { x with role := r }) }

/-- Change of state: pending and armed sets go (R67). -/
def cancelSets (s : State) (cause : Nat) : State := cancelArmed (discardPending s cause) cause

/-- A start has not yet applied the configuration (R279, R528, R529). -/
def configWaits (s : State) : Bool := decide (s.op.state = .start) && decide (s.op.phase < (if s.op.warm then 6 else 7))

/-- CNn_STB requests standby. -/
def stbStands (s : State) (cn : Nat) : Bool := bitOf s.pins.stb.toNat cn == s.on (0x4400 + cn) 0x0F

/-- CNn_STB (R279, R597): standby while the mode is 0 or the device sleeps; high until a start has applied its configuration. -/
def refreshStb (s : State) (asleep : Bool) : State :=
  let bits := (List.range 8).foldl (fun (n : Nat) cn =>
    let std := s.on (0x4400 + cn) 0x0F
    let stand := asleep || s.val (0x4400 + cn) 1 == 0
    if (if stand then std else !std) then n + 2 ^ cn else n) 0
  { s with pins := { s.pins with stb := if configWaits s then 0xFF else BitVec.ofNat 8 bits } }

/-- The Guard Processor without a window, its record of the last fault kept. -/
def gpCold (s : State) : GpBlock := { GpBlock.reset with fault := s.gp.fault, resignTemplate := s.gp.resignTemplate, resignLeft := s.gp.resignLeft }

/-- The Guard Processor at the entry of a state (R437): running, or held in reset. In a sleep state it runs on until the processors
stop (R27, R384 step 4). -/
def gpEnter (s : State) : State :=
  match s.op.state with
  | .commissioning | .normal | .test => { s with gp := { s.gp with running := true } }
  | .lightSleep | .deepSleep => s
  | .safe => { s with gp := gpCold s }
  | .start | .recovery => { s with gp := { gpCold s with resignTemplate := [], resignLeft := 0 } }

/-- The processors stop at the end of a sleep entry (R384 step 4, R437): in LightSleep the Guard Processor at a window boundary, its
state kept; in DeepSleep it loses everything but the last fault. -/
def gpSleep (s : State) : State :=
  match s.op.state with
  | .lightSleep =>
    let s1 := applyVerdicts (releaseHold s []).1
    { s1 with gp := { s1.gp with running := false, pass := 0, ended := true, halted := false } }
  | .deepSleep => { s with gp := { gpCold s with resignTemplate := [], resignLeft := 0 } }
  | _ => s

/-- The ports that lose their link at the entry of a state: all but a set (R384, R528). What waits for a processor or an engine is
discarded (R88). -/
def portsOff (s : State) (keep : Nat) : State :=
  (List.range' 38 5).foldl discardQueues
    ((List.range 38).foldl (fun t p => if linkIsUp t p ∧ !(bitOf keep p) then dropLink t p else t) s)

/-- The link states of ports without a link, as their settings give them. -/
def restLinks (s : State) : State := (List.range 43).foldl settleLink s

/-- The ports at the entry of a state: on in the working states, off in Start, Recovery and DeepSleep, and in LightSleep but for
the awake set (R23, R384, R385). -/
def portsEnter (s : State) : State :=
  match s.op.state with
  | .commissioning | .normal | .test | .safe => restLinks s
  | .lightSleep => portsOff s (s.val 0x2400 0x0C)
  | .start | .recovery | .deepSleep => portsOff s 0

/-- What the Zone Gate does at the entry of a state (R220): in Safe nothing waits for evaluation, in DeepSleep and Recovery no flow is
held. -/
def zoneEnter (s : State) : State :=
  match s.op.state with
  | .safe => discardQueue s
  | .deepSleep | .recovery => clearZone s
  | _ => s

/-- The managed segments that wake with the device: the wake set of the wake cause (R388, R403). -/
def causeWakeSet (s : State) : Nat :=
  let c := s.slp.cause.source.toNat
  if c < 20 then s.val (0x2420 + c) 5 else 0

/-- The bookkeeping of an entry: 2000h.01, .03, .04 and .05 (R33), the trial clock (R537), the wake hold (R393), HSTS bit 6. -/
def noteState (s : State) (new : OpState) (cause : Nat) : State :=
  let s1 := { s with
    op := { s.op with
      state := new, previous := BitVec.ofNat 8 s.op.state.code, cause := BitVec.ofNat 16 cause, enteredAt := s.time.tx,
      phase := 0, autoRestart := false },
    upd := { s.upd with normalSince := if new = .normal then some s.time.mono else none },
    slp := { s.slp with
      wakeHold := if new = .normal then decide (s.val 0x2400 6 ≠ 0) else s.slp.wakeHold, entering := false,
      ballot := { s.slp.ballot with state := 0, resend := false } } }
  raise (hostSignal s1 6) 0x2001 1 0xFF (be 1 new.code ++ be 1 s.op.state.code ++ be 2 cause)

/-- What the blocks do at the entry of a state (R23): the first state is the one before. -/
def enterBlocks (before s : State) : State :=
  let fromStart := decide (before.op.state = .start)
  let awake := decide (s.op.state = .normal)
  let woken := awake && (decide (before.op.state = .lightSleep) || (fromStart && before.op.warm))
  let s1 := if bridgeServes s then s else bridgeStop s
  let s2 := busEnter (gatewayEnter (audioEnter s1))
  let s3 := zoneEnter (gpEnter (powerEnter (positionEnter s2)))
  let s4 := segmentsEnter (portsEnter s3) (awake && decide (before.op.state = .lightSleep)) (if woken then causeWakeSet s3 else 0)
  let s5 := if s4.op.state = .normal ∧ (fromStart ∨ woken) then staggerPhy s4 else refreshPhy s4
  let s6 := if fromStart ∧ (awake ∨ s5.op.state = .commissioning) then startGateLists s5 else s5
  missedAtEntry (refreshStb (pairEnter (clockEnter s6 fromStart)) false)

/-- The device enters a state (R24, R35). -/
def enterState (s : State) (new : OpState) (cause : Nat) : State :=
  let s1 := noteState (cancelSets s 2) new cause
  let s2 := if served s1 then s1 else dropReplies s1
  emcyCleared s (enterBlocks s s2)

/-- The records from the newest checkpoint whose end is sealed (R514). -/
def replayRecords (recs : List JRec) : List JRec :=
  (recs.foldl (fun (acc : List JRec × List JRec × Bool) r =>
    match r.body, r.sealed with
    | .checkpointStart, true => (acc.1 ++ [r], [r], true)
    | .checkpointEnd, true => if acc.2.2 then (acc.2.1 ++ [r], [], false) else (acc.1 ++ [r], [], false)
    | _, _ => (acc.1 ++ [r], if acc.2.2 then acc.2.1 ++ [r] else [], acc.2.2)) ([], [], false)).1

/-- A counter of persistence P as the records give it, one record further (R41). -/
def replayCount (t : Tbl Nat) (b : JBody) : Tbl Nat :=
  match b with
  | .value k v => if isS32 k then tput t (k * 65536) (beNat v) else t
  | .cleared k => tput t k 0
  | _ => t

/-- The counters that the journal holds. -/
def journalCounts (s : State) : Tbl Nat :=
  ((replayRecords s.jour.recs).filter (fun r => r.sealed)).foldl (fun t r => replayCount t r.body) []

/-- What the counters of persistence P have counted beyond the journal: from DeepSleep the always-on domain hands its counts over, from
every other state they are lost with their records (R41, R387). -/
def keptCounters (s : State) : Tbl Nat :=
  let held := journalCounts s
  if s.op.state = .deepSleep then
    (s.cnt.filter (fun e => isPersistent (e.1 / 65536))).filterMap (fun e =>
      if tnat held e.1 < e.2 then some (e.1, e.2 - tnat held e.1) else none)
  else []

/-- The Inclusions whose records are sealed in the journal (R510). -/
def keptInclusions (s : State) : List (Nat × Bytes) :=
  s.wear.inclusions.filter (fun e => s.jour.recs.any (fun r => r.sealed && r.body == .inclusion e.1 e.2))

/-- The newest sealed record of the kind that a reader takes. -/
def lastRecord {α : Type} (s : State) (take : JBody → Option α) : Option α :=
  s.jour.recs.foldl (fun (found : Option α) r => if r.sealed then (match take r.body with | some x => some x | none => found) else found) none

/-- The counted Safe entries that the journal holds (R31). -/
def keptSafe (s : State) : List Nat := (lastRecord s (fun b => match b with | .safeEntries l => some l | _ => none)).getD []

/-- The hours that the journal holds (R517). -/
def keptHours (s : State) : Nat := (lastRecord s (fun b => match b with | .hours n => some n | _ => none)).getD 0

/-- What a reset leaves of the parts that live in flash, OTP and the always-on domain. -/
def coldBlocks (s : State) : State :=
  { State.reset with
    cnt := keptCounters s,
    jour := { s.jour with waiting := [], state := if s.jour.state = 1 then 0 else s.jour.state, freeing := 0 },
    wear := { WearBlock.reset with
      erases := s.wear.erases, retired := s.wear.retired, spares := s.wear.spares, bankWaiting := s.wear.bankWaiting,
      inclusions := keptInclusions s, inclusionNo := ((keptInclusions s).getLast?.map (fun e => e.1)).getD 0, hours := keptHours s },
    upd := { UpdateBlock.reset with
      banks := s.upd.banks, running := s.upd.running, target := s.upd.target, fuses := s.upd.fuses, lockFuse := s.upd.lockFuse },
    gp := { GpBlock.reset with fault := s.gp.fault },
    pair := { PairBlock.reset with epoch := s.pair.epoch },
    slp := { SleepBlock.reset with
      sources := s.slp.sources.map (fun w => { w with times := if s.op.state = .deepSleep then w.times else [] }),
      cause := s.slp.cause },
    tap := { s.tap with
      ir := if s.tap.ir = 0x00 ∨ s.tap.ir = 0x03 ∨ s.tap.ir = 0x04 then 0x02 else s.tap.ir,
      resetLow := false, challenge := none, token := none, failures := 0, blocked := false, invalid := false, isOpen := false },
    pins := { PinBlock.reset with porCount := s.pins.porCount, porArmed := s.pins.porArmed },
    out := s.out, drawn := s.drawn, pending := s.pending }

/-- The device restarts through Start (R24, R66, R67): everything volatile goes, and the discarded sets are reported, an applied one
without its commit mark among them. A validation that runs is abandoned, and 2200h.07 shows it (R61). -/
def restart (b : State) (cause : Nat) (straps : Straps) (recovery : Bool) : State :=
  let s := abandonValidation b
  let c := { coldBlocks s with cs := { CsBlock.reset with lastResult := if b.cs.validating.isSome then 6 else 0 } }
  let t := clockRestart { c with time := { c.time with mono := s.time.mono, tpo := s.time.tpo } }
  let op := { OpBlock.reset with
    previous := BitVec.ofNat 8 s.op.state.code, cause := BitVec.ofNat 16 cause, straps := straps, recoveryAsked := recovery,
    startedAt := s.time.mono, safeTimes := keptSafe s, watchdogLatched := decide (cause = 3), afterRecovery := s.op.afterRecovery }
  let t0 := { t with op := op, sessions := vmod t.sessions 16 (fun x => { x with own := tput x.own (okey 0x2620 1) (t.wear.inclusionNo + 1 - t.wear.inclusions.length) }) }
  let t1 := hostSignal t0 6
  let t2 := raise t1 0x2001 1 0xFF (be 1 0 ++ be 1 s.op.state.code ++ be 2 cause)
  let t3 := if s.cs.pending.isSome then raise t2 0x2203 2 0xFF (be 1 1 ++ openCode 0x2203 3) else t2
  let lost := s.jour.waiting.any (fun e => match e.1 with | .commit _ => true | _ => false)
  if s.cs.armed.isSome ∨ (lost ∧ s.cs.committed ≠ s.cs.gen) then raise t3 0x2203 2 0xFF (be 1 2 ++ openCode 0x2203 3) else t3

/-- POWER_ON_RESET_RELEASE (R24, R527, R570): the supply has risen, and the device enters Start. A supply that recovers without having
let the reset re-arm releases nothing (R32, R573). -/
def execPowerOnResetRelease (straps : Straps) (s : State) : Host.Outcome State Fault Refusal :=
  if s.pins.porArmed then
    .next (restart { s with pins := { s.pins with porCount := s.pins.porCount + 1, porArmed := false } } 1 straps false)
  else .next s

/-- POWER_ON_RESET_REARM (R570): the reset is armed again, and RSTOUT_N is low. -/
def execPowerOnResetRearm (s : State) : Host.Outcome State Fault Refusal :=
  .next { s with pins := { s.pins with porArmed := true, rstoutN := false } }

/-- RESET_N_PULSE (R24). -/
def execResetNPulse (straps : Straps) (s : State) : Host.Outcome State Fault Refusal := .next (restart s 2 straps false)

/-- WATCHDOG_EXPIRY (R24, R508): latched for the next start. -/
def execWatchdogExpiry (straps : Straps) (s : State) : Host.Outcome State Fault Refusal := .next (restart s 3 straps false)

/-- Event 2002h (R26, R28, R29): reasons 1 in transition, 2 role, 3 emergency active, 4 not allowed. -/
def requestRefused (s : State) (code reason : Nat) : State := raise s 0x2002 2 0xFF (be 1 code ++ be 1 s.op.state.code ++ be 1 reason)

/-- The states from which R24 allows a request, by its code. -/
def requestAllowed (s : State) (code : Nat) : Bool :=
  match code, s.op.state with
  | 0, .commissioning | 0, .normal | 0, .test | 0, .recovery | 0, .safe => true
  | 4, .commissioning | 4, .normal | 4, .test | 4, .safe => true
  | 1, .normal => true
  | 2, .commissioning | 3, .commissioning => true
  | 7, .normal | 7, .commissioning | 7, .test => true
  | _, _ => false

/-- The commit time of a committed ballot has come: the sleep entry stands above a write to 2000h.02 (R25, R398). -/
def commitDue (s : State) : Bool :=
  decide (s.op.state = .normal) && decide (s.slp.ballot.state = 3) && dueT32 s.slp.ballot.commitAt s.now

/-- What stands against a request (R25, R28, R29): the result and the reason, none where it is carried out. A write that the sleep entry
drops is answered as refused, in transition (DEDUCED, log entry 175). -/
def requestBar (s : State) (ses code : Nat) : Option (Nat × Nat) :=
  if code = 5 ∨ code = 6 then some (0x0F, 4)
  else if code = 3 ∧ roleOf s ses < 3 then some (5, 2)
  else if s.aud.emergency ∧ (code = 0 ∨ code = 1 ∨ code = 3 ∨ code = 4) then some (0x0F, 3)
  else if commitDue s then some (0x0F, 1)
  else if requestAllowed s code then none
  else some (0x0F, 4)

/-- A write to 2000h.02 (R24 to R29): the checks of every write, then those of the request. A request that is carried out is
answered first. -/
def request (s : State) (ses : SessionNo) (code : Nat) (act : State → State) : State :=
  if served s && isOpen s ses.val then
    match writeCheck s ses.val 0x2000 2 (be 1 code) with
    | .inr c =>
      let t := if c = 5 then requestRefused s code 2 else if c = 6 then requestRefused s code (if s.op.state = .start then 1 else 4) else s
      reply t (.session ses) (BitVec.ofNat 8 c) []
    | .inl _ =>
      match requestBar s ses.val code with
      | some r => reply (requestRefused s code r.2) (.session ses) (BitVec.ofNat 8 r.1) []
      | none => act (reply s (.session ses) 0 [])
  else s

/-- An Active device that leaves Normal by a write to 2000h.02 sends a resign frame with cause 2 (R465). -/
def resignLeaving (s : State) : State := if s.pair.role = .active then sendPair s 0 0x32 (be 1 2) else s

/-- REQUEST_RESTART (R24). -/
def execRequestRestart (ses : SessionNo) (straps : Straps) (s : State) : Host.Outcome State Fault Refusal :=
  .next (request s ses 0 (fun t => restart (resignLeaving t) 4 straps false))

/-- REQUEST_RECOVERY (R24): the start that follows goes to Recovery. -/
def execRequestRecovery (ses : SessionNo) (straps : Straps) (s : State) : Host.Outcome State Fault Refusal :=
  .next (request s ses 4 (fun t => restart (resignLeaving t) 0x14 straps true))

/-- REQUEST_COMMISSIONING (R24). -/
def execRequestCommissioning (ses : SessionNo) (s : State) : Host.Outcome State Fault Refusal :=
  .next (request s ses 1 (fun t => enterState (resignLeaving t) .commissioning 0x20))

/-- REQUEST_TEST (R24, R29): of a Vendor session only. -/
def execRequestTest (ses : SessionNo) (s : State) : Host.Outcome State Fault Refusal :=
  .next (request s ses 3 (fun t => enterState t .test 0x20))

/-- REQUEST_SLEEP_STATE (R29): always refused. -/
def execRequestSleepState (ses : SessionNo) (deep : Bool) (s : State) : Host.Outcome State Fault Refusal :=
  .next (request s ses (if deep then 6 else 5) (fun t => t))

/-- The counted Safe entries within 3,600 s, by the device's own count in seconds (R31, DEDUCED, log entry 60). -/
def recentSafe (s : State) : List Nat := s.op.safeTimes.filter (fun t => decide (s.time.mono / 1000000000 < t + 3600))

/-- The count of a Safe entry and what it means for the automatic restart (R31). Where 2000h.07 is 0 there is no automatic restart to
suppress, and the third entry raises no event 2004h (DESIGN CHOICE, log entry 160). -/
def countSafe (s : State) : State :=
  let times := (s.time.mono / 1000000000) :: recentSafe s
  let s1 := jAppend { s with op := { s.op with safeTimes := times } } (.safeEntries times) .nobody
  let s2 := bump s1 0x2000 8
  if s.val 0x2000 7 = 0 then s2
  else if times.length < 3 then { s2 with op := { s2.op with autoRestart := true } }
  else raise s2 0x2004 3 0xFF (be 4 times.length)

/-- A GP fault (R432 to R435): the verdicts that wait are discarded, the resign frame leaves, the device enters Safe, and the
fault is recorded. Causes 1 to 6 as R433; for a parity error, the entry. -/
def gpFault (s : State) (cause entry : Nat) (sig1 sig2 : BitVec 64) : State :=
  let task := if s.gp.pass = 0 then 0xFF else s.gp.task.getD 0xFF
  let window := s.gp.window
  let probe := s.gp.probeBit
  let f : GpFault :=
    { cause := BitVec.ofNat 8 cause, tx := s.time.tx, stamp := s.now, task := BitVec.ofNat 8 task, window := window,
      sig1 := sig1, sig2 := sig2, retired := s.gp.retired, entry := BitVec.ofNat 8 entry }
  let code := if cause = 4 then 0x41 else if cause = 5 then 0x42 else 0x40
  let s1 := sendResign (bump (discardVerdicts s) 0x2940 0x0A)
  let s2 := { s1 with gp := { s1.gp with fault := f, resignLeft := if s1.gp.resignTemplate.isEmpty then 0 else 2 } }
  let s2b := enterState s2 .safe code
  let s3 := { s2b with gp := { s2b.gp with resignTemplate := s2.gp.resignTemplate } }
  let s4 := recordInclusion s3 4 cause (be 1 task ++ be 4 window.toNat ++ be 1 entry)
  let s5 :=
    if cause = 4 then raise s4 0x2902 4 0xFF (be 1 probe)
    else if cause = 5 then raise s4 0x2903 4 0xFF (be 1 entry ++ be 1 task)
    else raise s4 0x2901 4 0xFF (be 1 cause ++ be 1 task ++ be 4 window.toNat)
  let num := if journalOpen s3 then be 4 s4.wear.inclusionNo else []
  countSafe (raise s5 0x2003 3 0xFF (be 2 code ++ num))

/-- Safe on request (R436). -/
def goSafe (t : State) : State :=
  let t1 := enterState (discardVerdicts (resignLeaving t)) .safe 0x43
  let t2 := { t1 with gp := { t1.gp with resignLeft := 0 } }
  let t3 := raise t2 0x2003 3 0xFF (be 2 0x43)
  if t3.val 0x2000 7 = 0 then t3 else { t3 with op := { t3.op with autoRestart := true } }

/-- REQUEST_SAFE (R436): an Active first resigns; no Inclusion, and the entry is not counted (R31). -/
def execRequestSafe (ses : SessionNo) (s : State) : Host.Outcome State Fault Refusal :=
  .next (request s ses 7 goSafe)

/-- SAFE_AUTO_RESTART (R31): no reset release, so the straps are not sampled again (R527). -/
def execSafeAutoRestart (_straps : Straps) (s : State) : Host.Outcome State Fault Refusal :=
  if s.op.state = .safe ∧ s.op.autoRestart then .next (restart s 0x44 s.op.straps false) else .next s

/-- RESIGN_FRAME_REPEAT (R434). -/
def execResignFrameRepeat (s : State) : Host.Outcome State Fault Refusal :=
  if 0 < s.gp.resignLeft then
    let s1 := sendResign s
    .next { s1 with gp := { s1.gp with resignLeft := s1.gp.resignLeft - 1 } }
  else .next s

end Sys2Proof.Machine
end

