-- ==== Sys2Proof/Machine/Cvu.lean ====
section
/-! DEFINITION. The check-value units (R493 to R496), with the commands CVU_CONFIG_WRITE, CVU_START, CVU_CLAIM, CVU_RELEASE,
CVU_FEED_BYTE, CVU_FEED_HALF_WORD and CVU_FEED_WORD. -/

namespace Sys2Proof.Machine

/-- A unit's registers. -/
def cvuOf (s : State) (u : Nat) : Cvu := (s.cvu[u]?).getD Cvu.reset

def setCvu (s : State) (u : Nat) (f : Cvu → Cvu) : State := { s with cvu := vmod s.cvu u f }

/-- The claim-holder code of an interface (R493). -/
def cvuHolder : CvuSource → BitVec 2
  | .firmware => 0
  | .host => 1
  | .spi => 2

/-- The width w of CVCFG (R494). -/
def cvuWidth (c : Cvu) : Nat := bitsOf c.cfg.toNat 5 0 + 1

/-- The low w bits. -/
def cvuMask (c : Cvu) (v : BitVec 32) : BitVec 32 := BitVec.ofNat 32 (v.toNat % 2 ^ cvuWidth c)

/-- The low n bits of a number, reversed. -/
def reverseBits (n v : Nat) : Nat := (List.range n).foldl (fun r i => r * 2 + v / 2 ^ i % 2) 0

/-- One bit of a fed byte (R495). -/
def cvuBit (c : Cvu) (v : Nat) (b i : Nat) : Nat :=
  let w := cvuWidth c
  let fb := (v / 2 ^ (w - 1) % 2) != (b / 2 ^ i % 2)
  let sh := v * 2 % 2 ^ w
  if fb then sh ^^^ (c.poly.toNat % 2 ^ w) else sh

/-- One fed byte (R495). -/
def cvuByte (c : Cvu) (b : Nat) : Cvu :=
  let x := if c.cfg.getLsbD 6 then reverseBits 8 b else b
  let v := [7, 6, 5, 4, 3, 2, 1, 0].foldl (fun v i => cvuBit c v x i) (c.value.toNat % 2 ^ cvuWidth c)
  { c with value := BitVec.ofNat 32 v }

/-- The bytes of a fed value of n bytes, in feed order (R494). -/
def cvuBytes (c : Cvu) (n : Nat) (v : Nat) : List Nat :=
  let l := (List.range n).map (fun i => v / 256 ^ i % 256)
  if c.cfg.getLsbD 8 then l.reverse else l

/-- The result (R495): formed at the read. -/
def cvuResult (c : Cvu) : BitVec 32 :=
  let v := (cvuMask c c.value).toNat
  let r := if c.cfg.getLsbD 7 then reverseBits (cvuWidth c) v else v
  cvuMask c (BitVec.ofNat 32 r ^^^ c.xor)

/-- CVSTS (R493): a feed is complete when it is answered, so bit 2 reads 0. -/
def cvuStatus (c : Cvu) : BitVec 32 :=
  BitVec.ofNat 32 (min 65535 c.ignored * 65536 + boolNat c.cfgError * 8 + c.claim.toNat)

/-- Does an interface reach a unit (R493)? -/
def cvuReaches (u : Nat) (src : CvuSource) : Bool :=
  match src with
  | .firmware => decide (u < 2)
  | .host | .spi => decide (2 ≤ u) && decide (u < 4)

/-- A write to a unit: not from an interface that does not reach it, and ignored and counted while another interface holds the
claim (R496). -/
def cvuWrite (s : State) (u : Nat) (src : CvuSource) (act : Cvu → Cvu) : State :=
  if !(cvuReaches u src) then s
  else if (cvuOf s u).claim ≠ 0 ∧ (cvuOf s u).claim ≠ (cvuHolder src) then
    setCvu s u (fun c => { c with ignored := min 65535 (c.ignored + 1) })
  else setCvu s u act

/-- A write of CVCFG (R494); a width above 32 is refused like one below 3 (DEDUCED, log entry 62). -/
def cvuConfig (v : BitVec 32) (c : Cvu) : Cvu :=
  let n := bitsOf v.toNat 5 0
  if n < 2 ∨ 31 < n then { c with cfgError := true } else { c with cfg := v &&& 0x1FF, cfgError := false }

def cvuLoad (c : Cvu) : Cvu := { c with value := cvuMask c c.init }

/-- Claims exist on CVU2 and CVU3 only. -/
def cvuTake (src : CvuSource) (c : Cvu) : Cvu := { c with claim := (cvuHolder src) }

def cvuDrop (c : Cvu) : Cvu := { c with claim := 0 }

def cvuFeed (n : Nat) (v : Nat) (c : Cvu) : Cvu := (cvuBytes c n v).foldl cvuByte c

/-- The claims of an interface end (R496). -/
def cvuRelease (s : State) (src : CvuSource) : State :=
  { s with cvu := s.cvu.map (fun c => if c.claim = (cvuHolder src) then cvuDrop c else c) }

/-- CVU_START (R493). -/
def execCvuStart (unit : Fin 4) (src : CvuSource) (s : State) : Host.Outcome State Fault Refusal :=
  .next (cvuWrite s unit.val src cvuLoad)

/-- CVU_CLAIM (R496). -/
def execCvuClaim (unit : Fin 4) (src : CvuSource) (s : State) : Host.Outcome State Fault Refusal :=
  .next (cvuWrite s unit.val src (cvuTake src))

/-- CVU_RELEASE (R496). -/
def execCvuRelease (unit : Fin 4) (src : CvuSource) (s : State) : Host.Outcome State Fault Refusal :=
  .next (cvuWrite s unit.val src cvuDrop)

/-- CVU_FEED_BYTE (R495). -/
def execCvuFeedByte (unit : Fin 4) (src : CvuSource) (value : BitVec 8) (s : State) : Host.Outcome State Fault Refusal :=
  .next (cvuWrite s unit.val src (cvuFeed 1 value.toNat))

/-- CVU_FEED_HALF_WORD (R495). -/
def execCvuFeedHalfWord (unit : Fin 4) (src : CvuSource) (value : BitVec 16) (s : State) : Host.Outcome State Fault Refusal :=
  .next (cvuWrite s unit.val src (cvuFeed 2 value.toNat))

/-- CVU_FEED_WORD (R495). -/
def execCvuFeedWord (unit : Fin 4) (src : CvuSource) (value : BitVec 32) (s : State) : Host.Outcome State Fault Refusal :=
  .next (cvuWrite s unit.val src (cvuFeed 4 value.toNat))

/-- A register write by its offset within the unit's block (R493): read-only and unlisted offsets take none. -/
def cvuRegWrite (s : State) (u : Nat) (src : CvuSource) (off : Nat) (v : BitVec 32) : State :=
  match off with
  | 0x00 => cvuWrite s u src (cvuConfig v)
  | 0x04 => cvuWrite s u src (fun c => { c with poly := cvuMask c v })
  | 0x08 => cvuWrite s u src (fun c => { c with init := cvuMask c v })
  | 0x0C => cvuWrite s u src (fun c => { c with xor := cvuMask c v })
  | 0x10 => cvuWrite s u src (fun c => { c with value := cvuMask c v })
  | 0x14 => cvuWrite s u src (fun c =>
      let c1 := if v.getLsbD 1 then cvuTake src c else cvuDrop c
      if v.getLsbD 0 then cvuLoad c1 else c1)
  | 0x20 => cvuWrite s u src (cvuFeed 1 (v.toNat % 256))
  | 0x24 => cvuWrite s u src (cvuFeed 2 (v.toNat % 65536))
  | 0x28 => cvuWrite s u src (cvuFeed 4 v.toNat)
  | _ => s

/-- CVU_CONFIG_WRITE (R493, R494): one of the five registers of a context, from CVCFG to CVVAL. -/
def execCvuConfigWrite (unit : Fin 4) (src : CvuSource) (reg : Fin 5) (value : BitVec 32) (s : State) : Host.Outcome State Fault Refusal :=
  .next (cvuRegWrite s unit.val src (4 * reg.val) value)

/-- A register read by its offset (R493); write-only and unlisted offsets read as all ones (R546). -/
def cvuRegRead (s : State) (u off : Nat) : BitVec 32 :=
  let c := cvuOf s u
  match off with
  | 0x00 => c.cfg
  | 0x04 => cvuMask c c.poly
  | 0x08 => cvuMask c c.init
  | 0x0C => cvuMask c c.xor
  | 0x10 => cvuMask c c.value
  | 0x18 => cvuStatus c
  | 0x1C => cvuResult c
  | _ => 0xFFFFFFFF

end Sys2Proof.Machine
end

