-- ==== Sys2Proof/Machine/HostRings.lean ====
section
/-! DEFINITION. The PCIe host interface but for its mailbox (R545 to R557, R576), with the commands HSTS_CLEAR,
INTERFACE_RESET, HPREQ_WRITE, HPFREE_WRITE, HPGIVE_WRITE, HPADAT_READ, HPADAT_WRITE, RTAIL_WRITE, RING_RESET, RING_ENABLE,
TX_DESCRIPTOR_PROCESS, RX_FRAME_DELIVERY, INTERRUPT_MODERATION_EXPIRY, PCIE_LINK_UP, PCIE_LINK_DOWN and
PCIE_POWER_STATE_CHANGE. Rings 0 to 7 are TX, 8 to 15 RX. -/

namespace Sys2Proof.Machine

def setRing (s : State) (r : Nat) (f : Ring → Ring) : State := { s with host := { s.host with rings := vmod s.host.rings r f } }

/-- The owner ID of a ring (R552): 16 to 23 TX, 24 to 31 RX. -/
def ringOwner (r : Nat) : Nat := 16 + r

/-- RSIZE is a power of two from 16 to 4,096 (R552). -/
def ringSizeOk (x : Ring) : Bool := [16, 32, 64, 128, 256, 512, 1024, 2048, 4096].contains x.size.toNat

/-- A ring stops on an error (R552, R553), with event 2802h. -/
def ringStop (s : State) (r err : Nat) : State :=
  let s1 := setRing s r (fun x => { x with sts := BitVec.ofNat 32 (2 + 256 * err) })
  raise (discardHost (hostSignal s1 5)) 0x2802 3 0xFF (be 1 r ++ be 1 err)

/-- The address of a descriptor in host memory. -/
def descAddress (x : Ring) (i : Nat) : Nat := x.bash.toNat * 2 ^ 32 + x.basl.toNat / 64 * 64 + 32 * i

/-- The MSI-X message of a ring leaves (R554). -/
def ringSignal (s : State) (r : Nat) : State :=
  let v := bitsOf (ring s r).ctl.toNat 7 4
  let s1 := setRing s r (fun x => { x with unsignalled := 0 })
  if v = 0 then s1 else emit s1 (.msix v)

/-- A completed descriptor: bytes 16 to 31 are written, then RHEAD; an eligible one signals at once or waits for the moderation
time (R554). -/
def completeDesc (s : State) (r : Nat) (bytes : Bytes) (eligible : Bool) : State :=
  let x := ring s r
  let s1 := emit s (.dma (descAddress x x.head + 16) bytes)
  let s2 := setRing s1 r (fun y => { y with head := if y.size = 0 then 0 else (y.head + 1) % y.size.toNat })
  if !eligible then s2
  else
    let s3 := setRing s2 r (fun y => { y with
      unsignalled := y.unsignalled + 1, since := if y.unsignalled = 0 then s.time.mono else y.since })
    if bitsOf x.ctl.toNat 31 16 = 0 then ringSignal s3 r else s3

/-- A ring is reset (R555): device-owned descriptors complete with code 5, the pointers are 0, its buffers return, and it is
left disabled. -/
def resetRing (s : State) (r : Nat) : State :=
  let x := ring s r
  let n := if x.size = 0 then 0 else (x.tail + x.size.toNat - x.head) % x.size.toNat
  let s1 := (List.range n).foldl (fun t i =>
    emit t (.dma (descAddress x ((x.head + i) % x.size.toNat) + 16) (be 1 0x85 ++ zeros 15))) s
  let s2 := setRing s1 r (fun y => { y with head := 0, tail := 0, ctl := y.ctl &&& 0xFFFFFFFC, sts := 0, unsignalled := 0 })
  reclaim (discardHost s2) (fun t => t.owner == ringOwner r)

/-- An interface reset (R555). -/
def interfaceReset (s : State) : State :=
  let s1 := (List.range 16).foldl resetRing (forgetReplies s (fun r => r == .mailbox))
  let s2 := { s1 with host := { s1.host with
    mailbox := List.replicate 16 0, window := List.replicate 1200 0, answer := List.replicate 16 0, busy := false, result := none,
    sts := s1.host.sts &&& 0xFFFFFFFE, buffers := [] } }
  reclaim (cvuRelease s2 .host) (fun t => t.owner == 8)

/-- INTERFACE_RESET (R555). -/
def execInterfaceReset (s : State) : Host.Outcome State Fault Refusal :=
  if hostReaches s then .next (interfaceReset s) else .next s

/-- RING_RESET (R555). -/
def execRingReset (ring : Fin 16) (s : State) : Host.Outcome State Fault Refusal :=
  if hostReaches s then .next (resetRing s ring.val) else .next s

/-- HSTS_CLEAR (R549): bits 0, 5, 6 and 7. -/
def execHstsClear (value : BitVec 32) (s : State) : Host.Outcome State Fault Refusal :=
  if hostReaches s then .next { s with host := { s.host with sts := s.host.sts &&& ~~~ (value &&& 0xE1) } } else .next s

/-- The last request is done (R551). -/
def hpDone (s : State) : Bool := s.host.pres.getLsbD 31 || s.host.pres == 0

/-- Pool access is served (R557): Recovery serves the control registers, the mailbox and the check-value units only. -/
def poolServed (s : State) : Bool := hostReaches s && decide (s.op.state ≠ .recovery)

/-- HPREQ_WRITE (R551): the Pool Manager decides within the command. -/
def execHpreqWrite (value : BitVec 32) (s : State) : Host.Outcome State Fault Refusal :=
  if poolServed s && hpDone s then
    let size := bitsOf value.toNat 20 0
    let r := poolRequestOne s 8 size (value.getLsbD 31)
    match r.2 with
    | some h => .next { r.1 with host := { r.1.host with pres := 0x80000000, phdl := h } }
    | none =>
      let cause : BitVec 32 := if size = 0 ∨ 1048576 < size then 2 else 0
      .next { r.1 with host := { r.1.host with pres := 0xC0000000 ||| cause } }
  else .next s

/-- HPFST (R551): 0, or the misuse kind of the rejection. -/
def handleFault (s : State) (h : BitVec 32) (give : Bool) : BitVec 32 :=
  match handleCheck s 8 h give with
  | .inl k => BitVec.ofNat 32 k.1
  | .inr _ => 0

/-- The key of a buffer's byte in the aperture's memory. -/
def apertureKey (h : BitVec 32) (off : Nat) : Nat := h.toNat * 2 ^ 21 + off

/-- A buffer that HOST no longer holds: what it is granted next holds other data, so that its bytes are not known. -/
def forgetBuffer (s : State) (h fault : BitVec 32) : State :=
  if fault = 0 then { s with host := { s.host with buffers := s.host.buffers.filter (fun e => decide (e.1 / 2 ^ 21 ≠ h.toNat)) } } else s

/-- HPFREE_WRITE (R551). -/
def execHpfreeWrite (value : BitVec 32) (s : State) : Host.Outcome State Fault Refusal :=
  if poolServed s then
    let f := handleFault s value false
    let s1 := poolFreeOp (forgetBuffer s value f) 8 value
    .next { s1 with host := { s1.host with pfst := f } }
  else .next s

/-- HPGIVE_WRITE (R551), with HPGTO as the host has written it. -/
def execHpgiveWrite (value : BitVec 32) (dest : BitVec 32) (s : State) : Host.Outcome State Fault Refusal :=
  if poolServed s then
    let f := handleFault s value true
    let s1 := poolGiveOp (forgetBuffer s value f) 8 value (dest.toNat % 32)
    .next { s1 with host := { s1.host with pfst := f, pgto := dest } }
  else .next s

/-- The aperture works (R551): the tag of HPASEL has owner 8, state 1 and the handle's generation, and HPAOFF lies below the
class size. -/
def apertureOpen (s : State) : Bool :=
  let h := s.host.pasel
  let c := handleClass h
  let x := poolClass s c
  let t := tagOf x (handleIndex h)
  decide (c < 6) && decide (handleIndex h < x.laid) && t.owner == 8 && t.state == 1 && t.gen == handleGen h &&
    decide (s.host.paoff.toNat < classSize c)

/-- A buffer's byte; one never written is a free value (DESIGN CHOICE, log entry 63). -/
def bufferByte (s : State) (h : BitVec 32) (off : Nat) : Byte :=
  (tget s.host.buffers (apertureKey h off)).getD (BitVec.ofInt 8 (Config.freeOf 63 [(h.toNat : Int), (off : Int)]))

def advanceAperture (s : State) : State := { s with host := { s.host with paoff := s.host.paoff + 4 } }

/-- HPASEL and HPAOFF as the host has written them before the access, if it has. -/
def setAperture (s : State) (aperture : Option (BitVec 32 × BitVec 32)) : State :=
  match aperture with
  | some a => { s with host := { s.host with pasel := a.1, paoff := a.2 } }
  | none => s

/-- HPADAT_READ (R551). Where pool access is not served it reads as all ones (R546, R557, log entry 205). -/
def execHpadatRead (aperture : Option (BitVec 32 × BitVec 32)) (s0 : State) : Host.Outcome State Fault Refusal :=
  let s := setAperture s0 aperture
  if poolServed s0 then
    if apertureOpen s then
      let o := s.host.paoff.toNat
      let v := (List.range 4).foldl (fun n i => n + (bufferByte s s.host.pasel (o + i)).toNat * 256 ^ i) 0
      .next (advanceAperture (emit s (.register (BitVec.ofNat 32 v))))
    else .next (advanceAperture (emit (bump s 0x2810 0x0B) (.register 0xFFFFFFFF)))
  else .next (emit s0 (.register 0xFFFFFFFF))

/-- HPADAT_WRITE (R551). -/
def execHpadatWrite (aperture : Option (BitVec 32 × BitVec 32)) (value : BitVec 32) (s0 : State) : Host.Outcome State Fault Refusal :=
  let s := setAperture s0 aperture
  if poolServed s0 then
    if apertureOpen s then
      let o := s.host.paoff.toNat
      let t := (List.range 4).foldl (fun (t : Tbl Byte) i => tput t (apertureKey s.host.pasel (o + i)) (BitVec.ofNat 8 (value.toNat / 256 ^ i))) s.host.buffers
      .next (advanceAperture { s with host := { s.host with buffers := t } })
    else .next (advanceAperture (bump s 0x2810 0x0B))
  else .next s0

/-- RTAIL_WRITE (R552). -/
def execRtailWrite (ring : Fin 16) (value : BitVec 32) (s : State) : Host.Outcome State Fault Refusal :=
  let x := Sys2Proof.Machine.ring s ring.val
  if !(hostReaches s) then .next s
  else if x.size.toNat ≤ value.toNat then .next (ringStop s ring.val 3)
  else .next (setRing s ring.val (fun y => { y with tail := value.toNat }))

/-- RING_ENABLE (R552): a bad RSIZE stops the ring with error 1; queued HOST frames without a running ring go. -/
def execRingEnable (change : RingEnableChange) (s : State) : Host.Outcome State Fault Refusal :=
  if !(hostReaches s) then .next s
  else match change with
  | .enable r base size rctl =>
    let s1 := setRing s r.val (fun y => if y.ctl.getLsbD 0 then { y with ctl := (rctl &&& 0xFFFFFFFC) ||| 1 } else
      { y with basl := base.setWidth 32 &&& 0xFFFFFFC0, bash := (base >>> 32).setWidth 32, size := size,
               ctl := (rctl &&& 0xFFFFFFFC) ||| 1, sts := 0 })
    .next (if ringSizeOk (ring s1 r.val) then s1 else ringStop s1 r.val 1)
  | .disable r => .next (discardHost (setRing s r.val (fun y => { y with ctl := y.ctl &&& 0xFFFFFFFE })))
  | .dma hctl hien => .next (discardHost { s with host := { s.host with ctl := hctl &&& 5, ien := hien } })
  | .busMaster on => .next (discardHost { s with host := { s.host with busMaster := on } })

/-- A little-endian field of a descriptor. -/
def leAt (b : Bytes) (off n : Nat) : Nat := leNat (slice b off n)

/-- The stamp fields that both descriptors carry. -/
def txDone (s : State) (code : Nat) : Bytes :=
  be 1 (0x80 + code) ++ zeros 3 ++ le 4 s.now.toNat ++ le 2 (txSecondsOf s) ++ zeros 6

/-- A TX descriptor in error (R553). -/
def txError (s : State) (r code : Nat) (flag : Bool) : State := completeDesc (bump s 0x2810 8) r (txDone s code) flag

/-- The internal header of a TX descriptor's frame. Of VID and class the bits that fit
are taken (DEDUCED, log entry 64). -/
def txHeader (d : Bytes) : Bytes := be 2 (leAt d 12 2 % 4096) ++ be 1 (byteAt d 11 % 8) ++ zeros 13

/-- The frame is handed to Lookup, its buffer returned, the descriptor completed. -/
def txHand (s : State) (r : Nat) (d data : Bytes) (h : BitVec 32) : State :=
  let s1 := innerFrame s 38 (txHeader d) (data ++ zeros (60 - data.length)) s.now
  completeDesc (poolFreeOp s1 (ringOwner r) h) r (txDone s 0) (bitOf (byteAt d 10) 0)

/-- The TX ring whose turn it is (R553): the next one after the last served that runs and holds a posted descriptor. -/
def txTurn (s : State) : Option Nat :=
  ((List.range 8).map (fun i => (s.host.lastTx + 1 + i) % 8)).find? (fun r => ringRuns s r && (ring s r).head != (ring s r).tail)

/-- A TX descriptor takes its ring's turn (R553). -/
def txDescriptor (b : State) (r : Nat) (desc : TxDescriptor) (memory : HostMemory) : State :=
  let s := { b with host := { b.host with lastTx := r } }
  let d := desc.bytes
  let len := leAt d 8 2
  let flag := bitOf (byteAt d 10) 0
  let handle := BitVec.ofNat 32 (leAt d 0 4)
  if len < 14 ∨ s.val 0x3026 5 - 4 < len then txError s r 1 flag
  else if bitOf (byteAt d 10) 2 then
    match handleCheck s 8 handle true with
    | .inl _ => txError (poolGiveOp s 8 handle (ringOwner r)) r 4 flag
    | .inr _ =>
      let data := (List.range len).map (fun i => bufferByte s handle i)
      txHand (poolGiveOp (forgetBuffer s handle 0) 8 handle (ringOwner r)) r d data handle
  else
    let p := poolRequestOne s (ringOwner r) len true
    match p.2, memory with
    | none, _ => txError p.1 r 2 flag
    | some h, .data b => txHand p.1 r d (padTo len b) h
    | some h, .error =>
      let s1 := bump (poolFreeOp p.1 (ringOwner r) h) 0x2810 0x0A
      ringStop (txError s1 r 3 flag) r 2

/-- TX_DESCRIPTOR_PROCESS (R553): the rings are served in turn. -/
def execTxDescriptorProcess (ring : Fin 8) (desc : TxDescriptor) (memory : HostMemory) (s : State) : Host.Outcome State Fault Refusal :=
  if txTurn s = some ring.val then .next (txDescriptor s ring.val desc memory) else .next s

/-- What bytes 16 to 31 of an RX descriptor say of a frame (R553). -/
def rxDone (s : State) (f : Frame) (code len : Nat) : Bytes :=
  be 1 (0x80 + code) ++ be 1 f.verdict.tc ++ le 2 len ++ le 4 f.stamp.toNat ++ le 2 (txSecondsOf s) ++ be 1 f.ingress ++ zeros 1 ++
    le 2 f.verdict.vid ++ le 2 f.verdict.handle

/-- A frame leaves HOST queue c into the next descriptor of its ring: its cells are read and its received FCS is rechecked (R93, R553). -/
def rxDeliver (s : State) (c : Nat) (size : Nat) (hostError : Bool) (reads : List CellRead) (k : Copy) (f : Frame) : State :=
  let rd := readFrame s f 38 0 reads
  let got := rd.2.2.take f.bytes.length
  if rd.2.1 ∨ recheckFails f got then dropHead rd.1 38 c 0x0D
  else
    let r := 8 + c
    let b := noFcs (sentBytes rd.1 { f with bytes := got } 38 k.mirror)
    let x := ring s r
    let code := if size < b.length then 1 else 0
    let s1 := wideN (wideN (wideN rd.1 0x3100 38 5 1) 0x3100 38 6 (b.length + 4)) 0x38C0 38 (3 + c) 1
    let s2 := doneDest (dequeue (chargeSent s1 38 c (b.length + 4) 0) 38 c) k.frame 38 k.mirror
    if hostError then
      ringStop (completeDesc (bump s2 0x2810 0x0A) r (be 1 0x83 ++ zeros 15) true) r 2
    else
      let s3 := if code = 1 then bump s2 0x2810 9 else s2
      completeDesc (emit s3 (.hostBuffer r x.head (b.take size))) r (rxDone s f code b.length) true

/-- HOST queue c may be served (R553): its first frame is whole, and its ring runs with a posted descriptor. -/
def hostReady (s : State) (c : Nat) : Bool :=
  let x := ring s (8 + c)
  ringRuns s (8 + c) && x.head != x.tail &&
    (match queue s (queueNo 38 c) with
      | k :: _ => (match frameOf s k.frame with | some f => f.ended | none => false)
      | [] => false)

/-- RX_FRAME_DELIVERY (R157, R159, R553): the queue that selection gives hands its first frame to its ring; without a running ring its
frames are discarded. -/
def execRxFrameDelivery (ring : Fin 8) (buffer : HostBuffer) (reads : List CellRead) (s : State) :
    Host.Outcome State Fault Refusal :=
  let c := ring.val
  if !(ringRuns s (8 + c)) then .next (discardHost s)
  else
    let r := selectClass s (hostReady s) 38
    if r.2 ≠ some c then .next s
    else match queue r.1 (queueNo 38 c) with
    | [] => .next s
    | k :: _ =>
      match frameOf r.1 k.frame with
      | none => .next s
      | some f => .next (rxDeliver r.1 c buffer.size.toNat buffer.error reads k f)

/-- The moderation time of a ring has passed since its first completion not yet signalled (R554). -/
def moderationOver (s : State) (r : Nat) : Bool :=
  let x := ring s r
  decide (0 < x.unsignalled) && decide (x.since + 1000 * bitsOf x.ctl.toNat 31 16 ≤ s.time.mono)

/-- INTERRUPT_MODERATION_EXPIRY (R554). -/
def execInterruptModerationExpiry (ring : Fin 16) (s : State) : Host.Outcome State Fault Refusal :=
  if moderationOver s ring.val then .next (ringSignal s ring.val) else .next s

/-- The link trains once phase 1 of a start has ended, and not while asleep (R557). -/
def linkMayTrain (s : State) : Bool := served s && !(decide (s.op.state = .start) && decide (s.op.phase ≤ 1))

/-- PCIE_LINK_UP (R47, R557): session 17 opens, in Recovery as Maintainer (R539). -/
def execPcieLinkUp (rate : Fin 4) (s : State) : Host.Outcome State Fault Refusal :=
  if !(linkMayTrain s) then .next s
  else
    let s1 := { s with host := { s.host with link := 1, rate := BitVec.ofNat 8 rate.val, d3hot := false } }
    let s2 := if isOpen s1 17 then s1 else openSession s1 17 (if s.op.state = .recovery then 2 else s.val 0x2110 4) 4
    let s3 := raise s2 0x2801 1 0xFF (be 1 1 ++ be 1 rate.val)
    .next (if linkIsUp s3 38 then s3 else linkChanged s3 38 1 0)

/-- The link goes down, or PERST_N is driven (R557). -/
def pcieDown (s : State) : State :=
  if s.host.link = 0 then s
  else
    let s1 := interfaceReset (closeSession s 17 6)
    let s2 := reclaim s1 (fun t => t.owner == 8 || decide (16 ≤ t.owner))
    let s3 := { s2 with host := { s2.host with link := 0, rate := 0, d3hot := false, busMaster := false } }
    let s4 := linkChanged (discardQueues s3 38) 38 0 0
    raise (bump s4 0x2810 0x0C) 0x2801 1 0xFF (be 1 0 ++ be 1 0)

/-- PCIE_LINK_DOWN (R557). -/
def execPcieLinkDown (s : State) : Host.Outcome State Fault Refusal := .next (pcieDown s)

/-- PCIE_POWER_STATE_CHANGE (R576): the endpoint's domain is off in D3hot. -/
def execPciePowerStateChange (d3hot : Bool) (s : State) : Host.Outcome State Fault Refusal :=
  if s.host.link = 0 then .next s else .next (discardHost { s with host := { s.host with d3hot := d3hot } })

/-- HSTS as the host reads it (R549). -/
def hstsValue (s : State) : Nat := (s.host.sts &&& 0xE1).toNat + hostConditions s + 256 * s.op.state.code

/-- A read of a BAR0 register (R546 to R551): write-only and reserved offsets read as all ones, and so do the pool registers in
Recovery (R557). HPADAT is HPADAT_READ's. -/
def barRead (s : State) (off : Nat) : BitVec 32 :=
  if !(hostReaches s) then 0xFFFFFFFF
  else match off with
  | 0x000 => 0x726000B1
  | 0x004 => BitVec.ofNat 32 Config.unitId.toNat
  | 0x008 => BitVec.ofNat 32 (Config.unitId.toNat / 2 ^ 32)
  | 0x00C => s.now
  | 0x010 => s.host.ctl
  | 0x014 => BitVec.ofNat 32 (hstsValue s)
  | 0x018 => s.host.ien
  | 0x084 => if poolServed s then s.host.pres else 0xFFFFFFFF
  | 0x088 => if poolServed s then s.host.phdl else 0xFFFFFFFF
  | 0x090 => if poolServed s then s.host.pgto else 0xFFFFFFFF
  | 0x098 => if poolServed s then s.host.pfst else 0xFFFFFFFF
  | 0x0A0 => if poolServed s then s.host.pasel else 0xFFFFFFFF
  | 0x0A4 => if poolServed s then s.host.paoff else 0xFFFFFFFF
  | n =>
    if 0x0C0 ≤ n ∧ n < 0x0D0 then BitVec.ofNat 32 (leNat (slice s.host.mailbox (n - 0x0C0) 4))
    else if 0x0D0 ≤ n ∧ n < 0x0E0 then BitVec.ofNat 32 (leNat (slice s.host.answer (n - 0x0D0) 4))
    else if 0x100 ≤ n ∧ n < 0x5B0 then BitVec.ofNat 32 (leNat (slice s.host.window (n - 0x100) 4))
    else if 0x600 ≤ n ∧ n < 0x62C then cvuRegRead s 2 (n - 0x600)
    else if 0x640 ≤ n ∧ n < 0x66C then cvuRegRead s 3 (n - 0x640)
    else 0xFFFFFFFF

/-- RSTS of a ring (R552). -/
def rstsValue (s : State) (r : Nat) : BitVec 32 := (ring s r).sts ||| (if ringRuns s r then 1 else 0)

/-- A read of a BAR2 register (R552): the ring of the offset, then its register. -/
def ringRegister (s : State) (off : Nat) : BitVec 32 :=
  let x := ring s (off / 0x1000)
  if !(hostReaches s) ∨ 0x10000 ≤ off then 0xFFFFFFFF
  else match off % 0x1000 with
  | 0x00 => x.basl
  | 0x04 => x.bash
  | 0x08 => x.size
  | 0x0C => x.ctl
  | 0x10 => BitVec.ofNat 32 x.head
  | 0x14 => BitVec.ofNat 32 x.tail
  | 0x18 => rstsValue s (off / 0x1000)
  | _ => 0xFFFFFFFF

/-- A target reset (R559): at its command, at every start and at every wake. -/
def spiReset (s : State) : State :=
  let s1 := dropPartials (forgetReplies s (fun r => r == .spi)) 16
  cvuRelease { s1 with spi := { s1.spi with request := none, result := none, answer := none } } .spi

end Sys2Proof.Machine
end

