-- ==== Sys2Proof/Machine/Sleep.lean ====
section
/-! DEFINITION. Sleep, wake and the sleep ballot (chapter 12: R383 to R398), with the commands WAKE_SOURCE_ACCEPTED,
WAKE_LEVEL_END, QUARANTINE_END, QUARANTINE_CLEAR, IDLE_TIME_PROPOSAL, PROPOSE, PROPOSAL_RECEIVED, VOTE_RECEIVED, COMMIT_RECEIVED,
ABORT_RECEIVED, VOTE_WINDOW_EXPIRY, COMMIT_RESEND, COMMIT_MISSING, SLEEP_ENTRY, SLEEP_ENTRY_COMPLETE, KEEP_AWAKE,
KEEP_AWAKE_EXPIRY and WAKE_HOLD_EXPIRY. -/

namespace Sys2Proof.Machine

def ownId : Nat := Config.unitId.toNat

/-- The other voters by Unit ID (R405). -/
def voters (s : State) : List Nat :=
  ((List.range 16).map (fun i => s.val 0x2401 (i + 1))).filter (fun v => decide (v ≠ 0) && decide (v ≠ ownId))

/-- The local reasons (R393) against a kind of sleep; bits 8 and 10 belong to a vote. -/
def localReasons (s : State) (kind : Nat) : Nat :=
  let seg := (List.range 38).any (fun p => s.on (0x2440 + p) 1 && s.on (0x2440 + p) 3 && segState s p == 2)
  let level := (List.range 4).any (fun n => s.on (0x2420 + n) 1 && decide (4 ≤ s.val (0x2420 + n) 2) &&
    (match s.slp.sources[n]? with | some w => w.active | none => false))
  let call := s.aud.calls.any (fun c => c.connected) || !s.aud.callQueue.isEmpty
  let unsync := !(voters s).isEmpty && s.time.sync != 2 && s.time.sync != 4
  boolNat (inPause s) * 512 + boolNat (decide (kind = 2) && !(s.on 0x2400 4)) * 256 + boolNat unsync * 128 +
    boolNat s.cs.armed.isSome * 64 + boolNat s.slp.keepAwake * 32 + boolNat seg * 16 + boolNat level * 8 + boolNat s.slp.wakeHold * 4 +
    boolNat call * 2 + boolNat s.aud.emergency

/-- A ballot is in progress. -/
def inBallot (s : State) : Bool := s.slp.ballot.state == 1 || s.slp.ballot.state == 2 || s.slp.ballot.state == 3

def setBallot (s : State) (f : Ballot → Ballot) : State := { s with slp := { s.slp with ballot := f s.slp.ballot } }

/-- The 32 bytes of a ballot frame (R394). -/
def ballotBytes (s : State) (typ number proposer kind code reasons : Nat) (c : T32) : Bytes :=
  be 1 typ ++ be 1 1 ++ be 2 number ++ be 8 proposer ++ be 8 ownId ++ be 1 kind ++ be 1 code ++ be 2 reasons ++ be 4 c.toNat ++
    be 4 s.now.toNat

/-- A ballot frame without FCS: GUARD's address, the ballot address and VID, PCP 7, the payload padded to 42 bytes (R394). -/
def ballotFrame (s : State) (payload : Bytes) : Bytes :=
  padTo 6 (cfgBytes s.cfg 0x2400 0x0A) ++ be 6 (ownMac 40) ++ be 2 0x8100 ++ be 2 (7 * 8192 + s.val 0x2400 9) ++ be 2 0x88B5 ++ padTo 42 payload

/-- A ballot frame leaves on every ballot port whose link is up (R394). -/
def sendBallot (s : State) (typ number proposer kind code reasons : Nat) (c : T32) : State :=
  ((List.range 38).filter (fun p => bitOf (s.val 0x2400 8) p && linkIsUp s p)).foldl (fun t p =>
    ownFrame t p 4 true 42 (ballotFrame t (ballotBytes t typ number proposer kind code reasons c))) s

/-- A frame of the ballot in progress. -/
def sendOwnBallot (s : State) (typ code : Nat) : State :=
  let b := s.slp.ballot
  sendBallot s typ b.number.toNat b.proposer b.kind code 0 b.commitAt

/-- The ballot ends without sleep: 2470h.05 and event 2403h with the cause and the sender (R397, R408). -/
def endBallot (s : State) (cause sender : Nat) : State :=
  let b := s.slp.ballot
  raise (bump (setBallot s (fun x => { x with state := 4, resend := false })) 0x2470 5) 0x2403 2 0xFF
    (be 2 b.number.toNat ++ be 1 cause ++ be 4 sender)

/-- A proposer without listed voters sends no frames (R398). -/
def lonely (s : State) : Bool := s.slp.ballot.proposer == ownId && (voters s).isEmpty

/-- The device aborts the ballot (R395 to R398). -/
def abortBallot (s : State) (cause : Nat) : State := endBallot (if lonely s then s else sendOwnBallot s 0x24 cause) cause ownId

/-- C has not been reached. -/
def beforeCommit (s : State) : Bool := !(dueT32 s.slp.ballot.commitAt s.now)

/-- The local reasons against the ballot in progress; bit 8 is a voter's (R393). -/
def ballotReasons (s : State) : Nat := localReasons s (if s.slp.ballot.proposer = ownId then 0 else s.slp.ballot.kind)

/-- A local reason that is set before C aborts the ballot (R395, R396). -/
def ballotCheck (s : State) : State :=
  if inBallot s && beforeCommit s && ballotReasons s != 0 then abortBallot s 1 else s

/-- The ballot is committed (R395, R396): 2470h.04 and event 2402h. -/
def commitBallot (s : State) (mine : Bool) : State :=
  let b := s.slp.ballot
  raise (bump (setBallot s (fun x => { x with state := 3, resend := mine })) 0x2470 4) 0x2402 1 0xFF
    (be 2 b.number.toNat ++ be 1 b.kind ++ be 4 b.commitAt.toNat)

/-- A proposer starts a ballot (R395); with an empty voter set it commits alone (R398). -/
def proposeBallot (s : State) (kind : Nat) : State :=
  let no := s.slp.ballotNo + 1
  let lead := s.val 0x2400 7 * 1000000
  let alone := (voters s).isEmpty
  let c := s.now + BitVec.ofNat 32 (if alone then lead else 200000000 + lead)
  let s1 := { s with slp := { s.slp with
    ballotNo := no,
    ballot := { s.slp.ballot with
      state := 1, number := no, proposer := ownId, kind := kind, commitAt := c, window := s.now + 200000000, votes := [], resend := false } } }
  let s2 := raise (bump s1 0x2470 3) 0x2401 1 0xFF (be 2 no.toNat ++ be 8 ownId ++ be 1 kind ++ be 4 c.toNat)
  if alone then commitBallot s2 false else sendOwnBallot s2 0x21 0

/-- The kind a proposer chooses by itself (R395). -/
def sleepKind (s : State) : Nat :=
  if s.val 0x2400 2 = 2 then 2
  else if s.val 0x2400 3 ≠ 0 ∧ s.val 0x2400 3 ≤ topStage s then 2
  else 1

/-- A proposal is possible: a proposer in Normal, no local reason, no ballot in progress (R395, R404). -/
def mayPropose (s : State) : Bool :=
  decide (s.op.state = .normal) && s.on 0x2400 1 && localReasons s 0 == 0 && !(inBallot s)

/-- IDLE_TIME_PROPOSAL (R395). -/
def execIdleTimeProposal (s : State) : Host.Outcome State Fault Refusal :=
  if mayPropose s then .next (proposeBallot s (sleepKind s)) else .next s

/-- A write of 2400h.10 (R404). -/
def proposeWrite (s : State) (kind : Nat) : State × Nat :=
  if kind ≠ 1 ∧ kind ≠ 2 then (s, 8) else if mayPropose s then (proposeBallot s kind, 0) else (s, 0x0F)

/-- PROPOSE (R395, R404). -/
def execPropose (ses : SessionNo) (kind : BitVec 8) (s : State) : Host.Outcome State Fault Refusal :=
  .next (command s ses 0x2400 0x10 (be 1 kind.toNat) (fun t => proposeWrite t kind.toNat))

/-- The fields of a received frame. -/
def frNumber (b : Bytes) : Nat := beAt b 2 2
def frProposer (b : Bytes) : Nat := beAt b 4 8
def frSender (b : Bytes) : Nat := beAt b 12 8
def frKind (b : Bytes) : Nat := byteAt b 20
def frCode (b : Bytes) : Nat := byteAt b 21
def frCommit (b : Bytes) : T32 := BitVec.ofNat 32 (beAt b 24 4)

/-- The receipt of a ballot frame (R394): a frame that is not one is counted, a copy is ignored; the flag says that the frame is
to be acted on. -/
def ballotTake (s : State) (port : Nat) (b : Bytes) (typ : Nat) : State × Bool :=
  let t := byteAt b 0
  let known := fun (n : Nat) => (voters s).contains n
  let key := (frNumber b, frProposer b, frSender b, t)
  if t < 0x21 ∨ 0x24 < t ∨ byteAt b 1 ≠ 1 ∨ !(known (frSender b)) ∨ !(known (frProposer b) || frProposer b == ownId) then
    (raiseLimited (bump s 0x2470 0x0A) 0 1000000000 0x2409 2 port (be 1 port ++ be 4 (frSender b)), false)
  else if t ≠ typ ∨ s.slp.ballot.copies.contains key then (s, false)
  else (setBallot s (fun x => { x with copies := (key :: x.copies).take 64 }), true)

/-- Does the coordinator hear ballot frames (R384, R396)? In Start, Recovery and after entry step 4 it does not. -/
def ballotHeard (s : State) : Bool :=
  match s.op.state with
  | .commissioning | .normal | .test | .safe => true
  | .lightSleep | .deepSleep => s.slp.entering
  | _ => false

/-- A vote on a proposal (R396). A voter that votes no leaves the ballot it was voting in, and shows the refused one as the last
(DEDUCED, log entry 158). -/
def voteOn (s : State) (b : Bytes) : State :=
  let d := (frCommit b - s.now).toNat
  let late := decide (d = 0) || decide (300000000 < d)
  let reasons := localReasons s (frKind b) + (if late then 1024 else 0)
  let vote := fun (t : State) (code r : Nat) => sendBallot t 0x22 (frNumber b) (frProposer b) (frKind b) code r (frCommit b)
  if reasons = 0 then
    setBallot (vote s 1 0) (fun x => { x with
      state := 2, number := BitVec.ofNat 16 (frNumber b), proposer := frProposer b, kind := frKind b, commitAt := frCommit b,
      votes := [], resend := false })
  else setBallot (vote s 2 reasons) (fun x => { x with
      state := if x.state = 2 then 0 else x.state, number := BitVec.ofNat 16 (frNumber b), proposer := frProposer b, kind := frKind b,
      commitAt := frCommit b, votes := [], resend := false })

/-- A proposal, by the state of the device and of the ballot (R396, R398). -/
def onProposal (s : State) (b : Bytes) : State :=
  match s.op.state with
  | .normal =>
    let x := s.slp.ballot
    if x.state = 3 then s
    else if x.state = 1 then (if frProposer b < x.proposer then voteOn (abortBallot s 5) b else s)
    else if x.state = 2 then (if frProposer b < x.proposer then voteOn s b else s)
    else voteOn s b
  | .commissioning | .test | .safe => sendBallot s 0x22 (frNumber b) (frProposer b) (frKind b) 3 0 (frCommit b)
  | _ => s

/-- PROPOSAL_RECEIVED (R396, R398). -/
def execProposalReceived (port : Fin 38) (frame : BallotFrame) (s : State) : Host.Outcome State Fault Refusal :=
  if ballotHeard s then
    let r := ballotTake s port.val frame.bytes 0x21
    .next (if r.2 then onProposal r.1 frame.bytes else r.1)
  else .next s

/-- The frame belongs to the ballot in progress. -/
def sameBallot (s : State) (b : Bytes) : Bool :=
  s.slp.ballot.number.toNat == frNumber b && s.slp.ballot.proposer == frProposer b

/-- W, the end of the vote window (R395). -/
def windowEnd (s : State) : T32 := s.slp.ballot.window

/-- A vote at the proposer (R395): it counts at or before W. -/
def onVote (s : State) (b : Bytes) : State :=
  if s.slp.ballot.state = 1 ∧ sameBallot s b ∧ !(pastT32 (windowEnd s) s.now) then
    if frCode b = 2 then abortBallot s 3
    else if frCode b = 1 ∨ frCode b = 3 then
      let s1 := setBallot s (fun x => { x with votes := if x.votes.contains (frSender b) then x.votes else x.votes ++ [frSender b] })
      if (voters s1).all (fun v => s1.slp.ballot.votes.contains v) then sendOwnBallot (commitBallot s1 true) 0x23 0 else s1
    else s
  else s

/-- VOTE_RECEIVED (R395). -/
def execVoteReceived (port : Fin 38) (frame : BallotFrame) (s : State) : Host.Outcome State Fault Refusal :=
  if ballotHeard s then
    let r := ballotTake s port.val frame.bytes 0x22
    .next (if r.2 then onVote r.1 frame.bytes else r.1)
  else .next s

/-- A Commit at a voter (R396). -/
def onCommit (s : State) (b : Bytes) : State :=
  if s.slp.ballot.state = 2 ∧ sameBallot s b ∧ beforeCommit s then
    if frCommit b = s.slp.ballot.commitAt then commitBallot s false else abortBallot s 6
  else s

/-- COMMIT_RECEIVED (R396). -/
def execCommitReceived (port : Fin 38) (frame : BallotFrame) (s : State) : Host.Outcome State Fault Refusal :=
  if ballotHeard s then
    let r := ballotTake s port.val frame.bytes 0x23
    .next (if r.2 then onCommit r.1 frame.bytes else r.1)
  else .next s

/-- The sleep snapshot (R386). -/
def snapshot (s : State) : JBody :=
  .sleepSnapshot s.cs.gen s.time.tx s.pos.d64 s.pow.charge (s.slp.sources.toList.map (fun w => (w.quarantined, w.times)))

/-- The device enters its sleep state at C (R384). -/
def enterSleep (s : State) : State :=
  let b := s.slp.ballot
  let deep := decide (b.kind = 2)
  let st : OpState := if deep then .deepSleep else .lightSleep
  let s1 := enterState s st 0x30
  let s2 := bump s1 0x2470 (if deep then 7 else 6)
  let s3 := if deep then jAppend s2 (snapshot s2) .nobody else s2
  { s3 with slp := { s3.slp with
    entering := true, latched := false, sleptFrom := s.time.mono, ballot := { b with state := 0, resend := false },
    cause := { source := 0xFF, at_ := 0, latched := false, ballot := b.number, seen := 0, slept := 0, state := BitVec.ofNat 8 st.code } } }

/-- C of a committed ballot is reached (R397). A local reason that stands at C was set before it, and aborts the ballot (DEDUCED,
log entry 65). -/
def reachCommit (s : State) : State :=
  if s.op.state = .normal ∧ s.slp.ballot.state = 3 ∧ dueT32 s.slp.ballot.commitAt s.now then
    (if ballotReasons s ≠ 0 then abortBallot s 1 else enterSleep s)
  else s

/-- The T32 of an acceptance (R387): in DeepSleep from the always-on domain's count of milliseconds since C, as the start restores T32. -/
def acceptedAt (s : State) : T32 :=
  if s.op.state = .deepSleep then BitVec.ofNat 32 (s.time.tx + (s.time.mono - s.slp.sleptFrom) / 1000000 * 1000000) else s.now

/-- A wake is latched (R397): 2470h.08, and the wake cause with its flag. -/
def latchWake (s : State) (source : Nat) : State :=
  if s.slp.latched then s
  else bump { s with slp := { s.slp with
    latched := true, cause := { s.slp.cause with source := BitVec.ofNat 8 source, at_ := acceptedAt s, latched := true } } } 0x2470 8

/-- An Abort (R396, R397): before C the ballot ends; at or after it, while the entry runs, a wake is latched. -/
def onAbort (s : State) (b : Bytes) : State :=
  if s.slp.entering then (if sameBallot s b then latchWake s 0x20 else s)
  else if inBallot s && sameBallot s b && beforeCommit s then endBallot s (frCode b) (frSender b)
  else s

/-- ABORT_RECEIVED (R397). -/
def execAbortReceived (port : Fin 38) (frame : BallotFrame) (s : State) : Host.Outcome State Fault Refusal :=
  if ballotHeard s then
    let r := ballotTake s port.val frame.bytes 0x24
    .next (if r.2 then onAbort (reachCommit r.1) frame.bytes else r.1)
  else .next s

/-- VOTE_WINDOW_EXPIRY (R395): at W with a voter silent. -/
def execVoteWindowExpiry (s : State) : Host.Outcome State Fault Refusal :=
  if s.slp.ballot.state = 1 ∧ dueT32 (windowEnd s) s.now then .next (abortBallot s 4) else .next s

/-- COMMIT_RESEND (R395). -/
def execCommitResend (s : State) : Host.Outcome State Fault Refusal :=
  if s.slp.ballot.state = 3 ∧ s.slp.ballot.resend ∧ beforeCommit s then
    .next (setBallot (sendOwnBallot s 0x23 0) (fun x => { x with resend := false }))
  else .next s

/-- The CAN wake frame on each chosen port of mode 1 (R390 step 6). -/
def canWake (s : State) : State :=
  (List.range 8).foldl (fun t cn =>
    if bitOf (t.val 0x2400 0x15) cn ∧ t.val (0x4400 + cn) 1 = 1 then (canOffer t cn (canOfIdent (t.val 0x2400 0x16 % 2 ^ 30) (zeros 8) none) none).1
    else t) s

/-- COMMIT_MISSING (R396): at C, voting and not committed. -/
def execCommitMissing (s : State) : Host.Outcome State Fault Refusal :=
  if s.slp.ballot.state = 2 ∧ dueT32 s.slp.ballot.commitAt s.now then
    let b := s.slp.ballot
    let s1 := canWake (abortBallot s 2)
    .next (bump { s1 with slp := { s1.slp with
      cause := { source := 0x21, at_ := s.now, latched := false, ballot := b.number, seen := 0, slept := 0, state := 0 } } } 0x2470 9)
  else .next s

/-- SLEEP_ENTRY (R384, R395 to R397). -/
def execSleepEntry (s : State) : Host.Outcome State Fault Refusal := .next (reachCommit s)

/-- The time slept goes into the wake cause, and a reset of the SPI target follows a wake (R391, R559). -/
def noteWake (s : State) : State :=
  let ms := (s.time.mono - s.slp.sleptFrom) / 1000000
  spiReset { s with
    slp := { s.slp with latched := false, entering := false, cause := { s.slp.cause with slept := BitVec.ofNat 32 (min ms 0xFFFFFFFF) } },
    pins := { s.pins with inh := true, rstoutN := true } }

/-- The event of the causing source (R391). -/
def wakeEvent (s : State) : State :=
  let c := s.slp.cause
  raise s 0x2404 1 0xFF (be 1 c.source.toNat ++ be 1 (boolNat c.latched) ++ be 1 s.op.state.code)

/-- The start from DeepSleep (R24, R390, R529): a start that does not sample the straps and is no reset release (R527, R602). -/
def warmStart (s : State) : State :=
  let s1 := restart s 0x31 s.op.straps false
  { s1 with
    op := { s1.op with warm := true }, slp := { s1.slp with sleptFrom := s.slp.sleptFrom },
    tap := { s1.tap with failures := s.tap.failures, blocked := s.tap.blocked, invalid := s.tap.invalid } }

/-- A wake (R390): LightSleep goes to Normal at once, DeepSleep through Start. -/
def wakeUp (s : State) : State :=
  let s1 := noteWake s
  match s.op.state with
  | .lightSleep =>
    let s2 := busWake (enterState (sleepCharge s1 s1.slp.cause.slept.toNat) .normal 0x31)
    canWake (wakeEvent s2)
  | .deepSleep => warmStart s1
  | _ => s

/-- The end of the entry (R384 steps 2 to 4): the records are in the journal, CNn_STB and INH stand for sleep, the PCIe link is
down, the processors stop, and DeepSleep closes the MOS sessions and the debug port. -/
def entryDone (s : State) : State :=
  let s1 := refreshStb (pcieDown (sealAll s (s.jour.waiting.length + 8))) true
  let s2 := gpSleep { s1 with pins := { s1.pins with inh := false }, slp := { s1.slp with entering := false } }
  if s2.op.state = .deepSleep then
    let s3 := closeMos s2 5
    { s3 with pins := { s3.pins with rstoutN := false }, tap := { s3.tap with isOpen := false } }
  else s2

/-- SLEEP_ENTRY_COMPLETE (R384, R397): a latched wake starts at once. -/
def execSleepEntryComplete (s : State) : Host.Outcome State Fault Refusal :=
  if s.slp.entering ∧ (s.op.state = .lightSleep ∨ s.op.state = .deepSleep) then
    let s1 := entryDone s
    .next (if s.slp.latched then wakeUp s1 else s1)
  else .next s

def wakeSrc (s : State) (n : Nat) : WakeSource := (s.slp.sources[n]?).getD { times := [], quarantined := false, active := false }

def setSrc (s : State) (n : Nat) (f : WakeSource → WakeSource) : State := { s with slp := { s.slp with sources := vmod s.slp.sources n f } }

/-- Is a source watched (R279, R387, R388, R402)? -/
def sourceWatched (s : State) (n : Nat) : Bool :=
  s.on (0x2420 + n) 1 && (match s.op.state with | .start | .recovery => false | _ => true) && !(wakeSrc s n).quarantined &&
    (if 4 ≤ n ∧ n < 12 then s.on (0x4400 + (n - 4)) 0x10 && stbStands s (n - 4) else true) && !(decide (12 ≤ n) && segState s (18 + n) == 4)

/-- The acceptances within 3,600 s, this one included. -/
def sourceTimes (s : State) (n : Nat) : List Nat :=
  s.time.mono :: ((wakeSrc s n).times.filter (fun t => decide (s.time.mono < t + 3600000000000)))

/-- The count of an acceptance, its level, and the quarantine beyond the limit (R387, R389). -/
def countSource (s : State) (n : Nat) : State :=
  let l := sourceTimes s n
  let level := decide (n < 4) && decide (4 ≤ s.val (0x2420 + n) 2)
  let s1 := setSrc (bumpN s 0x2420 n 6) n (fun w => { w with times := l, active := w.active || level })
  let lim := s.val 0x2400 0x0E
  if lim ≠ 0 ∧ lim < l.length then
    raise (bump (setSrc s1 n (fun w => { w with quarantined := true })) 0x2470 0x0B) 0x2405 2 0xFF (be 1 n ++ be 4 l.length)
  else s1

/-- A source seen between C and the entry to Normal (R391). -/
def seeSource (s : State) (n : Nat) : State :=
  { s with slp := { s.slp with cause := { s.slp.cause with seen := s.slp.cause.seen ||| BitVec.ofNat 32 (2 ^ n) } } }

/-- An acceptance in Normal (R388): segments wake, the wake hold restarts, a ballot before C is aborted. -/
def acceptNormal (s : State) (n : Nat) : State :=
  let set := s.val (0x2420 + n) 5
  let s1 := (List.range 38).foldl (fun t p => if bitOf set p then segWake t p else t) s
  let s2 := { s1 with slp := { s1.slp with wakeHold := decide (s1.val 0x2400 6 ≠ 0) } }
  let s3 := raise s2 0x2404 1 0xFF (be 1 n ++ be 1 0 ++ be 1 s.op.state.code)
  if inBallot s3 && beforeCommit s3 then abortBallot s3 1 else s3

/-- What an accepted source does (R388, R397). -/
def acceptSource (s0 : State) (n : Nat) : State :=
  let s := countSource (reachCommit s0) n
  if s.slp.entering then latchWake (seeSource s n) n
  else match s.op.state with
  | .lightSleep | .deepSleep =>
    if s.on (0x2420 + n) 4 then
      let s1 := seeSource s n
      wakeUp { s1 with slp := { s1.slp with cause := { s1.slp.cause with source := BitVec.ofNat 8 n, at_ := acceptedAt s, latched := false } } }
    else seeSource s n
  | .normal => acceptNormal s n
  | .commissioning | .test | .safe => raise s 0x2404 1 0xFF (be 1 n ++ be 1 0 ++ be 1 s.op.state.code)
  | _ => s

/-- WAKE_SOURCE_ACCEPTED (R387 to R390, R397). -/
def execWakeSourceAccepted (source : Fin 20) (s : State) : Host.Outcome State Fault Refusal :=
  if sourceWatched s source.val then .next (acceptSource s source.val) else .next s

/-- WAKE_LEVEL_END (R387, R393). -/
def execWakeLevelEnd (source : Fin 4) (s : State) : Host.Outcome State Fault Refusal :=
  .next (setSrc s source.val (fun w => { w with active := false }))

/-- QUARANTINE_END (R389). -/
def execQuarantineEnd (source : Fin 20) (s : State) : Host.Outcome State Fault Refusal :=
  .next (setSrc s source.val (fun w => { w with quarantined := false, times := if w.quarantined then [] else w.times }))

/-- A write of class I to an object of persistence P (R42): after the checks of every write and its own, the record waits in the
journal, and the answer leaves when it is sealed; a failed journal refuses it (R515). -/
def persistCommand (s : State) (ses : SessionNo) (idx sub : Nat) (v : Bytes) (own : State → Nat) : State :=
  if served s && isOpen s ses.val then
    match writeCheck s ses.val idx sub v with
    | .inr c => reply s (.session ses) (BitVec.ofNat 8 c) []
    | .inl _ =>
      if inArmed s idx sub then reply s (.session ses) 0x0B []
      else if own s ≠ 0 then reply s (.session ses) (BitVec.ofNat 8 (own s)) []
      else if s.jour.state = 2 then reply s (.session ses) 0x0F []
      else jAppend (thaw s) (.value (okey idx sub) v) (.session ses)
  else s

/-- QUARANTINE_CLEAR (R389, R406): only 0 may be written. -/
def execQuarantineClear (ses : SessionNo) (source : Fin 20) (value : Bytes) (s : State) : Host.Outcome State Fault Refusal :=
  .next (persistCommand s ses (0x2420 + source.val) 7 value (fun _ => if beNat value = 0 then 0 else 8))

/-- KEEP_AWAKE (R393, R404): 0 cancels; a reason that is set aborts a ballot. -/
def execKeepAwake (ses : SessionNo) (seconds : BitVec 16) (s : State) : Host.Outcome State Fault Refusal :=
  .next (command s ses 0x2400 0x0F (be 2 seconds.toNat) (fun t =>
    (ballotCheck { t with slp := { t.slp with keepAwake := decide (seconds ≠ 0) } }, 0)))

/-- KEEP_AWAKE_EXPIRY (R393). -/
def execKeepAwakeExpiry (s : State) : Host.Outcome State Fault Refusal := .next { s with slp := { s.slp with keepAwake := false } }

/-- WAKE_HOLD_EXPIRY (R393). -/
def execWakeHoldExpiry (s : State) : Host.Outcome State Fault Refusal := .next { s with slp := { s.slp with wakeHold := false } }

/-- The input level of a source (R406): known for a level trigger; for an edge trigger a free value (DESIGN CHOICE, log entry 66). -/
def sourceLevel (s : State) (n : Nat) : Nat :=
  let t := s.val (0x2420 + n) 2
  let a := (wakeSrc s n).active
  if 4 ≤ n then 0
  else if t = 4 then boolNat a
  else if t = 5 then boolNat (!a)
  else (Config.freeOf 66 [(n : Int), (s.time.mono : Int)] % 2).toNat

/-- What the objects of R404 to R407 show. -/
def liveSleep (s : State) (idx sub : Nat) : Option Bytes :=
  if 0x2420 ≤ idx ∧ idx ≤ 0x2433 then
    match sub with
    | 7 => some (be 1 (boolNat (wakeSrc s (idx - 0x2420)).quarantined))
    | 8 => some (be 1 (sourceLevel s (idx - 0x2420)))
    | _ => none
  else if 0x2440 ≤ idx ∧ idx ≤ 0x2465 then
    match sub with
    | 4 => some (be 1 (segState s (idx - 0x2440)))
    | 5 => some (be 2 (leaseLeft s (idx - 0x2440)))
    | _ => none
  else match idx, sub with
  | 0x2400, 0x11 => some (be 1 s.slp.ballot.state)
  | 0x2400, 0x12 => some (be 2 s.slp.ballot.number.toNat)
  | 0x2400, 0x13 => some (be 4 s.slp.ballot.commitAt.toNat)
  | 0x2400, 0x14 => some (be 2 (localReasons s 0))
  | 0x2402, 1 => some (be 1 s.slp.cause.source.toNat)
  | 0x2402, 2 => some (be 4 s.slp.cause.at_.toNat)
  | 0x2402, 3 => some (be 1 (boolNat s.slp.cause.latched))
  | 0x2402, 4 => some (be 2 s.slp.cause.ballot.toNat)
  | 0x2402, 5 => some (be 4 s.slp.cause.seen.toNat)
  | 0x2402, 6 => some (be 4 s.slp.cause.slept.toNat)
  | 0x2402, 7 => some (be 1 s.slp.cause.state.toNat)
  | _, _ => none

/-- The cross-object rules of this chapter (R399, R404), reason 4. -/
def sleepRules (t : Tbl Bytes) : Option (Nat × Nat) :=
  let id := cfgNat t 0x2400 0x16
  let bad := (List.range 8).any (fun cn => bitOf (cfgNat t 0x2400 0x15) cn && id / 2 ^ 29 == 0 && mgmtId t cn (id % 2048))
  if bad ∨ 2 ≤ id / 2 ^ 30 then some (okey 0x2400 0x16, 4)
  else match (List.range 38).find? (fun p => bitOf (cfgNat t 0x4D20 0x0E) p && cfgNat t (0x2440 + p) 1 != 0) with
  | some p => some (okey (0x2440 + p) 1, 4)
  | none => none

end Sys2Proof.Machine
end

