-- ==== Sys2Proof/Machine/Comparator.lean ====
section
/-! DEFINITION. The comparator of the Guard Processor (R412, R423 to R427, R432): GP_WINDOW_COMPARE, GP_PASS_TIMEOUT and
COMPARATOR_PROBE. -/

namespace Sys2Proof.Machine

/-- The reference signature of a test window, which the MXI image supplies (R425): a free value (DESIGN CHOICE, log entry 57). -/
def testReference (part : Nat) : BitVec 64 := BitVec.ofInt 64 (Config.freeOf 57 [(part : Int)])

/-- What pass 2 and the comparison show (R412 to R426): the state with pass 2's stores, pass 2's signature, and a fault as a cause of R433
with its entry, none where the window compares equal. A replay-queue entry whose parity fails is found when pass 2 takes it. -/
def windowFault (s : State) (r : PassTwoReport) : State × BitVec 64 × Option (Nat × Nat) :=
  let q := queueRead s r.queue
  let p := passTwo s (q.map (fun e => e.1)) r.upsets
  match (List.range q.length).find? (fun k => match q[k]? with | some e => !e.2 | none => false) with
  | some k => (s, p.2, some (5, k))
  | none =>
    let differ := match r.stuck with | some b => b | none => decide (s.gp.sig1 ≠ p.2)
    (p.1, p.2,
      if differ then some (1, 0xFF)
      else if s.gp.task = some 6 ∧ s.gp.sig1 ≠ testReference s.gp.part then some (3, 0xFF)
      else none)

/-- The end of a task's run (R427, R431, R445). -/
def taskDone (s : State) (t : Nat) : State :=
  let s1 := { s with gp := { s.gp with
    waiting := s.gp.waiting.filter (fun x => x != t),
    longestRun := s.gp.longestRun.setIfInBounds t (max ((s.gp.longestRun[t]?).getD 0) (s.time.mono - s.gp.taskSince)) } }
  if t = 2 then ballotCheck s1
  else if t = 6 then bumpW { s1 with gp := { s1.gp with lastTest := s1.now, testDoneAt := s1.time.mono } } 0x2940 8 0 1 else s1

/-- The debugger actions that pass 2 has replayed are counted (R446). -/
def countReplayed (s : State) : State := bumpW s 0x2940 9 0 (s.gp.replay.filter (fun e => e.kind == 6)).length

/-- A window that compares equal, its output hold released (R423): its verdicts are applied, and the next window opens. -/
def windowEqual (s : State) : State :=
  let t := s.gp.task.getD 0xFF
  let s1 := countReplayed (bumpW s 0x2940 3 0 1)
  let s2 := if t = 4 then applyVerdicts s1 else s1
  let s3 := if s2.gp.ended then taskDone s2 t else s2
  gpOpen { s3 with gp := { s3.gp with pass := 0, replay := [], longestPass := max s3.gp.longestPass (s3.time.mono - s3.gp.opened) } }

/-- GP_WINDOW_COMPARE (R423 to R426). -/
def execGpWindowCompare (pass2 : PassTwoReport) (s : State) : Host.Outcome State Fault Refusal :=
  if s.gp.pass = 2 ∧ gpWorks s then
    let w := windowFault s pass2
    match w.2.2 with
    | some (c, e) => .next (gpFault w.1 c e s.gp.sig1 w.2.1)
    | none =>
      let h := releaseHold w.1 pass2.hold
      match h.2 with
      | some e => .next (gpFault h.1 6 e s.gp.sig1 w.2.1)
      | none => .next (windowEqual h.1)
  else .next s

/-- GP_PASS_TIMEOUT (R412): 24 µs after the start of the pass; it stops while a debugger has halted pass 1 (R440). What an unended pass has
in its signature is a free value (log entry 198). -/
def execGpPassTimeout (s : State) : Host.Outcome State Fault Refusal :=
  if s.gp.pass ≠ 0 ∧ gpWorks s ∧ s.gp.opened + 24000 ≤ s.time.mono then
    let torn := BitVec.ofInt 64 (Config.freeOf 198 [6, (s.gp.window.toNat : Int)])
    .next (if s.gp.pass = 1 then gpFault s 2 0xFF torn torn else gpFault s 2 0xFF s.gp.sig1 torn)
  else .next s

/-- COMPARATOR_PROBE (R426): the bit moves on after a probe whose mismatch appeared. -/
def execComparatorProbe (mismatchSeen : Bool) (s : State) : Host.Outcome State Fault Refusal :=
  if gpWorks s then
    if mismatchSeen then
      .next (bumpW { s with gp := { s.gp with probeBit := (s.gp.probeBit + 1) % 64, lastProbe := s.now } } 0x2940 7 0 1)
    else .next (gpFault s 4 0xFF 0 0)
  else .next s

end Sys2Proof.Machine
end

