-- ==== Sys2Proof/Machine/ChangeSet.lean ====
section
/-! DEFINITION. Change sets (chapter 02: R58 to R69): validation against every chapter's rules, arming, apply and the change-set
file; the commands CS_APPLY_NOW, CS_ARM_TIME, CS_ARM_POSITION, CS_DISCARD_PENDING, CS_CANCEL_ARMED, CS_VALIDATE_ONLY,
CHANGE_SET_FILE_WRITE, CS_VALIDATION_COMPLETE and CS_APPLY_TIME_DUE, and REQUEST_NORMAL (R24), which validates the
configuration in force. -/

namespace Sys2Proof.Machine

/-- The type code of a change-set entry (R69); counters have none. -/
def ObjType.code : ObjType → Option Nat
  | .bool => some 0
  | .u8 => some 1
  | .u16 => some 2
  | .u32 => some 3
  | .u64 => some 4
  | .i16 => some 5
  | .i32 => some 6
  | .i64 => some 7
  | .str => some 8
  | .oct _ => some 9
  | .dom => some 0x0A
  | .t32 => some 0x0B
  | .tx => some 0x0C
  | .d32 => some 0x0D
  | .s32 | .w64 => none

/-- A configuration with the entries of a set written into it, in their order. -/
def withEntries (t : Tbl Bytes) (es : List (Nat × Bytes)) : Tbl Bytes :=
  es.foldl (fun acc e => cfgPut acc (e.1 / 256) (e.1 % 256) e.2) t

/-- The length of the DER SEQUENCE that a string begins with, its header included; none where it does not begin with one. -/
def derLength (b : Bytes) : Option Nat :=
  let l := byteAt b 1
  let n := if l < 0x80 then 2 + l else 2 + (l - 0x80) + beAt b 2 (l - 0x80)
  if byteAt b 0 = 0x30 ∧ l ≠ 0x80 ∧ l ≤ 0x84 ∧ n ≤ b.length then some n else none

/-- The certificates of a concatenation, at most n of them (R51). -/
def derList (n : Nat) (b : Bytes) : Option (List Bytes) :=
  if b.isEmpty then some []
  else
    match n, derLength b with
    | k + 1, some len => (derList k (b.drop len)).map (fun r => b.take len :: r)
    | _, _ => none

/-- The content checks that a file object's owner makes at validation: up to four customer certificates (R51). -/
def contentOk (key : Nat) (v : Bytes) : Bool :=
  if key = okey 0x2120 2 then (derList 4 v).isSome && Config.certificatesValid v else true

/-- What is wrong with one entry of a set (R61, R69): the reason, none where it may stand. The type code is there in a file. -/
def entryFault (s : State) (role : Nat) (code : Option Nat) (e : Nat × Bytes) : Option Nat :=
  let idx := e.1 / 256
  let sub := e.1 % 256
  match objRow? idx sub with
  | none => some 1
  | some x =>
    let access := match x.acc with | .rw | .rwc => true | .wo => code.isNone | _ => false
    let staged := match x.apply with | .s => true | _ => false
    let rwc := match x.acc with | .rwc => true | _ => false
    if !access || !staged || fixedObject idx sub then some 1
    else if code.isSome && code != x.ty.code then some 1
    else if !lengthOk x idx sub e.2 || !typeOk x e.2 || !rangeOk x e.2 || !contentOk e.1 e.2 then some 1
    else if role < x.wrole then some 2
    else if rwc && s.op.state != .commissioning then some 3
    else none

/-- The first answer of a list of questions. -/
def firstOf {α : Type} (l : List (Unit → Option α)) : Option α :=
  match l with
  | [] => none
  | f :: r =>
    match f () with
    | some x => some x
    | none => firstOf r

/-- The result of a validation that failed: object key, reason, and the port and cause of event 3002h where a rule raises it. -/
structure RuleFault where
  key : Nat
  reason : Nat
  port : Option (Nat × Nat)
deriving DecidableEq, Repr

/-- A broken rule without an event of its own. -/
def plainFault (r : Option (Nat × Nat)) : Option RuleFault := r.map (fun x => { key := x.1, reason := x.2, port := none })

/-- Every cross-object rule and resource total of a configuration (R61), chapter by chapter. -/
def crossRules (s : State) (t : Tbl Bytes) : Option RuleFault :=
  firstOf [
    fun _ => (fabricRules t (fun j => cellsInService (column s j))).map (fun x => { key := x.1, reason := x.2.1, port := x.2.2 }),
    fun _ => plainFault (lookupRules t s.look.fwd),
    fun _ => plainFault (egressRules t),
    fun _ => plainFault (zoneRules t),
    fun _ => plainFault (timeRules t),
    fun _ => plainFault (busRules t),
    fun _ => plainFault (gatewayRules t),
    fun _ => plainFault (bridgeRules t),
    fun _ => plainFault (audioRules t),
    fun _ => plainFault (positionRules t),
    fun _ => plainFault (powerRules t),
    fun _ => plainFault (sleepRules t),
    fun _ => plainFault (guardRules t),
    fun _ => plainFault (pairRules t),
    fun _ => plainFault (poolRules t (fun c => (poolClass s c).count)),
    fun _ => plainFault (journalRules s t)]

/-- A value of the configuration that its object does not take. -/
def badValue (e : Nat × Bytes) : Bool :=
  match objRow? (e.1 / 256) (e.1 % 256) with
  | none => false
  | some x =>
    let staged := match x.apply with | .s => true | _ => false
    staged && (!lengthOk x (e.1 / 256) (e.1 % 256) e.2 || !typeOk x e.2 || !rangeOk x e.2 || !contentOk e.1 e.2)

/-- The validation of the configuration in force, at a start, at an activation and on the way to Normal (R24, R61, R528). -/
def configFault (s : State) : Option RuleFault :=
  match s.cfg.find? badValue with
  | some e => some { key := e.1, reason := 1, port := none }
  | none => crossRules s s.cfg

/-- The first entry that may not stand. -/
def firstBadEntry (s : State) (role : Nat) (es : List (Nat × Bytes)) (codes : List (Option Nat)) : Option RuleFault :=
  (es.zip codes).findSome? (fun e => (entryFault s role e.2 e.1).map (fun r => { key := e.1.1, reason := r, port := none }))

/-- The validation of a pending set against the configuration in force (R61, R68, R69). -/
def validateSet (s : State) (p : PendingSet) : Option RuleFault :=
  if p.base ≠ 0 ∧ p.base ≠ s.cs.gen then some { key := 0, reason := 6, port := none }
  else
    match firstBadEntry s p.role p.entries p.types with
    | some f => some f
    | none => crossRules s (withEntries s.cfg p.entries)

/-- A failed validation shows in 2200h.08 and 2200h.09, with event 2202h, and with it event 3002h for a refused port (R15, R115). -/
def noteFault (s : State) (f : RuleFault) : State :=
  let s1 := { s with cs := { s.cs with failing := BitVec.ofNat 32 f.key, reason := BitVec.ofNat 8 f.reason } }
  let s2 := raise s1 0x2202 2 0xFF (be 4 f.key ++ be 1 f.reason)
  match f.port with
  | some (p, c) => raise s2 0x3002 2 p (be 1 p ++ be 1 c)
  | none => s2

/-- A validation that passes clears both. -/
def noteValid (s : State) : State := { s with cs := { s.cs with failing := 0, reason := 0 } }

/-- What every block does at the apply instant (R65), from the configuration before. The test says which objects the set
carries. -/
def applyBlocks (carried : Nat → Nat → Bool) (atStart : Bool) (old : Tbl Bytes) (s : State) : State :=
  let s1 := applyEgress carried atStart old (applyRecoveries old (applyLookup old (applyFabric old s)))
  let s2 := applyBuses old (applyZone (carried 0x3C10 1) old s1)
  let s3 := applyAudio old (applyBridge old (applyGateway old s2))
  let s4 := applyPower (applyPosition carried old (applySegments old s3))
  applyPair old (applyTime old (applyPool s4))

/-- The sessions after an apply (R47, R50): MOS may close, and management ports come and go. -/
def applySessions (s : State) : State :=
  let s1 := refreshStb (busSessions s) false
  if s1.on 0x2110 1 then s1 else closeMos s1 3

/-- The values in force that a set replaces (R66). -/
def oldValues (t : Tbl Bytes) (es : List (Nat × Bytes)) : List (Nat × Bytes) := es.map (fun e => (e.1, cfgBytes t (e.1 / 256) (e.1 % 256)))

/-- A set applies (R65): the values change, the generation advances, 2200h.0E counts it, and event 2201h tells it. -/
def applySet (s : State) (es : List (Nat × Bytes)) : State :=
  let s0 := creditsAll (thaw s)
  let gen := s0.cs.gen + 1
  let s1 := { s0 with cfg := withEntries s0.cfg es, cs := { s0.cs with
    gen := gen, appliedAt := s0.now, uncommitted := s0.cs.uncommitted ++ [{ gen := gen, entries := es, old := oldValues s0.cfg es }] } }
  let carried := fun (idx sub : Nat) => es.any (fun e => e.1 == okey idx sub)
  let s2 := applySessions (applyBlocks carried false s0.cfg s1)
  emcyCleared s (raise (bump s2 0x2200 0x0E) 0x2201 1 0xFF (be 4 gen.toNat ++ be 4 s0.now.toNat ++ be 4 es.length))

/-- The armed set applies, and its commit mark goes to the journal (R65, R66). -/
def applyArmed (s : State) : State :=
  match s.cs.armed with
  | none => s
  | some a =>
    let s1 := applySet { s with cs := { s.cs with armed := none, dueInPause := none } } a.entries
    jAppend s1 (.commit s1.cs.gen) .nobody

/-- The armed set is due: it applies, or waits for the end of an activation pause (R67). -/
def armedDue (s : State) : State :=
  if inPause s then
    { s with cs := { s.cs with dueInPause := some (s.cs.dueInPause.getD s.time.mono) } }
  else applyArmed s

/-- The pause ends: a set that fell due in it applies, with event 2204h and cause 0 (R67), its lateness rounded down to microseconds
(DESIGN CHOICE, log entry 165). -/
def applyAfterPause (s : State) : State :=
  match s.cs.dueInPause with
  | none => s
  | some t => raise (applyArmed s) 0x2204 2 0xFF (be 4 ((s.time.mono - t) / 1000) ++ be 1 0)

/-- A position event with action 2 fires (R64, R366): the set armed for it applies, or event 4C63h is raised. -/
def applyAtEvent (s : State) (n : Nat) : State :=
  match s.cs.armed with
  | some a => if a.target = none ∧ a.event = n then armedDue s else raise s 0x4C63 2 0xFF (be 1 n)
  | none => raise s 0x4C63 2 0xFF (be 1 n)

/-- The armed set after a step of T32 by Δ (R244): a target that is due or past acts at the step instant, with event 2204h, its lateness
rounded down (DESIGN CHOICE, log entry 165). -/
def stepArmed (s : State) (delta : Int) : State :=
  match s.cs.armed with
  | none => s
  | some a =>
    match a.target with
    | none => s
    | some t =>
      if dueT32 t s.now ∧ !(inPause s) then
        let late := if 0 < delta then (s.now - t).toNat / 1000 else 0
        raise (applyArmed s) 0x2204 2 0xFF (be 4 late ++ be 1 (if 0 < delta then 1 else 2))
      else s

/-- A step of T32 with all its effects (R244). -/
def stepClock (s : State) (target : Nat) : State := stepArmed (stepTime s target) ((target : Int) - s.time.tx)

/-- The result of a command of 2200h.01 shows in 2200h.07 (R60). -/
def csResult (s : State) (code : Nat) : State × Option Nat := ({ s with cs := { s.cs with lastResult := BitVec.ofNat 8 code } }, some code)

/-- The event of command 3 is enabled with action 2 in the configuration in force (R64). -/
def eventReady (s : State) : Bool :=
  let n := s.val 0x2200 3
  decide (n < 64) && s.on (0x4C60 + n) 1 && s.val (0x4C60 + n) 3 == 2

/-- The validation that a command starts, none for 4 and 5. -/
def csKind (s : State) (code : Nat) : Option CsCommand :=
  match code with
  | 1 => some .applyNow
  | 2 => some .armTime
  | 3 => some (.armPosition (s.val 0x2200 3))
  | 6 => some .validateOnly
  | _ => none

/-- A write to 2200h.01 (R60 to R64, R515): its result, or none where the validation answers later. -/
def csWrite (s : State) (ses : SessionNo) (dest : ReplyTo) (code : Nat) : State × Option Nat :=
  if code = 5 then (if s.cs.armed.isSome then csResult (cancelArmed s 4) 0 else csResult s 0x0F)
  else match s.cs.pending with
  | none => csResult s 0x0F
  | some p =>
    if p.owner ≠ ses then csResult s 9
    else if s.cs.validating.isSome then csResult s 0x0B
    else match csKind s code with
    | none => csResult (discardPending s 4) 0
    | some k =>
      if k ≠ .validateOnly ∧ s.cs.armed.isSome then csResult s 0x0B
      else if k ≠ .validateOnly ∧ s.jour.state = 2 then csResult s 0x0F
      else if code = 3 ∧ !(eventReady s) then csResult s 0x0F
      else (gpOpen { s with cs := { s.cs with validating := some (k, dest) } }, none)

/-- 2200h.07 takes the result of every command (R60): of a write of 2200h.01 that the object server answers, too. -/
def noteCommand (s : State) (ses idx sub code : Nat) : State :=
  if idx = 0x2200 ∧ sub = 1 ∧ (transportBar s ses).isNone then (csResult s code).1 else s

/-- The frame of a session command whose answer may come later. -/
def lateCommand (s : State) (ses : SessionNo) (idx sub : Nat) (v : Bytes) (act : State → State × Option Nat) : State :=
  if served s && isOpen s ses.val then
    match writeCheck s ses.val idx sub v with
    | .inr c => reply (noteCommand s ses.val idx sub c) (.session ses) (BitVec.ofNat 8 c) []
    | .inl _ =>
      if inArmed s idx sub then reply s (.session ses) 0x0B []
      else match act s with
        | (t, some c) => reply t (.session ses) (BitVec.ofNat 8 c) []
        | (t, none) => t
  else s

/-- A command of 2200h.01 by its code. -/
def csCommand (s : State) (ses : SessionNo) (code : Nat) : State :=
  lateCommand s ses 0x2200 1 (be 1 code) (fun t => csWrite t ses (.session ses) code)

/-- CS_APPLY_NOW (R61, R62, R65). -/
def execCsApplyNow (ses : SessionNo) (s : State) : Host.Outcome State Fault Refusal := .next (csCommand s ses 1)

/-- CS_ARM_TIME (R61 to R63). -/
def execCsArmTime (ses : SessionNo) (s : State) : Host.Outcome State Fault Refusal := .next (csCommand s ses 2)

/-- CS_ARM_POSITION (R61, R62, R64). -/
def execCsArmPosition (ses : SessionNo) (s : State) : Host.Outcome State Fault Refusal := .next (csCommand s ses 3)

/-- CS_DISCARD_PENDING (R60). -/
def execCsDiscardPending (ses : SessionNo) (s : State) : Host.Outcome State Fault Refusal := .next (csCommand s ses 4)

/-- CS_CANCEL_ARMED (R60). -/
def execCsCancelArmed (ses : SessionNo) (s : State) : Host.Outcome State Fault Refusal := .next (csCommand s ses 5)

/-- CS_VALIDATE_ONLY (R61). -/
def execCsValidateOnly (ses : SessionNo) (s : State) : Host.Outcome State Fault Refusal := .next (csCommand s ses 6)

/-- The entries of a change-set file (R68): n of them fill the bytes; key, type code and value. -/
def fileEntries (b : Bytes) (n : Nat) : Option (List (Nat × Nat × Bytes)) :=
  match n with
  | 0 => if b.isEmpty then some [] else none
  | k + 1 =>
    let len := beAt b 4 4
    let room := 8 + (len + 3) / 4 * 4
    if b.length < room then none
    else
      match fileEntries (b.drop room) k with
      | none => none
      | some r => some ((okey (beAt b 0 2) (beAt b 2 1), beAt b 3 1, slice b 8 len) :: r)

/-- A change-set file (R68, R69): its base generation and entries, none where it is refused. -/
def readFile (v : Bytes) : Option (BitVec 32 × List (Nat × Nat × Bytes)) :=
  let n := beAt v 12 2
  if v.length < 32 ∨ beAt v 0 4 ≠ 0x4D584331 ∨ beAt v 4 4 ≠ 0x72600001 ∨ beAt v 16 4 ≠ v.length ∨ n = 0 ∨ 4096 < n ∨
      beAt v 28 4 ≠ (crc32 (v.take 28 ++ zeros 4 ++ v.drop 32)).toNat then none
  else
    match fileEntries (v.drop 32) n with
    | none => none
    | some es => if es.any (fun e => decide (0x0D < e.2.1)) then none else some (BitVec.ofNat 32 (beAt v 8 4), es)

/-- A write to 2200h.05 (R58, R61, R68): the file replaces the pending set. -/
def csFileWrite (s : State) (ses : SessionNo) (v : Bytes) : State × Nat :=
  let other := match s.cs.pending with | some p => decide (p.owner ≠ ses) | none => false
  if other then (s, 9)
  else if s.cs.validating.isSome then (s, 0x0B)
  else match readFile v with
  | none => (s, 7)
  | some (base, es) =>
    ({ s with cs := { s.cs with pending := some { owner := ses, role := roleOf s ses.val, entries := es.map (fun e => (e.1, e.2.2)),
                                                  types := es.map (fun e => some e.2.1), base := base } } }, 0)

/-- CHANGE_SET_FILE_WRITE (R68). -/
def execChangeSetFileWrite (ses : SessionNo) (file : Bytes) (s : State) : Host.Outcome State Fault Refusal :=
  .next (command s ses 0x2200 5 file (fun t => csFileWrite t ses file))

/-- The answer of a validated command, which also shows in 2200h.07. -/
def csAnswer (s : State) (dest : ReplyTo) (code : Nat) : State :=
  reply { s with cs := { s.cs with lastResult := BitVec.ofNat 8 code } } dest (BitVec.ofNat 8 code) []

/-- A validated set is armed, and its record goes to the journal (R62, R66). -/
def armSet (s : State) (p : PendingSet) (target : Option T32) (event : Nat) : State :=
  let s1 := { s with cs := { s.cs with pending := none, armed := some { entries := p.entries, target := target, event := event } } }
  jAppend (thaw s1) (.armed p.entries) .nobody

/-- What a command does with the set that has passed (R61, R63 to R66). -/
def csPassed (s : State) (p : PendingSet) (k : CsCommand) (dest : ReplyTo) : State :=
  match k with
  | .validateOnly => csAnswer s dest 0
  | .applyNow =>
    let s1 := applySet { s with cs := { s.cs with pending := none } } p.entries
    csAnswer (jAppend (jAppend s1 (.armed p.entries) .nobody) (.commit s1.cs.gen) .nobody) dest 0
  | .armTime =>
    let t := BitVec.ofNat 32 (s.val 0x2200 2)
    let d := (t - s.now).toNat
    if 2147483648 < d ∨ d < 2000000 then csAnswer s dest 0x0E else csAnswer (armSet s p (some t) 0) dest 0
  | .armPosition n => csAnswer (armSet s p none n) dest 0

/-- The judgement of a validation: an entry whose data were lost on the way fails it with reason 1 (R482). -/
def csJudge (s : State) (p : PendingSet) (lost : Option Nat) : Option RuleFault :=
  match lost with
  | some n => some { key := match p.entries[n]? with | some e => e.1 | none => 0, reason := 1, port := none }
  | none => validateSet s p

/-- The input copier met an uncorrectable codeword (R482): in which page is not stated, a free value (DESIGN CHOICE, log entry 29). -/
def copierLoss (s : State) (lost : Option Nat) : State :=
  match lost with
  | some _ => let d := drawNat s 29; dramUncorrectable d.1 (d.2 % 116480) 2
  | none => s

/-- CS_VALIDATION_COMPLETE (R61): while the Guard Processor works. -/
def execCsValidationComplete (lost : Option Nat) (s : State) : Host.Outcome State Fault Refusal :=
  match s.cs.validating, s.cs.pending with
  | some (k, dest), some p =>
    if gpWorks s then
      let s1 := copierLoss { s with cs := { s.cs with validating := none } } lost
      match csJudge s1 p lost with
      | some f => .next (csAnswer (noteFault s1 f) dest 0x0D)
      | none => .next (csPassed (noteValid s1) p k dest)
    else .next s
  | _, _ => .next s

/-- CS_APPLY_TIME_DUE (R63, R65, R67). -/
def execCsApplyTimeDue (s : State) : Host.Outcome State Fault Refusal :=
  match s.cs.armed with
  | some a =>
    match a.target with
    | some t => if dueT32 t s.now then .next (armedDue s) else .next s
    | none => .next s
  | none => .next s

/-- A write of 2 to 2000h.02 that is carried out: the configuration in force is validated first (R24). -/
def requestNormal (s : State) : State × Nat :=
  match configFault s with
  | some f => (noteFault s f, 0x0D)
  | none => (enterState (noteValid s) .normal 0x20, 0)

/-- A write to 2000h.02, with the effect of a request that is carried out, and its result. -/
def requestWrite (s : State) (ses : SessionNo) (code : Nat) (act : State → State × Nat) : State × Nat :=
  match requestBar s ses.val code with
  | some r => (requestRefused s code r.2, r.1)
  | none => act s

/-- REQUEST_NORMAL (R24). -/
def execRequestNormal (ses : SessionNo) (s : State) : Host.Outcome State Fault Refusal :=
  if served s && isOpen s ses.val then
    match writeCheck s ses.val 0x2000 2 (be 1 2) with
    | .inr c =>
      let t := if c = 5 then requestRefused s 2 2 else if c = 6 then requestRefused s 2 (if s.op.state = .start then 1 else 4) else s
      .next (reply t (.session ses) (BitVec.ofNat 8 c) [])
    | .inl _ =>
      let r := requestWrite s ses 2 requestNormal
      .next (reply r.1 (.session ses) (BitVec.ofNat 8 r.2) [])
  else .next s

/-- What the objects of R60 show. -/
def liveCs (s : State) (idx sub : Nat) : Option Bytes :=
  match idx, sub with
  | 0x2200, 4 => some (be 1 (match s.cs.pending with | some p => p.owner.val | none => 0xFF))
  | 0x2200, 6 => some (be 2 (match s.cs.pending with | some p => p.entries.length | none => 0))
  | 0x2200, 7 => some (be 1 s.cs.lastResult.toNat)
  | 0x2200, 8 => some (be 4 s.cs.failing.toNat)
  | 0x2200, 9 => some (be 1 s.cs.reason.toNat)
  | 0x2200, 0x0A => some (be 1 (match s.cs.armed with | some a => if a.target.isSome then 1 else 2 | none => 0))
  | 0x2200, 0x0B => some (be 4 s.cs.gen.toNat)
  | 0x2200, 0x0C => some (be 4 s.cs.committed.toNat)
  | 0x2200, 0x0D => some (be 4 s.cs.appliedAt.toNat)
  | _, _ => none

end Sys2Proof.Machine
end

