-- ==== Sys2Proof/Machine/Servo.lean ====
section
/-! DEFINITION. What moves the clock and the distance, with the change sets that hang on them: PTP_SYNC_RECEIVED (R242, R243),
SET_TIME (R244), TPO_PROGRAM_WRITE (R255, R263), ODOMETRY_EDGE (R357 to R359, R364) and SET_DISTANCE (R363). -/

namespace Sys2Proof.Machine

/-- The INC that the servo sets after a Sync (R235, R242, R243): its estimate of the frequency, and a slew against the offset of at most
4010h.05 ppm. Both sizes are free values within the bounds the manual gives (DESIGN CHOICE, log entries 32 and 33). -/
def servoInc (s : State) (offset : Int) : State :=
  let key := if s.time.sync = 2 then 33 else 32
  let args : List Int := [offset, (s.time.inc.toNat : Int), (s.time.mono : Int)]
  let most := s.val 0x4010 5 * nominalInc.toNat / 1000000
  let slew : Int := if most = 0 then 0 else 1 + Config.freeOf 192 args % (most : Int)
  let base : Int := (clampInc (Config.freeOf key args).toNat).toNat
  { s with time := { s.time with inc := clampInc (base - offset.sign * slew).toNat } }

/-- The correction of one Sync (R243): a step beyond the threshold while no Locked period has been or 4010h.04 is 1, else a
slew. -/
def correct (s : State) (offset : Int) : State :=
  let big := decide (s.val 0x4010 3 < offset.natAbs)
  if big ∧ (!s.time.lockedOnce ∨ s.on 0x4010 4) then
    stepClock { s with time := { s.time with timescale := 1 } } ((s.time.tx : Int) - offset).toNat
  else
    let s1 := servoInc s offset
    if offset.natAbs ≤ s.val 0x4010 6 then setTimescale s1 1 else s1

/-- The count of Sync messages within the lock threshold, and beyond four times it (R242). -/
def judgeLock (s : State) (offset : Int) : State :=
  let w := s.val 0x4010 6
  if s.time.sync = 1 then
    let n := if offset.natAbs ≤ w then s.time.goodRun + 1 else 0
    if 8 ≤ n then
      setSync { s with time := { s.time with lockedOnce := true, lastLockedInc := s.time.inc } } 2 offset
    else { s with time := { s.time with goodRun := n } }
  else if s.time.sync = 2 then
    let n := if 4 * w < offset.natAbs then s.time.badRun + 1 else 0
    if 4 ≤ n then setSync s 1 offset
    else { s with time := { s.time with badRun := n, lastLockedInc := s.time.inc } }
  else s

/-- The servo at a Sync of the source instance (R242, R243). -/
def servo (s : State) (offset : Int) : State :=
  let s1 := { s with time := { s.time with offset := offset } }
  let s2 := if s1.time.sync = 1 ∨ s1.time.sync = 2 then s1 else setSync s1 1 offset
  judgeLock (correct s2 offset) offset

/-- PTP_SYNC_RECEIVED (R243, R247, R248): a completed Sync with its origin in ps of the master's time, and the stamp of its frame. Every
instance measures its offset, with its path delay and the port's asymmetry; the source instance moves T32. -/
def execPtpSyncReceived (inst : Fin 4) (port : Fin 38) (origin : Int) (stamp : T32) (s : State) : Host.Outcome State Fault Refusal :=
  let i := inst.val
  if !(timeServes s) ∨ !(ptpMember s i port.val) ∨ slavePort s i ≠ some port.val then .next s
  else
    let diff := stampTx s stamp * 1000 - origin
    let offset := (diff - (ptpInst s i).delay - s.ival (0x40C0 + port.val) 5) / 1000
    let s1 := firstSource (setInst s i (fun x => { x with offset := offset, syncDiff := some diff }))
    if s1.time.source = some inst then .next (servo s1 offset) else .next s1

/-- A write of 4000h.0B (R244): refused while an instance has a port in the slave state. -/
def setTimeWrite (s : State) (v : Bytes) : State × Nat :=
  if (List.range 4).any (fun i => (slavePort s i).isSome) then (s, 0x0F)
  else (stepClock { s with time := { s.time with timescale := 2 } } (beAt v 0 6 * 1000000000 + beAt v 6 4), 0)

/-- SET_TIME (R244). -/
def execSetTime (ses : SessionNo) (value : Bytes) (s : State) : Host.Outcome State Fault Refusal :=
  .next (command s ses 0x4000 0x0B value (fun t => setTimeWrite t value))

/-- TPO_PROGRAM_WRITE (R255, R263): subindices 02 to 08 of a pin's program, journalled and then in force. -/
def execTpoProgramWrite (ses : SessionNo) (pin : Fin 4) (sub : BitVec 8) (value : Bytes) (s : State) : Host.Outcome State Fault Refusal :=
  if 2 ≤ sub.toNat ∧ sub.toNat ≤ 8 then
    .next (persistCommand s ses (0x4080 + pin.val) sub.toNat value (fun t => if tpoWriteOk t pin.val sub.toNat value then 0 else 8))
  else .next s

/-- ODOMETRY_EDGE (R357 to R359, R362, R364). The firing stamp is the edge's, moved back by the filter time (R358). -/
def execOdometryEdge (channel : Fin 2) (edge : OdoEdge) (s : State) : Host.Outcome State Fault Refusal :=
  if !(odoApplied s) then .next s
  else
    let r := countEdge s channel.val edge
    let stamp := s.now - BitVec.ofNat 32 (100 * s.val (0x4C10 + channel.val) 3)
    .next (if r.2 then compareTargets applyAtEvent r.1 stamp [] else r.1)

/-- A write of 4C20h.02 (R363): D32 steps by the difference, and the armed targets are compared again. -/
def setDistanceWrite (s : State) (v : Bytes) : State × Nat :=
  let s1 := extendD64 s
  let new : Int := beNat v
  let delta := signed 8 ((new - s1.pos.d64) % (2 ^ 64 : Nat)).toNat
  let d32 := s1.pos.d32 + BitVec.ofInt 32 delta
  let s2 := { s1 with pos := { s1.pos with d64 := new, d32 := d32, lastD32 := d32, lastStep := delta } }
  let s3 := raise (bump s2 0x4C30 8) 0x4C03 2 0xFF (beInt 8 delta)
  let passed := if 0 < delta then (List.range 64).filter (fun n => posDue s3 n && pastT32 (posEvent s3 n).target d32) else []
  (compareTargets applyAtEvent s3 s3.now passed, 0)

/-- SET_DISTANCE (R363). -/
def execSetDistance (ses : SessionNo) (value : Bytes) (s : State) : Host.Outcome State Fault Refusal :=
  .next (command s ses 0x4C20 2 value (fun t => setDistanceWrite t value))

/-- A tick of the device: the clock moves on, what time alone ends on the ports and lists ends, and a condition of 1001h that time alone ends
is judged; so is a reason against the ballot in progress (R73, R168, R277, R281, R395, R396). -/
def tick (s : State) : State := emcyCleared s (ballotCheck (refreshDe (canIntegrate (advanceGrids (clockTick s)))))

end Sys2Proof.Machine
end

