-- ==== Sys2Proof/Machine/Start.lean ====
section
/-! DEFINITION. The phases of a start (chapter 17: R526 to R529) with the selection of the image bank, the replay of the journal
(R514) and the restoring of the sleep snapshot (R386): START_PHASE_COMPLETE and DEEP_SLEEP_START_PHASE_COMPLETE. -/

namespace Sys2Proof.Machine

/-- The straps that a start follows (R526): 11 counts as 00 once after a Recovery activation. -/
def startStraps (s : State) : Nat := if s.op.straps = 3 ∧ s.op.afterRecovery then 0 else s.op.straps.val

def bankOf (s : State) (b : Nat) : ImageBank := (s.upd.banks[b]?).getD ImageBank.absent

def setBank (s : State) (b : Nat) (f : ImageBank → ImageBank) : State := { s with upd := { s.upd with banks := vmod s.upd.banks b f } }

/-- The bytes that have been written into a bank (R530): part k stands at k times 2,097,152, and what no part covers is erased flash. -/
def writtenBytes (parts : Tbl Bytes) : Bytes :=
  match parts.getLast? with
  | none => []
  | some l => (List.range l.1).flatMap (fun k =>
      let d := (tget parts k).getD []
      d ++ List.replicate (2097152 - d.length) 0xFF#8) ++ l.2

/-- The bytes a bank holds (R530): its parts; a bank that nothing was written into holds the factory's image. -/
def imageOf (x : ImageBank) : Bytes :=
  match x.state with
  | .empty => []
  | .staging => writtenBytes x.parts
  | _ => if x.parts.isEmpty then Config.factoryImage else writtenBytes x.parts

/-- One entry of the component table (R523). -/
def component (v : Bytes) (i : Nat) : Bytes := slice v (576 + 64 * i) 64

/-- The component of a kind in an image (R523). -/
def componentOf (v : Bytes) (kind : Nat) : Bytes :=
  match (List.range 4).find? (fun i => byteAt (component v i) 0 == kind) with
  | some i => slice v (beAt (component v i) 4 4) (beAt (component v i) 8 4)
  | none => []

/-- The MP loads the GP component of the running bank's image into both regions (R417). -/
def loadRunning (s : State) : State := loadGuard s (componentOf (imageOf (bankOf s s.upd.running)) 2)

/-- The bank in a state, if there is one. -/
def bankIn (s : State) (st : ImageState) : Option Nat := (List.range 2).find? (fun b => (bankOf s b).state == st)

/-- A bank may run as the other one (R526). -/
def bankRuns (s : State) (b : Nat) : Bool :=
  match (bankOf s b).state with
  | .active | .previous | .trial => true
  | _ => false

/-- A bank is marked Failed. -/
def failBank (s : State) (b : Nat) : State := setBank { s with upd := { s.upd with fellBack := true } } b (fun x => { x with state := .failed })

/-- The first choice of the boot ROM, and the state in which a failed trial is left behind (R526). -/
def firstChoice (s : State) : State × Option Nat :=
  match bankIn s .trial with
  | some b =>
    if s.op.cause = 3 ∨ s.op.cause = 0x44 then
      let s1 := failBank s b
      (s1, if (bankOf s1 (1 - b)).state = .previous then some (1 - b) else none)
    else (s, some b)
  | none =>
    match bankIn s .active with
    | some b => (s, some b)
    | none => (s, bankIn s .previous)

/-- The bank runs; after another was marked Failed it becomes Active, with event 2705h (R526). -/
def takeBank (s : State) (b : Nat) : State :=
  let s1 := { s with upd := { s.upd with running := b, target := 1 - b, fellBack := false } }
  if s.upd.fellBack then
    raise (setBank s1 b (fun x => { x with state := .active })) 0x2705 3 0xFF (be 1 (1 - b) ++ be 2 s.op.cause.toNat)
  else s1

/-- The selection of R526 over what verification found; false where no bank runs. -/
def selectBank (s : State) (good : Nat → Bool) : State × Bool :=
  let c := firstChoice s
  match c.2 with
  | none => (c.1, false)
  | some b =>
    if good b then (takeBank c.1 b, true)
    else
      let s1 := failBank c.1 b
      if bankRuns s1 (1 - b) then
        (if good (1 - b) then (takeBank s1 (1 - b), true) else (failBank s1 (1 - b), false))
      else (s1, false)

/-- The start goes to Recovery (R526, R539): the boot ROM serves it at once. The target bank is the one that did not run last. -/
def goRecovery (s : State) (cause : Nat) : State :=
  let s1 := { s with op := { s.op with afterRecovery := false, recoveryAsked := false }, upd := { s.upd with target := 1 - s.upd.running } }
  spiRole (enterState s1 .recovery cause)

/-- What starts with the MP component in phase 2: the first anchor (R239), and the pulse programs of Start (R255). -/
def mpStarts (s : State) : State :=
  startPrograms (writeAnchor { s with op := { s.op with phase := 3 } })

/-- Phase 2 (R526, R528). -/
def startPhase2 (s : State) (good : Nat → Bool) : State :=
  if s.op.recoveryAsked then goRecovery s 0x14
  else if startStraps s = 3 then goRecovery s 0x10
  else
    let r := selectBank s good
    if r.2 then mpStarts r.1 else goRecovery r.1 0x13

/-- Training failed (R528): it is repeated up to three times; the device then stays in Start. -/
def trainingFailed (s : State) : State :=
  if 3 < s.op.trainFails + 1 then { s with op := { s.op with trainFails := s.op.trainFails + 1, phase := 0 } }
  else { s with op := { s.op with trainFails := s.op.trainFails + 1 } }

/-- What replay gathers: values, the set that waits for its commit mark, and the newest counts. -/
structure Replay where
  cfg : Tbl Bytes
  /-- Counters of persistence P. -/
  counts : Tbl Nat
  armed : Option (List (Nat × Bytes))
  committed : BitVec 32
  distance : Option (Int × Int)
  pages : Tbl Nat
  remap : List (Nat × Nat)
  banks : Tbl (List (Nat × Nat))
deriving DecidableEq, Repr

def Replay.empty : Replay :=
  { cfg := [], counts := [], armed := none, committed := 0, distance := none, pages := [], remap := [], banks := [] }

/-- One valid record (R514); a change set counts only with its commit mark (R66). -/
def replayRecord (a : Replay) (b : JBody) : Replay :=
  match b with
  | .value k v => if isS32 k then { a with counts := replayCount a.counts b } else { a with cfg := cfgPut a.cfg (k / 256) (k % 256) v }
  | .cleared _ => { a with counts := replayCount a.counts b }
  | .armed es => { a with armed := some es }
  | .commit g =>
    if g = a.committed then a
    else
      let es := match a.armed with | some l => l.filter (fun e => isPersistent e.1) | none => []
      { a with cfg := withEntries a.cfg es, armed := none, committed := g }
  | .distance d q => { a with distance := some (d, q) }
  | .pageCounts t => { a with pages := t }
  | .pageRetired p sp => { a with remap := if a.remap.contains (p, sp) then a.remap else a.remap ++ [(p, sp)] }
  | .bankMap c l => { a with banks := tput a.banks c l }
  | _ => a

/-- The valid records in their order. -/
def validRecords (recs : List JRec) (corrupt : List Nat) : List JRec := recs.filter (fun r => r.sealed && !(corrupt.contains r.seq.toNat))

/-- What the journal says, but for the corrupt records. -/
def journalReplay (s : State) (corrupt : List Nat) : Replay :=
  (validRecords (replayRecords s.jour.recs) corrupt).foldl (fun acc r => replayRecord acc r.body) Replay.empty

/-- A bank of a column as its map gives it; one that was draining is retired (R105). -/
def bankFromCode (n : Nat) : BankState :=
  match n with
  | 0 => .service
  | 1 => .spare
  | 4 => .lost
  | _ => .retired

/-- A column with its bank map restored. -/
def restoreColumn (c : Column) (l : List (Nat × Nat)) : Column :=
  { c with
    banks := Vector.ofFn (fun (b : Fin 17) => match l[b.val]? with | some e => bankFromCode e.1 | none => (c.banks[b.val]?).getD .retired),
    symbols := Vector.ofFn (fun (b : Fin 17) => match l[b.val]? with | some e => e.2 | none => 0) }

/-- The wear data that the journal holds are in force again (R105, R480, R528). -/
def restoreWear (s : State) (a : Replay) : State :=
  let cols := (List.range 14).foldl (fun (t : State) j =>
    match tget a.banks j with
    | some l =>
      let c := restoreColumn (column t j) l
      setColumn t j { c with failed := decide (cellsInService c < 256) }
    | none => t) s
  { cols with dram := { cols.dram with
    counts := a.pages, remap := a.remap, retiredTotal := a.remap.length,
    spares := cols.dram.spares.filter (fun p => !(a.remap.any (fun e => e.2 == p))) } }

/-- D64 and Q, with the confidence of a restored charge (R362, R373). -/
def restoreDistance (s : State) (d q : Int) : State :=
  { s with
    pos := { s.pos with d64 := d, d32 := BitVec.ofInt 32 d, lastD32 := BitVec.ofInt 32 d, saved := some (d, q) },
    pow := { s.pow with charge := q, confidence := 1 } }

/-- The counters of persistence P go on from what the journal holds (R41); what has counted since goes there now. -/
def restoreCounts (s : State) (a : Replay) : State :=
  let more := s.cnt.filter (fun e => isPersistent (e.1 / 65536))
  let all := more.foldl (fun (t : Tbl Nat) e => tput t e.1 (min s32Max (tnat t e.1 + e.2))) a.counts
  let s1 := { s with cnt := all.foldl (fun (t : Tbl Nat) e => tput t e.1 e.2) s.cnt }
  more.foldl (fun t e => jAppend t (.value (e.1 / 65536) (be 4 (tnat all e.1))) .nobody) s1

/-- The object values, the counters and the generation (R41, R66, R528). -/
def restoreValues (s : State) (a : Replay) : State :=
  restoreCounts { s with cfg := a.cfg, cs := { s.cs with gen := a.committed, committed := a.committed } } a

/-- An Inclusion held since before the journal was open is appended (R510), with its stamp of detection. -/
def openInclusion (s : State) (h : Nat × Nat × Bytes × T32) : State :=
  let no := s.wear.inclusionNo + 1
  let ago := (s.now - h.2.2.2).toNat
  let then_ := { s with time := { s.time with tx := s.time.tx - ago } }
  let b := inclusionBytes then_ no h.1 h.2.1 s.wear.heldLost h.2.2.2 h.2.2.1
  let s1 := { s with wear := { s.wear with
    inclusions := (s.wear.inclusions ++ [(no, b)]).drop ((s.wear.inclusions.length + 1) - 1024), inclusionNo := no, heldLost := false } }
  raise (jAppend s1 (.inclusion no b) .nobody) 0x2607 3 0xFF (be 4 no ++ be 1 h.1 ++ be 1 h.2.1)

/-- The journal opens (R510, R508): the Inclusions held are appended, and that of a latched watchdog expiry. -/
def openJournal (s : State) : State :=
  let s1 := s.wear.held.foldl openInclusion { s with op := { s.op with phase := 6 } }
  let s2 := { s1 with wear := { s1.wear with held := [] } }
  if s2.op.watchdogLatched then recordInclusion { s2 with op := { s2.op with watchdogLatched := false } } 5 0 [] else s2

/-- Torn records are counted and reported (R514); after one at the end the write point is at the next block. -/
def noteTorn (s : State) (recs : List JRec) : State :=
  let torn := recs.filter (fun r => !r.sealed)
  match torn with
  | [] => s
  | t :: _ =>
    let last := match recs.getLast? with | some r => !r.sealed | none => false
    let s1 := torn.foldl (fun (u : State) _ => bump u 0x2660 4) { s with jour := { s.jour with fill := if last then 65536 else s.jour.fill } }
    raise s1 0x2604 2 0xFF (be 4 torn.length ++ be 4 t.seq.toNat)

/-- Corrupt records are counted and discarded, and their blocks are worn, once replay has ended (R514). -/
def noteCorrupt (s : State) (recs : List JRec) (corrupt : List Nat) : State :=
  let bad := recs.filter (fun r => r.sealed && corrupt.contains r.seq.toNat)
  let s1 := bad.foldl (fun (u : State) _ => bump u 0x2660 5) { s with jour := { s.jour with recs := s.jour.recs.filter (fun r => !(bad.contains r)) } }
  ((bad.map (fun r => r.block)).eraseDups).foldl (fun u b => flashWorn u b 2 4 []) s1

/-- The replay of the journal (R514), and the opening of it. With MODE1–MODE0 = 01 only counts, Inclusions and wear data are
taken, and the journal stays as it is (R528). -/
def replayJournal (s : State) (corrupt : List Nat) : State :=
  let recs := replayRecords s.jour.recs
  let a := journalReplay s corrupt
  let frozen := decide (startStraps s = 1)
  let s1 := restoreWear s a
  let s2 := match a.distance with | some d => restoreDistance s1 d.1 d.2 | none => s1
  let s3 := if frozen then { s2 with op := { s2.op with frozen := true } } else restoreValues s2 a
  noteCorrupt (openJournal (noteTorn s3 recs)) recs corrupt

/-- The objects that a start takes up as if a set carried them: enabled position events, and enabled gate lists (R170, R364). -/
def startCarries (s : State) (idx sub : Nat) : Bool :=
  if 0x4C60 ≤ idx ∧ idx ≤ 0x4C9F then s.on idx 1
  else if 0x3880 ≤ idx ∧ idx ≤ 0x38A5 then sub == 2 && s.on idx 1
  else false

/-- The fabric takes its configuration up at a start (R82, R99, R105, R106). -/
def startFabric (s : State) : State :=
  let s1 := (List.range 14).foldl (fun t j => formBudgets (setColumn t j { column t j with gated := columnGated t j, since := t.time.mono }) j) (restLinks s)
  (List.range 8).foldl (fun t g => if (groupMembers t g).isEmpty then t else setLag t g (lagRestored t g)) s1

/-- The MP applies the restored configuration (R528 phase 6, R491). -/
def applyStart (s : State) : State :=
  let s1 := startFabric { s with pool := poolLayout s, cs := { s.cs with appliedAt := s.now } }
  let s2 := applyEgress (startCarries s) true [] (applyLookup [] s1)
  let s3 := applyAudio [] (applyBridge [] (applyGateway [] (applyBuses [] s2)))
  refreshStb (applyTime [] (applyPower (applyPosition (startCarries s) [] (applySegments [] s3)))) false

/-- Where a start goes after its validation (R24, R528), by straps and journal; the reason shows as R61 says. -/
def startTarget (s : State) (reported : Bool) : State × (OpState × BitVec 16) :=
  match startStraps s with
  | 1 => (s, (.commissioning, 0x10))
  | 2 => (s, (.test, 0x10))
  | _ =>
    if s.cs.committed = 0 then (s, (.commissioning, 0x11))
    else match configFault s with
      | some f => (noteFault s f, (.commissioning, 0x12))
      | none => if reported then (noteFault s { key := 0, reason := 1, port := none }, (.commissioning, 0x12)) else (s, (.normal, 0x10))

/-- Phase 6 (R528). -/
def startPhase6 (s : State) (reported : Bool) : State :=
  let r := startTarget s reported
  applyStart { r.1 with op := { r.1.op with phase := 7, target := some r.2 } }

/-- The end of a start: its duration, the target state, and the sessions of the ports (R47, R542). -/
def finishStart (s : State) (new : OpState) (cause : Nat) : State :=
  let ms := min 65535 ((s.time.mono - s.op.startedAt) / 1000000)
  let s1 := { s with op := { s.op with startDuration := ms, afterRecovery := false, recoveryAsked := false } }
  busSessions (spiRole (enterState s1 new cause))

/-- Phase 3 failed (R528): the bank is marked Failed, and the start begins again without sampling the straps. -/
def loadFailed (s : State) : State :=
  let s1 := failBank s s.upd.running
  { s1 with op := { s1.op with phase := 1, warm := false, trainFails := 0 } }

/-- The self-test of the Guard Processor has passed (R437). -/
def selfTested (s : State) : State :=
  { s with op := { s.op with phase := 5 }, gp := { s.gp with testDoneAt := s.time.mono, lastTest := s.now } }

/-- One phase of a cold start ends (R528); a report that no work of the phase gives changes nothing. -/
def coldPhase (s : State) (r : PhaseReport) : State :=
  match s.op.phase, r with
  | 1, .done => { s with op := { s.op with phase := 2 } }
  | 1, .trainingFailed => trainingFailed s
  | 2, .done => startPhase2 s (fun _ => true)
  | 2, .banks a b => startPhase2 s (fun n => if n = 0 then a else b)
  | 3, .done => loadRunning { s with op := { s.op with phase := 4 } }
  | 3, .loadFailed => loadFailed s
  | 4, .done => selfTested s
  | 4, .selfTestFailed probe => finishStartSafe s probe
  | 5, .done => replayJournal s []
  | 5, .replayed l => replayJournal s l
  | 6, .done => startPhase6 s false
  | 6, .configInvalid => startPhase6 s true
  | 7, .done =>
    match s.op.target with
    | some (st, c) => finishStart s st c.toNat
    | none => s
  | _, _ => s
where
  /-- A failed self-test takes the device to Safe (R435). -/
  finishStartSafe (s : State) (probe : Bool) : State :=
    let s1 := gpFault { s with op := { s.op with afterRecovery := false } } (if probe then 4 else 3) 0xFF 0 0
    { s1 with op := { s1.op with startDuration := min 65535 ((s.time.mono - s.op.startedAt) / 1000000) } }

/-- A completed phase gives one line on DTX, with the cause code (R603). -/
def logPhase (before after : State) : State :=
  let left : Bool := match after.op.state with | .start | .recovery | .safe => false | _ => true
  if before.op.phase < after.op.phase ∨ left then emit after (.console before.op.phase before.op.cause) else after

/-- START_PHASE_COMPLETE (R528). -/
def execStartPhaseComplete (report : PhaseReport) (s : State) : Host.Outcome State Fault Refusal :=
  if s.op.state = .start ∧ !s.op.warm then .next (logPhase s (coldPhase s report)) else .next s

/-- The newest sleep snapshot. -/
def lastSnapshot (s : State) : Option (Nat × Int × Int × List (Bool × List Nat)) :=
  lastRecord s (fun b => match b with | .sleepSnapshot _ tx d q l => some (tx, d, q, l) | _ => none)

/-- The image's digest stands: the clock is restored from TX at C and the time since (R236, R238), and the first anchor carries
it. -/
def warmPhase2 (s : State) : State :=
  let tx := match lastSnapshot s with | some x => x.1 + (s.time.mono - s.slp.sleptFrom) | none => s.time.tx
  mpStarts (clockRestore s tx)

/-- The sleep snapshot is restored and applied (R386, R389): the configuration in force at C, D64, Q less the sleep load, and the
wake sources. -/
def warmPhase5 (s : State) : State :=
  let a := journalReplay s []
  let s1 := restoreValues (restoreWear s a) a
  let s2 := match lastSnapshot s with
    | some (_, d, q, l) =>
      let t := restoreDistance s1 d q
      { t with slp := { t.slp with sources := Vector.ofFn (fun (n : Fin 20) =>
        let w := wakeSrc t n.val
        match l[n.val]? with | some e => { w with quarantined := e.1, times := e.2 } | none => w) } }
    | none => s1
  let s3 := openJournal (sleepCharge s2 s2.slp.cause.slept.toNat)
  applyStart { s3 with op := { s3.op with phase := 6 } }

/-- The start continues as a cold start. -/
def turnCold (s : State) : State := { s with op := { s.op with warm := false } }

/-- One phase of a start from DeepSleep ends (R529). -/
def warmPhase (s : State) (r : PhaseReport) : State :=
  match s.op.phase, r with
  | 1, .done => { s with op := { s.op with phase := 2 } }
  | 1, .trainingFailed => trainingFailed s
  | 2, .done => warmPhase2 s
  | 2, .snapshotBad => turnCold s
  | 3, .done => loadRunning { s with op := { s.op with phase := 4 } }
  | 3, .loadFailed => loadFailed s
  | 4, .done => selfTested s
  | 4, .selfTestFailed probe => coldPhase.finishStartSafe s probe
  | 5, .done => warmPhase5 s
  | 5, .snapshotBad => turnCold (raise s 0x2408 3 0xFF (be 4 (journalReplay s []).committed.toNat))
  | 6, .done => canWake (wakeEvent (finishStart s .normal 0x31))
  | _, _ => s

/-- DEEP_SLEEP_START_PHASE_COMPLETE (R529, R386, R390). -/
def execDeepSleepStartPhaseComplete (report : PhaseReport) (s : State) : Host.Outcome State Fault Refusal :=
  if s.op.state = .start ∧ s.op.warm then .next (logPhase s (warmPhase s report)) else .next s

end Sys2Proof.Machine
end

