-- ==== Sys2Proof/Machine/Update.lean ====
section
/-! DEFINITION. Images and field update (chapter 17: R522 to R525, R530 to R544): staging, verification, activation with its pause,
trial and confirmation, Recovery and the field lock. The commands BEGIN_STAGING, STAGING_ERASE_COMPLETE, IMAGE_PART_WRITE,
VERIFY_IMAGE, ACTIVATE_IMAGE, CONFIRM_IMAGE, DISCARD_BANK, REVERT_TO_PREVIOUS, HANDOVER_INSTANT (R466, R533),
ACTIVATION_HANDOVER_TIMEOUT, ACTIVATION_PAUSE_PHASE_COMPLETE, TRIAL_TIME_EXPIRY, FIELD_LOCK_REQUEST and RECOVERY_TARGET_WRITE. -/

namespace Sys2Proof.Machine

def ImageState.code : ImageState → Nat
  | .empty => 0
  | .staging => 1
  | .staged => 2
  | .trial => 3
  | .active => 4
  | .previous => 5
  | .failed => 6

/-- The largest component of a kind (R523). -/
def componentLimit (kind : Nat) : Nat :=
  match kind with
  | 2 => 131072
  | 3 => 65536
  | 4 => 262144
  | _ => 12514320

/-- The component table names the four kinds once, within their lengths and inside the file (R523, R524). -/
def tableOk (v : Bytes) : Bool :=
  [1, 2, 3, 4].all (fun k => (List.range 4).any (fun i => byteAt (component v i) 0 == k)) &&
    (List.range 4).all (fun i =>
      decide (beAt (component v i) 8 4 ≤ componentLimit (byteAt (component v i) 0)) &&
        decide (beAt (component v i) 4 4 + beAt (component v i) 8 4 ≤ v.length))

/-- Every component has the digest its entry states (R523). -/
def digestsOk (v : Bytes) : Bool :=
  (List.range 4).all (fun i =>
    Config.sha384 (slice v (beAt (component v i) 4 4) (beAt (component v i) 8 4)) == slice (component v i) 16 48)

/-- The unit may run the image (R522, R524). -/
def boundOk (v : Bytes) : Bool :=
  byteAt v 13 == 0 || (List.range (min 64 (byteAt v 13))).any (fun i => beAt v (64 + 8 * i) 8 == Config.unitId.toNat)

/-- The verification of R524: the reason of the first check that fails, 0 where the image verifies. -/
def verifyReason (s : State) (v : Bytes) : Nat :=
  if beAt v 0 4 ≠ 0x4D584931 then 1
  else if beAt v 4 4 ≠ 0x72600001 then 2
  else if beAt v 16 4 ≠ v.length ∨ 12514320 < v.length then 3
  else if !(tableOk v) then 4
  else if !(digestsOk v) then 5
  else if !(Config.imageSignatureValid (v.take (v.length - 96)) (v.drop (v.length - 96))) then 6
  else if !(boundOk v) then 7
  else if byteAt v 12 < s.upd.fuses then 8
  else 0

/-- The rollback step of a bank's image. -/
def stepOf (s : State) (b : Nat) : Nat := byteAt (imageOf (bankOf s b)) 12

/-- "major.minor.patch" (R522); empty where there is no image. -/
def versionText (v : Bytes) : Bytes :=
  if v.isEmpty then []
  else strBytes (toString (byteAt v 8) ++ "." ++ toString (byteAt v 9) ++ "." ++ toString (beAt v 10 2))

/-- Event 2704h: 1 emergency, 2 state, 3 bank, 4 handover, 5 verify. -/
def updAbandoned (s : State) (cause : Nat) : State := raise s 0x2704 2 0xFF (be 1 cause)

/-- The result of a command shows in 2700h.05, and its failure reason in 2700h.06. -/
def updResult (s : State) (code reason : Nat) : State × Option Nat :=
  ({ s with upd := { s.upd with lastResult := BitVec.ofNat 8 code, failReason := BitVec.ofNat 8 reason } }, some code)

/-- A flash block of the bank waits for a replacement (R504, R530). -/
def bankWaits (s : State) (b : Nat) : Bool := s.wear.bankWaiting.any (fun n => n / 192 == b)

/-- Staging is barred (R530): the running bank is in Trial, an activation or an erase is in progress, or a block waits. In Recovery no bank
runs (DEDUCED, log entry 204). -/
def stagingBarred (s : State) : Bool :=
  ((bankOf s s.upd.running).state == .trial && s.op.state != .recovery) || s.upd.activating != 0 || s.upd.erasing.isSome || bankWaits s s.upd.target

/-- Command 1 (R530): the erase begins, and is answered when it ends. -/
def beginStagingWrite (s : State) (dest : ReplyTo) : State × Option Nat :=
  if stagingBarred s then updResult s 0x0F 0
  else
    (setBank { s with upd := { s.upd with erasing := some dest } } s.upd.target (fun x => { x with state := .staging, parts := [] }), none)

/-- Command 2 (R530): the target bank is verified, and is Staged or Failed. -/
def verifyWrite (s : State) : State × Option Nat :=
  let b := s.upd.target
  let st := (bankOf s b).state
  if stagingBarred s then updResult s 0x0F 0
  else if st ≠ .staging ∧ st ≠ .staged ∧ st ≠ .failed then updResult s 0x0F 9
  else
    let v := imageOf { bankOf s b with state := .staging }
    let r := verifyReason s v
    if r = 0 then
      let s1 := setBank s b (fun x => { x with state := .staged })
      updResult (raise s1 0x2701 1 0xFF (be 1 b ++ versionText v ++ be 1 (byteAt v 12))) 0 0
    else updResult (setBank s b (fun x => { x with state := .failed })) 0x0D r

/-- Command 5 (R531). -/
def discardWrite (s : State) : State × Option Nat :=
  let b := s.upd.target
  let st := (bankOf s b).state
  if (st = .staging ∨ st = .staged ∨ st = .failed) ∧ s.upd.activating = 0 ∧ s.upd.erasing.isNone then
    updResult (setBank s b (fun x => { x with state := .empty, parts := [] })) 0 0
  else updResult s 0x0F 9

/-- The trial bank is confirmed (R537, R538). -/
def confirm (s : State) (b : Nat) : State :=
  let n := max s.upd.fuses (stepOf s b)
  let s1 := setBank { s with upd := { s.upd with fuses := n } } b (fun x => { x with state := .active })
  let other := bankOf s1 (1 - b)
  let s2 := if other.state = .previous ∧ stepOf s1 (1 - b) < n then setBank s1 (1 - b) (fun x => { x with state := .failed }) else s1
  raise s2 0x2706 1 0xFF (be 1 b ++ be 1 n)

/-- Command 4 (R537). -/
def confirmWrite (s : State) : State × Option Nat :=
  match bankIn s .trial with
  | some b => updResult (confirm s b) 0 0
  | none => updResult s 0x0F 9

/-- The number of a new activation (R525). -/
def nextActivation (s : State) : BitVec 32 :=
  BitVec.ofNat 32 (max (bankOf s 0).actNo.toNat (bankOf s 1).actNo.toNat + 1)

/-- The new bank goes to Trial with a new activation number, and the other one from Active to Previous (R525, R534, R536). -/
def toTrial (s : State) (b : Nat) : State :=
  let n := nextActivation s
  setBank (setBank s b (fun x => { x with state := .trial, actNo := n })) (1 - b) (fun x =>
    match x.state with
    | .active | .trial => { x with state := .previous }
    | _ => x)

/-- The object of an SDO transfer in progress. -/
def sdoObject (x : SdoTransfer) : Option (Nat × Nat) :=
  match x with
  | .idle => none
  | .upload i k _ _ => some (i, k)
  | .download i k _ _ _ => some (i, k)
  | .blockDownload i k _ _ _ _ _ => some (i, k)
  | .blockUpload i k _ _ _ _ _ => some (i, k)
  | .answering i k _ => some (i, k)

/-- Every SDO transfer in progress is aborted with 0x0800_0000 (R534). -/
def abortTransfers (s : State) : State :=
  (List.range 8).foldl (fun t cn =>
    match t.sessions[8 + cn]? with
    | some x => match sdoObject x.sdo with | some o => sdoAbort t cn o.1 o.2 0x08000000 | none => t
    | none => t) s

/-- The activation pause starts (R533, R534): the command is answered, MOS sessions close, SDO transfers are aborted, and event
2702h is raised. -/
def startPause (s : State) : State :=
  let cmd := s.upd.lastCommand.toNat
  let s1 := reply { s with upd := { s.upd with lastResult := 0, failReason := 0 } } s.upd.activator 0 []
  let s2 := closeMos (abortTransfers s1) 5
  raise { s2 with upd := { s2.upd with activating := 2, phase := 1, pauseStart := s2.time.mono, fellBack := false, activator := .nobody } }
    0x2702 1 0xFF (be 1 s.upd.newBank ++ be 1 cmd)

/-- What stands against an activation (R532): the cause of event 2704h. -/
def activationBar (s : State) : Option Nat :=
  if s.aud.emergency then some 1
  else if s.upd.activating ≠ 0 ∨ s.cs.validating.isSome ∨ s.slp.ballot.state = 3 ∨ s.slp.entering then some 2
  else none

/-- The bank is activated (R533, R536): in Recovery by a restart, else after a handover where the device is Active with a Standby. -/
def activate (s : State) (b cmd : Nat) (dest : ReplyTo) : State × Option Nat :=
  if s.op.state = .recovery then
    let s1 := toTrial (reply { s with upd := { s.upd with lastResult := 0, failReason := 0 } } dest 0 []) b
    (restart { s1 with op := { s1.op with afterRecovery := true } } 4 s1.op.straps false, none)
  else
    let s1 := { s with upd := { s.upd with newBank := b, oldBank := s.upd.running, lastCommand := BitVec.ofNat 8 cmd, activator := dest } }
    if pairActs s1 ∧ s1.pair.role = .active ∧ standbyPresent s1 then
      (sendPair { s1 with upd := { s1.upd with activating := 1, pauseStart := s1.time.mono } } 0 0x35 (be 1 2), none)
    else (startPause s1, none)

/-- Command 3 (R532). -/
def activateWrite (s : State) (dest : ReplyTo) : State × Option Nat :=
  match s.op.state with
  | .normal | .commissioning | .recovery =>
    match activationBar s with
    | some c => updResult (updAbandoned s c) 0x0F 0
    | none =>
      if (bankOf s s.upd.target).state = .staged then activate s s.upd.target 3 dest
      else updResult (updAbandoned s 3) 0x0F 9
  | _ => updResult s 6 0

/-- Command 6 (R532): the other bank, verified again. -/
def revertWrite (s : State) (dest : ReplyTo) : State × Option Nat :=
  let b := 1 - s.upd.running
  match activationBar s with
  | some c => updResult (updAbandoned s c) 0x0F 0
  | none =>
    if (bankOf s b).state ≠ .previous then updResult (updAbandoned s 3) 0x0F 9
    else
      let r := verifyReason s (imageOf (bankOf s b))
      if r = 0 then activate s b 6 dest else updResult (updAbandoned s 3) 0x0F r

/-- A write to 2700h.01 (R530 to R538). -/
def updWrite (s : State) (dest : ReplyTo) (code : Nat) : State × Option Nat :=
  match code with
  | 1 => beginStagingWrite s dest
  | 2 => verifyWrite s
  | 3 => activateWrite s dest
  | 4 => confirmWrite s
  | 5 => discardWrite s
  | 6 => revertWrite s dest
  | _ => updResult s 8 0

/-- A command of 2700h.01 by its code. -/
def updCommand (s : State) (ses : SessionNo) (code : Nat) : State :=
  lateCommand s ses 0x2700 1 (be 1 code) (fun t => updWrite t (.session ses) code)

/-- BEGIN_STAGING (R530). -/
def execBeginStaging (ses : SessionNo) (s : State) : Host.Outcome State Fault Refusal := .next (updCommand s ses 1)

/-- VERIFY_IMAGE (R524, R530). -/
def execVerifyImage (ses : SessionNo) (s : State) : Host.Outcome State Fault Refusal := .next (updCommand s ses 2)

/-- ACTIVATE_IMAGE (R532, R533, R536). -/
def execActivateImage (ses : SessionNo) (s : State) : Host.Outcome State Fault Refusal := .next (updCommand s ses 3)

/-- CONFIRM_IMAGE (R537). -/
def execConfirmImage (ses : SessionNo) (s : State) : Host.Outcome State Fault Refusal := .next (updCommand s ses 4)

/-- DISCARD_BANK (R531). -/
def execDiscardBank (ses : SessionNo) (s : State) : Host.Outcome State Fault Refusal := .next (updCommand s ses 5)

/-- REVERT_TO_PREVIOUS (R532). -/
def execRevertToPrevious (ses : SessionNo) (s : State) : Host.Outcome State Fault Refusal := .next (updCommand s ses 6)

/-- STAGING_ERASE_COMPLETE (R502, R503, R530): blocks 0 to 190 of the bank have been erased once more; the blocks given failed
their verify. -/
def execStagingEraseComplete (failed : List Nat) (s : State) : Host.Outcome State Fault Refusal :=
  match s.upd.erasing with
  | none => .next s
  | some dest =>
    let base := 192 * s.upd.target
    let s1 := (List.range 191).foldl (fun t n => eraseBlock t (base + n)) { s with upd := { s.upd with erasing := none } }
    let s2 := (failed.filter (fun n => decide (n < 191))).foldl (fun t n => flashWorn t (base + n) 2 1 []) s1
    .next (reply { s2 with upd := { s2.upd with lastResult := 0, failReason := 0 } } dest 0 [])

/-- A completed write of an image part (R530): stored in the bank; where a block of it fails its verify and no block replaces it,
refused with reason 10. -/
def partWrite (s : State) (part : Nat) (data : Bytes) (failed : Option Nat) : State × Nat :=
  let b := s.upd.target
  let refuse := fun (t : State) (r : Nat) => ({ t with upd := { t.upd with failReason := BitVec.ofNat 8 r } }, 0x0F)
  if stagingBarred s then refuse s 0
  else if (bankOf s b).state ≠ .staging then refuse s 9
  else
    let s1 := match failed with
      | some n => if n < 191 then flashWorn s (192 * b + n) 2 1 [] else s
      | none => s
    if bankWaits s1 b then refuse s1 10
    else (setBank s1 b (fun x => { x with parts := tput x.parts part data }), 0)

/-- IMAGE_PART_WRITE (R530, R543). -/
def execImagePartWrite (ses : SessionNo) (part : Fin 6) (data : Bytes) (failed : Option Nat) (s : State) : Host.Outcome State Fault Refusal :=
  .next (command s ses 0x2710 (part.val + 1) data (fun t => partWrite t part.val data failed))

/-- HANDOVER_INSTANT (R466): at H the Active hands over; where an activation waits for it, its pause starts (R533). An Active
that is emergency active defers the handover. -/
def execHandoverInstant (s : State) : Host.Outcome State Fault Refusal :=
  match s.pair.handover with
  | none => .next s
  | some (h, cause) =>
    if pairActs s ∧ s.pair.role = .active ∧ dueT32 h s.now then
      if s.aud.emergency then .next { s with pair := { s.pair with handover := none, deferred := some cause } } else
      let s1 := handoverOut s h cause
      .next (if s1.upd.activating = 1 then startPause s1 else s1)
    else .next s

/-- ACTIVATION_HANDOVER_TIMEOUT (R533): within 1 s no handover has completed; the activation is refused, and the device stays Active. -/
def execActivationHandoverTimeout (s : State) : Host.Outcome State Fault Refusal :=
  if s.upd.activating = 1 ∧ s.upd.pauseStart + 1000000000 ≤ s.time.mono then
    let s1 := updAbandoned { s with
      upd := { s.upd with activating := 0, lastResult := 0x0F, activator := .nobody },
      pair := { s.pair with handover := none, deferred := none } } 4
    .next (reply s1 s.upd.activator 0x0F [])
  else .next s

/-- Phase 1 of the pause (R534, R438): bank states, the output hold released, the Guard Processor stopped, an anchor, and the
activation record. -/
def pausePhase1 (s : State) : State :=
  let s1 := toTrial (applyVerdicts s) s.upd.newBank
  let g := gpCold s1
  let s2 := writeAnchor { s1 with gp := { g with running := s1.gp.running, resignTemplate := [], resignLeft := 0 } }
  jAppend { s2 with upd := { s2.upd with phase := 2 } }
    (.note 1 (be 1 s.upd.newBank ++ be 4 (bankOf s1 s.upd.newBank).actNo.toNat)) .nobody

/-- Phase 2 (R535): a bank that does not verify is Failed, and the old one is loaded instead. -/
def pausePhase2 (s : State) (good : Bool) : State :=
  if good then { s with upd := { s.upd with phase := 3, running := s.upd.newBank, target := s.upd.oldBank } }
  else
    let s1 := setBank (setBank s s.upd.newBank (fun x => { x with state := .failed })) s.upd.oldBank (fun x => { x with state := .active })
    { s1 with upd := { s1.upd with phase := 3, fellBack := true } }

/-- The Guard Processor's tasks start from their defaults (R429, R438), with event 2905h. -/
def handoverLost (s : State) : State :=
  let s1 := { s with
    aud := { s.aud with calls := [], callQueue := [], emergency := false, grants := AudioBlock.reset.grants },
    pow := { s.pow with stages := 0, voltageStages := 0 },
    pair := { s.pair with capsuleSeq := 0 } }
  let s2 := if s1.op.state = .normal ∧ s1.on 0x2A00 1 then setRole s1 .discovering 1 else s1
  raise (segmentsEnter s2 false 0) 0x2905 2 0xFF []

/-- The pause fails on its configuration or a component (R535): the new bank is Failed, and the device starts from the old one. -/
def pauseRestart (s : State) : State :=
  let s1 := setBank s s.upd.newBank (fun x => { x with state := .failed })
  let s2 := restart s1 4 s1.op.straps false
  { s2 with upd := { s2.upd with fellBack := true } }

/-- Phase 5 (R491, R534, R535): the configuration in force is validated, buffers without Keep are reclaimed. -/
def pausePhase5 (s : State) (configOk handoverOk : Bool) : State :=
  if !configOk ∨ (configFault s).isSome then pauseRestart s
  else
    let s1 := if handoverOk then s else handoverLost s
    let s2 := reclaim s1 (fun t => decide (1 ≤ t.owner) && decide (t.owner ≤ 7) && !t.keep)
    let clear := fun (c : PoolClass) => { c with tags := c.tags.map (fun e => (e.1, { e.2 with keep := e.2.keep && !(decide (1 ≤ e.2.owner) && decide (e.2.owner ≤ 7)) })) }
    { s2 with upd := { s2.upd with phase := 6 }, pool := { s2.pool with classes := s2.pool.classes.map clear } }

/-- Phase 6 (R290, R324, R534, R535, R67): services resume. -/
def pausePhase6 (s : State) : State :=
  let ms := (s.time.mono - s.upd.pauseStart) / 1000000
  let back := s.upd.fellBack
  let s1 := writeAnchor { s with upd := { s.upd with
    activating := 0, phase := 0, lastPause := min 65535 ms, fellBack := false,
    normalSince := if s.op.state = .normal then some s.time.mono else none } }
  let s2 := bridgeAfterPause (busAfterPause s1)
  let s3 := if back then updAbandoned s2 5 else raise s2 0x2703 1 0xFF (be 1 s.upd.newBank ++ be 2 (min 65535 ms))
  gpOpen (applyAfterPause s3)

/-- A failed self-test in phase 4 takes the device to Safe, without a resign frame (R438, R535). -/
def pauseToSafe (s : State) (probe : Bool) : State :=
  gpFault { s with upd := { s.upd with activating := 0, phase := 0 } } (if probe then 4 else 3) 0xFF 0 0

/-- One phase of the pause ends (R534). -/
def pausePhase (s : State) (r : PhaseReport) : State :=
  match s.upd.phase, r with
  | 1, .done => pausePhase1 s
  | 2, .done => pausePhase2 s true
  | 2, .banks a b => pausePhase2 s (if s.upd.newBank = 0 then a else b)
  | 3, .done => loadRunning { s with upd := { s.upd with phase := 4 } }
  | 3, .loadFailed => pauseRestart s
  | 4, .done => { s with upd := { s.upd with phase := 5 } }
  | 4, .selfTestFailed probe => pauseToSafe s probe
  | 5, .done => pausePhase5 s true true
  | 5, .snapshotBad => pausePhase5 s true false
  | 5, .configInvalid => pausePhase5 s false true
  | 6, .done => pausePhase6 s
  | _, _ => s

/-- ACTIVATION_PAUSE_PHASE_COMPLETE (R534, R535). -/
def execActivationPausePhaseComplete (report : PhaseReport) (s : State) : Host.Outcome State Fault Refusal :=
  if s.upd.activating = 2 then .next (pausePhase s report) else .next s

/-- TRIAL_TIME_EXPIRY (R537). -/
def execTrialTimeExpiry (s : State) : Host.Outcome State Fault Refusal :=
  match bankIn s .trial, s.upd.normalSince with
  | some b, some t =>
    if s.op.state = .normal ∧ s.val 0x2700 8 ≠ 0 ∧ t + s.val 0x2700 8 * 1000000000 ≤ s.time.mono ∧ s.upd.activating ≠ 2 then .next (confirm s b)
    else .next s
  | _, _ => .next s

/-- A write to 2700h.0A (R540). -/
def fieldLockWrite (s : State) (v : Nat) : State × Nat :=
  if s.op.state ≠ .commissioning then (s, 6)
  else if v ≠ 0x4C4F434B then (s, 8)
  else if s.upd.lockFuse then (s, 0)
  else (raise { s with upd := { s.upd with lockFuse := true } } 0x2707 2 0xFF [], 0)

/-- FIELD_LOCK_REQUEST (R540). -/
def execFieldLockRequest (ses : SessionNo) (value : BitVec 32) (s : State) : Host.Outcome State Fault Refusal :=
  .next (command s ses 0x2700 0x0A (be 4 value.toNat) (fun t => fieldLockWrite t value.toNat))

/-- A write to 2700h.0B (R539, R542). -/
def recoveryTargetSet (s : State) (v : Nat) : State × Nat :=
  if s.op.state ≠ .recovery then (s, 6)
  else if 1 < v then (s, 8)
  else ({ s with upd := { s.upd with target := v } }, 0)

/-- RECOVERY_TARGET_WRITE (R539). -/
def execRecoveryTargetWrite (ses : SessionNo) (value : BitVec 8) (s : State) : Host.Outcome State Fault Refusal :=
  .next (command s ses 0x2700 0x0B (be 1 value.toNat) (fun t => recoveryTargetSet t value.toNat))

/-- The seconds that a trial still needs (R537, R542). -/
def trialLeft (s : State) : Nat :=
  match bankIn s .trial with
  | none => 0
  | some _ =>
    let n := s.val 0x2700 8
    match s.upd.normalSince with
    | some t => n - (s.time.mono - t) / 1000000000
    | none => n

/-- What the objects of R542 and R543 show, with 100Ah and 1018h.03 (R45). -/
def liveUpdate (s : State) (idx sub : Nat) : Option Bytes :=
  if idx = 0x2701 ∨ idx = 0x2702 then
    let x := bankOf s (idx - 0x2701)
    let v := match x.state with | .staging => [] | _ => imageOf x
    match sub with
    | 1 => some (be 1 x.state.code)
    | 2 => some (versionText v)
    | 3 => some (be 1 (byteAt v 12))
    | 4 => some (be 4 x.actNo.toNat)
    | 5 => some (be 4 v.length)
    | 6 => some (be 1 (byteAt v 13))
    | _ => none
  else
    let run := imageOf (bankOf s s.upd.running)
    match idx, sub with
    | 0x100A, 0 => some (versionText run)
    | 0x1018, 3 => some (be 2 0x00B1 ++ be 2 (byteAt run 8))
    | 0x2700, 2 => some (be 1 s.upd.running)
    | 0x2700, 3 => some (be 1 s.upd.target)
    | 0x2700, 4 => some (be 1 s.upd.activating)
    | 0x2700, 5 => some (be 1 s.upd.lastResult.toNat)
    | 0x2700, 6 => some (be 1 s.upd.failReason.toNat)
    | 0x2700, 7 => some (be 1 s.upd.fuses)
    | 0x2700, 9 => some (be 2 (trialLeft s))
    | 0x2700, 0x0C => some (be 2 s.op.startDuration)
    | 0x2700, 0x0D => some (be 2 s.upd.lastPause)
    | 0x2700, 0x0E => some (be 1 s.op.straps.val)
    | _, _ => none

end Sys2Proof.Machine
end

