-- ==== Sys2Proof/Machine/Access.lean ====
section
/-! DEFINITION. Object accesses (chapter 02: R36 to R51, R70 to R77): the value of every object, reads that have an effect, the
writes of every apply class, counter groups, and the commands OBJECT_READ, OBJECT_WRITE, COUNTER_CLEAR, COUNTER_LATCH,
VENDOR_CHALLENGE_READ, VENDOR_RESPONSE_WRITE, EVENT_RECORD_READ and EVENT_READ_POSITION_WRITE. -/

namespace Sys2Proof.Machine

/-- A counter group (R75): Latch at subindex 01, Latched at at 02. -/
def isGroup (idx : Nat) : Bool :=
  match objRow? idx 1, objRow? idx 2 with
  | some a, some b => a.ty == .u8 && a.acc == .rw && a.apply == .i && b.ty == .t32 && b.acc == .ro
  | _, _ => false

/-- The selector of a counter that stands once per handle, function or pair, as the session has chosen it (R148, R231). -/
def selector (s : State) (ses idx : Nat) : Nat :=
  match idx with
  | 0x3640 => getOwn s ses 0x3641 1
  | 0x3710 => getOwn s ses 0x3641 2
  | 0x3CC0 => getOwn s ses 0x3CC1 1
  | _ => 0

/-- The snapshot a session holds of a group. -/
def snapshotOf (s : State) (ses idx : Nat) : Option Snapshot :=
  match s.sessions[ses]? with
  | some x => x.snapshots.find? (fun p => p.index == idx)
  | none => none

/-- What a session reads from a counter (R76, R77). -/
def counterValue (s : State) (ses idx sub : Nat) : Nat :=
  match snapshotOf s ses idx with
  | some p => ((p.values.find? (fun e => e.1 == ckey idx sub p.sel)).map (fun e => e.2)).getD 0
  | none => tnat s.cnt (ckey idx sub (selector s ses idx))

/-- A write of the Latch subindex (R76): every counter of the group is copied at one tick, of the handle, function or pair selected at
that moment (R149, R231); at most 32 snapshots. -/
def latchWrite (s : State) (ses idx v : Nat) : State × Nat :=
  let others := fun (x : Session) => x.snapshots.filter (fun p => p.index != idx)
  match v with
  | 0 => ({ s with sessions := vmod s.sessions ses (fun x => { x with snapshots := others x }) }, 0)
  | 1 =>
    let sel := selector s ses idx
    let p : Snapshot :=
      { index := idx, sel := sel, stamp := s.now, values := s.cnt.filter (fun e => e.1 / 65536 / 256 == idx && e.1 % 65536 == sel) }
    ({ s with sessions := vmod s.sessions ses (fun x => { x with snapshots := (p :: others x).take 32 }) }, 0)
  | _ => (s, 8)

/-- Objects that stand once per session: selectors and read positions. -/
def perSession (idx sub : Nat) : Bool :=
  match idx, sub with
  | 0x2301, 1 | 0x2620, 1 | 0x2B00, 7 | 0x2B11, 0x13 | 0x2B61, 1 | 0x3511, 1 | 0x3641, 1 | 0x3641, 2 | 0x3641, 3 | 0x3CC1, 1
  | 0x3D00, 1 | 0x3D10, 1 | 0x4600, 7 | 0x4601, 7 | 0x4700, 4 | 0x4840, 1 => true
  | _, _ => false

/-- The bytes of an event record (R70), with flag bit 0 where records were lost before it. -/
def eventBytes (r : EventRec) (lost : Bool) : Bytes :=
  be 2 r.code.toNat ++ be 1 r.severity.toNat ++ be 1 r.data.length ++ be 4 r.stamp.toNat ++ be 2 r.secs.toNat ++ be 1 r.source.toNat ++
    be 1 (boolNat lost + 2 * boolNat r.inStart) ++ be 4 r.seq.toNat ++ padTo 16 r.data

/-- The next record is read, all zero if none (R71, R72). -/
def eventRead (s : State) (ses : Nat) : State × Bytes :=
  ringRead s ses 0x2301 1 32 11 0 s.ev.ring.length s.ev.next
    (fun d => match s.ev.ring[d]? with | some r => eventBytes r false | none => zeros 32)
    (fun x => x.lostFlag) (fun x => { x with lostFlag := false })

/-- The read position is set (R71). -/
def eventSeek (s : State) (ses : Nat) (pos : BitVec 32) : State :=
  ringSeek s ses 0x2301 1 s.ev.ring.length s.ev.next pos (fun x => { x with lostFlag := true })

/-- A read of 2120h.05 (R51): a new challenge, bound to the session. -/
def challengeRead (s : State) (ses : Nat) : State × Bytes :=
  let r := drawBytes s 16
  ({ r.1 with sessions := vmod r.1.sessions ses (fun x => { x with challenge := some (r.2, s.time.mono) }) }, r.2)

/-- Reads with an effect of their own. -/
def readEffect (s : State) (ses idx sub : Nat) : Option (State × Bytes) :=
  match idx, sub with
  | 0x2301, 2 => some (eventRead s ses)
  | 0x2120, 5 => some (challengeRead s ses)
  | 0x2620, 2 => some (inclusionRead s ses)
  | 0x2B61, 2 => some (misuseRead s ses)
  | 0x3D10, 2 => some (zoneLogRead s ses)
  | 0x40A0, 5 => some (takeCapture s 0)
  | 0x40A1, 5 => some (takeCapture s 1)
  | 0x4820, 1 => some (takeLateFault s)
  | 0x4830, 1 => some (takeStranded s)
  | _, _ => none

/-- The bitmap of open sessions (R49). -/
def openBitmap (s : State) : Nat := (List.range 18).foldl (fun (n : Nat) k => if isOpen s k then n + 2 ^ k else n) 0

/-- The rings that run (R563). -/
def ringsRunning (s : State) : Nat := (List.range 16).foldl (fun (n : Nat) r => if ringRuns s r then n + 2 ^ r else n) 0

/-- Status values of chapters 01, 02, 13 and 18, and those of the supply's version text. -/
def liveCore (s : State) (ses idx sub : Nat) : Option Bytes :=
  match idx, sub with
  | 0x1001, 0 => some (be 1 (errorRegister s))
  | 0x1009, 0 => some (if Config.engineeringSample then [0x42, 0x31, 0x2D, 0x45, 0x53] else [0x42, 0x31])
  | 0x1018, 4 => some (be 4 (Config.unitId.toNat % 2 ^ 32))
  | 0x2000, 1 => some (be 1 s.op.state.code)
  | 0x2000, 3 => some (be 1 s.op.previous.toNat)
  | 0x2000, 4 => some (be 2 s.op.cause.toNat)
  | 0x2000, 5 => some (txBytes s.op.enteredAt)
  | 0x2100, 1 => some (be 1 (((List.range 18).filter (isOpen s)).length))
  | 0x2100, 4 => some (be 1 ses)
  | 0x2100, 5 => some (be 1 (roleOf s ses))
  | 0x2100, 6 => some (be 4 (openBitmap s))
  | 0x2120, 1 => some Config.deviceCertificate
  | 0x2120, 4 => some (be 1 (boolNat s.upd.lockFuse))
  | 0x2300, 5 => some (be 4 s.ev.next.toNat)
  | 0x2800, 1 => some (be 1 s.host.link.toNat)
  | 0x2800, 2 => some (be 1 s.host.rate.toNat)
  | 0x2800, 5 => some (be 2 (ringsRunning s))
  | 0x2900, 9 => some (versionText (imageOf (bankOf s s.upd.running)))
  | _, _ => none

/-- The values that the chapters compute from their state. -/
def liveValue (s : State) (ses idx sub : Nat) : Option Bytes :=
  firstOf [
    fun _ => liveCore s ses idx sub, fun _ => liveFabric s idx sub, fun _ => liveLookup s ses idx sub, fun _ => liveEgress s idx sub,
    fun _ => liveZone s ses idx sub, fun _ => liveTime s idx sub, fun _ => liveBuses s ses idx sub, fun _ => liveGateway s ses idx sub,
    fun _ => liveBridge s ses idx sub, fun _ => liveAudio s idx sub, fun _ => livePosition s idx sub, fun _ => livePower s idx sub,
    fun _ => liveSleep s idx sub, fun _ => liveGuard s idx sub, fun _ => livePair s idx sub, fun _ => liveMemory s ses idx sub,
    fun _ => liveWear s idx sub, fun _ => liveCs s idx sub, fun _ => liveUpdate s idx sub]

/-- What a session reads from an object (R43, R76): a counter, a status value, its own selector, a stored status value, or the
value in force. Latched at (02) of a group has no default in R75: it reads 0 while the session holds no snapshot (DESIGN CHOICE,
log entry 164). -/
def objectValue (s : State) (ses : Nat) (x : ObjRow) (idx sub : Nat) : Bytes :=
  match x.ty with
  | .s32 => be 4 (counterValue s ses idx sub)
  | .w64 => be 8 (counterValue s ses idx sub)
  | t =>
    if isGroup idx ∧ sub = 1 then be 1 (boolNat (snapshotOf s ses idx).isSome)
    else if isGroup idx ∧ sub = 2 then be 4 (match snapshotOf s ses idx with | some p => p.stamp.toNat | none => 0)
    else if perSession idx sub then be ((t.size?).getD 4) (getOwn s ses idx sub)
    else match liveValue s ses idx sub with
    | some b => b
    | none =>
      match tget s.store (ckey idx sub 0) with
      | some b => b
      | none => cfgBytes s.cfg idx sub

/-- An object is read: the state, the result and the value (R37, R39, R40, R43, R44). -/
def readObject (s : State) (ses idx sub : Nat) : State × Nat × Bytes :=
  match readCheck s ses idx sub with
  | .inr c => (s, c, [])
  | .inl x =>
    match readEffect s ses idx sub with
    | some r => (r.1, 0, r.2)
    | none => (s, 0, objectValue s ses x idx sub)

/-- The transport of a session as events name it (R74): 1 MOS, 2 SDO, 3 SPI, 4 PCIe. -/
def transportOf (ses : Nat) : Nat := if ses < 8 then 1 else if ses < 16 then 2 else if ses = 16 then 3 else 4

/-- An authentication failure (R49, R74): counted in 2100h.03, with event 2102h. -/
def authFailed (s : State) (transport reason : Nat) : State := raise (bump s 0x2100 3) 0x2102 2 0xFF (openCode 0x2101 transport ++ openCode 0x2102 reason)

/-- A write of 2120h.06 (R48, R51): within 60 s of the session's challenge, and valid, it raises the session to Vendor where its
transport's cap allows it. -/
def responseWrite (s : State) (ses : Nat) (v : Bytes) : State × Nat :=
  match s.sessions[ses]? with
  | none => (s, 0x0F)
  | some x =>
    let good := match x.challenge with
      | some (c, t) => decide (s.time.mono < t + 60000000000) && Config.vendorSignatureValid c v
      | none => false
    if good then
      (if x.vendor ∨ 16 ≤ ses then { s with sessions := vmod s.sessions ses (fun y => { y with role := 3 }) } else s, 0)
    else (authFailed s (transportOf ses) 4, 0x0F)

/-- A write to 2000h.02 (R24 to R29). A restart samples the straps as they stood at the last one (DEDUCED, log entry 7). -/
def stateWrite (s : State) (ses : SessionNo) (dest : ReplyTo) (code : Nat) : State × Option Nat :=
  if 7 < code then (s, some 8)
  else match requestBar s ses.val code with
  | some r => (requestRefused s code r.2, some r.1)
  | none =>
    let t := reply s dest 0 []
    match code with
    | 0 => (restart (resignLeaving t) 4 s.op.straps false, none)
    | 1 => (enterState (resignLeaving t) .commissioning 0x20, none)
    | 2 => ((requestNormal s).1, some (requestNormal s).2)
    | 3 => (enterState t .test 0x20, none)
    | 4 => (restart (resignLeaving t) 0x14 s.op.straps true, none)
    | _ => (goSafe t, none)

/-- A write of 2400h.0F (R393). -/
def keepAwakeWrite (s : State) (v : Nat) : State × Nat :=
  (ballotCheck { s with slp := { s.slp with keepAwake := decide (v ≠ 0) } }, 0)

/-- A write of 4B10h.03 (R345). -/
def callWrite (s : State) (v : Bytes) : State × Nat :=
  let kind := byteAt v 0
  if kind = 0 ∨ 3 < kind then (s, 8)
  else
    (callCommand s { kind := BitVec.ofNat 8 kind, priority := BitVec.ofNat 8 (byteAt v 1), caller := BitVec.ofNat 16 (beAt v 2 2),
                     callee := BitVec.ofNat 16 (beAt v 4 2), reference := BitVec.ofNat 16 (beAt v 6 2), sender := none }, 0)

/-- A write of 3510h.02 (R148). -/
def fwdFlush (s : State) (v : Nat) : State × Nat :=
  match v with
  | 1 => (flushLearned s (fun _ => true), 0)
  | 2 => (flushLearned s (fun e => e.port == s.val 0x3510 3), 0)
  | 3 => (flushLearned s (fun e => e.fid == s.val 0x3510 4), 0)
  | _ => (s, 8)

/-- The write-only objects and the writes with an effect of their own, whose result is known at once. -/
def writeAct (s : State) (ses : SessionNo) (idx sub : Nat) (v : Bytes) : Option (State × Nat) :=
  let n := beNat v
  if 0x2440 ≤ idx ∧ idx ≤ 0x2465 ∧ sub = 6 then some (if segRole s ses.val n then segRequest s (idx - 0x2440) n else (s, 5))
  else if 0x4400 ≤ idx ∧ idx ≤ 0x4407 ∧ sub = 0x16 then some (if n = 1 then canRecover s (idx - 0x4400) else (s, 8))
  else if idx = 0x2710 then some (partWrite s (sub - 1) v none)
  else match idx, sub with
  | 0x2120, 6 => some (responseWrite s ses.val v)
  | 0x2200, 5 => some (csFileWrite s ses v)
  | 0x2301, 1 => some (eventSeek s ses.val (BitVec.ofNat 32 n), 0)
  | 0x2400, 0x0F => some (keepAwakeWrite s n)
  | 0x2400, 0x10 => some (proposeWrite s n)
  | 0x2620, 1 => some (ringSeek s ses.val 0x2620 1 s.wear.inclusions.length (BitVec.ofNat 32 (s.wear.inclusionNo + 1)) (BitVec.ofNat 32 n)
      (fun x => { x with inclLost := true }), 0)
  | 0x2700, 0x0A => some (fieldLockWrite s n)
  | 0x2700, 0x0B => some (recoveryTargetSet s n)
  | 0x2A00, 0x0E => some (swapWrite s n)
  | 0x2B61, 1 => some (ringSeek s ses.val 0x2B61 1 s.pool.misuse.length s.pool.misuseNext (BitVec.ofNat 32 n) (fun x => { x with misuseLost := true }), 0)
  | 0x3510, 2 => some (fwdFlush s n)
  | 0x3630, 2 => some (setGate s n { gateOf s n with closed := false }, 0)
  | 0x3641, 7 => some (clearAllRed s ses.val n)
  | 0x3D00, 3 => some (flowFlush s n)
  | 0x3D10, 1 => some (zoneLogSeek s ses.val (BitVec.ofNat 32 n), 0)
  | 0x4000, 0x0B => some (setTimeWrite s v)
  | 0x4801, 1 => some (lockRequest s n)
  | 0x4B10, 3 => some (callWrite s v)
  | 0x4B10, 5 => some (playerCommand s n)
  | 0x4C20, 2 => some (setDistanceWrite s v)
  | 0x4C40, 3 => some (setDoorWrite s n)
  | 0x4D00, 0x0B => some (setChargeWrite s v)
  | _, _ => none

/-- The results of the checks that an object of persistence P adds to its write (R255, R389). -/
def persistCheck (s : State) (idx sub : Nat) (v : Bytes) : Nat :=
  if 0x4080 ≤ idx ∧ idx ≤ 0x4083 then (if tpoWriteOk s (idx - 0x4080) sub v then 0 else 8)
  else if 0x2420 ≤ idx ∧ idx ≤ 0x2433 ∧ sub = 7 then (if beNat v = 0 then 0 else 8)
  else 0

/-- A write of class I to an object of persistence P (R42, R515): its record is appended before the answer is sent. -/
def persistWrite (s : State) (dest : ReplyTo) (body : JBody) (own : Nat) : State × Option Nat :=
  if own ≠ 0 then (s, some own)
  else if s.jour.state = 2 then (s, some 0x0F)
  else (jAppend (thaw s) body dest, none)

/-- A write of class I (R42). -/
def writeImmediate (s : State) (ses : SessionNo) (dest : ReplyTo) (x : ObjRow) (idx sub : Nat) (v : Bytes) : State × Option Nat :=
  if idx = 0x2000 ∧ sub = 2 then stateWrite s ses dest (beNat v)
  else if idx = 0x2200 ∧ sub = 1 then (if beNat v = 0 ∨ 6 < beNat v then (s, some 8) else csWrite s ses dest (beNat v))
  else if idx = 0x2700 ∧ sub = 1 then updWrite s dest (beNat v)
  else match writeAct s ses idx sub v with
  | some r => (r.1, some r.2)
  | none =>
    if x.ty = .s32 then
      let k := ckey idx sub (selector s ses.val idx)
      if beNat v ≠ 0 then (s, some 8)
      else if x.pers = .p then persistWrite s dest (.cleared k) 0
      else ({ s with cnt := tdel s.cnt k }, some 0)
    else if isGroup idx ∧ sub = 1 then ((latchWrite s ses.val idx (beNat v)).1, some (latchWrite s ses.val idx (beNat v)).2)
    else if perSession idx sub then (setOwn s ses.val idx sub (beNat v), some 0)
    else if x.pers = .p then persistWrite s dest (.value (okey idx sub) v) (persistCheck s idx sub v)
    else ({ s with cfg := cfgPut s.cfg idx sub v }, some 0)

/-- An object is written (R37 to R44, R58, R59): the result, none where the answer comes later. -/
def writeObject (s : State) (ses : SessionNo) (dest : ReplyTo) (idx sub : Nat) (v : Bytes) : State × Option Nat :=
  match writeCheck s ses.val idx sub v with
  | .inr c =>
    if idx = 0x2000 ∧ sub = 2 ∧ (c = 5 ∨ c = 6) then
      (requestRefused s (beNat v) (if c = 5 then 2 else if s.op.state = .start then 1 else 4), some c)
    else (noteCommand s ses.val idx sub c, some c)
  | .inl x =>
    match x.apply with
    | .s => ((stage s ses idx sub v).1, some (stage s ses idx sub v).2)
    | _ => if inArmed s idx sub then (s, some 0x0B) else writeImmediate s ses dest x idx sub v

/-- The write is answered, at once or later. -/
def answerWrite (s : State) (ses : SessionNo) (dest : ReplyTo) (idx sub : Nat) (v : Bytes) : State :=
  match writeObject s ses dest idx sub v with
  | (t, some c) => reply t dest (BitVec.ofNat 8 c) []
  | (t, none) => t

/-- The read is answered. -/
def answerRead (s : State) (ses : SessionNo) (dest : ReplyTo) (idx sub : Nat) : State :=
  let r := readObject s ses.val idx sub
  reply r.1 dest (BitVec.ofNat 8 r.2.1) r.2.2

/-- A Vendor session touches an object in 5F00h to 5FFFh, which is not documented (R36, R40). -/
def undocumented (s : State) (ses idx : Nat) : Bool := isVendorObject idx && decide (roleOf s ses = 3) && (transportBar s ses).isNone

/-- A write of a session (R42). -/
def sessionWrite (s : State) (ses : SessionNo) (idx sub : BitVec 16) (v : Bytes) : Host.Outcome State Fault Refusal :=
  if served s && isOpen s ses.val then
    if undocumented s ses.val idx.toNat then .refused (.undocumentedVendorObject idx)
    else .next (answerWrite s ses (.session ses) idx.toNat sub.toNat v)
  else .next s

/-- OBJECT_READ (R43). -/
def execObjectRead (ses : SessionNo) (index : BitVec 16) (sub : BitVec 8) (s : State) : Host.Outcome State Fault Refusal :=
  if served s && isOpen s ses.val then
    if undocumented s ses.val index.toNat then .refused (.undocumentedVendorObject index)
    else .next (answerRead s ses (.session ses) index.toNat sub.toNat)
  else .next s

/-- OBJECT_WRITE (R42). -/
def execObjectWrite (ses : SessionNo) (index : BitVec 16) (sub : BitVec 8) (value : Bytes) (s : State) : Host.Outcome State Fault Refusal :=
  sessionWrite s ses index (sub.setWidth 16) value

/-- COUNTER_CLEAR (R11): a write to an S32 counter. -/
def execCounterClear (ses : SessionNo) (index : BitVec 16) (sub : BitVec 8) (value : Bytes) (s : State) : Host.Outcome State Fault Refusal :=
  sessionWrite s ses index (sub.setWidth 16) value

/-- COUNTER_LATCH (R76): a write to the Latch subindex of a counter group. -/
def execCounterLatch (ses : SessionNo) (index : BitVec 16) (value : Bytes) (s : State) : Host.Outcome State Fault Refusal :=
  sessionWrite s ses index 1 value

/-- VENDOR_CHALLENGE_READ (R51). -/
def execVendorChallengeRead (ses : SessionNo) (s : State) : Host.Outcome State Fault Refusal :=
  .next (readCommand s ses 0x2120 5 (fun t => challengeRead t ses.val))

/-- VENDOR_RESPONSE_WRITE (R48). -/
def execVendorResponseWrite (ses : SessionNo) (signature : Bytes) (s : State) : Host.Outcome State Fault Refusal :=
  .next (command s ses 0x2120 6 signature (fun t => responseWrite t ses.val signature))

/-- EVENT_RECORD_READ (R72). -/
def execEventRecordRead (ses : SessionNo) (s : State) : Host.Outcome State Fault Refusal :=
  .next (readCommand s ses 0x2301 2 (fun t => eventRead t ses.val))

/-- EVENT_READ_POSITION_WRITE (R71). -/
def execEventReadPositionWrite (ses : SessionNo) (pos : BitVec 32) (s : State) : Host.Outcome State Fault Refusal :=
  .next (command s ses 0x2301 1 (be 4 pos.toNat) (fun t => (eventSeek t ses.val pos, 0)))

end Sys2Proof.Machine
end

