-- ==== Sys2Proof/Machine/Sessions.lean ====
section
/-! DEFINITION. The transports MOS and CANopen SDO (chapter 02: R45 to R56, R70 to R73), with the commands
DTLS_HANDSHAKE_COMPLETE, DTLS_CLOSE, MOS_IDLE_TIMEOUT, MOS_READ, MOS_WRITE, MOS_SUBSCRIBE, MOS_EVENT_ACK, MOS_KEEPALIVE,
MOS_EVENT_DELIVERY, MOS_EVENT_RESEND, DOM_PARTIAL_TIMEOUT, SDO_REQUEST, SDO_SEGMENT_TIMEOUT, EMCY_INHIBIT_EXPIRY and
HEARTBEAT_TIMER. -/

namespace Sys2Proof.Machine

/-- MOS is served: a working state or Safe, MOS enabled, no activation pause (R47, R50, R534, R539). -/
def mosServed (s : State) : Bool :=
  s.on 0x2110 1 && !(inPause s) &&
    match s.op.state with
    | .commissioning | .normal | .test | .safe => true
    | _ => false

/-- The role stored with a PSK identity in 2120h.03 (R51), in entries of 65 bytes: identity, role, key. -/
def pskRole (table ident : Bytes) (fuel : Nat) : Option Nat :=
  match fuel with
  | 0 => none
  | k + 1 =>
    if table.length < 65 then none
    else if table.take 32 = padTo 32 ident then some (byteAt table 32)
    else pskRole (table.drop 65) ident k

/-- "Moaxia-" as bytes. -/
def moaxiaPrefix : Bytes := [0x4D, 0x6F, 0x61, 0x78, 0x69, 0x61, 0x2D]

/-- "Moaxia-Operator" (R48). -/
def unitOperator : Bytes := moaxiaPrefix ++ [0x4F, 0x70, 0x65, 0x72, 0x61, 0x74, 0x6F, 0x72]

/-- "Moaxia-Maintainer" (R48). -/
def unitMaintainer : Bytes := moaxiaPrefix ++ [0x4D, 0x61, 0x69, 0x6E, 0x74, 0x61, 0x69, 0x6E, 0x65, 0x72]

/-- "Moaxia-Vendor" (R48). -/
def unitVendor : Bytes := moaxiaPrefix ++ [0x56, 0x65, 0x6E, 0x64, 0x6F, 0x72]

/-- The role that a client certificate's organisational units name (R48): Observer where none of the values stands there; of several
the highest counts (DESIGN CHOICE, log entry 173). -/
def unitRole (units : List Bytes) : Nat :=
  if units.contains unitMaintainer then 2 else if units.contains unitOperator then 1 else 0

/-- The customer trust anchors in force (2120h.02). -/
def trustAnchors (s : State) : List Bytes := (derList 4 (cfgBytes s.cfg 0x2120 2)).getD []

/-- What a client's credential gives it (R48): role and whether it is a Vendor certificate, or the reason of the failure. -/
def credentialRole (s : State) (cred : Credential) : (Nat × Bool) ⊕ Nat :=
  match cred with
  | .x509 (some a) units => if (trustAnchors s).contains a then .inl (unitRole units, false) else .inr 1
  | .x509 none units => if units.contains unitVendor then .inl (if s.upd.lockFuse then 2 else 3, true) else .inr 1
  | .failed => .inr 1
  | .psk ident =>
    if !(s.on 0x2110 2) then .inr 2
    else match pskRole (cfgBytes s.cfg 0x2120 3) ident 8 with
    | some r => .inl (min 2 r, false)
    | none => .inr 3

/-- DTLS_HANDSHAKE_COMPLETE (R47, R48): beyond eight sessions, and where MOS is not served, the handshake is aborted; a device asleep
sends nothing (R610). -/
def execDtlsHandshakeComplete (cred : Credential) (s : State) : Host.Outcome State Fault Refusal :=
  if !(served s) then .next s
  else if !(mosServed s) then .next (emit s (.dtlsEnd 8))
  else match credentialRole s cred with
  | .inr reason => .next (emit (authFailed s 1 reason) (.dtlsEnd 8))
  | .inl (role, vendor) =>
    match (List.range 8).find? (fun n => !(isOpen s n)) with
    | none => .next (emit s (.dtlsEnd 8))
    | some n =>
      let s1 := openSession s n role 1
      .next { s1 with sessions := vmod s1.sessions n (fun x => { x with vendor := vendor }) }

/-- DTLS_CLOSE (R47, R58). -/
def execDtlsClose (slot : Fin 8) (s : State) : Host.Outcome State Fault Refusal :=
  if served s then .next (closeSession s slot.val 1) else .next s

/-- MOS_IDLE_TIMEOUT (R47): the timeout does not run in LightSleep (R610). -/
def execMosIdleTimeout (slot : Fin 8) (s : State) : Host.Outcome State Fault Refusal :=
  if served s then .next (closeSession s slot.val 2) else .next s

/-- A session holds a partial DOM value of an object, in the place of the one it held of that object (R56). -/
def setPartial (s : State) (ses idx sub : Nat) (data : Bytes) : State :=
  { s with sessions := vmod s.sessions ses (fun x => { x with
      dom := if x.dom.any (fun p => p.index == idx && p.sub == sub) then
          x.dom.map (fun p => if p.index == idx && p.sub == sub then { p with data := data } else p)
        else x.dom ++ [{ index := idx, sub := sub, data := data }] }) }

/-- The partial DOM value of an object is discarded (R56). -/
def dropPartial (s : State) (ses idx sub : Nat) : State :=
  { s with sessions := vmod s.sessions ses (fun x => { x with dom := x.dom.filter (fun p => !(p.index == idx && p.sub == sub)) }) }


/-- The bytes received of an object's value so far. -/
def partialOf (s : State) (ses idx sub : Nat) : Bytes :=
  match s.sessions[ses]? with
  | some x => match x.dom.find? (fun p => p.index == idx && p.sub == sub) with | some p => p.data | none => []
  | none => []

/-- A write that may be a segment of a DOM value (R56): the value is written with its last segment. A partial value that passes 2 MiB
is discarded at that segment with result 0x07, and does not wait for its last one (DESIGN CHOICE, log entry 163). -/
def segmentWrite (s : State) (ses : SessionNo) (dest : ReplyTo) (idx sub offset : Nat) (last : Bool) (data : Bytes) : State × Option Nat :=
  if !(isDomObject idx sub) then writeObject s ses dest idx sub data
  else match segmentCheck s ses.val idx sub with
  | some c => (s, some c)
  | none =>
    let got := partialOf s ses.val idx sub
    let whole := got ++ data
    if offset ≠ got.length ∨ 2097152 < whole.length then (dropPartial s ses.val idx sub, some 7)
    else if last then writeObject (dropPartial s ses.val idx sub) ses dest idx sub whole
    else (setPartial s ses.val idx sub whole, some 0)

/-- A segment of a value read (R56): of a DOM object, the bytes wanted from an offset; result 0x08 beyond its end. A Length above the
1,200 data bytes of a message (R53) is taken as 1,200 (DESIGN CHOICE, log entry 161). -/
def segmentOf (idx sub : Nat) (r : State × Nat × Bytes) (offset len : Nat) : State × Nat × Bytes :=
  if !(isDomObject idx sub) ∨ r.2.1 ≠ 0 then r
  else if r.2.2.length < offset then (r.1, 8, [])
  else (r.1, 0, slice r.2.2 offset (min 1200 len))

/-- The frame of a MOS request (R53, R55): one of another version is discarded without an answer, a repeated one is answered with the
kept answer, a 17th outstanding one with 0x0C. What stands in the result, the reserved byte and bits 7 to 1 of the flags of a request
is not looked at (DESIGN CHOICE, log entry 174). -/
def mosRequest (s : State) (slot : Fin 8) (head : MosHead) (kind : BitVec 8) (tag index : BitVec 16) (sub : BitVec 8) (offset : BitVec 32)
    (act : State → ReplyTo → State) : State :=
  let dest : ReplyTo := .mos slot kind tag index sub offset
  match s.sessions[slot.val]? with
  | none => s
  | some x =>
    if !(served s) || !x.isOpen || head.version != 1 then s
    else match x.kept.find? (fun k => k.tag == tag && k.kind == kind && k.index == index && k.sub == sub) with
    | some k => emit s (.mos slot.val (mosAnswer kind tag index sub k.offset k.code k.data))
    | none =>
      if 16 ≤ x.outstanding.length then reply s dest 0x0C []
      else
        let r : OpenRequest := { tag := tag, kind := kind, index := index, sub := sub }
        act { s with sessions := vmod s.sessions slot.val (fun y => { y with outstanding := y.outstanding ++ [r] }) } dest

/-- The session number of a MOS slot. -/
def mosSession (slot : Fin 8) : SessionNo := ⟨slot.val, by omega⟩

/-- MOS_READ (R54 to R56). -/
def execMosRead (slot : Fin 8) (msg : MosCall) (index : BitVec 16) (sub : BitVec 8) (offset : BitVec 32) (length : BitVec 16) (s : State) :
    Host.Outcome State Fault Refusal :=
  if served s && isOpen s slot.val && msg.head.version == 1 && undocumented s slot.val index.toNat then .refused (.undocumentedVendorObject index)
  else
    .next (mosRequest s slot msg.head 1 msg.tag index sub offset (fun t dest =>
      let r := segmentOf index.toNat sub.toNat (readObject t slot.val index.toNat sub.toNat) offset.toNat length.toNat
      reply r.1 dest (BitVec.ofNat 8 r.2.1) r.2.2))

/-- MOS_WRITE (R54 to R56). More than 1,200 data bytes do not fit a message (R53): such a write is answered 0x07 (DESIGN CHOICE, log
entry 162). -/
def execMosWrite (slot : Fin 8) (msg : MosCall) (index : BitVec 16) (sub : BitVec 8) (offset : BitVec 32) (last : Bool) (data : Bytes) (s : State) :
    Host.Outcome State Fault Refusal :=
  if served s && isOpen s slot.val && msg.head.version == 1 && undocumented s slot.val index.toNat then .refused (.undocumentedVendorObject index)
  else
    .next (mosRequest s slot msg.head 2 msg.tag index sub offset (fun t dest =>
      if 1200 < data.length then reply t dest 7 []
      else match segmentWrite t (mosSession slot) dest index.toNat sub.toNat offset.toNat last data with
      | (u, some c) => reply u dest (BitVec.ofNat 8 c) []
      | (u, none) => u))

/-- A session's subscription is changed. -/
def setSub (s : State) (slot : Nat) (f : Subscription → Subscription) : State :=
  { s with sessions := vmod s.sessions slot (fun x => { x with subscription := x.subscription.map f }) }

/-- MOS_SUBSCRIBE (R54, R71): severity and first record, 0xFFFF_FFFF for new records only. -/
def execMosSubscribe (slot : Fin 8) (msg : MosCall) (severity : BitVec 8) (first : BitVec 32) (s : State) : Host.Outcome State Fault Refusal :=
  .next (mosRequest s slot msg.head 3 msg.tag 0 0 0 (fun t dest =>
    let t1 := { t with sessions := vmod t.sessions slot.val (fun x => { x with subscription := some { severity := severity, unacked := [], resends := 0 } }) }
    let t2 := eventSeek t1 slot.val (if first = 0xFFFFFFFF then t1.ev.next else first)
    reply t2 dest 0 (be 4 (getOwn t2 slot.val 0x2301 1))))

/-- MOS_KEEPALIVE (R54). -/
def execMosKeepalive (slot : Fin 8) (msg : MosCall) (s : State) : Host.Outcome State Fault Refusal :=
  .next (mosRequest s slot msg.head 5 msg.tag 0 0 0 (fun t dest => reply t dest 0 []))

/-- The subscription of a slot that is served. -/
def subscriptionOf (s : State) (slot : Nat) : Option Subscription :=
  if mosServed s && isOpen s slot then (match s.sessions[slot]? with | some x => x.subscription | none => none) else none

/-- The records that wait for a subscriber, from its position on: those of its severity or above. -/
def recordsFor (s : State) (slot : Nat) (severity : Nat) : List EventRec :=
  let oldest := s.ev.next - BitVec.ofNat 32 s.ev.ring.length
  let d := (BitVec.ofNat 32 (getOwn s slot 0x2301 1) - oldest).toNat
  (s.ev.ring.drop d).filter (fun r => decide (severity ≤ r.severity.toNat))

/-- An Event delivery message leaves: records by sequence number, the lost flag in the first (R54, R71). -/
def sendRecords (s : State) (slot : Nat) (seqs : List Nat) : State :=
  let lost := match s.sessions[slot]? with | some x => x.lostFlag | none => false
  let recs := s.ev.ring.filter (fun r => seqs.contains r.seq.toNat)
  let bytes := (recs.zipIdx).flatMap (fun e => eventBytes e.1 (lost && e.2 == 0))
  if recs.isEmpty then s
  else
    let s1 := { s with sessions := vmod s.sessions slot (fun x => { x with lostFlag := false }) }
    emit s1 (.mos slot (mosMessage 4 0 0 0 0 0 bytes))

/-- MOS_EVENT_DELIVERY (R54, R71): up to 32 records, once those sent before are acknowledged. Records below the subscriber's
severity are passed over. -/
def execMosEventDelivery (slot : Fin 8) (s : State) : Host.Outcome State Fault Refusal :=
  match subscriptionOf s slot.val with
  | none => .next s
  | some p =>
    if !p.unacked.isEmpty then .next s
    else
      let seqs := ((recordsFor s slot.val p.severity.toNat).take 32).map (fun r => r.seq.toNat)
      let pos := match seqs with | n :: _ => n | [] => s.ev.next.toNat
      let s1 := setOwn s slot.val 0x2301 1 pos
      .next (sendRecords (setSub s1 slot.val (fun q => { q with unacked := seqs, resends := 0 })) slot.val seqs)

/-- A subscriber's position moves on past a record, where it does not stand beyond it already: the ring may have overwritten the
records that it names (R71). -/
def movePast (s : State) (slot n : Nat) : State :=
  let pos := BitVec.ofNat 32 (getOwn s slot 0x2301 1)
  if (BitVec.ofNat 32 (n + 1) - pos).toNat < 2147483648 then setOwn s slot 0x2301 1 ((n + 1) % 2 ^ 32) else s

/-- MOS_EVENT_ACK (R53, R71): the records up to the highest sequence number received are received. -/
def execMosEventAck (slot : Fin 8) (ack : MosAck) (s : State) : Host.Outcome State Fault Refusal :=
  match subscriptionOf s slot.val with
  | none => .next s
  | some p =>
    let got := if ack.head.version = 1 then p.unacked.filter (fun n => decide ((ack.seq - BitVec.ofNat 32 n).toNat < 2147483648)) else []
    match got.getLast? with
    | none => .next s
    | some n =>
      let s1 := movePast s slot.val n
      .next (setSub s1 slot.val (fun q => { q with unacked := q.unacked.filter (fun k => !(got.contains k)), resends := 0 }))

/-- Records passed over as lost are counted in 2300h.02, with event 2301h at most once per second (R71). -/
def countLost (s : State) (n : Nat) : State :=
  let s1 := { s with ev := { s.ev with lostSince := s.ev.lostSince + n } }
  afterRecord s ((List.range n).foldl (fun t _ => tally t 0x2300 2 0) s1)

/-- Of the records sent, those that the ring has not overwritten since: the ring has counted the others as lost (R71). -/
def stillHeld (s : State) (slot : Nat) (seqs : List Nat) : List Nat :=
  let pos := BitVec.ofNat 32 (getOwn s slot 0x2301 1)
  seqs.filter (fun n => decide ((BitVec.ofNat 32 n - pos).toNat < 2147483648))

/-- MOS_EVENT_RESEND (R71): up to five times; then the position moves past the records as lost. -/
def execMosEventResend (slot : Fin 8) (s : State) : Host.Outcome State Fault Refusal :=
  match subscriptionOf s slot.val with
  | none => .next s
  | some p =>
    match p.unacked.getLast? with
    | none => .next s
    | some last =>
      if p.resends < 5 then .next (sendRecords (setSub s slot.val (fun q => { q with resends := q.resends + 1 })) slot.val p.unacked)
      else
        let s1 := setSub (movePast s slot.val last) slot.val (fun q => { q with unacked := [], resends := 0 })
        let s2 := { s1 with sessions := vmod s1.sessions slot.val (fun x => { x with lostFlag := true }) }
        .next (countLost s2 (stillHeld s slot.val p.unacked).length)

/-- DOM_PARTIAL_TIMEOUT (R56): of the partial values of a session, the 10 s of the oldest run out first. -/
def execDomPartialTimeout (ses : SessionNo) (s : State) : Host.Outcome State Fault Refusal :=
  .next { s with sessions := vmod s.sessions ses.val (fun x => { x with dom := x.dom.drop 1 }) }

/-- A value as SDO carries it, and back: numbers least significant byte first (R38, CiA 301). -/
def sdoOrder (idx sub : Nat) (v : Bytes) : Bytes :=
  match objRow? idx sub with
  | none => v
  | some x =>
    match x.ty with
    | .str | .dom | .oct _ => v
    | .tx => (v.take 6).reverse ++ (v.drop 6).reverse
    | _ => v.reverse

/-- The object field of an SDO frame. -/
def sdoMux (idx sub : Nat) : Bytes := le 2 idx ++ le 1 sub

/-- The check of block transfers: CRC-16 of polynomial 0x1021, initial value 0 (CiA 301). -/
def sdoCrc (b : Bytes) : Nat := (b.foldl (crc16Byte 0x1021#16) 0#16).toNat

/-- Segmented transfer carries DOM values up to 65,535 bytes (R52). -/
def blockOnly (idx sub len : Nat) : Bool :=
  (match objRow? idx sub with | some x => x.ty == .dom | none => false) && decide (65535 < len)

/-- The session number of a port's SDO channel. -/
def sdoSession (cn : Fin 8) : SessionNo := ⟨8 + cn.val, by omega⟩

/-- The whole value of a download has come: it is written, and confirmed or aborted (R44, R52). -/
def sdoWrite (s : State) (cn : Fin 8) (idx sub : Nat) (v confirm : Bytes) : State :=
  answerWrite (setSdo s cn.val (.answering idx sub confirm)) (sdoSession cn)
    (.sdo cn (BitVec.ofNat 16 idx) (BitVec.ofNat 8 sub)) idx sub (sdoOrder idx sub v)

/-- An upload begins: expedited up to four bytes, else by segments (R52). -/
def sdoUpload (s : State) (cn : Fin 8) (idx sub : Nat) : State :=
  let r := readObject s (8 + cn.val) idx sub
  let b := sdoOrder idx sub r.2.2
  let len := b.length
  if r.2.1 ≠ 0 then sdoAbort r.1 cn.val idx sub (abortCode r.2.1)
  else if blockOnly idx sub len then sdoAbort r.1 cn.val idx sub 0x08000000
  else if 1 ≤ len ∧ len ≤ 4 then
    sdoFrame (setSdo r.1 cn.val .idle) cn.val (le 1 (0x43 + 4 * (4 - len)) ++ sdoMux idx sub ++ b)
  else sdoFrame (setSdo r.1 cn.val (.upload idx sub b false)) cn.val ([0x41] ++ sdoMux idx sub ++ le 4 len)

/-- One segment of an upload. -/
def sdoUploadSegment (s : State) (cn idx sub : Nat) (rest : Bytes) (expected toggle : Bool) : State :=
  if toggle ≠ expected then sdoAbort s cn idx sub 0x05030000
  else
    let part := rest.take 7
    let last := decide (rest.length ≤ 7)
    let s1 := setSdo s cn (if last then .idle else .upload idx sub (rest.drop 7) (!toggle))
    sdoFrame s1 cn (le 1 (16 * boolNat toggle + 2 * (7 - part.length) + boolNat last) ++ part)

/-- A download begins (R52): refused at once where the value cannot be written whatever it is. -/
def sdoDownload (s : State) (cn idx sub : Nat) (size : Option Nat) : State :=
  match segmentCheck s (8 + cn) idx sub with
  | some c => sdoAbort s cn idx sub (abortCode c)
  | none =>
    if blockOnly idx sub (size.getD 0) then sdoAbort s cn idx sub 0x08000000
    else sdoFrame (setSdo s cn (.download idx sub [] size false)) cn ([0x60] ++ sdoMux idx sub)

/-- One segment of a download. -/
def sdoDownloadSegment (s : State) (cn : Fin 8) (idx sub : Nat) (got : Bytes) (size : Option Nat) (expected toggle : Bool) (data : Bytes)
    (last : Bool) : State :=
  let all := got ++ data
  let confirm := le 1 (0x20 + 16 * boolNat toggle)
  if toggle ≠ expected then sdoAbort s cn.val idx sub 0x05030000
  else if blockOnly idx sub all.length then sdoAbort s cn.val idx sub 0x08000000
  else if 2097152 < all.length ∨ (last ∧ size.getD all.length ≠ all.length) then sdoAbort s cn.val idx sub 0x06070010
  else if last then sdoWrite s cn idx sub all confirm
  else sdoFrame (setSdo s cn.val (.download idx sub all size (!toggle))) cn.val confirm

/-- A block download begins. -/
def sdoBlockDownload (s : State) (cn idx sub : Nat) (size : Option Nat) (crc : Bool) : State :=
  match segmentCheck s (8 + cn) idx sub with
  | some c => sdoAbort s cn idx sub (abortCode c)
  | none => sdoFrame (setSdo s cn (.blockDownload idx sub [] size crc 1 false)) cn ([0xA4] ++ sdoMux idx sub ++ [127])

/-- One segment of a block: segments count up from 1; the end of the block is acknowledged with the last good one. -/
def sdoBlockSegment (s : State) (cn idx sub : Nat) (got : Bytes) (size : Option Nat) (crc : Bool) (next seqno : Nat) (data : Bytes)
    (last : Bool) : State :=
  if seqno = 0 then sdoAbort s cn idx sub 0x05040003
  else
    let good := decide (seqno = next)
    let all := if good then got ++ padTo 7 data else got
    let ackseq := if good then seqno else next - 1
    let ended := good && last
    if 2097159 < all.length then sdoAbort s cn idx sub 0x06070010
    else if last ∨ seqno = 127 then
      sdoFrame (setSdo s cn (.blockDownload idx sub all size crc 1 ended)) cn ([0xA2] ++ le 1 ackseq ++ [127])
    else setSdo s cn (.blockDownload idx sub all size crc (if good then next + 1 else next) false)

/-- The end of a block download: the unused bytes of the last segment, and the check (R52). -/
def sdoBlockEnd (s : State) (cn : Fin 8) (idx sub : Nat) (got : Bytes) (size : Option Nat) (crc : Bool) (unused check : Nat) : State :=
  let v := got.take (got.length - unused)
  if crc ∧ check ≠ sdoCrc v then sdoAbort s cn.val idx sub 0x05040004
  else if size.getD v.length ≠ v.length then sdoAbort s cn.val idx sub 0x06070010
  else sdoWrite s cn idx sub v [0xA1]

/-- A block upload begins. -/
def sdoBlockUpload (s : State) (cn idx sub blksize : Nat) (crc : Bool) : State :=
  let r := readObject s (8 + cn) idx sub
  let b := sdoOrder idx sub r.2.2
  if r.2.1 ≠ 0 then sdoAbort r.1 cn idx sub (abortCode r.2.1)
  else if blksize = 0 then sdoAbort r.1 cn idx sub 0x05040002
  else sdoFrame (setSdo r.1 cn (.blockUpload idx sub b b 0 blksize crc)) cn ([0xC6] ++ sdoMux idx sub ++ le 4 b.length)

/-- A block of segments leaves: up to blksize, the last of the value marked. -/
def sdoBlock (s : State) (cn : Nat) (rest : Bytes) (blksize : Nat) : State :=
  let total := max 1 ((rest.length + 6) / 7)
  (List.range (min blksize total)).foldl (fun t i =>
    sdoFrame t cn (le 1 (i + 1 + 128 * boolNat (decide (i + 1 = total))) ++ slice rest (7 * i) 7)) s

/-- A block is acknowledged: the next one leaves, or the end with the check. -/
def sdoBlockAck (s : State) (cn idx sub : Nat) (rest whole : Bytes) (crc : Bool) (ackseq blksize : Nat) : State :=
  let left := rest.drop (7 * ackseq)
  if blksize = 0 then sdoAbort s cn idx sub 0x05040002
  else if left.isEmpty ∧ 0 < ackseq then
    let unused := if whole.isEmpty then 7 else (7 - whole.length % 7) % 7
    sdoFrame (setSdo s cn (.blockUpload idx sub [] whole 2 blksize crc)) cn (le 1 (0xC1 + 4 * unused) ++ le 2 (if crc then sdoCrc whole else 0))
  else sdoBlock (setSdo s cn (.blockUpload idx sub left whole 1 blksize crc)) cn left blksize

/-- A request that fits no transfer in progress (CiA 301). -/
def sdoUnknown (s : State) (cn : Nat) : State := sdoAbort s cn 0 0 0x05040001

/-- Does a write wait for its answer? -/
def sdoAnswering (x : SdoTransfer) : Bool := match x with | .answering .. => true | _ => false

/-- A request that continues a transfer, in the channel's state (R52): one that does not fit it is answered with the abort of an
unknown command. -/
def sdoContinue (s : State) (cn : Fin 8) (x : SdoTransfer) (req : SdoRequest) : State :=
  match x with
  | .upload i k rest e =>
    match req with
    | .uploadSegment t => sdoUploadSegment s cn.val i k rest e t
    | _ => sdoUnknown s cn.val
  | .download i k got size e =>
    match req with
    | .downloadSegment t d last => sdoDownloadSegment s cn i k got size e t d last
    | _ => sdoUnknown s cn.val
  | .blockDownload i k got size crc next ended =>
    match req with
    | .blockDownloadSegment n d last => if ended then sdoUnknown s cn.val else sdoBlockSegment s cn.val i k got size crc next n.val d last
    | .blockDownloadEnd u c => if ended then sdoBlockEnd s cn i k got size crc u.val c.toNat else sdoUnknown s cn.val
    | _ => sdoUnknown s cn.val
  | .blockUpload i k rest whole stage n crc =>
    match req with
    | .blockUploadStart =>
      if stage = 0 then sdoBlock (setSdo s cn.val (.blockUpload i k rest whole 1 n crc)) cn.val rest n else sdoUnknown s cn.val
    | .blockUploadAck a m => if stage = 1 then sdoBlockAck s cn.val i k rest whole crc a.val m.val else sdoUnknown s cn.val
    | .blockUploadEnd => if stage = 2 then setSdo s cn.val .idle else sdoUnknown s cn.val
    | _ => sdoUnknown s cn.val
  | _ => sdoUnknown s cn.val

/-- An SDO request is served (R52, R534). While a write waits for its answer, only an abort is taken. -/
def sdoServe (s : State) (cn : Fin 8) (x : SdoTransfer) (req : SdoRequest) : State :=
  match req with
  | .abort _ => setSdo (forgetReplies s (fun r => replySession r == some (8 + cn.val))) cn.val .idle
  | r =>
    if sdoAnswering x then s
    else match r with
    | .uploadInitiate i k => sdoUpload s cn i.toNat k.toNat
    | .downloadExpedited i k d => sdoWrite s cn i.toNat k.toNat d ([0x60] ++ sdoMux i.toNat k.toNat)
    | .downloadInitiate i k size => sdoDownload s cn.val i.toNat k.toNat size
    | .blockDownloadInitiate i k size crc => sdoBlockDownload s cn.val i.toNat k.toNat size crc
    | .blockUploadInitiate i k n crc => sdoBlockUpload s cn.val i.toNat k.toNat n.val crc
    | _ => sdoContinue s cn x r

/-- The SDO server of a port works (R52, R290, R454, R534). -/
def sdoServed (s : State) (cn : Nat) : Bool :=
  served s && isOpen s (8 + cn) && !(inPause s) && !(pairQuiet s cn) && (match s.can[cn]? with | some c => canOn c | none => false)

/-- SDO_REQUEST (R52). -/
def execSdoRequest (cn : Fin 8) (req : SdoRequest) (s : State) : Host.Outcome State Fault Refusal :=
  match s.sessions[8 + cn.val]? with
  | none => .next s
  | some x => if sdoServed s cn.val then .next (sdoServe s cn x.sdo req) else .next s

/-- SDO_SEGMENT_TIMEOUT (R52): a transfer that waits for the client is aborted. -/
def execSdoSegmentTimeout (cn : Fin 8) (s : State) : Host.Outcome State Fault Refusal :=
  match s.sessions[8 + cn.val]? with
  | none => .next s
  | some x =>
    match x.sdo with
    | .answering _ _ _ => .next s
    | t => match sdoObject t with
      | some o => .next (sdoAbort s cn.val o.1 o.2 0x05040000)
      | none => .next s

/-- EMCY_INHIBIT_EXPIRY (R73): the oldest message held back is sent, and the inhibit time runs again. -/
def execEmcyInhibitExpiry (cn : Fin 8) (s : State) : Host.Outcome State Fault Refusal :=
  let n := cn.val
  let clear := { s with ev := { s.ev with inhibit := s.ev.inhibit.setIfInBounds n false } }
  match s.ev.inhibit[n]?, s.ev.emcy[n]? with
  | some true, some (b :: rest) =>
    if isMgmtCan s n then
      .next (canMgmt { s with ev := { s.ev with emcy := s.ev.emcy.setIfInBounds n rest } } n (classicFrame (0x080 + nodeId s) b))
    else .next { clear with ev := { clear.ev with emcy := clear.ev.emcy.setIfInBounds n [] } }
  | some true, _ => .next clear
  | _, _ => .next s

/-- The heartbeat's state byte (R45), none where no heartbeat is sent. -/
def heartbeatByte (s : State) : Option Byte :=
  match s.op.state with
  | .normal => some 0x05
  | .commissioning | .test => some 0x7F
  | .safe => some 0x04
  | _ => none

/-- HEARTBEAT_TIMER (R45). -/
def execHeartbeatTimer (s : State) : Host.Outcome State Fault Refusal :=
  match heartbeatByte s with
  | none => .next s
  | some b =>
    if s.on 0x1017 0 then
      .next ((List.range 8).foldl (fun t cn => if isMgmtCan t cn then canMgmt t cn (classicFrame (0x700 + nodeId t) [b]) else t) s)
    else .next s

end Sys2Proof.Machine
end

