-- ==== Sys2Proof/Machine/HostPort.lean ====
section
/-! DEFINITION. The mailbox of the PCIe window and the SPI target (R549, R550, R556 to R561), with the commands
MAILBOX_DOORBELL, MAILBOX_ANSWER_READY, SPI_STATUS, SPI_READ, SPI_WRITE, SPI_FETCH_ANSWER, SPI_REGISTER_WRITE,
SPI_REGISTER_READ, SPI_TARGET_RESET and SPI_ANSWER_READY. -/

namespace Sys2Proof.Machine

/-- HIRQ_N is low (R560). -/
def hirqLow (s : State) : Bool := s.spi.answer.isSome || alertLow s || (eventPending s 16 && s.on 0x2800 4)

/-- The mailbox request is executed (R550, R557). -/
def mailboxRun (s : State) : State :=
  let h := s.host.mailbox
  let idx := beAt h 4 2
  let sub := byteAt h 6
  let len := beAt h 12 2
  if byteAt h 0 ≠ 1 ∨ (byteAt h 1 ≠ 1 ∧ byteAt h 1 ≠ 2) ∨ (byteAt h 1 = 2 ∧ 1200 < len) then reply s .mailbox 7 []
  else if byteAt h 1 = 1 then
    let r := segmentOf idx sub (readObject s 17 idx sub) (beAt h 8 4) len
    reply r.1 .mailbox (BitVec.ofNat 8 r.2.1) r.2.2
  else match segmentWrite s 17 .mailbox idx sub (beAt h 8 4) (bitOf (byteAt h 14) 0) (slice s.host.window 0 len) with
  | (t, some c) => reply t .mailbox (BitVec.ofNat 8 c) []
  | (t, none) => t

/-- MAILBOX_DOORBELL (R550): the header and the window as the host has written them before; refused while a request is being
executed. -/
def execMailboxDoorbell (value : BitVec 32) (header : Bytes) (window : Bytes) (s : State) : Host.Outcome State Fault Refusal :=
  if !(hostReaches s) ∨ value ≠ 1 then .next s
  else if s.host.busy then .next (hostSignal (bump s 0x2810 4) 7)
  else
    let s1 := bumpW { s with host := { s.host with
      mailbox := padTo 16 header, window := padTo 1200 window, sts := s.host.sts &&& 0xFFFFFFFE, busy := true, result := none } } 0x2810 3 0 1
    let idx := beAt s1.host.mailbox 4 2
    if undocumented s1 17 idx then .refused (.undocumentedVendorObject (BitVec.ofNat 16 idx))
    else .next (hostEdges (mailboxRun s1))

/-- MAILBOX_ANSWER_READY (R550): the answer header and data are written, and HSTS bit 0 is set. -/
def execMailboxAnswerReady (s : State) : Host.Outcome State Fault Refusal :=
  if s.host.busy then
    match s.host.result with
    | none => .next s
    | some (code, data) =>
      let h := s.host.mailbox
      let answer := [1] ++ be 1 (byteAt h 1 ||| 0x80) ++ slice h 2 5 ++ [code] ++ slice h 8 4 ++ be 2 data.length ++ zeros 2
      let s1 := { s with host := { s.host with
        answer := answer, window := data ++ s.host.window.drop data.length, busy := false, result := none } }
      .next (hostEdges (hostSignal s1 0))
  else .next s

/-- The status byte (R560). -/
def spiStatusByte (s : State) : Byte :=
  BitVec.ofNat 8 (128 * boolNat s.spi.answer.isSome + 64 * boolNat s.spi.request.isSome + 32 * boolNat (eventPending s 16) +
    16 * boolNat (alertLow s) + 8 * boolNat s.spi.crcError + 4 * boolNat s.spi.refused + 2 * boolNat (inPause s))

/-- The status byte leaves during byte 0, and the frame counts (R558, R564). -/
def spiBegin (s : State) : State := bumpW (emit s (.spi [spiStatusByte s])) 0x2810 5 0 1

/-- A frame with a CRC error is discarded (R560), with event 2803h at most once per second. -/
def spiCrcError (s : State) : State :=
  let times := s.time.mono :: s.spi.crcTimes.filter (fun t => decide (s.time.mono < t + 1000000000))
  let s1 := bump { s with spi := { s.spi with crcError := true, refused := false, crcTimes := times } } 0x2810 6
  raiseLimited s1 0 1000000000 0x2803 2 0xFF (be 4 times.length)

/-- A refused frame (R560). -/
def spiRefuse (s : State) : State := bump { s with spi := { s.spi with crcError := false, refused := true } } 0x2810 7

/-- The CRC at the end of a frame holds (R558). -/
def spiCrcOk (frame : Bytes) : Bool :=
  decide (2 ≤ frame.length) && decide (crcCcitt (frame.take (frame.length - 2)) = beAt frame (frame.length - 2) 2)

/-- One frame on HSDI (R558 to R560): discarded on a CRC error, refused where its command or its length does not fit, else
acted on. -/
def spiFrame (s : State) (frame : Bytes) (cmd len : Nat) (fits : Bool) (act : State → State) : State :=
  if !(served s) then s
  else
    let s1 := spiBegin s
    if !(spiCrcOk frame) then spiCrcError s1
    else if byteAt frame 0 ≠ cmd ∨ frame.length ≠ 8 + len ∨ !fits then spiRefuse s1
    else act { s1 with spi := { s1.spi with crcError := false, refused := false } }

/-- No request is being executed and no answer waits (R559). -/
def spiFree (s : State) : Bool := s.spi.request.isNone && s.spi.answer.isNone

/-- The object an SPI frame names. -/
def spiIndex (frame : Bytes) : Nat := beAt frame 1 2

/-- The data of an SPI frame: its length field says how many. -/
def spiData (frame : Bytes) : Bytes := slice frame 6 (beAt frame 4 2)

/-- An object read (R56, R57, R559): with offset and bytes wanted for a DOM object, without data for others. -/
def spiReadAct (frame : Bytes) (s : State) : State :=
  let idx := spiIndex frame
  let sub := byteAt frame 3
  let d := spiData frame
  let s1 := { s with spi := { s.spi with request := some (frame.take 6), result := none } }
  let r := readObject s1 16 idx sub
  if r.2.1 = 0 ∧ isDomObject idx sub ≠ (d.length == 6) then reply s1 .spi 7 []
  else
    let q := segmentOf idx sub r (beAt d 0 4) (beAt d 4 2)
    reply q.1 .spi (BitVec.ofNat 8 q.2.1) q.2.2

/-- An object write (R56, R57, R559): with offset and flags for a DOM object. -/
def spiWriteAct (frame : Bytes) (s : State) : State :=
  let idx := spiIndex frame
  let sub := byteAt frame 3
  let d := spiData frame
  let s1 := { s with spi := { s.spi with request := some (frame.take 6), result := none } }
  let r :=
    if isDomObject idx sub then
      (if d.length < 5 then (s1, some 7) else segmentWrite s1 16 .spi idx sub (beAt d 0 4) (bitOf (byteAt d 4) 0) (d.drop 5))
    else writeObject s1 16 .spi idx sub d
  match r with
  | (t, some c) => reply t .spi (BitVec.ofNat 8 c) []
  | (t, none) => t

/-- SPI_STATUS (R559): the single byte, without a CRC. -/
def execSpiStatus (s : State) : Host.Outcome State Fault Refusal :=
  if served s then
    let s1 := spiBegin s
    .next { s1 with spi := { s1.spi with crcError := false, refused := false } }
  else .next s

/-- The frame names a Vendor object, and the session may touch it. -/
def spiUndocumented (s : State) (frame : Bytes) (cmd : Nat) : Bool :=
  served s && spiCrcOk frame && spiFree s && byteAt frame 0 == cmd && undocumented s 16 (spiIndex frame)

/-- SPI_READ (R559, R561). -/
def execSpiRead (frame : Bytes) (s : State) : Host.Outcome State Fault Refusal :=
  let len := beAt frame 4 2
  if spiUndocumented s frame 1 then .refused (.undocumentedVendorObject (BitVec.ofNat 16 (spiIndex frame)))
  else .next (spiFrame s frame 1 len (spiFree s && (len == 0 || len == 6)) (spiReadAct frame))

/-- SPI_WRITE (R559, R561). -/
def execSpiWrite (frame : Bytes) (s : State) : Host.Outcome State Fault Refusal :=
  let len := beAt frame 4 2
  if spiUndocumented s frame 2 then .refused (.undocumentedVendorObject (BitVec.ofNat 16 (spiIndex frame)))
  else .next (spiFrame s frame 2 len (spiFree s && decide (len ≤ 1200)) (spiWriteAct frame))

/-- The bytes of the answer that are clocked, after the turnaround byte; all of it clocked removes it (R559). -/
def spiFetch (n : Nat) (s : State) : State :=
  match s.spi.answer with
  | none => emit s (.spi (List.replicate (n + 1) 0xFF))
  | some a =>
    let s1 := emit s (.spi (0xFF :: a.take n))
    if a.length ≤ n then { s1 with spi := { s1.spi with answer := none } } else s1

/-- SPI_FETCH_ANSWER (R559): the length field gives the answer bytes wanted; clocked, those that the host clocked after the
turnaround byte. -/
def execSpiFetchAnswer (frame : Bytes) (clocked : Nat) (s : State) : Host.Outcome State Fault Refusal :=
  .next (spiFrame s frame 0x10 0 true (spiFetch (min clocked (beAt frame 4 2))))

/-- The check-value unit of a register offset, with the offset in its block (R547, R559). -/
def spiUnit (idx : Nat) : Option (Nat × Nat) :=
  if 0x600 ≤ idx ∧ idx ≤ 0x62B then some (2, idx - 0x600)
  else if 0x640 ≤ idx ∧ idx ≤ 0x66B then some (3, idx - 0x640)
  else none

/-- SPI_REGISTER_WRITE (R496, R559). -/
def execSpiRegisterWrite (frame : Bytes) (s : State) : Host.Outcome State Fault Refusal :=
  .next (spiFrame s frame 0x20 4 (beAt frame 4 2 == 4) (fun t =>
    match spiUnit (spiIndex frame) with
    | some (u, off) => cvuRegWrite t u .spi off (BitVec.ofNat 32 (beAt frame 6 4))
    | none => t))

/-- SPI_REGISTER_READ (R559): the value and its CRC, after the turnaround byte. -/
def execSpiRegisterRead (frame : Bytes) (s : State) : Host.Outcome State Fault Refusal :=
  .next (spiFrame s frame 0x21 0 (beAt frame 4 2 == 0) (fun t =>
    let v := match spiUnit (spiIndex frame) with
      | some (u, off) => cvuRegRead t u off
      | none => 0xFFFFFFFF
    let b := be 4 v.toNat
    emit t (.spi ([0xFF] ++ b ++ be 2 (crcCcitt b)))))

/-- SPI_TARGET_RESET (R559). -/
def execSpiTargetReset (frame : Bytes) (s : State) : Host.Outcome State Fault Refusal :=
  .next (spiFrame s frame 0x7F 0 (beAt frame 4 2 == 0) spiReset)

/-- SPI_ANSWER_READY (R559, R560): the answer with its header and CRC waits to be fetched. -/
def execSpiAnswerReady (s : State) : Host.Outcome State Fault Refusal :=
  match s.spi.request, s.spi.result with
  | some f, some (code, data) =>
    let b := [code] ++ slice f 1 3 ++ be 2 data.length ++ data
    .next { s with spi := { s.spi with request := none, result := none, answer := some (b ++ be 2 (crcCcitt b)) } }
  | _, _ => .next s

end Sys2Proof.Machine
end

