-- ==== Sys2Proof/Machine/Tap.lean ====
section
/-! DEFINITION. The debug port (R439, R541, R600 to R602), with the commands EXTEST, SAMPLE_PRELOAD, IDCODE, CLAMP, HIGHZ,
DBGCHAL, DBGTOKEN, DEBUG_TOKEN_CHECK_COMPLETE, DBGSTAT, DBGACC and BYPASS. -/

namespace Sys2Proof.Machine

/-- An instruction is loaded with its data register as Capture-DR leaves it, and the register is shifted out. -/
def tapLoad (s : State) (ir : BitVec 8) (dr : BitVec 192) : State := emit { s with tap := { s.tap with ir := ir, dr := dr } } (.tdo dr)

/-- The 1-bit bypass register, which captures 0. -/
def tapBypass (s : State) (ir : BitVec 8) : State := tapLoad s ir 0

/-- RESET_N as the tool's command finds it. -/
def tapHeld (s : State) (held : Bool) : State := { s with tap := { s.tap with resetLow := held } }

/-- DBGSTAT (R601). -/
def dbgStatus (s : State) : Nat :=
  8 * boolNat s.tap.blocked + 4 * boolNat s.tap.invalid + 2 * boolNat (debugOpen s) + boolNat s.upd.lockFuse

/-- EXTEST (R601): only while RESET_N is held low does the boundary register drive the pins; otherwise it acts as BYPASS. -/
def execExtest (held : Bool) (pins : BitVec 139) (s : State) : Host.Outcome State Fault Refusal :=
  .next (if held then tapLoad (tapHeld s true) 0x00 (pins.setWidth 192) else tapBypass (tapHeld s false) 0x00)

/-- SAMPLE_PRELOAD (R601): the pins are captured, and a value shifted in is held for EXTEST and CLAMP. -/
def execSamplePreload (load : Option (BitVec 139)) (pins : BitVec 139) (s : State) : Host.Outcome State Fault Refusal :=
  let s1 := tapLoad s 0x01 (pins.setWidth 192)
  match load with
  | some v => .next { s1 with tap := { s1.tap with bsr := v } }
  | none => .next s1

/-- IDCODE (R600). -/
def execIdcode (s : State) : Host.Outcome State Fault Refusal := .next (tapLoad s 0x02 0x1726099B)

/-- CLAMP (R601): the bypass register is selected; the pins hold the boundary register only while RESET_N is held low. -/
def execClamp (held : Bool) (s : State) : Host.Outcome State Fault Refusal := .next (tapBypass (tapHeld s held) 0x03)

/-- HIGHZ (R601): as CLAMP, with the outputs floating. -/
def execHighz (held : Bool) (s : State) : Host.Outcome State Fault Refusal := .next (tapBypass (tapHeld s held) 0x04)

/-- DBGCHAL (R602): a new challenge, byte 0 first, each byte least significant bit first. -/
def execDbgchal (s : State) : Host.Outcome State Fault Refusal :=
  let r := drawBytes s 16
  let s1 := { r.1 with tap := { r.1.tap with challenge := some (r.2, s.time.mono), challengeNo := r.1.tap.challengeNo + 1 } }
  .next (tapLoad s1 0x20 (BitVec.ofNat 192 (leNat r.2)))

/-- DBGTOKEN (R602): a token goes to the check; further tokens are ignored once four were invalid. -/
def execDbgtoken (token : Bytes) (s : State) : Host.Outcome State Fault Refusal :=
  let s1 := { s with tap := { s.tap with ir := 0x21 } }
  if s.tap.blocked then .next s1 else .next { s1 with tap := { s1.tap with token := some (padTo 96 token, s.time.mono) } }

/-- The token is valid for the latest challenge, within its 60 s (R602). -/
def tokenGood (s : State) (token : Bytes) (at_ : Nat) : Bool :=
  match s.tap.challenge with
  | some (c, t) => decide (at_ < t + 60000000000) && Config.debugTokenValid (c ++ be 8 Config.unitId.toNat) token
  | none => false

/-- DEBUG_TOKEN_CHECK_COMPLETE (R541, R602): debug opens, with its journal record and event 2708h, or the token is counted. -/
def execDebugTokenCheckComplete (s : State) : Host.Outcome State Fault Refusal :=
  match s.tap.token with
  | none => .next s
  | some (token, at_) =>
    let s1 := { s with tap := { s.tap with token := none } }
    if tokenGood s token at_ then
      let s2 := { s1 with tap := { s1.tap with isOpen := true, invalid := false } }
      .next (raise (jAppend s2 (.note 2 []) .nobody) 0x2708 2 0xFF [])
    else
      let n := s1.tap.failures + 1
      .next (bump { s1 with tap := { s1.tap with invalid := true, failures := n, blocked := decide (4 ≤ n) } } 0x2100 3)

/-- DBGSTAT (R601). -/
def execDbgstat (s : State) : Host.Outcome State Fault Refusal := .next (tapLoad s 0x22 (BitVec.ofNat 192 (dbgStatus s)))

/-- DBGACC (R439, R601): selects the processor debug access while debug is open; its protocol is the debug tool's own. -/
def execDbgacc (s : State) : Host.Outcome State Fault Refusal :=
  .next (if debugOpen s then { s with tap := { s.tap with ir := 0x30 } } else tapBypass s 0x30)

/-- BYPASS, and any code without an instruction (R601). -/
def execBypass (code : BitVec 8) (s : State) : Host.Outcome State Fault Refusal :=
  let known := [0x00, 0x01, 0x02, 0x03, 0x04, 0x20, 0x21, 0x22, 0x30].contains code.toNat
  .next (if known then s else tapBypass s code)

end Sys2Proof.Machine
end

