-- ==== Sys2Proof/Machine/Dispatch.lean ====
section
/-! DEFINITION. One arm per command: a direct call of its meaning. -/

namespace Sys2Proof.Machine

/-- The effect of a command on everything but the queue. -/
def exec (i : Instr) (s : State) : Host.Outcome State Fault Refusal :=
  match i with
  | .powerOnResetRelease straps => Sys2Proof.Machine.execPowerOnResetRelease straps s
  | .powerOnResetRearm => Sys2Proof.Machine.execPowerOnResetRearm s
  | .resetNPulse straps => Sys2Proof.Machine.execResetNPulse straps s
  | .watchdogExpiry straps => Sys2Proof.Machine.execWatchdogExpiry straps s
  | .startPhaseComplete report => Sys2Proof.Machine.execStartPhaseComplete report s
  | .deepSleepStartPhaseComplete report => Sys2Proof.Machine.execDeepSleepStartPhaseComplete report s
  | .requestRestart ses straps => Sys2Proof.Machine.execRequestRestart ses straps s
  | .requestCommissioning ses => Sys2Proof.Machine.execRequestCommissioning ses s
  | .requestNormal ses => Sys2Proof.Machine.execRequestNormal ses s
  | .requestTest ses => Sys2Proof.Machine.execRequestTest ses s
  | .requestRecovery ses straps => Sys2Proof.Machine.execRequestRecovery ses straps s
  | .requestSleepState ses deep => Sys2Proof.Machine.execRequestSleepState ses deep s
  | .requestSafe ses => Sys2Proof.Machine.execRequestSafe ses s
  | .safeAutoRestart straps => Sys2Proof.Machine.execSafeAutoRestart straps s
  | .resignFrameRepeat => Sys2Proof.Machine.execResignFrameRepeat s
  | .objectRead ses index sub => Sys2Proof.Machine.execObjectRead ses index sub s
  | .objectWrite ses index sub value => Sys2Proof.Machine.execObjectWrite ses index sub value s
  | .counterClear ses index sub value => Sys2Proof.Machine.execCounterClear ses index sub value s
  | .counterLatch ses index value => Sys2Proof.Machine.execCounterLatch ses index value s
  | .dtlsHandshakeComplete cred => Sys2Proof.Machine.execDtlsHandshakeComplete cred s
  | .dtlsClose slot => Sys2Proof.Machine.execDtlsClose slot s
  | .mosIdleTimeout slot => Sys2Proof.Machine.execMosIdleTimeout slot s
  | .mosRead slot msg index sub offset length => Sys2Proof.Machine.execMosRead slot msg index sub offset length s
  | .mosWrite slot msg index sub offset last data => Sys2Proof.Machine.execMosWrite slot msg index sub offset last data s
  | .mosSubscribe slot msg severity first => Sys2Proof.Machine.execMosSubscribe slot msg severity first s
  | .mosEventAck slot ack => Sys2Proof.Machine.execMosEventAck slot ack s
  | .mosKeepalive slot msg => Sys2Proof.Machine.execMosKeepalive slot msg s
  | .mosEventDelivery slot => Sys2Proof.Machine.execMosEventDelivery slot s
  | .mosEventResend slot => Sys2Proof.Machine.execMosEventResend slot s
  | .domPartialTimeout ses => Sys2Proof.Machine.execDomPartialTimeout ses s
  | .sdoRequest cn req => Sys2Proof.Machine.execSdoRequest cn req s
  | .sdoSegmentTimeout cn => Sys2Proof.Machine.execSdoSegmentTimeout cn s
  | .vendorChallengeRead ses => Sys2Proof.Machine.execVendorChallengeRead ses s
  | .vendorResponseWrite ses signature => Sys2Proof.Machine.execVendorResponseWrite ses signature s
  | .csApplyNow ses => Sys2Proof.Machine.execCsApplyNow ses s
  | .csArmTime ses => Sys2Proof.Machine.execCsArmTime ses s
  | .csArmPosition ses => Sys2Proof.Machine.execCsArmPosition ses s
  | .csDiscardPending ses => Sys2Proof.Machine.execCsDiscardPending ses s
  | .csCancelArmed ses => Sys2Proof.Machine.execCsCancelArmed ses s
  | .csValidateOnly ses => Sys2Proof.Machine.execCsValidateOnly ses s
  | .changeSetFileWrite ses file => Sys2Proof.Machine.execChangeSetFileWrite ses file s
  | .csValidationComplete lost => Sys2Proof.Machine.execCsValidationComplete lost s
  | .csApplyTimeDue => Sys2Proof.Machine.execCsApplyTimeDue s
  | .eventRecordRead ses => Sys2Proof.Machine.execEventRecordRead ses s
  | .eventReadPositionWrite ses pos => Sys2Proof.Machine.execEventReadPositionWrite ses pos s
  | .emcyInhibitExpiry cn => Sys2Proof.Machine.execEmcyInhibitExpiry cn s
  | .heartbeatTimer => Sys2Proof.Machine.execHeartbeatTimer s
  | .frameHeadReceived port head whole mark => Sys2Proof.Machine.execFrameHeadReceived port head whole mark s
  | .lookupVerdict srcs => Sys2Proof.Machine.execLookupVerdict srcs s
  | .frameEndReceived port rest aborted => Sys2Proof.Machine.execFrameEndReceived port rest aborted s
  | .transmissionSelection port read => Sys2Proof.Machine.execTransmissionSelection port read s
  | .frameTransmitEnd port reads => Sys2Proof.Machine.execFrameTransmitEnd port reads s
  | .cellTest col probe => Sys2Proof.Machine.execCellTest col probe s
  | .bankDrainTimeout col => Sys2Proof.Machine.execBankDrainTimeout col s
  | .linkUp port rate => Sys2Proof.Machine.execLinkUp port rate s
  | .linkDown port => Sys2Proof.Machine.execLinkDown port s
  | .forwardingAgeingScan => Sys2Proof.Machine.execForwardingAgeingScan s
  | .flushAllLearned ses => Sys2Proof.Machine.execFlushAllLearned ses s
  | .flushPortLearned ses => Sys2Proof.Machine.execFlushPortLearned ses s
  | .flushFidLearned ses => Sys2Proof.Machine.execFlushFidLearned ses s
  | .moveLockExpiry pos => Sys2Proof.Machine.execMoveLockExpiry pos s
  | .reopenGate ses gate => Sys2Proof.Machine.execReopenGate ses gate s
  | .clearAllRed ses value => Sys2Proof.Machine.execClearAllRed ses value s
  | .streamGateEntryStart gate => Sys2Proof.Machine.execStreamGateEntryStart gate s
  | .recoveryResetTimeout fn => Sys2Proof.Machine.execRecoveryResetTimeout fn s
  | .latentErrorCheck => Sys2Proof.Machine.execLatentErrorCheck s
  | .prpEntryForget mac seq => Sys2Proof.Machine.execPrpEntryForget mac seq s
  | .gateListEntryStart port => Sys2Proof.Machine.execGateListEntryStart port s
  | .gateListSwap port => Sys2Proof.Machine.execGateListSwap port s
  | .preemptionVerifyTimer port => Sys2Proof.Machine.execPreemptionVerifyTimer port s
  | .respondMpacketReceived port => Sys2Proof.Machine.execRespondMpacketReceived port s
  | .verifyMpacketReceived port => Sys2Proof.Machine.execVerifyMpacketReceived port s
  | .firstPacketEvaluation dataLost => Sys2Proof.Machine.execFirstPacketEvaluation dataLost s
  | .flowAgeingScan => Sys2Proof.Machine.execFlowAgeingScan s
  | .ruleSweepStep => Sys2Proof.Machine.execRuleSweepStep s
  | .fragmentEntryExpiry key => Sys2Proof.Machine.execFragmentEntryExpiry key s
  | .flowFlushAll ses => Sys2Proof.Machine.execFlowFlushAll ses s
  | .flowFlushPair ses => Sys2Proof.Machine.execFlowFlushPair ses s
  | .flowFlushDenied ses => Sys2Proof.Machine.execFlowFlushDenied ses s
  | .zoneLogRecordRead ses => Sys2Proof.Machine.execZoneLogRecordRead ses s
  | .zoneLogPositionWrite ses pos => Sys2Proof.Machine.execZoneLogPositionWrite ses pos s
  | .ptpSyncReceived inst port origin stamp => Sys2Proof.Machine.execPtpSyncReceived inst port origin stamp s
  | .ptpMessageReceived inst port msg => Sys2Proof.Machine.execPtpMessageReceived inst port msg s
  | .syncReceiptTimeout => Sys2Proof.Machine.execSyncReceiptTimeout s
  | .sourceInstanceChange => Sys2Proof.Machine.execSourceInstanceChange s
  | .primaryRevert => Sys2Proof.Machine.execPrimaryRevert s
  | .holdoverLimitExpiry => Sys2Proof.Machine.execHoldoverLimitExpiry s
  | .setTime ses value => Sys2Proof.Machine.execSetTime ses value s
  | .epochAnchorWrite => Sys2Proof.Machine.execEpochAnchorWrite s
  | .previousAnchorClear => Sys2Proof.Machine.execPreviousAnchorClear s
  | .triggerOccurrence hit => Sys2Proof.Machine.execTriggerOccurrence hit s
  | .converterPulseEnd pin => Sys2Proof.Machine.execConverterPulseEnd pin s
  | .tpoProgramPulse pin => Sys2Proof.Machine.execTpoProgramPulse pin s
  | .tpoPulseEnd pin => Sys2Proof.Machine.execTpoPulseEnd pin s
  | .tpoProgramWrite ses pin sub value => Sys2Proof.Machine.execTpoProgramWrite ses pin sub value s
  | .tpoLowPeriodEnd => Sys2Proof.Machine.execTpoLowPeriodEnd s
  | .tpiEdgeCapture input rising => Sys2Proof.Machine.execTpiEdgeCapture input rising s
  | .captureRead ses input => Sys2Proof.Machine.execCaptureRead ses input s
  | .canFrameReceived cn frame arrival => Sys2Proof.Machine.execCanFrameReceived cn frame arrival s
  | .engineHandover bus => Sys2Proof.Machine.execEngineHandover bus s
  | .canFrameSent cn result => Sys2Proof.Machine.execCanFrameSent cn result s
  | .canSlotGridPoint cn slot => Sys2Proof.Machine.execCanSlotGridPoint cn slot s
  | .busOffHoldoffExpiry cn => Sys2Proof.Machine.execBusOffHoldoffExpiry cn s
  | .busOffRecoveryComplete cn => Sys2Proof.Machine.execBusOffRecoveryComplete cn s
  | .canRecoverCommand ses cn value => Sys2Proof.Machine.execCanRecoverCommand ses cn value s
  | .canPortReconfigure cn => Sys2Proof.Machine.execCanPortReconfigure cn s
  | .serialCharacterReceived sp char arrival => Sys2Proof.Machine.execSerialCharacterReceived sp char arrival s
  | .serialIdleGap sp gap => Sys2Proof.Machine.execSerialIdleGap sp gap s
  | .serialTransmit sp echo => Sys2Proof.Machine.execSerialTransmit sp echo s
  | .modbusFrameEnd sp => Sys2Proof.Machine.execModbusFrameEnd sp s
  | .modbusResponseTimeout sp => Sys2Proof.Machine.execModbusResponseTimeout sp s
  | .mvbMasterFrame sp fcode address collision => Sys2Proof.Machine.execMvbMasterFrame sp fcode address collision s
  | .mvbSlaveFrame sp frame => Sys2Proof.Machine.execMvbSlaveFrame sp frame s
  | .sinkTimeLimitExpiry sp entry => Sys2Proof.Machine.execSinkTimeLimitExpiry sp entry s
  | .gatewayRouteMessage => Sys2Proof.Machine.execGatewayRouteMessage s
  | .gatewayDestinationDelivery => Sys2Proof.Machine.execGatewayDestinationDelivery s
  | .latestValueGridPoint entry => Sys2Proof.Machine.execLatestValueGridPoint entry s
  | .sourceTimeoutExpiry entry => Sys2Proof.Machine.execSourceTimeoutExpiry entry s
  | .gatewayDatagramReceived port datagram => Sys2Proof.Machine.execGatewayDatagramReceived port datagram s
  | .modbusPollGridPoint poll => Sys2Proof.Machine.execModbusPollGridPoint poll s
  | .bridgeHeldRead offset length => Sys2Proof.Machine.execBridgeHeldRead offset length s
  | .bridgePostedWrite offset data => Sys2Proof.Machine.execBridgePostedWrite offset data s
  | .bridgeFarCompletion tag result => Sys2Proof.Machine.execBridgeFarCompletion tag result s
  | .bridgeReadBoundExpiry tag => Sys2Proof.Machine.execBridgeReadBoundExpiry tag s
  | .bridgeAbandonedTimeout tag => Sys2Proof.Machine.execBridgeAbandonedTimeout tag s
  | .bridgeLockRequest ses page => Sys2Proof.Machine.execBridgeLockRequest ses page s
  | .bridgeLockRelease ses => Sys2Proof.Machine.execBridgeLockRelease ses s
  | .bridgeLockGrant => Sys2Proof.Machine.execBridgeLockGrant s
  | .bridgeLockExpiry => Sys2Proof.Machine.execBridgeLockExpiry s
  | .bridgeStatusPoll poll => Sys2Proof.Machine.execBridgeStatusPoll poll s
  | .bridgeCacheExpiry page slot => Sys2Proof.Machine.execBridgeCacheExpiry page slot s
  | .lateFaultRead ses => Sys2Proof.Machine.execLateFaultRead ses s
  | .strandedReadRead ses => Sys2Proof.Machine.execStrandedReadRead ses s
  | .audioBlock tdmIn => Sys2Proof.Machine.execAudioBlock tdmIn s
  | .inputStreamFrame stream frame => Sys2Proof.Machine.execInputStreamFrame stream frame s
  | .streamLossTimeout stream => Sys2Proof.Machine.execStreamLossTimeout stream s
  | .ambientMeasureWindow output => Sys2Proof.Machine.execAmbientMeasureWindow output s
  | .callRequest req => Sys2Proof.Machine.execCallRequest req s
  | .callAnswer answer => Sys2Proof.Machine.execCallAnswer answer s
  | .callEnd ref => Sys2Proof.Machine.execCallEnd ref s
  | .alertingTimeout ref => Sys2Proof.Machine.execAlertingTimeout ref s
  | .callQueueTimeout ref => Sys2Proof.Machine.execCallQueueTimeout ref s
  | .playerStartClip ses player clip => Sys2Proof.Machine.execPlayerStartClip ses player clip s
  | .playerStop ses player => Sys2Proof.Machine.execPlayerStop ses player s
  | .odometryEdge channel edge => Sys2Proof.Machine.execOdometryEdge channel edge s
  | .quadratureError channel => Sys2Proof.Machine.execQuadratureError channel s
  | .crossCheckWindowEnd => Sys2Proof.Machine.execCrossCheckWindowEnd s
  | .d64Extension => Sys2Proof.Machine.execD64Extension s
  | .distanceChargeJournal => Sys2Proof.Machine.execDistanceChargeJournal s
  | .setDistance ses value => Sys2Proof.Machine.execSetDistance ses value s
  | .setDoorSide ses value => Sys2Proof.Machine.execSetDoorSide ses value s
  | .adcSequenceComplete codes => Sys2Proof.Machine.execAdcSequenceComplete codes s
  | .housekeepingSequence => Sys2Proof.Machine.execHousekeepingSequence s
  | .energyBudgetEvaluation => Sys2Proof.Machine.execEnergyBudgetEvaluation s
  | .lowVoltageTimer => Sys2Proof.Machine.execLowVoltageTimer s
  | .chargeRecalibration => Sys2Proof.Machine.execChargeRecalibration s
  | .setCharge ses value => Sys2Proof.Machine.execSetCharge ses value s
  | .wakeSourceAccepted source => Sys2Proof.Machine.execWakeSourceAccepted source s
  | .quarantineEnd source => Sys2Proof.Machine.execQuarantineEnd source s
  | .quarantineClear ses source value => Sys2Proof.Machine.execQuarantineClear ses source value s
  | .phyReleaseStagger => Sys2Proof.Machine.execPhyReleaseStagger s
  | .idleTimeProposal => Sys2Proof.Machine.execIdleTimeProposal s
  | .propose ses kind => Sys2Proof.Machine.execPropose ses kind s
  | .proposalReceived port frame => Sys2Proof.Machine.execProposalReceived port frame s
  | .voteReceived port frame => Sys2Proof.Machine.execVoteReceived port frame s
  | .commitReceived port frame => Sys2Proof.Machine.execCommitReceived port frame s
  | .abortReceived port frame => Sys2Proof.Machine.execAbortReceived port frame s
  | .voteWindowExpiry => Sys2Proof.Machine.execVoteWindowExpiry s
  | .commitResend => Sys2Proof.Machine.execCommitResend s
  | .commitMissing => Sys2Proof.Machine.execCommitMissing s
  | .sleepEntry => Sys2Proof.Machine.execSleepEntry s
  | .sleepEntryComplete => Sys2Proof.Machine.execSleepEntryComplete s
  | .keepAwake ses seconds => Sys2Proof.Machine.execKeepAwake ses seconds s
  | .keepAwakeExpiry => Sys2Proof.Machine.execKeepAwakeExpiry s
  | .wakeHoldExpiry => Sys2Proof.Machine.execWakeHoldExpiry s
  | .segmentWakeRequest ses port => Sys2Proof.Machine.execSegmentWakeRequest ses port s
  | .segmentSleepRequest ses port => Sys2Proof.Machine.execSegmentSleepRequest ses port s
  | .segmentEndIsolation ses port => Sys2Proof.Machine.execSegmentEndIsolation ses port s
  | .tsSegmentEnergy ts => Sys2Proof.Machine.execTsSegmentEnergy ts s
  | .leaseExpiry port => Sys2Proof.Machine.execLeaseExpiry port s
  | .drainQuietComplete port => Sys2Proof.Machine.execDrainQuietComplete port s
  | .segmentOverrun port => Sys2Proof.Machine.execSegmentOverrun port s
  | .gpPass1Close cause count work => Sys2Proof.Machine.execGpPass1Close cause count work s
  | .gpInterrupt vector => Sys2Proof.Machine.execGpInterrupt vector s
  | .gpWindowCompare pass2 => Sys2Proof.Machine.execGpWindowCompare pass2 s
  | .gpPassTimeout => Sys2Proof.Machine.execGpPassTimeout s
  | .comparatorProbe mismatchSeen => Sys2Proof.Machine.execComparatorProbe mismatchSeen s
  | .gpCycle cycle => Sys2Proof.Machine.execGpCycle cycle s
  | .debugHalt breakpoint => Sys2Proof.Machine.execDebugHalt breakpoint s
  | .debugSingleStep => Sys2Proof.Machine.execDebugSingleStep s
  | .debugResume => Sys2Proof.Machine.execDebugResume s
  | .debugRead target => Sys2Proof.Machine.execDebugRead target s
  | .debugWrite target value => Sys2Proof.Machine.execDebugWrite target value s
  | .discoveryTimeout => Sys2Proof.Machine.execDiscoveryTimeout s
  | .presenceFrameReceived port hdr preferred => Sys2Proof.Machine.execPresenceFrameReceived port hdr preferred s
  | .pairCycleStart => Sys2Proof.Machine.execPairCycleStart s
  | .pairCycleEnd => Sys2Proof.Machine.execPairCycleEnd s
  | .digestFrameReceived port hdr digest => Sys2Proof.Machine.execDigestFrameReceived port hdr digest s
  | .cycleJudgement => Sys2Proof.Machine.execCycleJudgement s
  | .capsuleSegmentReceived port hdr seg => Sys2Proof.Machine.execCapsuleSegmentReceived port hdr seg s
  | .capsuleAcceptTimeout => Sys2Proof.Machine.execCapsuleAcceptTimeout s
  | .resignFrameReceived port hdr cause => Sys2Proof.Machine.execResignFrameReceived port hdr cause s
  | .healthFrameSend => Sys2Proof.Machine.execHealthFrameSend s
  | .healthFrameReceived port hdr flags margin => Sys2Proof.Machine.execHealthFrameReceived port hdr flags margin s
  | .peerLostTimeout => Sys2Proof.Machine.execPeerLostTimeout s
  | .returnHoldOffExpiry => Sys2Proof.Machine.execReturnHoldOffExpiry s
  | .swap ses value => Sys2Proof.Machine.execSwap ses value s
  | .claimRequestReceived port hdr => Sys2Proof.Machine.execClaimRequestReceived port hdr s
  | .claimFrameReceived port hdr cause => Sys2Proof.Machine.execClaimFrameReceived port hdr cause s
  | .handoverInstant => Sys2Proof.Machine.execHandoverInstant s
  | .handoverCapsuleTimeout => Sys2Proof.Machine.execHandoverCapsuleTimeout s
  | .scrubStep errors => Sys2Proof.Machine.execScrubStep errors s
  | .pageCountsDailyAppend => Sys2Proof.Machine.execPageCountsDailyAppend s
  | .poolRequest reqs => Sys2Proof.Machine.execPoolRequest reqs s
  | .poolFree owner handle => Sys2Proof.Machine.execPoolFree owner handle s
  | .poolGive owner handle dest => Sys2Proof.Machine.execPoolGive owner handle dest s
  | .misuseRecordRead ses => Sys2Proof.Machine.execMisuseRecordRead ses s
  | .cvuConfigWrite unit src reg value => Sys2Proof.Machine.execCvuConfigWrite unit src reg value s
  | .cvuStart unit src => Sys2Proof.Machine.execCvuStart unit src s
  | .cvuClaim unit src => Sys2Proof.Machine.execCvuClaim unit src s
  | .cvuRelease unit src => Sys2Proof.Machine.execCvuRelease unit src s
  | .cvuFeedByte unit src value => Sys2Proof.Machine.execCvuFeedByte unit src value s
  | .cvuFeedHalfWord unit src value => Sys2Proof.Machine.execCvuFeedHalfWord unit src value s
  | .cvuFeedWord unit src value => Sys2Proof.Machine.execCvuFeedWord unit src value s
  | .journalRecordWrite readBackOk => Sys2Proof.Machine.execJournalRecordWrite readBackOk s
  | .healthReportUpdate => Sys2Proof.Machine.execHealthReportUpdate s
  | .hoursPoweredAppend => Sys2Proof.Machine.execHoursPoweredAppend s
  | .inclusionRead ses => Sys2Proof.Machine.execInclusionRead ses s
  | .beginStaging ses => Sys2Proof.Machine.execBeginStaging ses s
  | .stagingEraseComplete failed => Sys2Proof.Machine.execStagingEraseComplete failed s
  | .imagePartWrite ses part data failed => Sys2Proof.Machine.execImagePartWrite ses part data failed s
  | .verifyImage ses => Sys2Proof.Machine.execVerifyImage ses s
  | .activateImage ses => Sys2Proof.Machine.execActivateImage ses s
  | .confirmImage ses => Sys2Proof.Machine.execConfirmImage ses s
  | .discardBank ses => Sys2Proof.Machine.execDiscardBank ses s
  | .revertToPrevious ses => Sys2Proof.Machine.execRevertToPrevious ses s
  | .activationHandoverTimeout => Sys2Proof.Machine.execActivationHandoverTimeout s
  | .activationPausePhaseComplete report => Sys2Proof.Machine.execActivationPausePhaseComplete report s
  | .trialTimeExpiry => Sys2Proof.Machine.execTrialTimeExpiry s
  | .fieldLockRequest ses value => Sys2Proof.Machine.execFieldLockRequest ses value s
  | .recoveryTargetWrite ses value => Sys2Proof.Machine.execRecoveryTargetWrite ses value s
  | .mailboxDoorbell value header window => Sys2Proof.Machine.execMailboxDoorbell value header window s
  | .mailboxAnswerReady => Sys2Proof.Machine.execMailboxAnswerReady s
  | .hstsClear value => Sys2Proof.Machine.execHstsClear value s
  | .interfaceReset => Sys2Proof.Machine.execInterfaceReset s
  | .hpreqWrite value => Sys2Proof.Machine.execHpreqWrite value s
  | .hpfreeWrite value => Sys2Proof.Machine.execHpfreeWrite value s
  | .hpgiveWrite value dest => Sys2Proof.Machine.execHpgiveWrite value dest s
  | .hpadatRead aperture => Sys2Proof.Machine.execHpadatRead aperture s
  | .hpadatWrite aperture value => Sys2Proof.Machine.execHpadatWrite aperture value s
  | .rtailWrite ring value => Sys2Proof.Machine.execRtailWrite ring value s
  | .ringReset ring => Sys2Proof.Machine.execRingReset ring s
  | .txDescriptorProcess ring desc memory => Sys2Proof.Machine.execTxDescriptorProcess ring desc memory s
  | .rxFrameDelivery ring buffer reads => Sys2Proof.Machine.execRxFrameDelivery ring buffer reads s
  | .interruptModerationExpiry ring => Sys2Proof.Machine.execInterruptModerationExpiry ring s
  | .pcieLinkUp rate => Sys2Proof.Machine.execPcieLinkUp rate s
  | .pcieLinkDown => Sys2Proof.Machine.execPcieLinkDown s
  | .spiStatus => Sys2Proof.Machine.execSpiStatus s
  | .spiRead frame => Sys2Proof.Machine.execSpiRead frame s
  | .spiWrite frame => Sys2Proof.Machine.execSpiWrite frame s
  | .spiFetchAnswer frame clocked => Sys2Proof.Machine.execSpiFetchAnswer frame clocked s
  | .spiRegisterWrite frame => Sys2Proof.Machine.execSpiRegisterWrite frame s
  | .spiRegisterRead frame => Sys2Proof.Machine.execSpiRegisterRead frame s
  | .spiTargetReset frame => Sys2Proof.Machine.execSpiTargetReset frame s
  | .spiAnswerReady => Sys2Proof.Machine.execSpiAnswerReady s
  | .extest held pins => Sys2Proof.Machine.execExtest held pins s
  | .samplePreload load pins => Sys2Proof.Machine.execSamplePreload load pins s
  | .idcode => Sys2Proof.Machine.execIdcode s
  | .clamp held => Sys2Proof.Machine.execClamp held s
  | .highz held => Sys2Proof.Machine.execHighz held s
  | .dbgchal => Sys2Proof.Machine.execDbgchal s
  | .dbgtoken token => Sys2Proof.Machine.execDbgtoken token s
  | .debugTokenCheckComplete => Sys2Proof.Machine.execDebugTokenCheckComplete s
  | .dbgstat => Sys2Proof.Machine.execDbgstat s
  | .dbgacc => Sys2Proof.Machine.execDbgacc s
  | .bypass code => Sys2Proof.Machine.execBypass code s
  | .wakeLevelEnd source => Sys2Proof.Machine.execWakeLevelEnd source s
  | .ptpMessageInterval inst port due => Sys2Proof.Machine.execPtpMessageInterval inst port due s
  | .journalCompactionComplete => Sys2Proof.Machine.execJournalCompactionComplete s
  | .ringEnable change => Sys2Proof.Machine.execRingEnable change s
  | .noCapsuleAccepted => Sys2Proof.Machine.execNoCapsuleAccepted s
  | .pciePowerStateChange d3hot => Sys2Proof.Machine.execPciePowerStateChange d3hot s

end Sys2Proof.Machine
end

