-- ==== Sys2Proof/Machine/Step.lean ====
section
/-! DEFINITION. One step of the device: the command at the front of the queue, or a tick of its clock. -/

namespace Sys2Proof.Machine

/-- The command at the front of the queue is taken and carried out; on an empty queue the Time Unit ticks (R234, DESIGN CHOICE, log entry 1). -/
def step (s : State) : Host.Outcome State Fault Refusal :=
  match s.pending with
  | [] => .next (tick s)
  | c :: rest => exec c { s with pending := rest }

/-- The command that a word spells, put at the front of the queue; no row of the table gives bits, so none does. -/
def State.withFetchWord (s : State) (nbits w : Nat) : State :=
  match Sys2Proof.decodeTableWord nbits w with
  | some c => { s with pending := c :: s.pending }
  | none => s

end Sys2Proof.Machine
end

