-- ==== Sys2Proof/Safety.lean ====
section
/-! DEFINITION. The notions that claims about the device are stated in: what an access must pass before its effect, which
bits a command may not take back, and the canonical form of the values in force. -/

namespace Sys2Proof.Machine

/-- The object server carries a write out: it serves the session, every check of the write passes (R37 to R44, R609), and the
object is not part of the armed set (R59). -/
def WriteAllowed (s : State) (ses : SessionNo) (idx sub : Nat) (v : Bytes) : Prop :=
  served s = true ∧ isOpen s ses.val = true ∧ inArmed s idx sub = false ∧ (writeCheck s ses.val idx sub v).isLeft = true

/-- The object server carries a read out: it serves the session, and every check of the read passes (R37, R39, R40, R539). -/
def ReadAllowed (s : State) (ses : SessionNo) (idx sub : Nat) : Prop :=
  served s = true ∧ isOpen s ses.val = true ∧ (readCheck s ses.val idx sub).isLeft = true

/-- The answer to a session's plain access has left the device last (R44). -/
def Answered (t : State) (ses : SessionNo) (code : Byte) (data : Bytes) : Prop :=
  t.out.head? = some (.answer (.session ses) code data)

/-- A MOS request is taken up (R47, R53, R55): its header is of version 1, its session is open and served, no kept answer and no full list of open requests stands
against it. -/
def MosFresh (s : State) (slot : Fin 8) (head : MosHead) (kind : BitVec 8) (tag index : BitVec 16) (sub : BitVec 8) : Bool :=
  match s.sessions[slot.val]? with
  | some x => served s && x.isOpen && head.version == 1 && decide (x.outstanding.length < 16) &&
      (x.kept.find? (fun k => k.tag == tag && k.kind == kind && k.index == index && k.sub == sub)).isNone
  | none => false

/-- The state with a MOS request taken up as outstanding (R55). -/
def mosTaken (s : State) (slot : Fin 8) (kind : BitVec 8) (tag index : BitVec 16) (sub : BitVec 8) : State :=
  { s with sessions := vmod s.sessions slot.val (fun y => { y with outstanding := y.outstanding ++ [{ tag := tag, kind := kind, index := index, sub := sub }] }) }

/-- A write with no row and no effect of its own (R42): none of the command registers, and no object whose write acts. -/
def OrdinaryWrite (s : State) (ses : SessionNo) (idx sub : Nat) (v : Bytes) : Bool :=
  !(idx == 0x2000 && sub == 2) && !(idx == 0x2200 && sub == 1) && !(idx == 0x2700 && sub == 1) && (writeAct s ses idx sub v).isNone

/-- An ordinary write of a volatile value in force: no counter, latch or per-session object, nothing the journal keeps. -/
def PlainObject (s : State) (ses : SessionNo) (x : ObjRow) (idx sub : Nat) (v : Bytes) : Bool :=
  OrdinaryWrite s ses idx sub v && x.ty != .s32 && !(isGroup idx && sub == 1) && !(perSession idx sub) && x.pers != .p

/-- An SPI frame that the target acts on (R558 to R560): served, its check good, of this command and length. -/
def SpiFrameGood (s : State) (frame : Bytes) (cmd len : Nat) : Bool :=
  served s && spiCrcOk frame && byteAt frame 0 == cmd && frame.length == 8 + len

/-- The state in which the action of a good SPI frame runs: the status byte sent, the frame counted, no error flag (R560). -/
def spiTaken (s : State) : State :=
  { spiBegin s with spi := { (spiBegin s).spi with crcError := false, refused := false } }

/-- The values in force are in canonical form: keys strictly rise, and no value listed is the default of its object. -/
def CanonicalConfig (t : Tbl Bytes) : Prop :=
  sortedKeys t = true ∧ ∀ e ∈ t, e.2 ≠ defaultOf (e.1 / 256) (e.1 % 256)

/-- The commands after which the configuration in force may differ: restarts and start phases, object writes of every transport,
change sets that apply, journal records that land, activations, what can make an armed set due, and the wake from sleep. -/
def MayChangeConfig (c : Instr) : Bool :=
  match c with
  | .activateImage .. | .activationPausePhaseComplete .. | .counterClear .. | .counterLatch .. | .csApplyTimeDue |
    .csValidationComplete .. | .deepSleepStartPhaseComplete .. | .journalRecordWrite .. | .mailboxDoorbell .. |
    .mosWrite .. | .objectWrite .. | .odometryEdge .. | .powerOnResetRelease .. | .ptpSyncReceived .. |
    .requestRecovery .. | .requestRestart .. | .resetNPulse .. | .revertToPrevious .. | .safeAutoRestart .. |
    .sdoRequest .. | .setDistance .. | .setTime .. | .sleepEntryComplete | .spiWrite .. | .startPhaseComplete .. |
    .wakeSourceAccepted .. | .watchdogExpiry .. => true
  | _ => false

/-- The commands after which the operating state may differ (R24): resets and start phases, the requests and the writes that can
carry one, activations, the Guard Processor's failures, and sleep. -/
def MayChangeState (c : Instr) : Bool :=
  match c with
  | .abortReceived .. | .activateImage .. | .activationPausePhaseComplete .. | .comparatorProbe .. | .counterClear .. | .counterLatch .. |
    .deepSleepStartPhaseComplete .. | .gpPassTimeout | .gpWindowCompare .. | .mailboxDoorbell .. | .mosWrite .. |
    .objectWrite .. | .powerOnResetRelease .. | .requestCommissioning .. | .requestNormal .. | .requestRecovery .. |
    .requestRestart .. | .requestSafe .. | .requestTest .. | .resetNPulse .. | .revertToPrevious .. |
    .safeAutoRestart .. | .sdoRequest .. | .sleepEntry | .sleepEntryComplete | .spiWrite .. | .startPhaseComplete .. |
    .wakeSourceAccepted .. | .watchdogExpiry .. => true
  | _ => false

end Sys2Proof.Machine
end

