-- ==== Sys2Proof/Certificates/Slice0/Obligations.lean ====
section
/-! DEFINITION. The statements about the device that the provers prove or refute. -/

section


open Sys2Proof Sys2Proof.Machine

/-- Where a command stands at the front of the queue, step is exec of that command on the state with the queue's rest.
(spec/opcode_table.json, spec/INDEX.md) -/
def Obligations.StepRunsFrontCommand : Prop :=
  ∀ (c : Instr) (rest : List Instr) (s : State), s.pending = c :: rest → step s = exec c { s with pending := rest }

/-- The model's choice (DESIGN CHOICE, log entry 1): on an empty queue a step is one tick of the Time Unit. Outside
DeepSleep, ACC and INC are added; the integer part of the sum is added to T32, to TX and to the monotonic count, and
its fraction stays in ACC. In DeepSleep the tick counts 4 ns of the monotonic count alone. The operating state, the
configuration in force and the change sets do not change, and no command appears. (R234, R236) -/
def Obligations.EmptyQueueTicks : Prop :=
  ∀ (s : State), s.pending = [] →
    ∃ t, step s = .next t ∧ t.op = s.op ∧ t.cfg = s.cfg ∧ t.cs = s.cs ∧ t.pending = [] ∧
      (s.op.state ≠ .deepSleep →
        let n := (s.time.acc.toNat + s.time.inc.toNat) / 2 ^ 32;
        t.time = { s.time with
          t32 := s.time.t32 + BitVec.ofNat 32 n,
          acc := BitVec.ofNat 32 ((s.time.acc.toNat + s.time.inc.toNat) % 2 ^ 32),
          tx := s.time.tx + n, mono := s.time.mono + n }) ∧
      (s.op.state = .deepSleep → t.time = { s.time with mono := s.time.mono + 4 })

/-- At reset the operating state is Start in phase 1 with cause 1, no command waits, every configuration object holds its
default, every counter is 0, no event is held, no MOS or PCIe session is open, the SPI session is open, INC is
nominal, the Guard Processor does not run, debug is closed, and the configuration in force has its canonical form.
(R22, R24, R47, R527, R528) -/
def Obligations.ResetIsStartPhaseOne : Prop :=
  (let r := State.reset;
  r.op.state = .start ∧ r.op.phase = 1 ∧ r.op.cause = 1 ∧ r.pending = [] ∧ (∀ idx sub, cfgBytes r.cfg idx sub = defaultOf idx sub) ∧
      (∀ k, tnat r.cnt k = 0) ∧ r.ev.ring = [] ∧ (∀ n, n ≠ 16 → isOpen r n = false) ∧ isOpen r 16 = true ∧
      r.time.inc = 0x0400000000 ∧ r.time.t32 = 0 ∧ r.gp.running = false ∧ r.tap.isOpen = false ∧ CanonicalConfig r.cfg)

/-- POWER_ON_RESET_RELEASE (with the reset armed), RESET_N_PULSE, WATCHDOG_EXPIRY, SAFE_AUTO_RESTART (in Safe with the
delay running), REQUEST_RESTART and REQUEST_RECOVERY (a write that passes the object server's checks and that nothing
bars) each answer a next state in Start, phase 1, with the previous state and a cause of its own; the straps are those
of the command (SAFE_AUTO_RESTART: those in force), no value is in force but the defaults, no set is pending or armed,
and the queue and the fuses are kept. POWER_ON_RESET_RELEASE counts one more power-on reset and ends the arming; with
the reset not armed it changes nothing. (R24, R31, R33, R527, R570, R573) -/
def Obligations.RestartsEnterStart : Prop :=
  ∀ (s : State) (straps : Straps) (ses : SessionNo),
    let restarted := fun (c : Instr) (cause : Nat) (st : Straps) =>
      ∃ t, exec c s = .next t ∧ t.op.state = .start ∧ t.op.phase = 1 ∧ t.op.cause = BitVec.ofNat 16 cause ∧ t.op.straps = st ∧
        t.op.previous = BitVec.ofNat 8 s.op.state.code ∧ t.cfg = [] ∧ t.cs.armed = none ∧ t.cs.pending = none ∧
        t.upd.fuses = s.upd.fuses ∧ t.upd.lockFuse = s.upd.lockFuse ∧ t.pending = s.pending;
    (s.pins.porArmed = true → restarted (.powerOnResetRelease straps) 1 straps ∧
      ∃ t, exec (.powerOnResetRelease straps) s = .next t ∧ t.pins.porCount = s.pins.porCount + 1 ∧ t.pins.porArmed = false) ∧
      (s.pins.porArmed = false → exec (.powerOnResetRelease straps) s = .next s) ∧
      restarted (.resetNPulse straps) 2 straps ∧ restarted (.watchdogExpiry straps) 3 straps ∧
      (s.op.state = .safe → s.op.autoRestart = true → restarted (.safeAutoRestart straps) 0x44 s.op.straps) ∧
      (WriteAllowed s ses 0x2000 2 [0] → requestBar s ses.val 0 = none → restarted (.requestRestart ses straps) 4 straps) ∧
      (WriteAllowed s ses 0x2000 2 [4] → requestBar s ses.val 4 = none → restarted (.requestRecovery ses straps) 0x14 straps)

/-- POWER_ON_RESET_REARM arms the reset and takes RSTOUT_N low, and changes nothing else. In Start, START_PHASE_COMPLETE
on a cold start and DEEP_SLEEP_START_PHASE_COMPLETE on a start from DeepSleep, each reporting a phase done: phase 1
goes on to phase 2 with no other change; phase 3 goes on to phase 4 with the GP component of the running bank's image
loaded; phase 4 (the self-test) goes on to phase 5 with the time of the test noted. Each puts its line on DTX. (R417,
R528, R529, R570, R603) -/
def Obligations.ResetLinesAndStartPhases : Prop :=
  ∀ (s : State),
    exec .powerOnResetRearm s = .next { s with pins := { s.pins with porArmed := true, rstoutN := false } } ∧
    (s.op.state = .start →
      let line := fun (u : State) => { u with out := .console s.op.phase s.op.cause :: s.out };
      let cmd := if s.op.warm then Instr.deepSleepStartPhaseComplete .done else Instr.startPhaseComplete .done;
      (s.op.phase = 1 → exec cmd s = .next (line { s with op := { s.op with phase := 2 } })) ∧
      (s.op.phase = 3 → exec cmd s = .next (line { s with
        op := { s.op with phase := 4 },
        gp := { s.gp with code := componentOf (imageOf (bankOf s s.upd.running)) 2, region1 := [], region2 := [] } })) ∧
      (s.op.phase = 4 → exec cmd s = .next (line { s with
        op := { s.op with phase := 5 }, gp := { s.gp with testDoneAt := s.time.mono, lastTest := s.now } })))

/-- A write of 1, 3 or 7 to 2000h.02 that passes the object server's checks and that nothing bars is answered with result
0 and takes the device to Commissioning (an Active device resigns first), Test or Safe; a write of 2, with a
configuration in force that validation passes, takes it to Normal and is answered 0. The spec gives a write of 5 or 6
no transition: one that passes the object server's checks is answered with result 0x0F after event 2002h with reason
4, and the state stays. While repetitions of a resign frame are left, RESIGN_FRAME_REPEAT sends it once more and
counts one down. (R24, R26, R28, R29, R33, R42, R434, R436) -/
def Obligations.StateRequestsAreCarriedOut : Prop :=
  ∀ (s : State) (ses : SessionNo) (deep : Bool),
    let answered := emit s (.answer (.session ses) 0 []);
    (WriteAllowed s ses 0x2000 2 [1] → requestBar s ses.val 1 = none → ∃ t, exec (.requestCommissioning ses) s = .next t ∧
      t = enterState (resignLeaving answered) .commissioning 0x20 ∧ t.op.state = .commissioning ∧ t.op.cause = 0x20) ∧
    (WriteAllowed s ses 0x2000 2 [2] → requestBar s ses.val 2 = none → configFault s = none →
      ∃ t, exec (.requestNormal ses) s = .next t ∧ Answered t ses 0 [] ∧
        t = emit (enterState (noteValid s) .normal 0x20) (.answer (.session ses) 0 []) ∧ t.op.state = .normal ∧ t.op.cause = 0x20) ∧
    (WriteAllowed s ses 0x2000 2 [3] → requestBar s ses.val 3 = none → ∃ t, exec (.requestTest ses) s = .next t ∧
      t = enterState answered .test 0x20 ∧ t.op.state = .test ∧ t.op.cause = 0x20) ∧
    (WriteAllowed s ses 0x2000 2 [7] → requestBar s ses.val 7 = none → ∃ t, exec (.requestSafe ses) s = .next t ∧
      t = goSafe answered ∧ t.op.state = .safe ∧ t.gp.resignLeft = 0 ∧ (t.op.autoRestart = true ↔ t.val 0x2000 7 ≠ 0)) ∧
    (let code : Nat := if deep then 6 else 5;
      WriteAllowed s ses 0x2000 2 (be 1 code) → ∃ t, exec (.requestSleepState ses deep) s = .next t ∧ Answered t ses 0x0F [] ∧
        t = emit (raise s 0x2002 2 0xFF (be 1 code ++ be 1 s.op.state.code ++ be 1 4)) (.answer (.session ses) 0x0F []) ∧
        t.op.state = s.op.state) ∧
    (0 < s.gp.resignLeft → ∃ t, exec .resignFrameRepeat s = .next t ∧ t.gp = { s.gp with resignLeft := s.gp.resignLeft - 1 } ∧
      t = { sendResign s with gp := t.gp })

/-- Where a read passes the object server's checks, OBJECT_READ is answered with result 0 and the value: what the object
shows, with the answer the only change, or, for an object whose read acts (an event record, a challenge, a capture and
the like), what that action gives in the state it leaves. MOS_READ, taken up as an outstanding request, does the same
with a message of type 0x81 that echoes tag, index and subindex; of a DOM object it carries the segment at the offset,
at most 1,200 bytes of it, and an offset beyond the value is answered with result 8 and no data. (R37, R43, R44, R53,
R54, R55, R56) -/
def Obligations.ObjectReadsAnswerTheValueInForce : Prop :=
  ∀ (s : State) (ses : SessionNo) (slot : Fin 8) (head : MosHead) (tag index : BitVec 16) (sub : BitVec 8) (offset : BitVec 32) (length : BitVec 16) (x : ObjRow),
    let got := fun (u : State) (n : Nat) => (readEffect u n index.toNat sub.toNat).getD (u, objectValue u n x index.toNat sub.toNat);
    (served s = true → isOpen s ses.val = true → undocumented s ses.val index.toNat = false → readCheck s ses.val index.toNat sub.toNat = .inl x →
      exec (.objectRead ses index sub) s = .next (emit (got s ses.val).1 (.answer (.session ses) 0 (got s ses.val).2)) ∧
      (readEffect s ses.val index.toNat sub.toNat = none → (got s ses.val).1 = s)) ∧
    (MosFresh s slot head 1 tag index sub = true → undocumented s slot.val index.toNat = false →
      let r := got (mosTaken s slot 1 tag index sub) slot.val;
      readCheck (mosTaken s slot 1 tag index sub) slot.val index.toNat sub.toNat = .inl x →
      let answer := fun (code : Byte) (data : Bytes) => ∃ t, exec (.mosRead slot ⟨head, tag⟩ index sub offset length) s = .next t ∧
        t = reply r.1 (.mos slot 1 tag index sub offset) code data ∧
        t.out = .mos slot.val (mosAnswer 1 tag index sub offset code data) :: r.1.out;
      (isDomObject index.toNat sub.toNat = false → answer 0 r.2) ∧
      (isDomObject index.toNat sub.toNat = true → offset.toNat ≤ r.2.length → answer 0 (slice r.2 offset.toNat (min 1200 length.toNat))) ∧
      (isDomObject index.toNat sub.toNat = true → r.2.length < offset.toNat → answer 8 []))

/-- OBJECT_WRITE of a value that passes the checks is carried out by the server and answered: a class S value is staged
and answered what staging answers; a class I value of a volatile object without an effect of its own is in force at
once, result 0; a class I value of persistence P goes to the journal, whose record answers it. COUNTER_CLEAR with 0
makes the selected count of a volatile counter 0, result 0, and changes no other count; of a persistent counter it
goes to the journal. COUNTER_LATCH with 1 gives the session a snapshot of the group's selected counters with this T32,
with 0 it releases it; result 0. MOS_WRITE, taken up, is answered by the result of its write; a volatile value is in
force at once; a segment of a DOM value that goes on where the session's data end is kept and answered 0, unless it is
the last, which writes the whole value. (R10, R11, R42, R44, R56, R58, R76) -/
def Obligations.ObjectWritesTakeEffect : Prop :=
  ∀ (s : State) (ses : SessionNo) (slot : Fin 8) (head : MosHead) (tag index : BitVec 16) (sub : BitVec 8) (offset : BitVec 32) (last : Bool) (v : Bytes) (x : ObjRow),
    let idx := index.toNat;
    let k := ckey idx sub.toNat (selector s ses.val idx);
    (served s = true → isOpen s ses.val = true → undocumented s ses.val idx = false →
      exec (.objectWrite ses index sub v) s = .next (answerWrite s ses (.session ses) idx sub.toNat v) ∧
      (writeCheck s ses.val idx sub.toNat v = .inl x → x.apply = .s → exec (.objectWrite ses index sub v) s =
        .next (emit (stage s ses idx sub.toNat v).1 (.answer (.session ses) (BitVec.ofNat 8 (stage s ses idx sub.toNat v).2) []))) ∧
      (writeCheck s ses.val idx sub.toNat v = .inl x → x.apply ≠ .s → inArmed s idx sub.toNat = false →
        (PlainObject s ses x idx sub.toNat v = true →
          exec (.objectWrite ses index sub v) s =
            .next (emit { s with cfg := cfgPut s.cfg idx sub.toNat v } (.answer (.session ses) 0 []))) ∧
        (OrdinaryWrite s ses idx sub.toNat v = true → x.ty ≠ .s32 → ¬ (isGroup idx = true ∧ sub = 1) →
          perSession idx sub.toNat = false → x.pers = .p → persistCheck s idx sub.toNat v = 0 → s.jour.state ≠ 2 →
          exec (.objectWrite ses index sub v) s = .next (jAppend (thaw s) (.value (okey idx sub.toNat) v) (.session ses))) ∧
        (OrdinaryWrite s ses idx sub.toNat v = true → x.ty = .s32 → beNat v = 0 →
          (x.pers ≠ .p → exec (.counterClear ses index sub v) s =
            .next (emit { s with cnt := tdel s.cnt k } (.answer (.session ses) 0 []))) ∧
          (x.pers = .p → s.jour.state ≠ 2 →
            exec (.counterClear ses index sub v) s = .next (jAppend (thaw s) (.cleared k) (.session ses)))))) ∧
    (served s = true → isOpen s ses.val = true → undocumented s ses.val idx = false → inArmed s idx 1 = false →
      writeCheck s ses.val idx 1 v = .inl x → x.apply ≠ .s → OrdinaryWrite s ses idx 1 v = true → x.ty ≠ .s32 → isGroup idx = true →
      (beNat v = 1 → ∃ t, exec (.counterLatch ses index v) s = .next t ∧ Answered t ses 0 [] ∧ t.cnt = s.cnt ∧
        snapshotOf t ses.val idx = some {
          index := idx, sel := selector s ses.val idx, stamp := s.now,
          values := s.cnt.filter (fun e => e.1 / 65536 / 256 == idx && e.1 % 65536 == selector s ses.val idx) }) ∧
      (beNat v = 0 → ∃ t, exec (.counterLatch ses index v) s = .next t ∧ Answered t ses 0 [] ∧ t.cnt = s.cnt ∧ snapshotOf t ses.val idx = none)) ∧
    (let u := mosTaken s slot 2 tag index sub;
      let dest : ReplyTo := .mos slot 2 tag index sub offset;
      MosFresh s slot head 2 tag index sub = true → undocumented s slot.val idx = false → v.length ≤ 1200 →
      (∀ w c, segmentWrite u (mosSession slot) dest idx sub.toNat offset.toNat last v = (w, some c) →
        exec (.mosWrite slot ⟨head, tag⟩ index sub offset last v) s = .next (reply w dest (BitVec.ofNat 8 c) [])) ∧
      (∀ w, segmentWrite u (mosSession slot) dest idx sub.toNat offset.toNat last v = (w, none) →
        exec (.mosWrite slot ⟨head, tag⟩ index sub offset last v) s = .next w) ∧
      (isDomObject idx sub.toNat = false → inArmed u idx sub.toNat = false → writeCheck u slot.val idx sub.toNat v = .inl x → x.apply ≠ .s →
        PlainObject u (mosSession slot) x idx sub.toNat v = true →
        exec (.mosWrite slot ⟨head, tag⟩ index sub offset last v) s =
          .next (reply { u with cfg := cfgPut u.cfg idx sub.toNat v } dest 0 [])) ∧
      (isDomObject idx sub.toNat = true → segmentCheck u slot.val idx sub.toNat = none →
        let so := partialOf u slot.val idx sub.toNat;
        offset.toNat = so.length → (so ++ v).length ≤ 2097152 →
        (last = false → exec (.mosWrite slot ⟨head, tag⟩ index sub offset last v) s =
          .next (reply (setPartial u slot.val idx sub.toNat (so ++ v)) dest 0 [])) ∧
        (last = true → exec (.mosWrite slot ⟨head, tag⟩ index sub offset last v) s =
          .next (answerWrite (dropPartial u slot.val idx sub.toNat) (mosSession slot) dest idx sub.toNat (so ++ v)))))

/-- The spec says that 5F00h to 5FFFh are vendor objects and are not documented. An access to one by a Vendor session with
one of these six commands is refused as undocumentedVendorObject with the index. (R36, R40) -/
def Obligations.VendorObjectsStop : Prop :=
  ∀ (s : State) (ses : SessionNo) (slot : Fin 8) (head : MosHead) (tag index : BitVec 16) (sub : BitVec 8) (offset : BitVec 32) (length : BitVec 16) (last : Bool) (v : Bytes),
    (served s = true → isOpen s ses.val = true → undocumented s ses.val index.toNat = true →
      exec (.objectRead ses index sub) s = .refused (.undocumentedVendorObject index) ∧
      exec (.objectWrite ses index sub v) s = .refused (.undocumentedVendorObject index) ∧
      exec (.counterClear ses index sub v) s = .refused (.undocumentedVendorObject index) ∧
      exec (.counterLatch ses index v) s = .refused (.undocumentedVendorObject index)) ∧
    (served s = true → isOpen s slot.val = true → head.version = 1 → undocumented s slot.val index.toNat = true →
      exec (.mosRead slot ⟨head, tag⟩ index sub offset length) s = .refused (.undocumentedVendorObject index) ∧
      exec (.mosWrite slot ⟨head, tag⟩ index sub offset last v) s = .refused (.undocumentedVendorObject index))

/-- A completed handshake whose credential gives a role opens the lowest free of the eight MOS slots with that role; a
close or the idle timeout closes an open session; a keepalive taken up is answered with result 0 and no data; a
subscription taken up is stored with its severity, sets the read position and is answered with it; DOM_PARTIAL_TIMEOUT
drops the session's oldest partial DOM value and nothing else. For a subscriber with nothing unacknowledged,
MOS_EVENT_DELIVERY sets the session's position to the first of the records sent and sends up to 32 of those it waits
for. An acknowledgement moves the position past the highest record it confirms, where the position does not stand
beyond it already, and keeps the rest as unacknowledged. A resend within the five allowed sends the unacknowledged
records again and counts one more; after five, those that the ring still holds are counted as lost and no record is
left unacknowledged. (R47, R48, R53, R54, R55, R56, R71) -/
def Obligations.MosSessionsOpenAndClose : Prop :=
  (∀ (s : State) (cred : Credential) (slot : Fin 8) (head : MosHead) (tag : BitVec 16) (severity : BitVec 8) (first : BitVec 32) (ses : SessionNo) (n role : Nat) (vendor : Bool),
    (mosServed s = true → credentialRole s cred = .inl (role, vendor) → (List.range 8).find? (fun n => !(isOpen s n)) = some n →
      ∃ t, exec (.dtlsHandshakeComplete cred) s = .next t ∧ isOpen t n = true ∧ roleOf t n = role ∧
        t = { openSession s n role 1 with sessions := t.sessions }) ∧
    (served s = true → isOpen s slot.val = true →
      exec (.dtlsClose slot) s = .next (closeSession s slot.val 1) ∧ isOpen (closeSession s slot.val 1) slot.val = false ∧
      exec (.mosIdleTimeout slot) s = .next (closeSession s slot.val 2) ∧ isOpen (closeSession s slot.val 2) slot.val = false) ∧
    (MosFresh s slot head 5 tag 0 0 = true → ∃ t, exec (.mosKeepalive slot ⟨head, tag⟩) s = .next t ∧
      t = reply (mosTaken s slot 5 tag 0 0) (.mos slot 5 tag 0 0 0) 0 [] ∧ t.out = .mos slot.val (mosAnswer 5 tag 0 0 0 0 []) :: s.out) ∧
    (MosFresh s slot head 3 tag 0 0 = true → ∃ t x, exec (.mosSubscribe slot ⟨head, tag⟩ severity first) s = .next t ∧ t.sessions[slot.val]? = some x ∧
      x.subscription = some { severity := severity, unacked := [], resends := 0 } ∧
      t.out = .mos slot.val (mosAnswer 3 tag 0 0 0 0 (be 4 (getOwn t slot.val 0x2301 1))) :: s.out) ∧
    exec (.domPartialTimeout ses) s = .next { s with sessions := vmod s.sessions ses.val (fun x => { x with dom := x.dom.drop 1 }) }) ∧
  (∀ (s : State) (slot : Fin 8) (head : MosHead) (seq : BitVec 32) (p : Subscription), subscriptionOf s slot.val = some p →
    (p.unacked = [] →
      let seqs := ((recordsFor s slot.val p.severity.toNat).take 32).map (fun r => r.seq.toNat);
      exec (.mosEventDelivery slot) s =
        .next (sendRecords (setSub (setOwn s slot.val 0x2301 1 (seqs.headD s.ev.next.toNat)) slot.val (fun q => { q with unacked := seqs, resends := 0 })) slot.val seqs)) ∧
    (∀ n, head.version = 1 → (p.unacked.filter (fun k => decide ((seq - BitVec.ofNat 32 k).toNat < 2147483648))).getLast? = some n →
      let got := p.unacked.filter (fun k => decide ((seq - BitVec.ofNat 32 k).toNat < 2147483648));
      exec (.mosEventAck slot ⟨head, seq⟩) s =
        .next (setSub (movePast s slot.val n) slot.val (fun q => { q with unacked := q.unacked.filter (fun k => !(got.contains k)), resends := 0 }))) ∧
    (∀ n, p.unacked.getLast? = some n →
      (p.resends < 5 → exec (.mosEventResend slot) s = .next (sendRecords (setSub s slot.val (fun q => { q with resends := q.resends + 1 })) slot.val p.unacked)) ∧
      (5 ≤ p.resends → ∃ t u, exec (.mosEventResend slot) s = .next t ∧ t = countLost u (stillHeld s slot.val p.unacked).length ∧
        u = { s with sessions := u.sessions } ∧ (subscriptionOf u slot.val).map (fun q => q.unacked) = some [])))

/-- A request on a served management port is taken by the SDO server. Of its requests: an upload from a channel without a
transfer in answer, of an object whose read passes and whose value has one to four bytes, is answered expedited with
that value; a longer one opens a segmented transfer with its length; an expedited download writes its value through
the object server, the channel waiting for the result; an abort leaves the channel idle. A gap in a transfer aborts it
with 0x0504_0000. While an inhibit time runs out with a message held, that message leaves and the inhibit time goes
on; with none held it ends. With a producer time set in a state that sends heartbeats, one leaves on every management
port. A challenge read draws a fresh random string, keeps it with the time in the session and answers it; a response
the Llynem key validates within 60 s gives a session that may hold Vendor the role Vendor; an event record read with a
record at the session's position answers its 32 bytes, with the session's lost flag, and moves the position on by one;
without one it answers 32 zero bytes and changes nothing; a position write sets the session's position, or the oldest
record's where the position written lies outside the ring. (R45, R52, R73, R48, R51, R71, R72) -/
def Obligations.SdoServerAndCanManagement : Prop :=
  (∀ (s : State) (cn : Fin 8) (req : SdoRequest) (x : Session) (index : BitVec 16) (sub : BitVec 8) (row : ObjRow) (v : Bytes) (code : BitVec 32) (i k : Nat) (b : Byte) (m : Bytes) (rest : List Bytes),
    let idx := index.toNat;
    let shown := sdoOrder idx sub.toNat (objectValue s (8 + cn.val) row idx sub.toNat);
    (s.sessions[8 + cn.val]? = some x → sdoServed s cn.val = true →
      exec (.sdoRequest cn req) s = .next (sdoServe s cn x.sdo req) ∧
      (∃ t, exec (.sdoRequest cn (.abort code)) s = .next t ∧ (t.sessions[8 + cn.val]?).map (fun y => y.sdo) = some .idle) ∧
      (sdoAnswering x.sdo = false → readCheck s (8 + cn.val) idx sub.toNat = .inl row → readEffect s (8 + cn.val) idx sub.toNat = none →
        (1 ≤ shown.length → shown.length ≤ 4 → exec (.sdoRequest cn (.uploadInitiate index sub)) s =
          .next (sdoFrame (setSdo s cn.val .idle) cn.val (le 1 (0x43 + 4 * (4 - shown.length)) ++ le 2 idx ++ le 1 sub.toNat ++ shown))) ∧
        (4 < shown.length → shown.length ≤ 65535 → exec (.sdoRequest cn (.uploadInitiate index sub)) s =
          .next (sdoFrame (setSdo s cn.val (.upload idx sub.toNat shown false)) cn.val ([0x41] ++ (le 2 idx ++ le 1 sub.toNat) ++ le 4 shown.length)))) ∧
      (sdoAnswering x.sdo = false → exec (.sdoRequest cn (.downloadExpedited index sub v)) s =
        .next (answerWrite (setSdo s cn.val (.answering idx sub.toNat ([0x60] ++ (le 2 idx ++ le 1 sub.toNat)))) (sdoSession cn)
          (.sdo cn index sub) idx sub.toNat (sdoOrder idx sub.toNat v)))) ∧
    (s.sessions[8 + cn.val]? = some x → sdoAnswering x.sdo = false → sdoObject x.sdo = some (i, k) →
      exec (.sdoSegmentTimeout cn) s = .next (sdoAbort s cn.val i k 0x05040000)) ∧
    (s.ev.inhibit[cn.val]? = some true → s.ev.emcy[cn.val]? = some (m :: rest) → isMgmtCan s cn.val = true →
      exec (.emcyInhibitExpiry cn) s =
        .next (canMgmt { s with ev := { s.ev with emcy := s.ev.emcy.setIfInBounds cn.val rest } } cn.val (classicFrame (0x080 + nodeId s) m))) ∧
    (s.ev.inhibit[cn.val]? = some true → s.ev.emcy[cn.val]? = some [] →
      exec (.emcyInhibitExpiry cn) s = .next { s with ev := { s.ev with inhibit := s.ev.inhibit.setIfInBounds cn.val false } }) ∧
    (heartbeatByte s = some b → s.on 0x1017 0 = true →
      exec .heartbeatTimer s =
        .next ((List.range 8).foldl (fun u n => if isMgmtCan u n then canMgmt u n (classicFrame (0x700 + nodeId u) [b]) else u) s))) ∧
  (∀ (s : State) (ses : SessionNo) (sig : Bytes) (pos : BitVec 32) (x : Session) (c : Bytes) (at_ : Nat),
    (ReadAllowed s ses 0x2120 5 → ∃ t y, exec (.vendorChallengeRead ses) s = .next t ∧ t.sessions[ses.val]? = some y ∧
      y.challenge = some ((drawBytes s 16).2, s.time.mono) ∧ Answered t ses 0 (drawBytes s 16).2 ∧ t.drawn = s.drawn + 1) ∧
    (WriteAllowed s ses 0x2120 6 sig → s.sessions[ses.val]? = some x → x.challenge = some (c, at_) → s.time.mono < at_ + 60000000000 →
      Config.vendorSignatureValid c sig = true → (x.vendor = true ∨ 16 ≤ ses.val) →
      ∃ t, exec (.vendorResponseWrite ses sig) s = .next t ∧ roleOf t ses.val = 3 ∧ t = { s with sessions := t.sessions, out := .answer (.session ses) 0 [] :: s.out }) ∧
    (ReadAllowed s ses 0x2301 2 → s.sessions[ses.val]? = some x →
      let place := getOwn s ses.val 0x2301 1;
      let held := s.ev.ring[(BitVec.ofNat 32 place - (s.ev.next - BitVec.ofNat 32 s.ev.ring.length)).toNat]?;
      (∀ r, held = some r → ∃ t, exec (.eventRecordRead ses) s = .next t ∧ Answered t ses 0 (eventBytes r x.lostFlag) ∧
        getOwn t ses.val 0x2301 1 = (place + 1) % 2 ^ 32 ∧ t.ev = s.ev) ∧
      (held = none → exec (.eventRecordRead ses) s = .next (emit s (.answer (.session ses) 0 (zeros 32))))) ∧
    (WriteAllowed s ses 0x2301 1 (be 4 pos.toNat) →
      let oldest := s.ev.next - BitVec.ofNat 32 s.ev.ring.length;
      ∃ t, exec (.eventReadPositionWrite ses pos) s = .next t ∧ Answered t ses 0 [] ∧ t.ev = s.ev ∧
        getOwn t ses.val 0x2301 1 = if (pos - oldest).toNat ≤ s.ev.ring.length then pos.toNat else oldest.toNat))

/-- With a pending set of the writing session and no validation running, command 4 discards it with event 2203h and
answers 0, command 6 starts its validation, and commands 1, 2 and (with its event enabled for action 2) 3 start theirs
where no set is armed and the journal has not failed; the answer comes when the validation ends. Command 5 cancels the
armed set with event 2203h and answers 0. A change-set file that the server reads replaces the session's pending set
and is answered 0. (R58, R60, R61, R62, R64, R68, R515) -/
def Obligations.ChangeSetCommandsOf2200h : Prop :=
  ∀ (s : State) (ses : SessionNo) (p : PendingSet) (a : ArmedSet) (file : Bytes) (base : BitVec 32) (es : List (Nat × Nat × Bytes)),
    let starts := fun (c : Instr) (k : CsCommand) => ∃ t, exec c s = .next t ∧ t.cs = { s.cs with validating := some (k, .session ses) } ∧
      t = { s with cs := t.cs, gp := t.gp };
    let done := fun (u : State) => emit { u with cs := { u.cs with lastResult := 0 } } (.answer (.session ses) 0 []);
    (s.cs.pending = some p → p.owner = ses → s.cs.validating = none →
      (WriteAllowed s ses 0x2200 1 [4] → exec (.csDiscardPending ses) s = .next (done (discardPending s 4)) ∧ (discardPending s 4).cs.pending = none) ∧
      (WriteAllowed s ses 0x2200 1 [6] → starts (.csValidateOnly ses) .validateOnly) ∧
      (s.cs.armed = none → s.jour.state ≠ 2 →
        (WriteAllowed s ses 0x2200 1 [1] → starts (.csApplyNow ses) .applyNow) ∧
        (WriteAllowed s ses 0x2200 1 [2] → starts (.csArmTime ses) .armTime) ∧
        (WriteAllowed s ses 0x2200 1 [3] → eventReady s = true → starts (.csArmPosition ses) (.armPosition (s.val 0x2200 3))))) ∧
    (s.cs.armed = some a → WriteAllowed s ses 0x2200 1 [5] →
      exec (.csCancelArmed ses) s = .next (done (cancelArmed s 4)) ∧ (cancelArmed s 4).cs.armed = none) ∧
    (WriteAllowed s ses 0x2200 5 file → (∀ q, s.cs.pending = some q → q.owner = ses) → s.cs.validating = none → readFile file = some (base, es) →
      exec (.changeSetFileWrite ses file) s = .next (emit { s with cs := { s.cs with
        pending := some { owner := ses, role := roleOf s ses.val, entries := es.map (fun e => (e.1, e.2.2)), types := es.map (fun e => some e.2.1), base := base } } }
        (.answer (.session ses) 0 [])))

/-- When the validation of a pending set ends with no broken rule, command 6 answers 0 and leaves the set pending; command
1 puts its values into force as one more generation, takes it out of the pending place and answers 0; command 2 with
an apply time 2 ms to a half-range ahead arms it for that time, and command 3 for the event that was checked when the
command was given; both answer 0. A broken rule, or a block of the set that the copier lost, is noted and answered
0x0D with the set still pending. An armed set whose T32 target is due or past puts its values into force as one more
generation, outside the pause of an activation; in it, it waits. (R61, R63, R65, R66) -/
def Obligations.ValidatedSetsApplyOrArm : Prop :=
  ∀ (s : State) (k : CsCommand) (dest : ReplyTo) (p : PendingSet) (lost : Option Nat),
    let u := copierLoss { s with cs := { s.cs with validating := none } } lost;
    (s.cs.validating = some (k, dest) → s.cs.pending = some p → gpWorks s = true →
      (csJudge u p lost = none →
        (k = .validateOnly → ∃ t, exec (.csValidationComplete lost) s = .next t ∧ t = csAnswer (noteValid u) dest 0 ∧ t.cs.pending = some p) ∧
        (k = .applyNow → ∃ t, exec (.csValidationComplete lost) s = .next t ∧ t.cfg = withEntries s.cfg p.entries ∧ t.cs.pending = none ∧
          t.cs.gen = s.cs.gen + 1 ∧ t.cs.lastResult = 0 ∧
          (let a := applySet { noteValid u with cs := { (noteValid u).cs with pending := none } } p.entries;
            t = csAnswer (jAppend (jAppend a (.armed p.entries) .nobody) (.commit a.cs.gen) .nobody) dest 0)) ∧
        (∀ d, k = .armTime → d = (BitVec.ofNat 32 (s.val 0x2200 2) - s.now).toNat → 2000000 ≤ d → d ≤ 2147483648 →
          ∃ t, exec (.csValidationComplete lost) s = .next t ∧ t = csAnswer (armSet (noteValid u) p (some (BitVec.ofNat 32 (s.val 0x2200 2))) 0) dest 0 ∧
            t.cs.pending = none ∧ t.cs.armed = some { entries := p.entries, target := some (BitVec.ofNat 32 (s.val 0x2200 2)), event := 0 }) ∧
        (∀ n, k = .armPosition n → ∃ t, exec (.csValidationComplete lost) s = .next t ∧ t = csAnswer (armSet (noteValid u) p none n) dest 0 ∧
            t.cs.pending = none ∧ t.cs.armed = some { entries := p.entries, target := none, event := n })) ∧
      (∀ f, csJudge u p lost = some f → ∃ t, exec (.csValidationComplete lost) s = .next t ∧ t = csAnswer (noteFault u f) dest 0x0D ∧
        t.cs.pending = some p ∧ t.cs.failing = BitVec.ofNat 32 f.key)) ∧
    (∀ a t, s.cs.armed = some a → a.target = some t → dueT32 t s.now = true →
      (inPause s = false → ∃ w, exec .csApplyTimeDue s = .next w ∧ w.cfg = withEntries s.cfg a.entries ∧ w.cs.armed = none ∧ w.cs.gen = s.cs.gen + 1) ∧
      (inPause s = true → exec .csApplyTimeDue s =
        .next { s with cs := { s.cs with dueInPause := some (s.cs.dueInPause.getD s.time.mono) } }))

/-- For a target t and a current value n with d = (t − n) mod 2^32: the model treats t as due or past exactly where d is 0
or greater than 2^31, and as strictly past exactly where d is greater than 2^31. (R9) -/
def Obligations.TargetsOnT32AreDueByHalfRange : Prop :=
  ∀ (t n : BitVec 32),
    let d := (t.toNat + 2 ^ 32 - n.toNat) % 2 ^ 32;
    (dueT32 t n = true ↔ d = 0 ∨ 2 ^ 31 < d) ∧ (pastT32 t n = true ↔ 2 ^ 31 < d)

/-- The raw count of an S32 counter: one more below 0xFFFF_FFFF, unchanged at it; no other counter changes, nor anything
else of the state. A W64 counter adds modulo 2^64. (R10, R11) -/
def Obligations.CountersHoldAtTheirLargestValue : Prop :=
  ∀ (s : State) (idx sub sel n : Nat),
    let k := ckey idx sub sel;
    (tnat s.cnt k < 0xFFFFFFFF → sortedKeys s.cnt = true → tnat (rawBump s idx sub sel).cnt k = tnat s.cnt k + 1 ∧
      (∀ j, j ≠ k → tnat (rawBump s idx sub sel).cnt j = tnat s.cnt j)) ∧
    (0xFFFFFFFF ≤ tnat s.cnt k → rawBump s idx sub sel = s) ∧
    (rawBump s idx sub sel = { s with cnt := (rawBump s idx sub sel).cnt }) ∧
    (sortedKeys s.cnt = true → tnat (bumpW s idx sub sel n).cnt k = (tnat s.cnt k + n) % 2 ^ 64 ∧
      (∀ j, j ≠ k → tnat (bumpW s idx sub sel n).cnt j = tnat s.cnt j))

/-- After an event is raised, the ring holds a record with the event's code, severity, source, the first 16 bytes of its
data, the T32 stamp of that moment and the sequence number that was next; the operating state, the configuration in
force, the clock, the queue and the memory of the frame path are as before. (R70, R71, R72) -/
def Obligations.EventsAreRecorded : Prop :=
  ∀ (s : State) (code sev src : Nat) (data : Bytes),
    let t := raise s code sev src data;
    (∃ r ∈ t.ev.ring, r.code = BitVec.ofNat 16 code ∧ r.severity = BitVec.ofNat 8 sev ∧ r.source = BitVec.ofNat 8 src ∧
      r.data = data.take 16 ∧ r.stamp = s.now ∧ r.seq = s.ev.next) ∧
    t.op = s.op ∧ t.cfg = s.cfg ∧ t.time = s.time ∧ t.pending = s.pending ∧ t.fab = s.fab ∧ t.look = s.look ∧ t.zone = s.zone

/-- Where a port can receive, FRAME_HEAD_RECEIVED puts the head into the port's staging buffer with its ingress stamp, and
with it the end of a frame that came whole. LOOKUP_VERDICT of a staged frame empties the staging buffer, gives the
frame the verdict that Lookup forms of it and the next number, and leaves the port receiving that frame until its end
comes; a frame that an internal port offers is judged in a forwarding state. FRAME_END_RECEIVED before the verdict
joins the rest to the bytes staged, up to 192, with how the frame ended; after the verdict it adds the rest to the
frame, ends it, and the port no longer receives it. (R84, R85, R86, R87, R109, R119, R177, R248) -/
def Obligations.FramesAreStagedJudgedAndEnded : Prop :=
  ∀ (s : State) (port : Fin 38) (head rest : Bytes) (whole aborted : Bool) (phase : Fin 8) (sfd : List SfdEdge) (parts : List MPacket) (p : Fin 5) (frame : Bytes)
    (id : Nat) (f : Frame) (st : Staged),
    let s0 := if parts.isEmpty then s else wideN s 0x38C0 port.val 0x16 (1 + parts.length);
    let end_ := fun (ok : Bool) => if aborted then FrameEnd.aborted else if ok then FrameEnd.complete else FrameEnd.torn;
    (canReceive s port.val = true → ∃ t, exec (.frameHeadReceived port head whole ⟨phase, sfd⟩) s = .next t ∧
      stagedOn t port.val = some { bytes := head, ended := if whole then some .complete else none, stamp := (ingressStamp s port.val phase.val sfd).2 } ∧
      t = { (ingressStamp s port.val phase.val sfd).1 with fab := { (ingressStamp s port.val phase.val sfd).1.fab with staging := t.fab.staging, links := t.fab.links } }) ∧
    (stagedOn s port.val = some st →
      let l := (verdictOn s port.val [] st.bytes (decide (st.ended = some .complete)) st.stamp).1;
      ∃ t, exec (.lookupVerdict [.port port]) s = .next t ∧ t = settleAll ((judgePort s port.val).1, (judgePort s port.val).2.toList) ∧
        stagedOn t port.val = none ∧ (st.ended = none → (portLink t port.val).receiving = some l.s.fab.nextId)) ∧
    (forwardingState s = true → exec (.lookupVerdict [.inner p frame]) s = .next (innerFrame s (38 + p.val) (frame.take 16) (frame.drop 16) s.now)) ∧
    (stagedOn s port.val = some st → st.ended = none → (reassemble (st.bytes ++ rest) parts).1.length ≤ 192 →
      exec (.frameEndReceived port ⟨rest, parts⟩ aborted) s = .next (setStaged s0 port.val
        (some { st with bytes := (reassemble (st.bytes ++ rest) parts).1, ended := some (end_ (reassemble (st.bytes ++ rest) parts).2) }))) ∧
    (stagedOn s port.val = none → (portLink s port.val).receiving = some id → (portLink s port.val).suspended ≠ some id → frameOf s id = some f → f.ingress = port.val →
      ∃ t, exec (.frameEndReceived port ⟨rest, parts⟩ aborted) s = .next t ∧
        t = finishFrame (setFrame s0 { f with bytes := (reassemble (f.bytes ++ rest) parts).1 }) id (end_ (reassemble (f.bytes ++ rest) parts).2) ∧
        (portLink t port.val).receiving = (portLink s port.val).suspended)

/-- On a forwarding MAC port that sends nothing and holds no preempted frame, TRANSMISSION_SELECTION starts the head of
the class selected when its first cell reads well and it has not ended bad; with a preempted frame held, no express
class eligible, no hold and its gate open, it goes on with that frame. FRAME_TRANSMIT_END on a MAC port ends the
transmission, and a frame sent in one piece has left the port; on the ports of MGMT, GUARD, AUDIO and BUSGW, in a
forwarding state, the next complete and good frame, high priority first, is delivered in a buffer of the pool. On port
38 neither command changes anything: HOST takes its frames by RX_FRAME_DELIVERY. (R80, R93, R109, R155, R157, R159,
R176, R177) -/
def Obligations.FramesAreSelectedAndSent : Prop :=
  ∀ (s : State) (port : Fin 38) (out_ : Fin 43) (read : CellRead) (reads : List CellRead) (c : Nat) (k : Copy) (rest : List Copy) (f : Frame) (x : Sending) (h : BitVec 32),
    let s1 := creditsNow s port.val;
    let r := selectClass s1 (eligible s1 port.val) port.val;
    let express := preemptActive s1 port.val && (List.range 8).any (fun c => !(preemptable s1 port.val c) && eligible s1 port.val c);
    let sel : Instr := .transmissionSelection (port.castLE (by decide)) read;
    (portForwards s port.val = true → forwardingState s = true → (egress s1 port.val).sending = none →
      ((egress s1 port.val).preempted = none → r.2 = some c → queue r.1 (queueNo port.val c) = k :: rest → frameOf r.1 k.frame = some f →
        let rd := frameCell r.1 f port.val 0 (some read);
        rd.2.1 = false → ¬ (f.ended = true ∧ f.bad = true) →
        exec sel s = .next (setEgress rd.1 port.val (fun y => { y with
          sending := some {
            frame := k.frame, mirror := k.mirror, cls := c, first := rd.2.2, sent := 0, since := rd.1.time.mono, spent := 0, mark := false,
            cut := k.cut && !f.ended, fragments := 0 } }))) ∧
      ((egress s1 port.val).preempted = some x → express = false → (egress s1 port.val).hold = false → bitOf (gateStates s1 port.val) x.cls = true →
        exec sel s = .next (setEgress s1 port.val (fun y => { y with sending := some { x with since := s1.time.mono }, preempted := none })))) ∧
    ((egress s port.val).sending = some x → frameOf s x.frame = some f →
      ∃ t, exec (.frameTransmitEnd (port.castLE (by decide)) reads) s = .next t ∧ t = transmitEnd s port.val reads ∧ (egress t port.val).sending = none ∧
        (x.fragments = 0 → ∃ data mark, .frame port.val data mark ∈ t.out)) ∧
    (38 < out_.val → forwardingState s = true →
      let q := if (queue s (queueNo out_.val 7)).isEmpty then 0 else 7;
      queue s (queueNo out_.val q) = k :: rest → frameOf s k.frame = some f → f.ended = true → f.bad = false →
      let rd := readFrame s f out_.val 0 reads;
      let got := rd.2.2.take f.bytes.length;
      rd.2.1 = false → recheckFails f got = false →
      let data := sentBytes rd.1 { f with bytes := got } out_.val k.mirror;
      (poolRequestOne rd.1 (portOwner out_.val) (max 1 data.length) true).2 = some h →
      ∃ t, exec (.frameTransmitEnd out_ reads) s = .next t ∧ .deliver out_.val data ∈ t.out ∧ .pool (portOwner out_.val) (some h) ∈ t.out) ∧
    (exec (.transmissionSelection 38 read) s = .next s ∧ exec (.frameTransmitEnd 38 reads) s = .next s)

/-- In a working state a column with power tests the next of its 8,704 cells, with the pattern and with its complement,
unless a frame holds it, and goes one position on; a bank that still drains is emptied and retired; a link that trains
at a rate its port's mode and settings allow is taken up at that rate; a link that goes down is down, what the port
was receiving is cut off there, and its queued frames are discarded. (R91, R99, R101, R102, R108, R115) -/
def Obligations.ColumnsAndLinks : Prop :=
  ∀ (s : State) (col : Fin 14) (a b : SymbolErrors 68) (port : Fin 38) (rate : Fin 7) (e : Nat × Nat) (rest : List (Nat × Nat)),
    ((s.op.state = .commissioning ∨ s.op.state = .normal ∨ s.op.state = .test ∨ s.op.state = .safe) → (column s col.val).gated = false →
      let on := setColumn s col.val { column s col.val with testPos := ((column s col.val).testPos + 1) % 8704 };
      ((column s col.val).inUse.getLsbD (column s col.val).testPos = true → exec (.cellTest col ⟨a, b⟩) s = .next on) ∧
      ((column s col.val).inUse.getLsbD (column s col.val).testPos = false →
        let bank := (column s col.val).testPos / 512;
        let once := (cellResult on col.val bank 0xFFFF (readWord testPattern a)).1;
        exec (.cellTest col ⟨a, b⟩) s = .next (cellResult once col.val bank 0xFFFF (readWord (testPattern.map (~~~ ·)) b)).1)) ∧
    ((column s col.val).draining = e :: rest → e.1 < 17 → ∃ t, exec (.bankDrainTimeout col) s = .next t ∧ t = drainTimeout s col.val e.1 ∧
      (column t col.val).banks[e.1]? = some .retired) ∧
    ((portLink s port.val).link = 0 → s.on (0x3000 + port.val) 1 = true → portAwake s port.val = true →
      (modeRates port.val (laneMode s port.val)).contains rate.val = true →
      (s.val (0x3000 + port.val) 3 = 0 ∨ s.val (0x3000 + port.val) 3 = rate.val) →
      ∃ t, exec (.linkUp port rate) s = .next t ∧ t = emcyCleared s (takeLink s port.val rate.val) ∧
        (portLink t port.val).link = 1 ∧ (portLink t port.val).rate = BitVec.ofNat 8 rate.val) ∧
    (linkIsUp s port.val = true → ∃ t, exec (.linkDown port) s = .next t ∧ t = dropLink s port.val ∧ linkIsUp t port.val = false)

/-- In a learning state the ageing scan removes the learned entries of age 3, ages the others by one, keeps static ones,
and counts the removed. Each flush command that is carried out leaves an entry in the table exactly when it is static
or not of the flush's kind, answers 0 and changes nothing but the table; a move lock's end clears the lock of its
entry alone. (R125, R128, R148) -/
def Obligations.ForwardingTableAgesFlushesAndUnlocks : Prop :=
  ∀ (s : State) (ses : SessionNo) (pos : Nat) (e : FwdEntry),
    (learningState s = true → ∃ t, exec .forwardingAgeingScan s = .next t ∧
      t.look.fwd = (s.look.fwd.filter (fun e => e.2.static || decide (e.2.age < 3))).map (fun e => if e.2.static then e else (e.1, { e.2 with age := e.2.age + 1 })) ∧
      t = { s with look := { s.look with fwd := t.look.fwd }, cnt := t.cnt } ∧
      (sortedKeys s.cnt = true → tnat t.cnt (ckey 0x3520 6 0) =
        (tnat s.cnt (ckey 0x3520 6 0) + (s.look.fwd.filter (fun e => !e.2.static && decide (3 ≤ e.2.age))).length) % 2 ^ 64)) ∧
    (let flushed := fun (c : Instr) (hit : FwdEntry → Bool) => ∃ t, exec c s = .next t ∧ t = emit (flushLearned s hit) (.answer (.session ses) 0 []) ∧
        (∀ k e, (k, e) ∈ t.look.fwd ↔ (k, e) ∈ s.look.fwd ∧ (e.static = true ∨ hit e = false));
      (WriteAllowed s ses 0x3510 2 [1] → flushed (.flushAllLearned ses) (fun _ => true)) ∧
      (WriteAllowed s ses 0x3510 2 [2] → flushed (.flushPortLearned ses) (fun e => e.port == s.val 0x3510 3)) ∧
      (WriteAllowed s ses 0x3510 2 [3] → flushed (.flushFidLearned ses) (fun e => e.fid == s.val 0x3510 4))) ∧
    (tget s.look.fwd pos = some e → e.locked = true →
      exec (.moveLockExpiry pos) s = .next { s with look := { s.look with fwd := tput s.look.fwd pos { e with locked := false, moves := [] } } })

/-- A carried-out write of 3630h.02 opens the named gate and is answered 0; a write of 1 to 3641h.07 ends the all-red
state of the meter that the session selects, with event 3602h where it was red, and is answered 0. A stream gate whose
waiting list is due starts it with no octets counted; else, one whose running list's next entry is due and not held
for the waiting one goes on to it. An enabled recovery function's reset timer resets it with cause 1; the latent error
check judges every recovery function by 3700h.03 and starts its counts again; a PRP key that expires leaves the table.
(R132, R133, R138, R139, R140) -/
def Obligations.StreamGatesMetersAndRecovery : Prop :=
  ∀ (s : State) (ses : SessionNo) (gate : BitVec 8) (g : Fin 256) (fn : Fin 1024) (mac : BitVec 48) (seq : BitVec 16),
    (WriteAllowed s ses 0x3630 2 [gate] → exec (.reopenGate ses gate) s =
      .next (emit (setGate s gate.toNat { gateOf s gate.toNat with closed := false }) (.answer (.session ses) 0 []))) ∧
    (let m := getOwn s ses.val 0x3641 3;
      WriteAllowed s ses 0x3641 7 [1] →
      ((meterOf s m).allRed = true → exec (.clearAllRed ses 1) s =
        .next (emit (raise (setMeter s m { meterOf s m with allRed := false }) 0x3602 2 0xFF (be 2 m ++ be 1 0)) (.answer (.session ses) 0 []))) ∧
      ((meterOf s m).allRed = false → exec (.clearAllRed ses 1) s = .next (emit s (.answer (.session ses) 0 [])))) ∧
    (∀ p, (gateOf s g.val).pending = some p → dueT32 p.c s.now = true → exec (.streamGateEntryStart g) s =
      .next (setGate s g.val { gateOf s g.val with running := some (p.list.startAt p.c), pending := none, octets := 0 })) ∧
    (∀ l, (∀ p, (gateOf s g.val).pending = some p → dueT32 p.c s.now = false) → (gateOf s g.val).running = some l → dueT32 l.nextStart s.now = true →
      heldForSwap l (gateOf s g.val).pending = false → exec (.streamGateEntryStart g) s =
      .next (setGate s g.val { gateOf s g.val with running := some l.advance, octets := 0 })) ∧
    (bitOf (recoveryEntry s.cfg fn.val) 63 = true → (recoveryOf s fn.val).timed = true →
      exec (.recoveryResetTimeout fn) s = .next (recoveryReset s fn.val 1)) ∧
    (∃ t, exec .latentErrorCheck s = .next t ∧ t = (s.look.recoveries.map (fun e => e.1)).foldl latentCheck s ∧
      (sortedKeys s.look.recoveries = true → ∀ n r, (n, r) ∈ s.look.recoveries →
        (recoveryOf t n).passed = 0 ∧ (recoveryOf t n).dups = 0 ∧
          (recoveryOf t n).latent = decide (s.val 0x3700 3 < (r.passed - r.dups) + (r.dups - r.passed)))) ∧
    (exec (.prpEntryForget mac seq) s = .next { s with look := { s.look with prpKeys := s.look.prpKeys.erase (mac.toNat, seq.toNat) } })

/-- A port's operational gate list goes on to an entry that is due unless a swap holds it, and the entry takes effect; an
administrative list whose change time is due replaces it, with event 3802h. While preemption verifies, the verify
timer sends another verify mPacket up to three attempts, after which preemption fails with event 3901h; a respond
mPacket makes preemption active with event 3902h; a verify mPacket is answered with a respond mPacket where preemption
is enabled and the link is up. (R163, R165, R167, R169, R174, R176, R185) -/
def Obligations.GateListsAndPreemption : Prop :=
  ∀ (s : State) (port : Fin 38) (p6 : Fin 6) (l : TimedList) (w : PendingList),
    let e := egress s p6.val;
    ((egress s port.val).oper = some l → dueT32 l.nextStart s.now = true → heldForSwap l (egress s port.val).pending = false →
      ∃ t, exec (.gateListEntryStart port) s = .next t ∧ (egress t port.val).oper = some l.advance ∧
        t = entryEffect (gateStates s port.val) (setEgress (creditsNow s port.val) port.val (fun x => { x with oper := some l.advance })) port.val l.advance.word) ∧
    ((egress s port.val).pending = some w → w.event = none → dueT32 w.c s.now = true →
      ∃ t, exec (.gateListSwap port) s = .next t ∧ t = swapLists s port.val w ∧ (egress t port.val).oper = some (w.list.startAt w.c) ∧ (egress t port.val).pending = none) ∧
    (e.preemption = 1 → e.attempts < 3 → ∃ t, exec (.preemptionVerifyTimer p6) s = .next t ∧ (egress t p6.val).preemption = 1 ∧
      (egress t p6.val).attempts = e.attempts + 1 ∧ t.out = .mpacket p6.val 0 :: s.out) ∧
    (e.preemption = 1 → 3 ≤ e.attempts → ∃ t, exec (.preemptionVerifyTimer p6) s = .next t ∧ (egress t p6.val).preemption = 3) ∧
    (e.preemption = 1 → ∃ t, exec (.respondMpacketReceived p6) s = .next t ∧ (egress t p6.val).preemption = 2 ∧ t = setPreemption s p6.val 2 0) ∧
    (s.on (0x3900 + p6.val) 1 = true → linkIsUp s p6.val = true → exec (.verifyMpacketReceived p6) s = .next (emit s (.mpacket p6.val 1)))

/-- While the Guard Processor evaluates, the head first packet of the pair served leaves the queue and its verdict waits
for the window (a packet whose data were lost ends as lost). Outside sleep the ageing scan visits every flow: one
whose Idle has reached its timeout is removed, with a log record where its rule asks for one, any other has its Idle
advanced. A sweep in progress goes one position on, or ends at the last: at an empty position or a flow of the present
generation it changes no flow, and a flow of an older one takes the present generation, or is revoked, or is marked
for a recheck, as its rule's fate says. A fragment entry that expires leaves the table, alone. A carried-out flush
command of 3D00h.03 is answered 0 and removes exactly the flows of its kind: all, those of the pair in 3D00h.04, or
the denied ones; no log record is written. A read of 3D10h.02 answers the 64 bytes of the record at the session's
position, with its lost flag, and moves the position on by one, or 64 zero bytes where none stands there; a write of
3D10h.01 sets the position, or the oldest record's where the position written lies outside the ring. (R193, R196,
R199, R207, R213, R214, R222, R232) -/
def Obligations.ZoneGateEvaluatesAgesAndSweeps : Prop :=
  (∀ (s : State) (p credit pos : Nat) (e : FirstEntry) (w : Flow) (key : FragmentKey),
    (evaluates s = true → servePair s = some (p, credit) → s.zone.queue.find? (fun x => x.pair == p) = some e →
      let rest := s.zone.queue.erase e;
      let z := { s.zone with lastPair := p, credit := if rest.any (fun y => y.pair == p) then credit else 0, queue := rest };
      (∃ t, exec (.firstPacketEvaluation false) s = .next t ∧ t = copyHeader { s with zone := { z with verdicts := z.verdicts ++ [evaluateEntry s e] } } e ∧
        t.zone = { z with verdicts := s.zone.verdicts ++ [evaluateEntry s e] }) ∧
      exec (.firstPacketEvaluation true) s = .next (firstPacketLost { s with zone := z } e)) ∧
    (s.op.state ≠ .lightSleep → s.op.state ≠ .deepSleep → exec .flowAgeingScan s =
      .next (s.zone.flows.foldl (fun t e =>
        if flowTimeout s e.2 ≤ e.2.idle then
          (if e.2.logClose then logFlow (removeFlow t e.1) 3 (if e.2.state = 2 then 2 else 1) e.2 0xFF else removeFlow t e.1)
        else setFlow t e.1 { e.2 with idle := min 65535 (e.2.idle + 1) }) (logSecondEnd s))) ∧
    (s.zone.sweep = some pos →
      let onward := fun (u : State) => exec .ruleSweepStep s =
        .next (if pos + 1 < 32768 then { u with zone := { u.zone with sweep := some (pos + 1) } } else sweepEnd u);
      (tget s.zone.flows pos = none → onward s) ∧
      (tget s.zone.flows pos = some w →
        (w.generation = s.zone.generation → onward s) ∧
        (w.generation ≠ s.zone.generation →
          (fateOf s w = 0 → onward (setFlow s pos { w with generation := s.zone.generation })) ∧
          (fateOf s w = 1 → onward (revokeFlow s pos w 0xFF)) ∧
          (1 < fateOf s w → ∃ u, onward u ∧ u.zone.marked = s.zone.marked + 1 ∧
            u.zone.flows = tput s.zone.flows pos { w with generation := s.zone.generation, recheck := true })))) ∧
    (exec (.fragmentEntryExpiry key) s = .next { s with zone := { s.zone with fragments := s.zone.fragments.filter (fun e => e.key != key) } })) ∧
  (∀ (s : State) (ses : SessionNo) (pos : BitVec 32) (x : Session),
    (let flushed := fun (c : Instr) (hit : Flow → Bool) => ∃ t, exec c s = .next t ∧ Answered t ses 0 [] ∧ t.zone.log = s.zone.log ∧
        (sortedKeys s.zone.flows = true → ∀ k w, (k, w) ∈ t.zone.flows ↔ (k, w) ∈ s.zone.flows ∧ hit w = false);
      (WriteAllowed s ses 0x3D00 3 [1] → flushed (.flowFlushAll ses) (fun _ => true)) ∧
      (WriteAllowed s ses 0x3D00 3 [2] → flushed (.flowFlushPair ses) (fun w => pairOf w.key == s.val 0x3D00 4)) ∧
      (WriteAllowed s ses 0x3D00 3 [3] → flushed (.flowFlushDenied ses) (fun w => w.state == 5))) ∧
    (ReadAllowed s ses 0x3D10 2 → s.sessions[ses.val]? = some x →
      let place := getOwn s ses.val 0x3D10 1;
      let held := s.zone.log[(BitVec.ofNat 32 place - (s.zone.logNext - BitVec.ofNat 32 s.zone.log.length)).toNat]?;
      (∀ r, held = some r → ∃ t b, exec (.zoneLogRecordRead ses) s = .next t ∧ Answered t ses 0 b ∧ (x.logLost = false → b = zoneRecBytes r) ∧
        (x.logLost = true → b = (zoneRecBytes r).set 3 (BitVec.ofNat 8 (byteAt (zoneRecBytes r) 3 ||| 1))) ∧
        getOwn t ses.val 0x3D10 1 = (place + 1) % 2 ^ 32 ∧ t.zone = s.zone) ∧
      (held = none → exec (.zoneLogRecordRead ses) s = .next (emit s (.answer (.session ses) 0 (zeros 64))))) ∧
    (WriteAllowed s ses 0x3D10 1 (be 4 pos.toNat) →
      let oldest := s.zone.logNext - BitVec.ofNat 32 s.zone.log.length;
      ∃ t, exec (.zoneLogPositionWrite ses pos) s = .next t ∧ Answered t ses 0 [] ∧ t.zone = s.zone ∧
        getOwn t ses.val 0x3D10 1 = if (pos - oldest).toNat ≤ s.zone.log.length then pos.toNat else oldest.toNat))

/-- A Sync on the slave port of an instance notes its offset (reckoned from the stamp, the origin, the path delay and the
port's asymmetry) and, where the instance is the source, runs the servo. With the time served and the port a member:
an Announce of another clock, or its timeout, is judged where roles are not fixed; peer delay and delay requests are
answered, their answers set the delay; management messages change nothing. Without a Sync in time a locked device goes
to Holdover with its last locked rate, and one that still acquires, with no other source to take over, to Holdover if
it ever locked, else to Free-run at the nominal rate. A source without a slave port is replaced by the best other one,
or lost with none; the primary, allowed to revert, becomes the source; the holdover limit ends in Free-run with event
4004h. A master port's intervals send Sync with its follow-up and Announce, a delay interval sends the delay request
of its mechanism. (R242, R243, R245, R246, R247, R248, R261) -/
def Obligations.SyncMessagesSteerTheClock : Prop :=
  ∀ (s : State) (inst : Fin 4) (port : Fin 38) (origin : Int) (stamp : T32) (t0 : Nat) (msg : PtpMessage) (src : Fin 4) (ph : Fin 8),
    let i := inst.val;
    let p := port.val;
    let served_ := timeServes s = true ∧ ptpMember s i p = true;
    let next := fun (t : State) => setInst t i (fun x => { x with sequence := x.sequence + 1 });
    let asked := fun (t : State) => setInst t i (fun x => { x with asked := x.asked.filter (fun e => e.1 != port) ++ [(port, egressStamp s p ph.val)] });
    (served_ → slavePort s i = some p →
      let diff := stampTx s stamp * 1000 - origin;
      let offset := (diff - (ptpInst s i).delay - s.ival (0x40C0 + p) 5) / 1000;
      let s1 := firstSource (setInst s i (fun x => { x with offset := offset, syncDiff := some diff }));
      exec (.ptpSyncReceived inst port origin stamp) s = .next (if s1.time.source = some inst then servo s1 offset else s1)) ∧
    (served_ →
      (∀ r : ClockRank, msg = .announce r → fixedRoles s i = false → r.identity ≠ Config.unitId →
        exec (.ptpMessageReceived inst port msg) s = .next (judgeClocks s i port (some r))) ∧
      (msg = .announceTimeout → fixedRoles s i = false → exec (.ptpMessageReceived inst port msg) s = .next (judgeClocks s i port none)) ∧
      (∀ t, msg = .pdelayReq t → s.val (0x4030 + i) 2 = 0 → exec (.ptpMessageReceived inst port msg) s =
        .next (sendPtp (sendPtp s i p 3 (ptpStamp (stampTx s t * 1000))) i p 0x0A (ptpStamp (egressStamp s p 0)))) ∧
      (∀ t, msg = .delayReq t → s.val (0x4030 + i) 2 ≠ 0 → masterPort s i p = true → exec (.ptpMessageReceived inst port msg) s =
        .next (sendPtp s i p 9 (ptpStamp (stampTx s t * 1000)))) ∧
      (∀ t held t1, msg = .pdelayResp t held → s.val (0x4030 + i) 2 = 0 → slavePort s i = some p → askedOn s i port = some t1 →
        exec (.ptpMessageReceived inst port msg) s = .next (setInst s i (fun x => { x with delay := max 0 ((stampTx s t * 1000 - t1 - held) / 2) }))) ∧
      (∀ got t3 d, msg = .delayResp got → s.val (0x4030 + i) 2 ≠ 0 → slavePort s i = some p → askedOn s i port = some t3 → (ptpInst s i).syncDiff = some d →
        exec (.ptpMessageReceived inst port msg) s = .next (setInst s i (fun x => { x with delay := max 0 ((d + (got - t3)) / 2) }))) ∧
      (msg = .management → exec (.ptpMessageReceived inst port msg) s = .next s)) ∧
    (timeServes s = true →
      (s.time.sync = 2 → ∃ t, exec .syncReceiptTimeout s = .next t ∧ t.time.sync = 3 ∧ t.time.inc = s.time.lastLockedInc) ∧
      (s.time.sync = 1 → bestSource s = none →
        (s.time.lockedOnce = true → ∃ t, exec .syncReceiptTimeout s = .next t ∧ t.time.sync = 3 ∧ t.time.inc = s.time.lastLockedInc) ∧
        (s.time.lockedOnce = false → ∃ t, exec .syncReceiptTimeout s = .next t ∧ t.time.sync = 0 ∧ t.time.inc = nominalInc)) ∧
      (s.time.source = some src → slavePort s src.val = none →
        (∀ k, bestSource s = some k → exec .sourceInstanceChange s = .next (selectSource s k)) ∧
        (bestSource s = none → ∃ t, exec .sourceInstanceChange s = .next t ∧ t.time.source = none)) ∧
      (s.val 0x4010 8 ≠ 0 → (slavePort s (s.val 0x4010 1)).isSome = true → s.time.source = some src →
        exec .primaryRevert s = .next (selectSource s (s.val 0x4010 1)))) ∧
    (s.time.source = none → exec .sourceInstanceChange s = .next (firstSource s)) ∧
    (s.time.holdoverSince = some t0 → s.time.sync = 3 → ∃ t, exec .holdoverLimitExpiry s = .next t ∧ t.time.sync = 0 ∧ t.time.inc = nominalInc ∧
      t = raise (setSync { s with time := { s.time with inc := nominalInc } } 0 s.time.offset) 0x4004 3 0xFF (be 4 ((s.time.mono - t0) / 1000000000))) ∧
    (served_ → linkIsUp s p = true →
      (masterPort s i p = true →
        exec (.ptpMessageInterval inst port ⟨.announce, ph⟩) s = .next (next (sendPtp s i p 0x0B [])) ∧
        exec (.ptpMessageInterval inst port ⟨.sync, ph⟩) s = .next (next (sendPtp (sendPtp s i p 0 []) i p 8 (ptpStamp (egressStamp s p ph.val))))) ∧
      (s.val (0x4030 + i) 2 = 0 → exec (.ptpMessageInterval inst port ⟨.delay, ph⟩) s = .next (next (asked (sendPtp s i p 2 [])))) ∧
      (s.val (0x4030 + i) 2 ≠ 0 → slavePort s i = some p → exec (.ptpMessageInterval inst port ⟨.delay, ph⟩) s = .next (next (asked (sendPtp s i p 1 [])))))

/-- A carried-out write of 4000h.0B, with no PTP instance that has a slave port, sets the time base to manual, steps the
clock to the time written and is answered 0; with one it is answered 0x0F. The anchor is written while the time is
served, and the previous anchor cleared. A trigger due in Normal acts and is armed a period later. A converter pulse
ends in Normal and a program's pulse outside it, each taking its pin low. A program's due pulse outside a low period
takes its pin high and is counted; in one it is skipped and counted in 4100h.0A. The low period ends. A program write
that passes is handed to the journal, whose record answers it. A wanted edge with room enters the capture FIFO with
its stamp and count, with event 40A2h where asked for, and one without room is counted lost; a capture read answers
the oldest entry and takes it out, or zeros where there is none. (R239, R244, R250, R254, R255, R256, R257, R258) -/
def Obligations.ClockAnchorsTriggersAndPulses : Prop :=
  ∀ (s : State) (ses : SessionNo) (v : Bytes) (pin : Fin 4) (trigger : Fin 16) (running : Bool) (input : Fin 2) (rising : Bool) (g : TriggerGrid) (at_ : T32) (sub : BitVec 8),
    (WriteAllowed s ses 0x4000 0x0B v →
      ((∀ i, i < 4 → slavePort s i = none) → exec (.setTime ses v) s =
        .next (emit (stepClock { s with time := { s.time with timescale := 2 } } (beAt v 0 6 * 1000000000 + beAt v 6 4)) (.answer (.session ses) 0 []))) ∧
      (∀ i, i < 4 → (slavePort s i).isSome = true → exec (.setTime ses v) s = .next (emit s (.answer (.session ses) 0x0F [])))) ∧
    (timeServes s = true → exec .epochAnchorWrite s = .next { s with time := { s.time with
      anchor := some {
        tx := s.time.tx, t32 := s.time.t32, seq := s.time.anchorSeq, timescale := s.time.timescale, sync := s.time.sync,
        stepInstant := s.time.stepInstant, lastStep := s.time.lastStep }, anchorSeq := s.time.anchorSeq + 1 } }) ∧
    (exec .previousAnchorClear s = .next { s with time := { s.time with prevAnchor := none } }) ∧
    ((s.time.triggers[trigger.val]?).getD none = some g → dueT32 g.next s.now = true → s.op.state = .normal →
      exec (.triggerOccurrence ⟨trigger, running⟩) s = .next (triggerEffect { s with time := { s.time with
        triggers := s.time.triggers.setIfInBounds trigger.val (some { next := g.next + BitVec.ofNat 32 (s.val (0x4060 + trigger.val) 7), passed := g.passed + 1 }) } }
        trigger.val g.next running)) ∧
    (s.op.state = .normal → ∃ t, exec (.converterPulseEnd pin) s = .next t ∧ t = setTpoLevel s pin.val false ∧ (tpo t pin.val).level = false) ∧
    (s.op.state ≠ .normal → ∃ t, exec (.tpoPulseEnd pin) s = .next t ∧ t = setTpoLevel s pin.val false ∧ (tpo t pin.val).level = false) ∧
    ((tpo s pin.val).next = some at_ → dueT32 at_ s.now = true → programRuns s pin.val = true →
      (s.time.lowPeriod = false → ∃ t, exec (.tpoProgramPulse pin) s = .next t ∧ (tpo t pin.val).level = true ∧ (tpo t pin.val).given = (tpo s pin.val).given + 1 ∧
        (tpoVal s pin.val 2 = 1 → (tpo t pin.val).next = none ∧ (tpo t pin.val).ended = true) ∧
        (tpoVal s pin.val 2 ≠ 1 → tpoVal s pin.val 7 = 0 → (tpo t pin.val).next = some (at_ + BitVec.ofNat 32 (tpoVal s pin.val 5)))) ∧
      (s.time.lowPeriod = true → ∃ t, exec (.tpoProgramPulse pin) s = .next t ∧ (tpo t pin.val).level = (tpo s pin.val).level ∧ (tpo t pin.val).given = (tpo s pin.val).given)) ∧
    (2 ≤ sub.toNat → sub.toNat ≤ 8 → WriteAllowed s ses (0x4080 + pin.val) sub.toNat v → tpoWriteOk s pin.val sub.toNat v = true → s.jour.state ≠ 2 →
      exec (.tpoProgramWrite ses pin sub v) s = .next (jAppend (thaw s) (.value (okey (0x4080 + pin.val) sub.toNat) v) (.session ses))) ∧
    (exec .tpoLowPeriodEnd s = .next { s with time := { s.time with lowPeriod := false } }) ∧
    (∀ x, s.time.tpi[input.val]? = some x → s.on (0x40A0 + input.val) 1 = true → bitOf (s.val (0x40A0 + input.val) 2) (if rising then 0 else 1) = true →
      s.op.state ≠ .deepSleep →
      let stamp := s.now - BitVec.ofNat 32 (s.val (0x40A0 + input.val) 3);
      let entered := { s with time := { s.time with tpi := s.time.tpi.setIfInBounds input.val { fifo := x.fifo ++ [(stamp, rising, x.count + 1)], count := x.count + 1 } } };
      (x.fifo.length < 16 → exec (.tpiEdgeCapture input rising) s = .next (if s.on (0x40A0 + input.val) 4 then
        raise entered 0x40A2 0 0xFF (be 1 input.val ++ be 1 (if rising then 1 else 2) ++ be 4 stamp.toNat) else entered)) ∧
      (16 ≤ x.fifo.length → ∃ t, exec (.tpiEdgeCapture input rising) s = .next t ∧ t.time = s.time)) ∧
    (∀ x, ReadAllowed s ses (0x40A0 + input.val) 5 → s.time.tpi[input.val]? = some x →
      (∀ c rest, x.fifo = c :: rest → exec (.captureRead ses input) s =
        .next (emit { s with time := { s.time with tpi := s.time.tpi.setIfInBounds input.val { x with fifo := rest } } }
          (.answer (.session ses) 0 (be 4 c.1.toNat ++ be 1 (if c.2.1 then 1 else 2) ++ be 1 rest.length ++ be 2 c.2.2.toNat)))) ∧
      (x.fifo = [] → exec (.captureRead ses input) s = .next (emit s (.answer (.session ses) 0 (zeros 8)))))

/-- On a running port of a bus that is not silent, with no reconfiguration waiting, a frame that began after the port's
eleven bits of integration is counted and taken when it is without error and of a format the port may receive; an
error raises the receive error count. The frame offered leaves its queue and the bus when it succeeds, contends again
when it loses arbitration, and after an error is counted, tried again or given up, and may take the port to bus-off. A
bus-off port starts to recover when the hold-off ends with automatic recovery, and returns to active with both error
counters at 0 and event 4403h; a carried-out write of 1 to the recover object starts the recovery of a port that is
bus-off or held off, and is answered 0. A port to be reconfigured clears its queue and both counters. In Normal,
outside the pause of an activation, the oldest received message of a port, CAN or serial, enters the gateway's FIFO
where it has room. (R270, R273, R274, R275, R276, R277, R278) -/
def Obligations.CanFramesAndBusOff : Prop :=
  ∀ (s : State) (cn : Fin 8) (ses : SessionNo) (f : CanFrame) (age : Nat) (e : Option Nat × CanTx) (k : CanSendError) (sp : Fin 6) (m : CanRx) (rest : List CanRx)
    (ident : Nat) (data : Bytes) (stamp : T32) (more : List (Nat × Bytes × T32)),
    let n := cn.val;
    let c := canPort s n;
    (busLevel s ≠ .silent → canRunning c = true → c.since + elevenBits s n ≤ s.time.mono - age → c.reconfigure = false →
      (badFormat s n f = false → exec (.canFrameReceived cn f ⟨none, age⟩) s =
        .next (canGood (canConfine (goodReceive (bumpW s (0x4420 + n) 3 0 1) n) n) n f (s.now - BitVec.ofNat 32 age))) ∧
      (exec (.canFrameReceived cn f ⟨some .light, age⟩) s =
        .next (canConfine (setCan (bumpN s 0x4420 n 0x0B) n (fun c => { c with rxErr := min 255 (c.rxErr + 1) })) n)) ∧
      (exec (.canFrameReceived cn f ⟨some .heavy, age⟩) s =
        .next (canConfine (setCan (bumpN s 0x4420 n 0x0B) n (fun c => { c with rxErr := min 255 (c.rxErr + 8) })) n))) ∧
    (canRunning c = true → s.val (0x4400 + n) 1 = 1 → pairQuiet s n = false → c.reconfigure = false → canOffered s n = some e →
      (exec (.canFrameSent cn .arbitrationLost) s = .next (canRetry s n e)) ∧
      (∃ t, exec (.canFrameSent cn .success) s = .next t ∧ .can n e.2.frame ∈ t.out) ∧
      (let u := canRetry (setCan (bumpN s 0x4420 n 0x0B) n (fun x => { x with txErr := min 256 (x.txErr + sendErrorCount c k) })) n e;
        exec (.canFrameSent cn (.error k)) s = .next (if 256 ≤ (canPort u n).txErr then canBusOff u n else canConfine u n))) ∧
    (c.ctl = .busOff → s.val (0x4400 + n) 8 = 0 → exec (.busOffHoldoffExpiry cn) s = .next (setCan s n (fun c => { c with ctl := .recovering }))) ∧
    (c.ctl = .recovering → ∃ t, exec (.busOffRecoveryComplete cn) s = .next t ∧ (canPort t n).ctl = .active ∧ (canPort t n).txErr = 0 ∧ (canPort t n).rxErr = 0) ∧
    (WriteAllowed s ses (0x4400 + n) 0x16 [1] →
      (c.ctl = .busOff → exec (.canRecoverCommand ses cn 1) s =
        .next (emit (setCan s n (fun c => { c with ctl := .recovering, commanded := true })) (.answer (.session ses) 0 []))) ∧
      (c.ctl = .heldOff → exec (.canRecoverCommand ses cn 1) s =
        .next (emit (setCan s n (fun c => { c with ctl := .recovering, commanded := true, recoveries := [] })) (.answer (.session ses) 0 [])))) ∧
    (c.reconfigure = true → ∃ t, exec (.canPortReconfigure cn) s = .next t ∧ t = canSwitch s n ∧ (canPort t n).reconfigure = false ∧
      (canPort t n).txErr = 0 ∧ (canPort t n).rxErr = 0 ∧ (canPort t n).queue.all (fun m => m.mgmt) = true) ∧
    (inPause s = false → busLevel s = .all → s.gw.fifo.length < 1024 →
      (c.fifo0 = m :: rest → exec (.engineHandover (.can cn)) s = .next { setCan s n (fun c => { c with fifo0 := rest }) with gw := { s.gw with
        fifo := s.gw.fifo ++ [{
          bus := n, ident := canIdent m.frame, data := m.frame.data, stamp := m.stamp, buffer := m.buffer,
          xl := if m.frame.kind = .xl then some m.frame.xl else none }] } }) ∧
      ((serialPort s sp.val).ready = (ident, data, stamp) :: more → exec (.engineHandover (.serial sp)) s =
        .next { setSerial s sp.val (fun p => { p with ready := more }) with gw := { s.gw with
          fifo := s.gw.fifo ++ [{ bus := 0x10 + sp.val, ident := ident, data := data, stamp := stamp, buffer := none, xl := none }] } }))

/-- A port that listens and does not drive its line counts a character and its error; outside the activation pause it
takes it, after those it has kept, and in the pause it keeps it with its error and stamp, up to 4,096. A gap of the
set length ends a raw message; one that is too long ends a telegram, and spoils a Modbus frame. A queued message
leaves where the port may send and need not wait, whole when no echo is checked or the echo agrees; a character of the
echo that differs ends it there, with event 4501h. A Modbus frame with a valid check and no character error is served
on a server port and taken as the answer on a client port that waits for one; one with a bad check is counted. A
client request without an answer is sent again while repetitions are left, and then ends as timed out. A master frame
is counted; one for the device's own address with the status function is answered with its status, one with the
message function with the oldest message queued, and one for a source of the device with that source's value, unless a
collision shows a second source. A slave frame is taken from the line in use when it is valid there, from the other
line with a change of line when it is valid only there (with line redundancy), and counted as faulty otherwise. A
valid sink entry with a time limit, not stale yet, becomes stale with event 4601h. (R280, R281, R282, R283, R284,
R285, R286, R287, R288, R289) -/
def Obligations.SerialMessagesAndModbus : Prop :=
  (∀ (s : State) (sp : Fin 6) (ch : BitVec 9) (er : CharError) (age gap ident : Nat) (echo data : Bytes) (rest : List (Nat × Bytes)) (r : ModbusReq) (left : Nat),
    let n := sp.val;
    let p := serialPort s n;
    let counted := setSerial (countCharError (bumpW s (0x4510 + n) 3 0 1) n er) n (fun p => { p with lastRx := some s.time.mono });
    let x := (ch, er, s.now - BitVec.ofNat 32 age);
    (serialListens s n = true → serialDrives s n = false →
      (inPause s = false → exec (.serialCharacterReceived sp ch ⟨er, age⟩) s =
        .next ((p.buffer ++ [x]).foldl (fun t c => takeChar t n c) (setSerial counted n (fun p => { p with buffer := [] })))) ∧
      (inPause s = true → p.buffer.length < 4096 → exec (.serialCharacterReceived sp ch ⟨er, age⟩) s =
        .next (setSerial counted n (fun p => { p with buffer := p.buffer ++ [x] })))) ∧
    (serialListens s n = true → inPause s = false → p.msg ≠ [] →
      (serialProtocol s n = 0 → charTenths s n (10 * s.val (0x4500 + n) 9) ≤ gap → exec (.serialIdleGap sp gap) s = .next (rawEnd s n)) ∧
      (∀ t, serialProtocol s n = 1 → p.template = some t → charTenths s n (10 * byteAt (templateAt s n t) 18) < gap →
        exec (.serialIdleGap sp gap) s = .next (bumpN (serialReset s n) 0x4510 n 0x0B)) ∧
      (2 ≤ serialProtocol s n → modbusGap s n < gap → p.bad = false →
        exec (.serialIdleGap sp gap) s = .next (setSerial (bumpN s 0x4510 n 0x0B) n (fun p => { p with bad := true })))) ∧
    (serialMaySend s n = true → mustWait s n = false → p.txQueue = (ident, data) :: rest →
      let checked := serialMode s n = 3 ∧ s.on (0x4500 + n) 8 = true;
      (¬ checked ∨ (∀ k, k < data.length → data[k]? = echo[k]?) → ∃ t, exec (.serialTransmit sp echo) s = .next t ∧ .serial n data ∈ t.out) ∧
      (∀ k, checked → k < data.length → data[k]? ≠ echo[k]? → (∀ j, j < k → data[j]? = echo[j]?) → ∃ t, exec (.serialTransmit sp echo) s = .next t ∧
        .serial n (data.take (k + 1)) ∈ t.out)) ∧
    (serialListens s n = true → inPause s = false → 2 ≤ serialProtocol s n → p.msg ≠ [] → p.bad = false →
      let b := msgBytes p;
      let body := b.take (b.length - 2);
      let good := bumpW (serialReset s n) (0x4510 + n) 5 0 1;
      (4 ≤ b.length → b.drop (b.length - 2) = le 2 (crcModbus body) →
        (serialProtocol s n = 3 → exec (.modbusFrameEnd sp) s = .next (modbusServe good n body (msgStamp s p))) ∧
        (serialProtocol s n = 2 → p.client = some (r, left) → p.clientSent = true →
          exec (.modbusFrameEnd sp) s = .next (serveAll (modbusResponse good n r body (msgStamp s p))))) ∧
      (b.length < 4 ∨ b.drop (b.length - 2) ≠ le 2 (crcModbus body) → exec (.modbusFrameEnd sp) s = .next (bumpN (serialReset s n) 0x4510 n 0x0A))) ∧
    (p.client = some (r, left) → p.clientSent = true → inPause s = false →
      (0 < left → exec (.modbusResponseTimeout sp) s = .next (modbusSend (setSerial s n (fun p => { p with client := some (r, left - 1), clientSent := false })) n r)) ∧
      (left = 0 → exec (.modbusResponseTimeout sp) s = .next (serveAll (modbusTimeout s n r))))) ∧
  (∀ (s : State) (sp : Fin 2) (fcode : BitVec 4) (address : BitVec 12) (fr : MvbSlaveFrame) (entry : Fin 256) (k : Nat) (e : MvbEntry) (m : Bytes) (more : List Bytes),
    let seg := mvbSegOf s sp.val;
    let s1 := bumpW s (0x4610 + seg) 3 0 1;
    let stamp := s.now - BitVec.ofNat 32 fr.age;
    mvbRuns s sp.val = true →
    (pairQuiet s (8 + seg) = false → busLevel s = .all ∨ busLevel s = .limited → address.toNat = s.val (0x4600 + seg) 2 →
      exec (.mvbMasterFrame sp 15 address false) s = .next (mvbSend s1 seg (be 2 (mvbStatus s seg))) ∧
      ((mvbSeg s seg).txMsgs = m :: more → exec (.mvbMasterFrame sp 12 address false) s = .next (mvbSend (setMvb s1 seg (fun x => { x with txMsgs := more })) seg m))) ∧
    (fcode ≠ 15 → fcode ≠ 12 → mvbFind s seg address.toNat = some (k, e) → e.source = true → e.fcode = fcode.toNat → mvbAnswers s seg e.addr = true →
      exec (.mvbMasterFrame sp fcode address false) s =
        .next (noteSent (mvbSend s1 seg (mvbValue s seg e)) (0x10 + seg) (mvbIdent e.addr) (mvbValue s seg e) true) ∧
      exec (.mvbMasterFrame sp fcode address true) s = .next (sourceConflict (mvbSend s1 seg (mvbValue s seg e)) seg e.addr)) ∧
    (let b := mvbRedundant s && (mvbSeg s seg).lineB;
      let here := if b then fr.lineBValid else fr.lineAValid;
      let other := mvbRedundant s && (if b then fr.lineAValid else fr.lineBValid);
      (here = true → exec (.mvbSlaveFrame sp fr) s = .next (mvbTake s seg fr stamp)) ∧
      (here = false → other = true → exec (.mvbSlaveFrame sp fr) s =
        .next (mvbTake (raise (bumpN (setMvb s seg (fun m => { m with lineB := !m.lineB })) 0x4610 seg 7) 0x4603 2 0xFF (be 1 seg ++ be 1 (boolNat (!b)))) seg fr stamp)) ∧
      (here = false → other = false → exec (.mvbSlaveFrame sp fr) s = .next (bumpN s 0x4610 seg 6))) ∧
    (let x := mvbEntry s.cfg seg entry.val;
      x.valid = true → x.source = false → x.limit ≠ 0 → (mvbSeg s seg).stale.contains x.addr = false →
      exec (.sinkTimeLimitExpiry sp entry) s = .next (raise (bumpN (setMvb s seg (fun m => { m with stale := m.stale ++ [x.addr] })) 0x4610 seg 8) 0x4601 2 0xFF
        (be 1 seg ++ be 2 x.addr ++ be 2 x.limit))))

/-- While routing, the head message of the gateway's FIFO leaves it and goes by each of the first 16 routes that match,
further ones being counted; with none it is counted as unrouted; a buffer it held is freed. Outside the pause, with
every bus driven, the head of the internal deliveries goes to its collected telegram or its bus, or is kept as the
latest value of its entry. A latest-value grid point that is due sends its entry and is next due a period later, and a
CAN slot's grid point does so for the entry of the slot. A route's source timeout marks the held value. A datagram
that is whole enters the FIFO, where it has room, as its port's message; another is counted. A due poll is offered and
next due a period later. (R300, R302, R305, R306, R308, R309, R313) -/
def Obligations.GatewayRoutesAndDelivers : Prop :=
  ∀ (s : State) (entry : Fin 4096) (cn : Fin 8) (slot : Fin 16) (port : Fin 38) (payload : Bytes) (stamp : T32) (poll : Fin 256) (m : GwMsg) (rest : List GwMsg) (n : Nat)
    (h : HeldValue) (at_ : Nat),
    (routing s = true → s.gw.fifo = m :: rest →
      let hits := (routes (routeImage s)).filter (fun e => e.2.srcBus == m.bus && (m.ident &&& e.2.srcMask == e.2.srcId &&& e.2.srcMask));
      let s1 := { s with gw := { s.gw with fifo := rest } };
      let freed := fun (t : State) => match m.buffer with | some h => poolFreeOp t (3 + m.bus / 4) h | none => t;
      (hits = [] → exec .gatewayRouteMessage s = .next (freed (bumpW s1 0x4710 4 0 1))) ∧
      (hits ≠ [] → exec .gatewayRouteMessage s =
        .next (freed ((List.range (hits.length - 16)).foldl (fun t _ => bump t 0x4710 5) ((hits.take 16).foldl (fun t e => routeOne t m e) s1))))) ∧
    (∀ o os, inPause s = false → s.gw.internal = o :: os → busLevel s = .all →
      let s0 := { s with gw := { s.gw with internal := os } };
      let s1 := match o.buffer with | some h => poolFreeOp s0 6 h | none => s0;
      (o.latest = false → exec .gatewayDestinationDelivery s =
        .next (if collected s1 o.dest then writeCollected s1 o.dest o.ident o.data else legacySend s1 o.dest o.ident o.data o.xl)) ∧
      (o.latest = true →
        let s2 := setHeld s1 o.entry o.data o.xl o.stamp;
        exec .gatewayDestinationDelivery s = .next (if collected s2 o.dest then writeCollected s2 o.dest o.ident o.data else s2))) ∧
    (let due := fun (c : Instr) (n : Nat) => ∀ at_, tget s.gw.next n = some at_ → at_ ≤ s.time.tx →
        let s1 := { s with gw := { s.gw with next := tput s.gw.next n (at_ + 1000000 * (routeAt (routeImage s) n).period) } };
        exec c s = .next (if busLevel s = .all ∧ (!(inPause s) ∨ (routeAt (routeImage s) n).dstBus < 8) then latestSend s1 n (routeAt (routeImage s) n) else s1);
      due (.latestValueGridPoint entry) entry.val ∧ (slotEntry s cn.val slot.val = some n → due (.canSlotGridPoint cn slot) n)) ∧
    (let r := routeAt (routeImage s) entry.val;
      tget s.gw.held entry.val = some h → busLevel s = .all → r.valid = true → r.latest = true → r.timeout ≠ 0 →
      exec (.sourceTimeoutExpiry entry) s = .next { s with gw := { s.gw with held := tput s.gw.held entry.val { h with timedOut := true } } }) ∧
    (routing s = true →
      (byteAt payload 0 = 1 → 18 + beAt payload 16 2 ≤ payload.length → s.gw.fifo.length < 1024 →
        exec (.gatewayDatagramReceived port ⟨payload, stamp⟩) s = .next { s with gw := { s.gw with
          fifo := s.gw.fifo ++ [{ bus := 0x0100 + port.val, ident := beAt payload 2 2, data := slice payload 18 (beAt payload 16 2), stamp := stamp, buffer := none, xl := none }] } }) ∧
      (byteAt payload 0 ≠ 1 ∨ payload.length < 18 + beAt payload 16 2 → exec (.gatewayDatagramReceived port ⟨payload, stamp⟩) s = .next (bump s 0x4710 9))) ∧
    (tget s.gw.pollNext poll.val = some at_ → at_ ≤ s.time.tx → exec (.modbusPollGridPoint poll) s =
      .next (pollOffer { s with gw := { s.gw with pollNext := tput s.gw.pollNext poll.val (at_ + 1000000 * beAt (pollAt (routeImage s) poll.val) 6 2) } } poll.val))

/-- On an open PCIe session in a state that serves the bridge: a permitted held read is counted; of an MVB page it
completes at once with the value's bytes, of a page whose slot the cache holds with the cached bytes, and else, with a
free tag, it is accepted under the tag and prefetched. A permitted posted write is counted; of an MVB page it writes
the value, else it drops the cached slots it touches and is accepted. A refused access is counted, completes a read
with all ones and result 4, and is recorded as a fault; outside those states a read completes with all ones and result
5. A far completion ends the transaction of its tag that is under way, with the data or a fault. When its bound ends,
a held read that has been sent is completed with all ones and result 3 and abandoned, one not yet sent is withdrawn
and ended with result 2; an abandoned transaction that stays unanswered fails. (R314, R316, R317, R318, R319, R320) -/
def Obligations.BridgeAccessesRunAndEnd : Prop :=
  ∀ (s : State) (offset : BitVec 24) (length : Nat) (data : Bytes) (tag : Nat) (ftag : Fin 256) (x : BridgeTx) (a : T32) (late : Bool) (code : BitVec 32) (k : Nat) (e : MvbEntry),
    let page := offset.toNat / 4096;
    let off := offset.toNat % 4096;
    let pg := pageAt s.cfg page;
    let size := slotSize pg.kind;
    let blank : BridgeTx := { tag := 0, seq := s.br.seq, page := page, offset := off, length := length, data := none, state := .queued, use_ := .held, target := 0, locked := false };
    let seqd := fun (t : State) => { t with br := { t.br with seq := t.br.seq + 1 } };
    let reads := bumpW s 0x4810 3 0 1;
    let writes := bumpW s 0x4810 4 0 1;
    (isOpen s 17 = true →
      (bridgeServes s = true →
        (accessCheck s page off length false = 0 →
          (pg.kind = 2 → mvbFind s (mvbSegOf s (pg.bus - 0x10)) (pg.base + off / 32) = some (k, e) → exec (.bridgeHeldRead offset length) s =
            .next (seqd (completeRead reads blank (accessBytes (mvbValue s (mvbSegOf s (pg.bus - 0x10)) e) (off % 32) length) 0))) ∧
          (∀ c, pg.kind ≠ 2 → s.br.cache.find? (fun e => e.1 == page && e.2.1 == off / size) = some c → exec (.bridgeHeldRead offset length) s =
            .next (seqd (completeRead (bumpW reads 0x4810 5 0 1) blank (accessBytes c.2.2 (off % size) length) 0))) ∧
          (pg.kind ≠ 2 → s.br.cache.find? (fun e => e.1 == page && e.2.1 == off / size) = none → freeTag s = some tag →
            exec (.bridgeHeldRead offset length) s = .next (prefetchAll (acceptTx reads tag page off length none .held) page off))) ∧
        (accessCheck s page off length false ≠ 0 → ∃ u, exec (.bridgeHeldRead offset length) s =
          .next (completeRead u.1 u.2 (allOnes length) 4) ∧ u = refuseAccess reads page off length (accessCheck s page off length false)) ∧
        (accessCheck s page off data.length true = 0 →
          (pg.kind = 2 → mvbFind s (mvbSegOf s (pg.bus - 0x10)) (pg.base + off / 32) = some (k, e) → exec (.bridgePostedWrite offset data) s =
            .next (seqd (mvbWrite writes (mvbSegOf s (pg.bus - 0x10)) e.addr (putAt (mvbValue s (mvbSegOf s (pg.bus - 0x10)) e) (off % 32) data) true))) ∧
          (pg.kind ≠ 2 → freeTag s = some tag →
            exec (.bridgePostedWrite offset data) s = .next (acceptTx (dropWritten writes page off data.length) tag page off data.length (some data) .write))) ∧
        (accessCheck s page off data.length true ≠ 0 → exec (.bridgePostedWrite offset data) s =
          .next (refuseAccess writes page off data.length (accessCheck s page off data.length true)).1)) ∧
      (bridgeServes s = false → exec (.bridgeHeldRead offset length) s = .next (seqd (completeRead reads blank (allOnes length) 5)) ∧
        exec (.bridgePostedWrite offset data) s = .next (refuseAccess writes page off data.length 6).1)) ∧
    (bridgeTx s ftag.val = some x → x.state ≠ .queued → x.state ≠ .issued →
      exec (.bridgeFarCompletion ftag (.data data)) s = .next (farValue s x data) ∧
      exec (.bridgeFarCompletion ftag .done) s = .next (farValue s x []) ∧
      exec (.bridgeFarCompletion ftag (.failed code)) s = .next (farFailure s x (farCause s x) code.toNat) ∧
      exec (.bridgeFarCompletion ftag .timeout) s = .next (farFailure s x 1 0)) ∧
    (bridgeTx s ftag.val = some x → x.use_ = .held →
      (x.state = .sent → exec (.bridgeReadBoundExpiry ftag) s =
        .next (setTx (completeRead (bump s 0x4810 6) x (allOnes x.length) 3) ftag.val (fun y => { y with state := .abandoned s.now (!(inPause s)) }))) ∧
      (x.state = .queued ∨ x.state = .issued → exec (.bridgeReadBoundExpiry ftag) s =
        .next (endTx (withdrawRequest (completeRead (bump s 0x4810 6) x (allOnes x.length) 2) x) x))) ∧
    (bridgeTx s ftag.val = some x → x.state = .abandoned a late → exec (.bridgeAbandonedTimeout ftag) s = .next (farFailure s x 1 0))

/-- A carried-out write to 4801h.01 of a valid lockable page with no lock standing and a free tag is answered 0, and the
lock is granted at once when its target is idle, else it waits; a write of 0xFFFF releases the lock and is answered 0.
A waiting lock is granted when its target is idle or 100 ms have passed; a held lock that expires is released, the
accesses under it that were not sent end as faults, and event 4803h names their number. A status poll of a permitted
page is read at once from MVB or accepted as that poll's transaction with a free tag; one whose last access still runs
is counted. An expired cache slot is dropped; the oldest late fault and the oldest stranded read are answered and
removed, zeros where there is none. (R321, R322, R323, R324, R325, R326) -/
def Obligations.BridgeLocksPollsAndFaults : Prop :=
  ∀ (s : State) (ses : SessionNo) (page : BitVec 16) (pg tg tag since slot k : Nat) (poll : Fin 32) (p : Fin 4096) (e : MvbEntry) (b : Bytes) (rest : List Bytes),
    (let row := pageAt s.cfg page.toNat;
      WriteAllowed s ses 0x4801 1 (be 2 page.toNat) → page.toNat < 4096 → s.on 0x4800 1 = true → row.valid = true → row.lockable = true → row.kind ≤ 1 →
      s.br.lock = .none → freeTag s = some tag →
      exec (.bridgeLockRequest ses page) s = .next (emit (if targetBusy s (targetOf row) then
        { s with br := { s.br with lock := .waiting page.toNat (targetOf row) tag s.time.mono } } else grantLock s page.toNat (targetOf row) tag)
        (.answer (.session ses) 0 []))) ∧
    (WriteAllowed s ses 0x4801 1 (be 2 0xFFFF) → exec (.bridgeLockRelease ses) s = .next (emit (releaseLock s) (.answer (.session ses) 0 []))) ∧
    (s.br.lock = .waiting pg tg tag since → (targetBusy s tg = false ∨ since + 100000000 ≤ s.time.mono) →
      exec .bridgeLockGrant s = .next (grantLock s pg tg tag)) ∧
    (s.br.lock = .held pg tg tag →
      let under := s.br.txs.filter (fun x => x.locked && x.target == tg && (x.state == .queued || x.state == .issued));
      let s1 := releaseLock { s with br := { s.br with txs := s.br.txs.filter (fun x => !(under.contains x)) } };
      let s2 := under.foldl (fun t x => if x.use_ = .held then lateFault (completeRead (withdrawRequest t x) x (allOnes x.length) 1) x 5 0
        else lateFault (withdrawRequest t x) x 5 0) s1;
      exec .bridgeLockExpiry s = .next (raise (bump (lockFault s2 pg tag) 0x4810 0x0B) 0x4803 3 0xFF (be 2 pg ++ be 4 under.length))) ∧
    (let r := slice (cfgBytes s.cfg 0x4800 4) (16 * poll.val) 16;
      let row := pageAt s.cfg (beAt r 0 2);
      let runs := s.br.txs.any (fun x => match x.use_ with | .poll n => n == poll.val | _ => false);
      r.length = 16 → bridgeServes s = true → inPause s = false →
      (runs = true → exec (.bridgeStatusPoll poll) s = .next (bump s 0x4810 0x0A)) ∧
      (runs = false → accessCheck s (beAt r 0 2) (beAt r 2 2) (byteAt r 4) false = 0 →
        (row.kind ≠ 2 → freeTag s = some tag →
          exec (.bridgeStatusPoll poll) s = .next (acceptTx s tag (beAt r 0 2) (beAt r 2 2) (byteAt r 4) none (.poll poll.val))) ∧
        (row.kind = 2 → mvbFind s (mvbSegOf s (row.bus - 0x10)) (row.base + beAt r 2 2 / 32) = some (k, e) → exec (.bridgeStatusPoll poll) s =
          .next (pollRead s poll.val (beAt r 0 2) (accessBytes (mvbValue s (mvbSegOf s (row.bus - 0x10)) e) (beAt r 2 2 % 32) (byteAt r 4)))))) ∧
    (exec (.bridgeCacheExpiry p slot) s = .next (cacheDrop s (fun a b => a == p.val && b == slot))) ∧
    (ReadAllowed s ses 0x4820 1 →
      (s.br.lateFaults = b :: rest → exec (.lateFaultRead ses) s =
        .next (emit { s with br := { s.br with lateFaults := rest, lateLost := false } } (.answer (.session ses) 0 (flagRecord b s.br.lateLost)))) ∧
      (s.br.lateFaults = [] → exec (.lateFaultRead ses) s = .next (emit s (.answer (.session ses) 0 (zeros 32))))) ∧
    (ReadAllowed s ses 0x4830 1 →
      (s.br.stranded = b :: rest → exec (.strandedReadRead ses) s =
        .next (emit { s with br := { s.br with stranded := rest, strandedLost := false } } (.answer (.session ses) 0 (flagRecord b s.br.strandedLost)))) ∧
      (s.br.stranded = [] → exec (.strandedReadRead ses) s = .next (emit s (.answer (.session ses) 0 (zeros 40)))))

/-- While the audio engine runs, a block mixes its samples outside the pause of an activation and gives silence in it.
Outside the pause, a frame that matches an enabled stream is stored as the last to be presented, with the stream
received, or counted when it is late; a stream received that stays silent for 10 ms is lost with event 4A02h and its
frames gone. An ambient window outside Safe resets the gain of an output without an ambient microphone; with one it
measures the noise anew unless the output plays, and moves the gain towards its target by at most the slew. While the
audio engine runs, outside the pause and unless the device is the passive one of a Pair, a call request is carried
out: kind 1 asks for a new call, kind 2 answers and kind 3 ends the call of its reference; with the Guard Processor
halted it waits in the mailbox. CALL_ANSWER and CALL_END do the same for the reference they name. An alerting call
that is not answered in time ends with reason 2. A queued call below priority 7 that waits too long leaves the queue,
is told so, and the rest are told their positions. A carried-out write of 4B10h.05 starts the clip named, where it
exists, or stops the player, and is answered 0. (R327, R330, R334, R335, R341, R534, R345, R346, R347, R348, R349,
R351) -/
def Obligations.AudioBlocksStreamsAndAmbient : Prop :=
  (∀ (s : State) (tdmIn : List (BitVec 24)) (stream : Fin 32) (f : AudioFrame) (out_ : Fin 64),
    (audioRuns s = true → exec (.audioBlock tdmIn) s = .next (if inPause s then pauseBlock s else runBlock s tdmIn)) ∧
    (audioRuns s = true → s.on (0x4AC0 + stream.val) 1 = true → inPause s = false → streamMatches s stream.val f.key = true →
      (isLate s.now f = false → exec (.inputStreamFrame stream f) s =
        .next (setStream s stream.val (fun x => { x with frames := x.frames ++ [withOutput s.now f], state := 2, lastAt := s.time.mono }))) ∧
      (isLate s.now f = true → exec (.inputStreamFrame stream f) s = .next (bump s 0x4B20 4))) ∧
    ((audStream s stream.val).state = 2 → (audStream s stream.val).lastAt + 10000000 ≤ s.time.mono → exec (.streamLossTimeout stream) s =
      .next (raise (bump (setStream s stream.val (fun x => { x with state := 3, frames := [] })) 0x4B20 0x0A) 0x4A02 2 0xFF (be 1 stream.val))) ∧
    (let o := out_.val;
      let idx := 0x4A80 + o;
      audioRuns s = true → s.op.state ≠ .safe → inPause s = false →
      (s.val idx 6 = 0 → exec (.ambientMeasureWindow out_) s =
        .next { s with aud := { s.aud with ambient := s.aud.ambient.setIfInBounds o 0, noise := s.aud.noise.setIfInBounds o none } }) ∧
      (s.val idx 6 ≠ 0 → ∃ t, exec (.ambientMeasureWindow out_) s = .next t ∧
        ((contributions s o (outputPriority s o)).any (fun c => !c.2.2) = true → t.aud.noise = s.aud.noise ∧ t.drawn = s.drawn) ∧
        (let target : Int := match (t.aud.noise[o]?).getD none with
            | some n => max 0 (min 120 ((n - s.ival idx 7) * (s.val idx 8 : Int) / 10))
            | none => 0;
          let was := (s.aud.ambient[o]?).getD 0;
          (t.aud.ambient[o]?).getD 0 = if was < target then min target (was + (s.val 0x4A00 7 : Int)) else max target (was - (s.val 0x4A00 7 : Int)))))) ∧
  (∀ (s : State) (req : CallRequest) (ref : BitVec 16) (sender : Option Contact) (ses : SessionNo) (player : Fin 8) (clip : BitVec 8) (c : Call),
    let players := fun (v : Option (Nat × Nat)) => { s with aud := { s.aud with players := s.aud.players.setIfInBounds player.val v } };
    (audioRuns s = true → inPause s = false → pairPassive s = false →
      (s.gp.halted = false →
        (req.kind = 1 → exec (.callRequest req) s = .next (newCall s req)) ∧
        (req.kind = 2 → exec (.callRequest req) s = .next (answerCall s req.reference req.sender)) ∧
        (req.kind = 3 → exec (.callRequest req) s = .next (hangUp s req.reference)) ∧
        exec (.callAnswer ⟨ref, sender⟩) s = .next (answerCall s ref sender) ∧ exec (.callEnd ref) s = .next (hangUp s ref)) ∧
      (s.gp.halted = true → exec (.callRequest req) s = .next { s with aud := { s.aud with mailbox := s.aud.mailbox ++ [req] } })) ∧
    (decides s = true → s.aud.calls.find? (fun c => c.ref == ref && !c.connected) = some c → exec (.alertingTimeout ref) s = .next (endCall s c 2)) ∧
    (decides s = true → s.aud.callQueue.find? (fun c => c.ref == ref && decide (c.priority < 7)) = some c → exec (.callQueueTimeout ref) s =
      .next (tellPositions (tellCall { s with aud := { s.aud with callQueue := s.aud.callQueue.filter (fun x => x.ref != ref) } } c 3 5))) ∧
    (clip.toNat ≤ 63 → WriteAllowed s ses 0x4B10 5 (be 2 (256 * player.val + clip.toNat)) →
      exec (.playerStartClip ses player clip) s = .next (emit (if (clipAt s clip.toNat).2.1 = 0 then raise s 0x4A06 2 0xFF (be 1 player.val ++ be 1 clip.toNat)
        else players (some (clip.toNat, 0))) (.answer (.session ses) 0 []))) ∧
    (WriteAllowed s ses 0x4B10 5 (be 2 (256 * player.val + 255)) →
      exec (.playerStop ses player) s = .next (emit (players none) (.answer (.session ses) 0 []))))

/-- Where the odometry runs, an edge is counted and, where it changes D32, every armed target is compared with the stamp
of the edge moved back by the filter time; a quadrature error in a quadrature mode is counted; a window's end without
a cross-check notes both channels' speeds with the primary driving, and with one takes the check's state, driving
channel and agreement. D64 grows by the signed change of D32 since the last extension, and a changed pair of D64 and
charge is journalled. A carried-out write of the distance sets D64 to it and moves D32 by the same step, with event
4C03h; one of the door side in Normal sets the doors written under their enables; both are answered 0. (R357, R358,
R359, R360, R361, R362, R363, R364, R368) -/
def Obligations.PositionIsCountedExtendedAndSet : Prop :=
  ∀ (s : State) (ch : Fin 2) (edge : OdoEdge) (ses : SessionNo) (v : Bytes) (d : BitVec 8),
    (odoApplied s = true →
      (let r := countEdge s ch.val edge;
        exec (.odometryEdge ch edge) s = .next (if r.2 then compareTargets applyAtEvent r.1 (s.now - BitVec.ofNat 32 (100 * s.val (0x4C10 + ch.val) 3)) [] else r.1)) ∧
      ((odoMode s ch.val = 1 ∨ odoMode s ch.val = 2) → exec (.quadratureError ch) s =
        .next (bump (setOdo s ch.val (fun c => { c with aLevel := !c.aLevel, bLevel := !c.bLevel })) 0x4C30 3)) ∧
      (crossOn s = false → ∃ t, exec .crossCheckWindowEnd s = .next t ∧ t.pos.check = 0 ∧ t.pos.drive = s.val 0x4C00 1 ∧ t = { s with pos := t.pos }) ∧
      (crossOn s = true →
        let m := max ((odo s 0).dist / 65536) ((odo s 1).dist / 65536);
        let quiet := fun (k : Nat) => if (odo s k).dist / 65536 = 0 ∧ s.val 0x4C00 6 ≤ m then (odo s k).silent + 1 else 0;
        let r := crossDecide s ((odo s 0).dist / 65536) ((odo s 1).dist / 65536) (quiet 0) (quiet 1);
        ∃ t, exec .crossCheckWindowEnd s = .next t ∧ t.pos.check = r.state ∧ t.pos.drive = r.drive ∧ t.pos.agree = r.agree)) ∧
    (mpRuns s = true → ∃ t, exec .d64Extension s = .next t ∧ t = { s with pos := t.pos } ∧ t.pos.lastD32 = s.pos.d32 ∧
      t.pos.d64 = (s.pos.d64 + (s.pos.d32 - s.pos.lastD32).toInt) % (2 ^ 64 : Nat)) ∧
    (mpRuns s = true → (extendD64 s).pos.saved ≠ some ((extendD64 s).pos.d64, s.pow.charge) → ∃ t, exec .distanceChargeJournal s = .next t ∧
      t.pos.saved = some ((extendD64 s).pos.d64, s.pow.charge) ∧
      (s.jour.state ≠ 2 → t.jour.waiting = s.jour.waiting ++ [(.distance (extendD64 s).pos.d64 s.pow.charge, .nobody)])) ∧
    (WriteAllowed s ses 0x4C20 2 v → ∃ t, exec (.setDistance ses v) s = .next t ∧ Answered t ses 0 [] ∧ t = emit (setDistanceWrite s v).1 (.answer (.session ses) 0 []) ∧
      t.pos.d64 = (beNat v : Int) ∧ t.pos.d32 = s.pos.d32 + BitVec.ofInt 32 ((beNat v : Int) - (extendD64 s).pos.d64)) ∧
    (WriteAllowed s ses 0x4C40 3 (be 1 d.toNat) → s.op.state = .normal →
      let mask := d.toNat / 16 % 16 &&& s.val 0x4C40 1;
      exec (.setDoorSide ses d) s = .next (emit { s with pos := { s.pos with
        doors := BitVec.ofNat 4 ((s.pos.doors.toNat &&& (15 - mask)) ||| (d.toNat &&& mask)) } } (.answer (.session ses) 0 [])))

/-- When a sequence's conversions end it leaves the list, each code is converted, and a configured sequence's results are
shown with the T32 of its start. A housekeeping sequence starts, unless it waits already, outside Normal and sleep, in
Start from 100 ms on. In Normal with a battery the budget is evaluated while the Guard Processor works, and the
low-voltage timer engages the lowest enabled stage not engaged. A full battery sets the charge to its capacity with
confidence 2 and event 4D04h; a carried-out write of 4D00h.0B sets the charge with confidence 2 and is answered 0.
(R367, R370, R371, R373, R374, R375) -/
def Obligations.PowerIsMeasuredAndBudgeted : Prop :=
  ∀ (s : State) (codes : List (BitVec 16)) (ses : SessionNo) (v : Bytes) (n k mv : Nat) (at_ : T32) (rest : List (Nat × T32)),
    (s.pow.sequences = (n, at_) :: rest →
      let pairs := ((sequenceCodes s n).zip codes).map (fun e => (e.1, rawCode e.1 e.2));
      let s1 := { s with pow := { s.pow with sequences := rest.map (fun e => (e.1, if rest.head? = some e then s.now else e.2)) } };
      (4 ≤ n → exec (.adcSequenceComplete codes) s = .next (pairs.foldl (fun t e => convert t e.1 e.2) s1)) ∧
      (n < 4 → exec (.adcSequenceComplete codes) s = .next (pairs.foldl (fun t e => convert t e.1 e.2)
        (putStore (putStore s1 (0x4CA0 + n) 3 0 (padTo 16 (pairs.flatMap (fun e => beInt 2 e.2)))) (0x4CA0 + n) 4 0 (be 4 at_.toNat))))) ∧
    ((s.op.state = .commissioning ∨ s.op.state = .test ∨ s.op.state = .safe ∨ s.op.state = .recovery ∨
        (s.op.state = .start ∧ s.op.startedAt + 100000000 ≤ s.time.mono)) → s.pow.sequences.any (fun e => e.1 == 4) = false →
      exec .housekeepingSequence s = .next { s with pow := { s.pow with sequences := s.pow.sequences ++ [(4, s.now)] } }) ∧
    (s.op.state = .normal → batteryOn s = true → gpWorks s = true →
      exec .energyBudgetEvaluation s = .next (emcyCleared s (evaluateBudget s)) ∧
      (voltageLow s = true → [1, 2, 3, 4, 5].find? (fun k => stageEnabled s k && !(stageOn s k)) = some k → exec .lowVoltageTimer s = .next (engage s k true))) ∧
    (batteryOn s = true → mpRuns s = true → s.pow.voltage = some mv → s.val 0x4D00 7 ≤ mv → -s.pow.current ≤ (s.val 0x4D00 8 : Int) →
      let u := { s with pow := { s.pow with charge := capacity s, confidence := 2 } };
      exec .chargeRecalibration s = .next (raise (bump u 0x4D60 6) 0x4D04 1 0xFF (beInt 4 (chargeMah u)))) ∧
    (WriteAllowed s ses 0x4D00 0x0B v → exec (.setCharge ses v) s =
      .next (emit { s with pow := { s.pow with charge := signed 4 (beNat v) * mAhUnits, confidence := 2 } } (.answer (.session ses) 0 [])))

/-- A watched wake source is accepted and counted: while sleep is being entered it is latched; in LightSleep, where it may
wake, it takes the device to Normal with cause 0x31, in DeepSleep to Start as a warm start; in Normal it acts on its
segments and a ballot; in Commissioning, Test and Safe it is reported. The end of a level clears its activity, and the
end of a quarantine clears the quarantine with the times counted before it. A write of 0 to a quarantine object is
handed to the journal. A PHY that waits for its stagger is released. A write of 2400h.0F sets the keep-awake reason
exactly where it is not 0, judges the ballot by it and is answered 0; the expiry of keep-awake and of the wake hold
clear their own reason and nothing else. (R385, R386, R387, R388, R389, R390, R391, R393, R399) -/
def Obligations.WakeSourcesAndHolds : Prop :=
  ∀ (s : State) (n : Fin 20) (l : Fin 4) (ses : SessionNo) (v : Bytes) (secs : BitVec 16),
    (sourceWatched s n.val = true →
      (∃ t, exec (.wakeSourceAccepted n) s = .next t ∧ t = acceptSource s n.val) ∧
      (s.slp.entering = true → (s.op.state = .lightSleep ∨ s.op.state = .deepSleep) → ∃ t, exec (.wakeSourceAccepted n) s = .next t ∧ t.slp.latched = true ∧ t.op.state = s.op.state) ∧
      (s.slp.entering = false → s.on (0x2420 + n.val) 4 = true →
        (s.op.state = .lightSleep → ∃ t, exec (.wakeSourceAccepted n) s = .next t ∧ t.op.state = .normal ∧ t.op.cause = 0x31) ∧
        (s.op.state = .deepSleep → ∃ t, exec (.wakeSourceAccepted n) s = .next t ∧ t.op.state = .start ∧ t.op.warm = true ∧ t.op.cause = 0x31)) ∧
      (s.slp.entering = false → s.op.state = .normal → s.slp.ballot.state ≠ 3 → exec (.wakeSourceAccepted n) s = .next (acceptNormal (countSource s n.val) n.val)) ∧
      (s.slp.entering = false → (s.op.state = .commissioning ∨ s.op.state = .test ∨ s.op.state = .safe) → exec (.wakeSourceAccepted n) s =
        .next (raise (countSource s n.val) 0x2404 1 0xFF (be 1 n.val ++ be 1 0 ++ be 1 s.op.state.code)))) ∧
    (∃ t, exec (.wakeLevelEnd l) s = .next t ∧ (wakeSrc t l.val).active = false ∧ t = { s with slp := { s.slp with sources := t.slp.sources } }) ∧
    (∃ t, exec (.quarantineEnd n) s = .next t ∧ (wakeSrc t n.val).quarantined = false ∧ t = { s with slp := { s.slp with sources := t.slp.sources } } ∧
      (wakeSrc t n.val).times = if (wakeSrc s n.val).quarantined then [] else (wakeSrc s n.val).times) ∧
    (WriteAllowed s ses (0x2420 + n.val) 7 v → beNat v = 0 → s.jour.state ≠ 2 →
      exec (.quarantineClear ses n v) s = .next (jAppend (thaw s) (.value (okey (0x2420 + n.val) 7) v) (.session ses))) ∧
    (∀ k rest, s.slp.phyWait = k :: rest → exec .phyReleaseStagger s = .next (refreshPhy { s with slp := { s.slp with phyWait := rest } })) ∧
    (WriteAllowed s ses 0x2400 0x0F (be 2 secs.toNat) → exec (.keepAwake ses secs) s =
      .next (emit (ballotCheck { s with slp := { s.slp with keepAwake := decide (secs ≠ 0) } }) (.answer (.session ses) 0 []))) ∧
    (exec .keepAwakeExpiry s = .next { s with slp := { s.slp with keepAwake := false } }) ∧
    (exec .wakeHoldExpiry s = .next { s with slp := { s.slp with wakeHold := false } })

/-- A device that may propose starts a ballot of its own kind when its idle time ends, and of the kind written to
2400h.10, numbered one on. A ballot frame that the coordinator hears and takes acts by its type: a proposal without a
ballot standing is voted on; a vote of this ballot in its window that agrees is noted; a commit with the instant
agreed to commits a voter; an abort of this ballot ends it before C, and wakes a device that is entering sleep. An
open ballot whose vote window has ended is aborted with reason 4; a committed proposer resends its commit once before
C; a voter whose C passes without a commit aborts with reason 2 and counts it. (R394, R395, R396, R397, R398, R404) -/
def Obligations.SleepBallots : Prop :=
  ∀ (s : State) (port : Fin 38) (fr : BallotFrame) (ses : SessionNo) (kind : BitVec 8),
    let b := fr.bytes;
    (mayPropose s = true →
      (∃ t, exec .idleTimeProposal s = .next t ∧ t = proposeBallot s (sleepKind s) ∧ t.slp.ballotNo = s.slp.ballotNo + 1) ∧
      (WriteAllowed s ses 0x2400 0x10 (be 1 kind.toNat) → (kind = 1 ∨ kind = 2) →
        ∃ t, exec (.propose ses kind) s = .next t ∧ t = emit (proposeBallot s kind.toNat) (.answer (.session ses) 0 []) ∧ t.slp.ballot.kind = kind.toNat)) ∧
    (ballotHeard s = true →
      ((ballotTake s port.val b 0x21).2 = true →
        let u := (ballotTake s port.val b 0x21).1;
        exec (.proposalReceived port fr) s = .next (onProposal u b) ∧
        (s.op.state = .normal → s.slp.ballot.state ≠ 1 → s.slp.ballot.state ≠ 2 → s.slp.ballot.state ≠ 3 → exec (.proposalReceived port fr) s = .next (voteOn u b))) ∧
      ((ballotTake s port.val b 0x22).2 = true →
        let u := (ballotTake s port.val b 0x22).1;
        exec (.voteReceived port fr) s = .next (onVote u b) ∧
        (u.slp.ballot.state = 1 → sameBallot u b = true → pastT32 (windowEnd u) u.now = false → frCode b = 1 →
          ∃ t, exec (.voteReceived port fr) s = .next t ∧ frSender b ∈ t.slp.ballot.votes)) ∧
      ((ballotTake s port.val b 0x23).2 = true →
        let u := (ballotTake s port.val b 0x23).1;
        exec (.commitReceived port fr) s = .next (onCommit u b) ∧
        (u.slp.ballot.state = 2 → sameBallot u b = true → beforeCommit u = true → frCommit b = u.slp.ballot.commitAt →
          ∃ t, exec (.commitReceived port fr) s = .next t ∧ t = commitBallot u false ∧ t.slp.ballot.state = 3)) ∧
      ((ballotTake s port.val b 0x24).2 = true →
        let u := reachCommit (ballotTake s port.val b 0x24).1;
        exec (.abortReceived port fr) s = .next (onAbort u b) ∧
        (u.slp.entering = false → inBallot u = true → sameBallot u b = true → beforeCommit u = true →
          ∃ t, exec (.abortReceived port fr) s = .next t ∧ t = endBallot u (frCode b) (frSender b) ∧ t.slp.ballot.state = 4) ∧
        (u.slp.entering = true → sameBallot u b = true → ∃ t, exec (.abortReceived port fr) s = .next t ∧ t.slp.latched = true))) ∧
    (s.slp.ballot.state = 1 → dueT32 (windowEnd s) s.now = true → ∃ t, exec .voteWindowExpiry s = .next t ∧ t = abortBallot s 4 ∧ t.slp.ballot.state = 4) ∧
    (s.slp.ballot.state = 3 → s.slp.ballot.resend = true → beforeCommit s = true → ∃ t, exec .commitResend s = .next t ∧
      t = setBallot (sendOwnBallot s 0x23 0) (fun x => { x with resend := false }) ∧ t.slp.ballot.resend = false) ∧
    (s.slp.ballot.state = 2 → dueT32 s.slp.ballot.commitAt s.now = true → ∃ t, exec .commitMissing s = .next t ∧ t.slp.ballot.state = 4 ∧ t.slp.cause.source = 0x21 ∧ t.slp.cause.at_ = s.now)

/-- In Normal at C of a committed ballot with no reason against it the device enters the sleep state of the ballot's kind;
an entry in progress completes, and a wake latched in it follows at once. In Normal a managed segment's requests are
answered 0: a wake request takes a segment that is not isolated to awake, a sleep request takes one that is awake to
draining, and the end of isolation takes an isolated one to asleep. Energy on an asleep managed TS segment wakes it; a
lease that is over puts an awake one to draining; a quiet draining segment falls asleep; one that overruns is isolated
with event 2407h. (R384, R395, R397, R400, R401, R402, R403) -/
def Obligations.SleepEntryAndSegments : Prop :=
  ∀ (s : State) (ses : SessionNo) (p : Fin 38) (ts : Fin 8),
    (s.op.state = .normal → s.slp.ballot.state = 3 → dueT32 s.slp.ballot.commitAt s.now = true → ballotReasons s = 0 →
      ∃ t, exec .sleepEntry s = .next t ∧ t = enterSleep s ∧ t.slp.entering = true ∧ t.op.cause = 0x30 ∧
        t.op.state = if s.slp.ballot.kind = 2 then .deepSleep else .lightSleep) ∧
    (s.slp.entering = true → (s.op.state = .lightSleep ∨ s.op.state = .deepSleep) → exec .sleepEntryComplete s =
      .next (if s.slp.latched then wakeUp (entryDone s) else entryDone s)) ∧
    (s.op.state = .normal → managed s p.val = true →
      (WriteAllowed s ses (0x2440 + p.val) 6 [1] → segState s p.val ≠ 4 → ∃ t, exec (.segmentWakeRequest ses p) s = .next t ∧ Answered t ses 0 [] ∧
        t = emit (refreshPhy (setSegment s p.val 2 (freshLease s p.val))) (.answer (.session ses) 0 []) ∧ segState t p.val = 2) ∧
      (WriteAllowed s ses (0x2440 + p.val) 6 [2] → segState s p.val = 2 → ∃ t, exec (.segmentSleepRequest ses p) s = .next t ∧ Answered t ses 0 [] ∧
        t = emit (discardQueues (setSegment s p.val 3 0) p.val) (.answer (.session ses) 0 []) ∧ segState t p.val = 3) ∧
      (WriteAllowed s ses (0x2440 + p.val) 6 [3] → 2 ≤ roleOf s ses.val → segState s p.val = 4 → ∃ t, exec (.segmentEndIsolation ses p) s = .next t ∧ Answered t ses 0 [] ∧
        t = emit (segAsleep s p.val) (.answer (.session ses) 0 []) ∧ segState t p.val = 1) ∧
      (segState s p.val = 2 → leaseOver s p.val = true → ∃ t, exec (.leaseExpiry p) s = .next t ∧ t = discardQueues (setSegment s p.val 3 0) p.val ∧ segState t p.val = 3)) ∧
    (s.op.state = .normal → managed s (30 + ts.val) = true → segState s (30 + ts.val) = 1 → ∃ t, exec (.tsSegmentEnergy ts) s = .next t ∧
      t = refreshPhy (setSegment s (30 + ts.val) 2 (freshLease s (30 + ts.val))) ∧ segState t (30 + ts.val) = 2) ∧
    (segState s p.val = 3 → s.op.state = .normal →
      (∃ t, exec (.drainQuietComplete p) s = .next t ∧ t = segAsleep s p.val ∧ segState t p.val = 1) ∧
      (∃ t, exec (.segmentOverrun p) s = .next t ∧ segState t p.val = 4 ∧
        t = refreshPhy (raise (bump (bumpN (segUnlink (setSegment s p.val 4 0) p.val) 0x2440 p.val 7) 0x2470 0x0C) 0x2407 3 p.val (be 1 p.val))))

/-- With pass 1 open, its close counts the cause, carries out the work of the pass, keeps its signature and starts pass 2
with the instructions retired; an interrupt in pass 1 with room enters the replay queue at a point that stands free,
and outside it waits for the next window. At the end of pass 2 a queue and signatures that agree release the output
hold and end the window, and a mismatch, or a held entry whose parity fails at the release, is a Guard Processor
fault, which takes the device to Safe. A pass open for 24 microseconds is a fault of cause 2. A probe that shows its
mismatch goes on to the next bit and is counted, one that shows none is a fault of cause 4. A cycle that no trigger
starts, whose task does not wait already, adds its task to those that wait. While debug of the Guard Processor is
allowed: a halt outside pass 2 stops it with event 2904h, on a breakpoint only where one is set; a step of a halted
pass 1 retires one instruction; a resume runs it again with event 2904h, the time it stood not counted to its pass; a
read shows the target's value and changes nothing; a breakpoint write sets it. A write of a register, or of a word of
region 1, acts, and in pass 1 with room enters the replay queue as kind 6 at a point that stands free; outside pass 1
it waits for the next window. (R411, R412, R416, R420, R423, R424, R425, R426, R431, R433, R440, R602) -/
def Obligations.GuardWindowsAndCycles : Prop :=
  (∀ (s : State) (cause : CloseCause) (retired : BitVec 32) (pc : BitVec 26) (work : List GpAct) (upsets : List GpUpset) (vec : BitVec 32) (r : PassTwoReport) (cycle : Fin 4) (c e : Nat),
    let s0 := gpOpen s;
    let w := windowFault s r;
    let h := releaseHold w.1 r.hold;
    (s0.gp.pass = 1 → gpWorks s0 = true →
      let s1 := match cause with | .taskEnd => s0 | .length => bumpW s0 0x2940 4 0 1 | .replayFull => bumpW s0 0x2940 5 0 1 | .holdFull => bumpW s0 0x2940 6 0 1;
      let s2 := passOne { s1 with gp := { s1.gp with retired := retired, nextPc := pc, ended := cause == .taskEnd } } work upsets;
      exec (.gpPass1Close cause ⟨retired, pc⟩ ⟨work, upsets⟩) s = .next { s2 with gp := { s2.gp with
        pass := 2, opened := s2.time.mono, longestPass := max s2.gp.longestPass (s2.time.mono - s2.gp.opened) } }) ∧
    (s0.gp.running = true →
      (s0.gp.pass = 1 → s0.gp.replay.length < 128 → ∃ t point, exec (.gpInterrupt vec) s = .next t ∧ point < 2 ^ 20 ∧
        ({ kind := 0, point := point, value := vec, target := none } : ReplayEntry) ∈ t.gp.replay ∧ t.gp.replay.length = s0.gp.replay.length + 1) ∧
      (s0.gp.pass ≠ 1 → exec (.gpInterrupt vec) s =
        .next { s0 with gp := { s0.gp with later := s0.gp.later ++ [{ kind := 0, point := 0, value := vec, target := none }] } })) ∧
    (s.gp.pass = 2 → gpWorks s = true →
      (w.2.2 = none → h.2 = none → exec (.gpWindowCompare r) s = .next (windowEqual h.1)) ∧
      (w.2.2 = some (c, e) → ∃ t, exec (.gpWindowCompare r) s = .next t ∧ t = gpFault w.1 c e s.gp.sig1 w.2.1 ∧ t.op.state = .safe) ∧
      (w.2.2 = none → h.2 = some e → ∃ t, exec (.gpWindowCompare r) s = .next t ∧ t = gpFault h.1 6 e s.gp.sig1 w.2.1 ∧ t.op.state = .safe)) ∧
    (s.gp.pass ≠ 0 → gpWorks s = true → s.gp.opened + 24000 ≤ s.time.mono → ∃ t a b, exec .gpPassTimeout s = .next t ∧ t = gpFault s 2 0xFF a b ∧ t.op.state = .safe) ∧
    (gpWorks s = true →
      exec (.comparatorProbe true) s = .next (bumpW { s with gp := { s.gp with probeBit := (s.gp.probeBit + 1) % 64, lastProbe := s.now } } 0x2940 7 0 1) ∧
      (∃ t, exec (.comparatorProbe false) s = .next t ∧ t = gpFault s 4 0xFF 0 0 ∧ t.op.state = .safe) ∧
      (cycleTriggered s cycle.val = false → s.gp.waiting.contains (cycleTask cycle.val) = false →
        exec (.gpCycle cycle) s = .next (gpOpen { s with gp := { s.gp with waiting := s.gp.waiting ++ [cycleTask cycle.val] } })))) ∧
  (∀ (s : State) (target : DebugTarget) (value : BitVec 32) (v : BitVec 32) (n : Fin 4) (bp : Bool),
    let s0 := gpOpen s;
    (gpDebug s0 = true → s0.gp.halted = false → s0.gp.pass ≠ 2 → (bp = true → s0.gp.breakpoints ≠ []) → exec (.debugHalt bp) s =
      .next (raise { s0 with gp := { s0.gp with halted := true, haltedAt := s0.time.mono } } 0x2904 1 0xFF (be 1 4))) ∧
    (gpDebug s = true → s.gp.halted = true →
      (s.gp.pass = 1 → exec .debugSingleStep s = .next { s with gp := { s.gp with retired := s.gp.retired + 1 } }) ∧
      exec .debugResume s = .next (gpOpen (serveMailbox (raise
        { s with gp := { s.gp with halted := false, opened := s.gp.opened + (s.time.mono - s.gp.haltedAt) } } 0x2904 1 0xFF (be 1 2))))) ∧
    (gpDebug s = true →
      (debugValue s target = some v → exec (.debugRead target) s = .next { s with out := .debug v :: s.out }) ∧
      (exec (.debugWrite (.breakpoint n) value) s = .next { s with gp := { s.gp with breakpoints := tput s.gp.breakpoints n.val value.toNat } }) ∧
      (((∃ k, target = .register k) ∨ (∃ k, target = .memory 0 k)) →
        let u := debugApply s false { kind := 6, point := 0, value := value, target := some target };
        (s.gp.pass = 1 → s.gp.replay.length < 128 → ∃ t point, exec (.debugWrite target value) s = .next t ∧ point < 2 ^ 20 ∧
          ({ kind := 6, point := point, value := value, target := some target } : ReplayEntry) ∈ t.gp.replay ∧ t.gp.regs = u.gp.regs ∧ t.gp.region1 = u.gp.region1) ∧
        (s.gp.pass ≠ 1 → exec (.debugWrite target value) s =
          .next { u with gp := { u.gp with later := u.gp.later ++ [{ kind := 6, point := 0, value := value, target := some target }] } }))))

/-- A Discovering device whose 300 ms have passed becomes Active, unless it has yielded: it then listens again. A presence
frame in Discovering makes the device Active where it alone is preferred, or neither or both are and its unit ID is
the lower, else it yields; an Active notes the peer. A cycle start notes the cycle; a device that is not Active sends
presence, and an Active with no deferred claim, away from a capsule instant, nothing. At a cycle end the cycle's own
digest is kept among the last four, and an Active sends it on both planes, the bodies alike but for the plane. A
Standby that takes a resign frame of its epoch or later takes over; it sends its health, which an Active keeps; an
Active that has heard nothing for 3 s notes the loss with event 2A05h. A frame that is not taken changes nothing
further. (R450, R451, R452, R458, R460, R462, R465, R467, R469) -/
def Obligations.PairRolesAndPresence : Prop :=
  ∀ (s : State) (port : Fin 38) (h : PairHeader) (preferred : Bool) (flags : BitVec 32) (margin cause : BitVec 8),
    (pairActs s = true →
      (s.pair.role = .discovering → s.pair.roleAt + 300000000 ≤ s.time.mono →
        (s.pair.yielded = false → exec .discoveryTimeout s = .next (setRole s .active 4)) ∧
        (s.pair.yielded = true → exec .discoveryTimeout s = .next { s with pair := { s.pair with yielded := false, roleAt := s.time.mono } })) ∧
      (let ended := s.pair.ownDone.any (fun e => e.1 == s.pair.cycleStart);
        let u := { s with pair := { s.pair with cycleStart := cyclePoint s, own := if ended then s.pair.own else Digest.zero } };
        (s.pair.role ≠ .active → exec .pairCycleStart s = .next (sendPair u 0 0x33 (be 1 (u.val 0x2A00 3)))) ∧
        (s.pair.role = .active → s.pair.deferred = none → s.time.tx / 1000000 % 100 ≠ 0 → exec .pairCycleStart s = .next u)) ∧
      (let done := s.pair.ownDone.filter (fun e => e.1 != s.pair.cycleStart) ++ [(s.pair.cycleStart, s.pair.own)];
        let u := { s with pair := { s.pair with ownDone := done.drop (done.length - 4), own := Digest.zero } };
        (s.pair.role ≠ .active → exec .pairCycleEnd s = .next u) ∧
        (s.pair.role = .active → ∃ b : Nat → Bytes, exec .pairCycleEnd s = .next (sendPair (sendPair u 1 0x31 (b 0)) 2 0x31 (b 1)) ∧
          ∀ k, b k = be 4 s.pair.cycleStart.toNat ++ be 4 s.pair.own.count.toNat ++ be 4 s.pair.own.sum.toNat ++ be 4 s.pair.own.xor.toNat ++
            be 2 s.pair.capsuleSeq.toNat ++ be 1 k ++ zeros 1)) ∧
      (s.pair.role = .standby → exec .healthFrameSend s = .next (sendPair s 0 0x34 (be 4 (healthFlags s) ++ be 1 (lowestMargin s) ++ zeros 3))) ∧
      (s.pair.role = .active → s.pair.peerLost = false → max s.pair.roleAt (s.pair.peerAt.getD 0) + 3000000000 ≤ s.time.mono →
        exec .peerLostTimeout s = .next (raise { s with pair := { s.pair with peerLost := true } } 0x2A05 3 0xFF (be 1 s.pair.peerRole)))) ∧
    (let r := pairTake s h 0x33 0;
      let me := r.1.on 0x2A00 3;
      (r.2 = false → exec (.presenceFrameReceived port h preferred) s = .next r.1) ∧
      (r.2 = true → r.1.pair.role = .discovering →
        (((me = true ∧ preferred = false) ∨ (me = preferred ∧ Config.unitId.toNat < beAt h.bytes 4 8)) →
          exec (.presenceFrameReceived port h preferred) s = .next (setRole r.1 .active 4)) ∧
        (¬ ((me = true ∧ preferred = false) ∨ (me = preferred ∧ Config.unitId.toNat < beAt h.bytes 4 8)) →
          exec (.presenceFrameReceived port h preferred) s = .next { r.1 with pair := { r.1.pair with yielded := true } })) ∧
      (r.2 = true → r.1.pair.role = .active → exec (.presenceFrameReceived port h preferred) s =
        .next (emcyCleared r.1 { r.1 with pair := { r.1.pair with peerLost := false, peerAt := some r.1.time.mono, peerRole := max 2 r.1.pair.peerRole } }))) ∧
    (let r := pairTake s h 0x32 cause.toNat;
      (r.2 = false → exec (.resignFrameReceived port h cause) s = .next r.1) ∧
      (r.2 = true → r.1.pair.role = .standby → r.1.pair.epoch.toNat ≤ beAt h.bytes 12 4 → exec (.resignFrameReceived port h cause) s = .next (takeover r.1 1))) ∧
    (let r := pairTake s h 0x34 0;
      (r.2 = false → exec (.healthFrameReceived port h flags margin) s = .next r.1) ∧
      (r.2 = true → r.1.pair.role = .active → exec (.healthFrameReceived port h flags margin) s = .next (emcyCleared r.1 { r.1 with pair := { r.1.pair with
        peerHealth := flags, peerMargin := margin, healthAt := some r.1.time.mono, peerAt := some r.1.time.mono, peerRole := 3, peerLost := false } })))

/-- A digest frame taken by an Active is a conflict of roles; taken by another device it is kept with its plane as the
newest of at most 32, and a Discovering device becomes Syncing. A synchronised Standby judges the oldest own cycle
that has ended 10 ms before: confirmed by both planes it is good and no failed cycle stands; confirmed by one, the
other plane's count and event 2A04h tell which is missing; denied by both, or both silent with no frame of its own, it
is a failed cycle; both silent with frames of its own raise event 2A08h. A first segment of a capsule taken in time by
a Syncing or Standby device is kept where more are to come; where it is the whole capsule, it is accepted when its
CRC-32 agrees and else rejected with reason 2; one too late is rejected with reason 1, as is a capsule not complete
when its time ends. A device that has accepted none for 1 s shows it and stops its hold-off. (R457, R461, R462, R463,
R464) -/
def Obligations.PairDigestsAndCapsules : Prop :=
  ∀ (s : State) (port : Fin 38) (h : PairHeader) (d : DigestBody) (seg : CapsuleSegment) (c : CapsuleIn) (g : T32) (own a b : Digest),
    (let plane := if planeOf s port.val = 0 then byteAt d.bytes 18 else planeOf s port.val - 1;
      let r := pairTake s h 0x31 plane;
      let entry := (BitVec.ofNat 32 (beAt d.bytes 0 4), plane,
        { count := BitVec.ofNat 32 (beAt d.bytes 4 4), sum := BitVec.ofNat 32 (beAt d.bytes 8 4), xor := BitVec.ofNat 32 (beAt d.bytes 12 4) : Digest });
      let kept := { r.1 with pair := { r.1.pair with digests := (r.1.pair.digests ++ [entry]).drop (r.1.pair.digests.length + 1 - 32), heard := true } };
      (r.2 = false → exec (.digestFrameReceived port h d) s = .next r.1) ∧
      (r.2 = true →
        (r.1.pair.role = .active → exec (.digestFrameReceived port h d) s = .next (roleConflict r.1 h)) ∧
        (r.1.pair.role = .discovering → exec (.digestFrameReceived port h d) s = .next (setRole kept .syncing 2)) ∧
        ((r.1.pair.role = .syncing ∨ r.1.pair.role = .standby) → exec (.digestFrameReceived port h d) s = .next kept))) ∧
    (pairActs s = true → s.pair.role = .standby → (s.time.sync = 2 ∨ s.time.sync = 4) →
      s.pair.ownDone.find? (fun e => decide (pairPeriod s + 10000000 ≤ (s.now - e.1).toNat)) = some (g, own) →
      let u := { s with pair := { s.pair with
        ownDone := s.pair.ownDone.filter (fun e => e.1 != g), heard := false,
        digests := s.pair.digests.filter (fun e => e.1 != g) } };
      let good := { u with pair := { u.pair with failed := 0 } };
      let of := fun (plane : Nat) => s.pair.digests.find? (fun e => e.1 == g && e.2.1 == plane);
      let missing := fun (t : State) (plane sub : Nat) => raise (bump t 0x2A10 sub) 0x2A04 2 0xFF (be 1 plane ++ be 4 g.toNat);
      (of 0 = some (g, 0, a) → of 1 = some (g, 1, b) →
        (a = own → b = own → exec .cycleJudgement s = .next good) ∧
        (¬ (a = own ∧ b = own) → exec .cycleJudgement s = .next (failedCycle u 3))) ∧
      (of 0 = none → of 1 = some (g, 1, b) →
        (b = own → exec .cycleJudgement s = .next (missing good 0 6)) ∧
        (b ≠ own → exec .cycleJudgement s = .next (failedCycle (missing u 0 6) 3))) ∧
      (of 0 = some (g, 0, a) → of 1 = none →
        (a = own → exec .cycleJudgement s = .next (missing good 1 7)) ∧
        (a ≠ own → exec .cycleJudgement s = .next (failedCycle (missing u 1 7) 3))) ∧
      (of 0 = none → of 1 = none →
        (own.count = 0 → exec .cycleJudgement s = .next (failedCycle u 2)) ∧
        (own.count ≠ 0 → exec .cycleJudgement s = .next (raise good 0x2A08 2 0xFF (be 4 g.toNat))))) ∧
    (let w := seg.bytes;
      let r := pairTake s h 0x30 (beAt w 0 4);
      let inst := BitVec.ofNat 32 (beAt w 8 4);
      let one : CapsuleIn := {
        seq := BitVec.ofNat 16 (beAt w 0 2), instant := inst, total := beAt w 4 2, check := BitVec.ofNat 32 (beAt w 12 4),
        handover := byteAt w 6 % 2 == 1, segments := [(beAt w 2 2, slice w 16 1024)], dead := false };
      let kept := { r.1 with pair := { r.1.pair with capsules := [one] } };
      let late := (r.1.time.sync = 2 ∨ r.1.time.sync = 4) ∧ pastT32 (inst + 50000000) r.1.now = true;
      (r.2 = false → exec (.capsuleSegmentReceived port h seg) s = .next r.1) ∧
      (r.2 = true → r.1.pair.role = .active → exec (.capsuleSegmentReceived port h seg) s = .next (roleConflict r.1 h)) ∧
      (r.2 = true → (r.1.pair.role = .syncing ∨ r.1.pair.role = .standby) → r.1.pair.capsules = [] →
        (late → exec (.capsuleSegmentReceived port h seg) s = .next (rejectCapsule kept one 1)) ∧
        (¬ late → 1 < beAt w 4 2 → exec (.capsuleSegmentReceived port h seg) s = .next kept) ∧
        (¬ late → beAt w 4 2 ≤ 1 → crc32 (slice w 16 1024) = one.check → exec (.capsuleSegmentReceived port h seg) s = .next (acceptCapsule kept one (slice w 16 1024))) ∧
        (¬ late → beAt w 4 2 ≤ 1 → crc32 (slice w 16 1024) ≠ one.check → exec (.capsuleSegmentReceived port h seg) s = .next (rejectCapsule kept one 2)))) ∧
    (s.pair.capsules.find? (fun c => !c.dead && (!(decide (s.time.sync = 2 ∨ s.time.sync = 4)) || dueT32 (c.instant + 50000000) s.now)) = some c →
      pairActs s = true → exec .capsuleAcceptTimeout s = .next (rejectCapsule s c 1)) ∧
    (pairActs s = true → (s.pair.role = .syncing ∨ s.pair.role = .standby) → max s.pair.roleAt (s.pair.acceptedAt.getD 0) + 1000000000 ≤ s.time.mono →
      exec .noCapsuleAccepted s = .next { s with pair := { s.pair with noCapsule := true, standbySince := none } })

/-- A preferred Standby in revertive mode with no claim out sends its claim with cause 1 when its hold-off has passed; a
Standby without a claim that takes a claim request sends one with cause 2; an Active that takes a claim or a claim
request handles it. A write of 2A00h.0E sends the request on an Active with a Standby present and is answered 0; with
another role or no Standby it is answered 0x0F. At H an Active that is emergency active defers; else it hands over,
and begins the pause of an activation that was waiting for it. A Standby whose claim's 50 ms after H have passed takes
over, and where the last capsule says that the peer defers drops its claim. (R466, R467) -/
def Obligations.PairHandovers : Prop :=
  ∀ (s : State) (port : Fin 38) (h : PairHeader) (cause : BitVec 8) (ses : SessionNo) (H : T32) (k : Nat) (cap : Capsule),
    (pairActs s = true → s.pair.role = .standby →
      (∀ t0, s.val 0x2A00 4 = 1 → s.on 0x2A00 3 = true → s.pair.claim = none → s.pair.standbySince = some t0 → t0 + s.val 0x2A00 5 * 1000000000 ≤ s.time.mono →
        exec .returnHoldOffExpiry s = .next (sendClaim s 1)) ∧
      (s.pair.claim = some (H, k) → dueT32 (H + 50000000) s.now = true →
        (s.pair.lastCapsule = none → exec .handoverCapsuleTimeout s = .next (handoverIn s H k)) ∧
        (s.pair.lastCapsule = some cap → byteAt (sectionAt cap.body 1) 13 = 1 →
          exec .handoverCapsuleTimeout s = .next { s with pair := { s.pair with claim := none } }) ∧
        (s.pair.lastCapsule = some cap → byteAt (sectionAt cap.body 1) 13 ≠ 1 → exec .handoverCapsuleTimeout s = .next (handoverIn s H k)))) ∧
    (WriteAllowed s ses 0x2A00 0x0E [1] →
      (pairActs s = true → s.pair.role = .active → standbyPresent s = true →
        exec (.swap ses 1) s = .next (emit (sendPair s 0 0x35 (be 1 2)) (.answer (.session ses) 0 []))) ∧
      ((pairActs s = false ∨ s.pair.role ≠ .active ∨ standbyPresent s = false) → exec (.swap ses 1) s = .next (emit s (.answer (.session ses) 0x0F [])))) ∧
    (let r := pairTake s h 0x35 2;
      (r.2 = false → exec (.claimRequestReceived port h) s = .next r.1) ∧
      (r.2 = true → r.1.pair.role = .active → exec (.claimRequestReceived port h) s = .next (claimed r.1 2)) ∧
      (r.2 = true → r.1.pair.role = .standby → r.1.pair.claim = none → exec (.claimRequestReceived port h) s = .next (sendClaim r.1 2))) ∧
    (let r := pairTake s h 0x35 cause.toNat;
      (r.2 = false → exec (.claimFrameReceived port h cause) s = .next r.1) ∧
      (r.2 = true → r.1.pair.role = .active → exec (.claimFrameReceived port h cause) s = .next (claimed r.1 cause.toNat))) ∧
    (s.pair.handover = some (H, k) → pairActs s = true → s.pair.role = .active → dueT32 H s.now = true →
      (s.aud.emergency = true → exec .handoverInstant s = .next { s with pair := { s.pair with handover := none, deferred := some k } }) ∧
      (s.aud.emergency = false → (handoverOut s H k).upd.activating ≠ 1 → exec .handoverInstant s = .next (handoverOut s H k)) ∧
      (s.aud.emergency = false → (handoverOut s H k).upd.activating = 1 → exec .handoverInstant s = .next (startPause (handoverOut s H k))))

/-- Outside sleep a scrub step without errors on a page below the limit marks its page known and goes on, and after the
last of the 116,480 pages starts again at page 0 with a pass counted. The daily append hands the page counts to the
journal. A single request of a valid size is placed by its class and served in pool cycles; one of size 0 or above
1,048,576 is refused with reason 4. A free whose handle stands returns the buffer, a give hands it to its new owner
with the previous one and the time; a handle that does not stand is rejected for either. A misuse record read answers
the record at the session's position and moves it on, or zeros where there is none. (R479, R480, R487, R488, R489,
R490) -/
def Obligations.MemoryScrubAndPool : Prop :=
  ∀ (s : State) (o d : Fin 32) (size h : BitVec 32) (climb : Bool) (ses : SessionNo),
    (s.op.state ≠ .lightSleep → s.op.state ≠ .deepSleep → tnat s.dram.counts (servingPage s s.dram.position 4096) < s.val 0x2600 2 →
      let u := touchPage s (servingPage s s.dram.position 4096);
      (s.dram.position + 1 < 116480 → exec (.scrubStep []) s = .next { u with dram := { u.dram with position := s.dram.position + 1 } }) ∧
      (116480 ≤ s.dram.position + 1 → exec (.scrubStep []) s =
        .next (bumpW { u with dram := { u.dram with position := 0, lastPass := u.time.tx } } 0x2B20 7 0 1))) ∧
    (exec .pageCountsDailyAppend s = .next (jAppend s (.pageCounts s.dram.counts) .nobody)) ∧
    (size ≠ 0 → size.toNat ≤ 1048576 → exec (.poolRequest [{ owner := o, size := size, climb := climb }]) s =
      .next (poolCycles s s [{ owner := o.val, cls := classFor size.toNat, climb := climb, place := 0 }] 7)) ∧
    ((size = 0 ∨ 1048576 < size.toNat) → exec (.poolRequest [{ owner := o, size := size, climb := climb }]) s =
      .next (emit (poolFail s o.val 0 4) (.pool o.val none))) ∧
    (∀ k, handleCheck s o.val h false = .inl k → exec (.poolFree o h) s = .next (rejectHandle s o.val h k.1 k.2)) ∧
    (∀ t, handleCheck s o.val h false = .inr t → exec (.poolFree o h) s = .next (returnBuffer s (handleClass h) (handleIndex h) t)) ∧
    (∀ k, handleCheck s o.val h true = .inl k → exec (.poolGive o h d) s = .next (rejectHandle s o.val h k.1 k.2)) ∧
    (∀ t, handleCheck s o.val h true = .inr t → exec (.poolGive o h d) s =
      .next (setClass s (handleClass h) { poolClass s (handleClass h) with
        tags := tput (poolClass s (handleClass h)).tags (handleIndex h) { t with owner := d.val, prev := o.val, stamp := s.now } })) ∧
    (ReadAllowed s ses 0x2B61 2 →
      let pos := getOwn s ses.val 0x2B61 1;
      let at_ := (BitVec.ofNat 32 pos - BitVec.ofNat 32 (s.pool.misuseNext - BitVec.ofNat 32 s.pool.misuse.length).toNat).toNat;
      (s.pool.misuse.length ≤ at_ → exec (.misuseRecordRead ses) s = .next (emit s (.answer (.session ses) 0 (zeros 16)))) ∧
      (∀ x, at_ < s.pool.misuse.length → s.sessions[ses.val]? = some x → x.misuseLost = false → ∃ t, exec (.misuseRecordRead ses) s =
        .next (emit t (.answer (.session ses) 0 ((s.pool.misuse[at_]?).getD (zeros 16)))) ∧
        t = { setOwn s ses.val 0x2B61 1 ((pos + 1) % 2 ^ 32) with sessions := t.sessions }))

/-- While the journal is served, the oldest waiting record is placed with its read-back's outcome, or answered 0x0F where
the journal is full, and with none waiting nothing changes; a compaction whose checkpoint is sealed ends, and an
hour's append counts one more hour and hands it to the journal. Outside Start and sleep the health report shows its
flags, its time and the time uncertainty after the margin events. An Inclusion read answers the record at the
session's position, or zeros where there is none. (R507, R512, R513, R517, R519) -/
def Obligations.JournalWearAndHealth : Prop :=
  ∀ (s : State) (ok : Bool) (ses : SessionNo) (b : JBody) (dest : ReplyTo) (rest : List (JBody × ReplyTo)) (blk used : Nat) (fill : Nat),
    (journalServed s = true →
      (s.jour.waiting = [] → exec (.journalRecordWrite ok) s = .next s) ∧
      (s.jour.waiting = (b, dest) :: rest →
        (s.jour.state = 2 → exec (.journalRecordWrite ok) s = .next (reply { s with jour := { s.jour with waiting := rest } } dest 0x0F [])) ∧
        (s.jour.state ≠ 2 → placeRecord s (recordSize b) = some (blk, used, fill) →
          let r : JRec := { seq := s.jour.seq, body := b, block := (s.jour.blocks[blk]?).getD 0, sealed := ok };
          let j := { s.jour with recs := s.jour.recs ++ [r], seq := s.jour.seq + 1, inUse := used, fill := fill };
          (ok = true → exec (.journalRecordWrite ok) s =
            .next (compactIfLow (recordSealed (bumpW { s with jour := { j with waiting := rest } } 0x2660 3 0 1) b dest))) ∧
          (ok = false → exec (.journalRecordWrite ok) s =
            .next (compactIfLow (flashWorn { s with jour := j } ((s.jour.blocks[blk]?).getD 0) 2 1 []))))) ∧
      (s.jour.state = 1 → checkpointSealed s = true → exec .journalCompactionComplete s = .next (endCompaction s)) ∧
      exec .hoursPoweredAppend s = .next (jAppend { s with wear := { s.wear with hours := s.wear.hours + 1 } } (.hours (s.wear.hours + 1)) .nobody)) ∧
    (s.op.state ≠ .start → s.op.state ≠ .lightSleep → s.op.state ≠ .deepSleep →
      let u := (List.range 3).foldl (fun t c => marginEvents t c false) s;
      exec .healthReportUpdate s = .next { u with wear := { u.wear with report := BitVec.ofNat 32 (reportFlags u), reportAt := u.now, uncertainty := BitVec.ofNat 32 (timeUncertainty u) } }) ∧
    (ReadAllowed s ses 0x2620 2 →
      let pos := getOwn s ses.val 0x2620 1;
      let next := BitVec.ofNat 32 (s.wear.inclusionNo + 1);
      let at_ := (BitVec.ofNat 32 pos - BitVec.ofNat 32 (next - BitVec.ofNat 32 s.wear.inclusions.length).toNat).toNat;
      (s.wear.inclusions.length ≤ at_ → exec (.inclusionRead ses) s = .next (emit s (.answer (.session ses) 0 (zeros 48)))) ∧
      (∀ e x, s.wear.inclusions[at_]? = some e → s.sessions[ses.val]? = some x → x.inclLost = false → ∃ t, exec (.inclusionRead ses) s =
        .next (emit t (.answer (.session ses) 0 e.2)) ∧ t = { setOwn s ses.val 0x2620 1 ((pos + 1) % 2 ^ 32) with sessions := t.sessions }))

/-- Each command of 2700h.01 that passes the object server's checks: BEGIN_STAGING, where nothing bars staging, sets the
target bank to Staging and empty and waits for the erase; VERIFY_IMAGE of a Staging, Staged or Failed bank makes it
Staged with event 2701h and answers 0 where the image has no fault, else Failed with result 0x0D and the reason of the
first fault; DISCARD_BANK of a Staging, Staged or Failed bank makes it Empty and answers 0; CONFIRM_IMAGE confirms the
Trial bank and answers 0; ACTIVATE_IMAGE of a Staged bank in Normal or Commissioning, with nothing against it, and
REVERT_TO_PREVIOUS of a good Previous bank outside Recovery start the activation pause, or, on an Active of the Pair
with its Standby present, ask for the handover first. The end of an erase without failed blocks answers command 1 with
0 and leaves no erase running. A part write that passes the checks into a bank in Staging, with nothing barring
staging and no failed block, stores the part and is answered 0; into a bank not in Staging it is answered 0x0F with
reason 9. A handover before an activation that has taken 1 s ends the activation with event 2704h and result 0x0F. In
the activation pause a phase report is its phase's end; phase 2 of a good image runs the new bank. A Trial bank that
has been in Normal for the trial time is confirmed. A write of 0x4C4F_434B to the field lock in Commissioning that
passes the checks blows the fuse with event 2707h. A write of 0 or 1 to Recovery's target bank that passes the checks
in Recovery sets the target. (R524, R530, R531, R532, R533, R537, R534, R539, R540) -/
def Obligations.ImageCommandsOf2700h : Prop :=
  (∀ (s : State) (ses : SessionNo) (b : Nat),
    let tb := s.upd.target;
    let answered := fun (u : State) (code reason : Nat) =>
      emit { u with upd := { u.upd with lastResult := BitVec.ofNat 8 code, failReason := BitVec.ofNat 8 reason } } (.answer (.session ses) (BitVec.ofNat 8 code) []);
    let begun := fun (n cmd : Nat) =>
      let u := { s with upd := { s.upd with newBank := n, oldBank := s.upd.running, lastCommand := BitVec.ofNat 8 cmd, activator := .session ses } };
      if pairActs s = true ∧ s.pair.role = .active ∧ standbyPresent s = true
        then sendPair { u with upd := { u.upd with activating := 1, pauseStart := s.time.mono } } 0 0x35 (be 1 2) else startPause u;
    (WriteAllowed s ses 0x2700 1 [1] → stagingBarred s = false → exec (.beginStaging ses) s =
      .next (setBank { s with upd := { s.upd with erasing := some (.session ses) } } tb (fun x => { x with state := .staging, parts := [] }))) ∧
    (WriteAllowed s ses 0x2700 1 [2] → stagingBarred s = false → ((bankOf s tb).state = .staging ∨ (bankOf s tb).state = .staged ∨ (bankOf s tb).state = .failed) →
      let v := imageOf { bankOf s tb with state := .staging };
      let r := verifyReason s v;
      (r = 0 → exec (.verifyImage ses) s =
        .next (answered (raise (setBank s tb (fun x => { x with state := .staged })) 0x2701 1 0xFF (be 1 tb ++ versionText v ++ be 1 (byteAt v 12))) 0 0)) ∧
      (r ≠ 0 → exec (.verifyImage ses) s = .next (answered (setBank s tb (fun x => { x with state := .failed })) 0x0D r))) ∧
    (WriteAllowed s ses 0x2700 1 [5] → ((bankOf s tb).state = .staging ∨ (bankOf s tb).state = .staged ∨ (bankOf s tb).state = .failed) → s.upd.activating = 0 →
      s.upd.erasing = none → exec (.discardBank ses) s = .next (answered (setBank s tb (fun x => { x with state := .empty, parts := [] })) 0 0)) ∧
    (WriteAllowed s ses 0x2700 1 [4] → bankIn s .trial = some b → exec (.confirmImage ses) s = .next (answered (confirm s b) 0 0)) ∧
    (WriteAllowed s ses 0x2700 1 [3] → (s.op.state = .normal ∨ s.op.state = .commissioning) → activationBar s = none → (bankOf s tb).state = .staged →
      exec (.activateImage ses) s = .next (begun tb 3)) ∧
    (WriteAllowed s ses 0x2700 1 [6] → s.op.state ≠ .recovery → activationBar s = none → (bankOf s (1 - s.upd.running)).state = .previous →
      verifyReason s (imageOf (bankOf s (1 - s.upd.running))) = 0 → exec (.revertToPrevious ses) s = .next (begun (1 - s.upd.running) 6))) ∧
  (∀ (s : State) (ses : SessionNo) (part : Fin 6) (data : Bytes) (dest : ReplyTo) (r : PhaseReport) (b t0 : Nat) (v8 : BitVec 8),
    (s.upd.erasing = some dest → ∃ u, exec (.stagingEraseComplete []) s = .next (reply { u with upd := { u.upd with lastResult := 0, failReason := 0 } } dest 0 []) ∧
      u = (List.range 191).foldl (fun t n => eraseBlock t (192 * s.upd.target + n)) { s with upd := { s.upd with erasing := none } }) ∧
    (WriteAllowed s ses 0x2710 (part.val + 1) data → stagingBarred s = false →
      ((bankOf s s.upd.target).state = .staging → exec (.imagePartWrite ses part data none) s =
        .next (emit (setBank s s.upd.target (fun x => { x with parts := tput x.parts part.val data })) (.answer (.session ses) 0 []))) ∧
      ((bankOf s s.upd.target).state ≠ .staging → exec (.imagePartWrite ses part data none) s =
        .next (emit { s with upd := { s.upd with failReason := 9 } } (.answer (.session ses) 0x0F [])))) ∧
    (s.upd.activating = 1 → s.upd.pauseStart + 1000000000 ≤ s.time.mono → ∃ u, exec .activationHandoverTimeout s = .next (reply u s.upd.activator 0x0F []) ∧
      u = raise { s with upd := { s.upd with activating := 0, lastResult := 0x0F, activator := .nobody }, pair := { s.pair with handover := none, deferred := none } }
        0x2704 2 0xFF (be 1 4)) ∧
    (s.upd.activating = 2 → exec (.activationPausePhaseComplete r) s = .next (pausePhase s r) ∧
      (r = .done → s.upd.phase = 2 → exec (.activationPausePhaseComplete r) s =
        .next { s with upd := { s.upd with phase := 3, running := s.upd.newBank, target := s.upd.oldBank } })) ∧
    (bankIn s .trial = some b → s.upd.normalSince = some t0 → s.op.state = .normal → s.val 0x2700 8 ≠ 0 → t0 + s.val 0x2700 8 * 1000000000 ≤ s.time.mono →
      s.upd.activating ≠ 2 → exec .trialTimeExpiry s = .next (confirm s b)) ∧
    (WriteAllowed s ses 0x2700 0x0A (be 4 0x4C4F434B) → s.op.state = .commissioning → s.upd.lockFuse = false → exec (.fieldLockRequest ses 0x4C4F434B) s =
      .next (emit (raise { s with upd := { s.upd with lockFuse := true } } 0x2707 2 0xFF []) (.answer (.session ses) 0 []))) ∧
    (WriteAllowed s ses 0x2700 0x0B (be 1 v8.toNat) → s.op.state = .recovery → v8.toNat ≤ 1 → exec (.recoveryTargetWrite ses v8) s =
      .next (emit { s with upd := { s.upd with target := v8.toNat } } (.answer (.session ses) 0 []))))

/-- A doorbell of 1 on a free mailbox whose request names a documented object counts it, makes the mailbox busy with the
request and runs it; one on a busy mailbox is counted and sets HSTS bit 7. When its result stands, the answer is
written with its header, the mailbox is free and HSTS bit 0 is set. A write of ones to HSTS clears exactly bits 0, 5,
6 and 7 named. SPI_READ and SPI_WRITE of a good frame, with no request or answer waiting, run their actions on the SPI
target; SPI_FETCH_ANSWER sends the answer's bytes, as many as are clocked of those wanted, and all of it clocked
removes it; a finished SPI request's answer waits with its code, echo, length and check; a status read clears the
error flags. (R549, R550, R559, R560, R561, R562) -/
def Obligations.MailboxAndSpiAnswer : Prop :=
  ∀ (s : State) (hdr win : Bytes) (v : BitVec 32) (code : Byte) (data frame f : Bytes) (n : Nat),
    (let u := bumpW { s with host := { s.host with mailbox := padTo 16 hdr, window := padTo 1200 win, sts := s.host.sts &&& 0xFFFFFFFE, busy := true, result := none } } 0x2810 3 0 1;
      hostReaches s = true → s.host.busy = false → undocumented u 17 (beAt (padTo 16 hdr) 4 2) = false →
      exec (.mailboxDoorbell 1 hdr win) s = .next (hostEdges (mailboxRun u))) ∧
    (s.host.busy = true → s.host.result = some (code, data) → ∃ u, exec .mailboxAnswerReady s = .next (hostEdges (hostSignal u 0)) ∧
      u.host.busy = false ∧ u.host.window = data ++ s.host.window.drop data.length ∧ u = { s with host := u.host } ∧
      u.host.answer = [1] ++ be 1 (byteAt s.host.mailbox 1 ||| 0x80) ++ slice s.host.mailbox 2 5 ++ [code] ++ slice s.host.mailbox 8 4 ++ be 2 data.length ++ zeros 2) ∧
    (hostReaches s = true → s.host.busy = true → exec (.mailboxDoorbell 1 hdr win) s = .next (hostSignal (bump s 0x2810 4) 7)) ∧
    (hostReaches s = true → exec (.hstsClear v) s = .next { s with host := { s.host with sts := s.host.sts &&& ~~~ (v &&& 0xE1) } }) ∧
    (served s = true → ∃ t, exec .spiStatus s = .next t ∧ t.spi.crcError = false ∧ t.spi.refused = false) ∧
    (let len := beAt frame 4 2;
      spiFree s = true →
      (spiUndocumented s frame 1 = false → (len = 0 ∨ len = 6) → SpiFrameGood s frame 1 len = true → exec (.spiRead frame) s = .next (spiReadAct frame (spiTaken s))) ∧
      (spiUndocumented s frame 2 = false → len ≤ 1200 → SpiFrameGood s frame 2 len = true → exec (.spiWrite frame) s = .next (spiWriteAct frame (spiTaken s)))) ∧
    (SpiFrameGood s frame 0x10 0 = true → s.spi.answer = some f →
      let m := min n (beAt frame 4 2);
      (m < f.length → exec (.spiFetchAnswer frame n) s = .next (emit (spiTaken s) (.spi (0xFF :: f.take m)))) ∧
      (f.length ≤ m → ∃ t, exec (.spiFetchAnswer frame n) s = .next t ∧ t.spi.answer = none ∧ t = { emit (spiTaken s) (.spi (0xFF :: f)) with spi := t.spi })) ∧
    (s.spi.request = some f → s.spi.result = some (code, data) →
      let b := [code] ++ slice f 1 3 ++ be 2 data.length ++ data;
      exec .spiAnswerReady s = .next { s with spi := { s.spi with request := none, result := none, answer := some (b ++ be 2 (crcCcitt b)) } })

/-- For a check-value unit that the interface reaches and whose claim is free or its own: a CVCFG of width 3 to 32 is
stored and clears the configuration error, one of a smaller or larger width is ignored and sets it; CVPOLY, CVINIT,
CVXOR and CVVAL keep the low w bits written; a start loads the running value with the low w bits of CVINIT; a claim
stores the interface and a release frees the unit; a fed byte, half-word or word runs its bytes through the unit in
the order CVCFG names. Nothing but that unit changes. While another interface holds the claim, each of these writes is
ignored and counted. A unit set up for the 32-bit reflected CRC shows, after a start and after every string of bytes
fed one by one, CRC-32/ISO-HDLC of that string. For a served target and a frame whose length and check are good,
SPI_REGISTER_WRITE to a check-value unit's window writes that register as claim holder 2, SPI_REGISTER_READ returns
all ones for an index outside the windows and the register's value inside, followed by its check, and SPI_TARGET_RESET
resets the target. A frame that is not good leaves the units, the waiting request and the waiting answer as they are.
(R493, R494, R495, R496, R559, R561) -/
def Obligations.CheckValueUnitsRun : Prop :=
  ((∀ (s : State) (u : Fin 4) (src : CvuSource) (reg : Fin 5) (v8 : BitVec 8) (v16 : BitVec 16) (v32 : BitVec 32),
    let c := cvuOf s u.val;
    let becomes := fun (cmd : Instr) (d : Cvu) => exec cmd s = .next { s with cvu := s.cvu.set u.val d };
    let wide := 2 ≤ bitsOf v32.toNat 5 0 ∧ bitsOf v32.toNat 5 0 ≤ 31;
    let ignored := fun (cmd : Instr) => becomes cmd { c with ignored := min 65535 (c.ignored + 1) };
    cvuReaches u.val src = true →
    (c.claim = 0 ∨ c.claim = cvuHolder src →
      (wide → becomes (.cvuConfigWrite u src 0 v32) { c with cfg := v32 &&& 0x1FF, cfgError := false }) ∧
      (¬ wide → becomes (.cvuConfigWrite u src 0 v32) { c with cfgError := true }) ∧
      becomes (.cvuConfigWrite u src 1 v32) { c with poly := cvuMask c v32 } ∧ becomes (.cvuConfigWrite u src 2 v32) { c with init := cvuMask c v32 } ∧
      becomes (.cvuConfigWrite u src 3 v32) { c with xor := cvuMask c v32 } ∧ becomes (.cvuConfigWrite u src 4 v32) { c with value := cvuMask c v32 } ∧
      becomes (.cvuStart u src) { c with value := cvuMask c c.init } ∧
      becomes (.cvuClaim u src) { c with claim := cvuHolder src } ∧ becomes (.cvuRelease u src) { c with claim := 0 } ∧
      becomes (.cvuFeedByte u src v8) (cvuByte c v8.toNat) ∧
      becomes (.cvuFeedHalfWord u src v16) ((cvuBytes c 2 v16.toNat).foldl cvuByte c) ∧
      becomes (.cvuFeedWord u src v32) ((cvuBytes c 4 v32.toNat).foldl cvuByte c)) ∧
    (c.claim ≠ 0 → c.claim ≠ cvuHolder src →
      ignored (.cvuConfigWrite u src reg v32) ∧ ignored (.cvuStart u src) ∧ ignored (.cvuClaim u src) ∧ ignored (.cvuRelease u src) ∧
      ignored (.cvuFeedByte u src v8) ∧ ignored (.cvuFeedHalfWord u src v16) ∧ ignored (.cvuFeedWord u src v32))) ∧
  (∀ (c : Cvu) (b : Bytes), c.cfg = 0xDF → c.poly = 0x04C11DB7 → c.init = 0xFFFFFFFF → c.xor = 0xFFFFFFFF →
    cvuResult (b.foldl (fun d x => cvuByte d x.toNat) (cvuLoad c)) = crc32 b)) ∧
  (∀ (s : State) (frame : Bytes) (unit off : Nat),
    let u := spiTaken s;
    let v := match spiUnit (spiIndex frame) with | some (n, o) => cvuRegRead u n o | none => 0xFFFFFFFF;
    (spiUnit (spiIndex frame) = some (unit, off) → SpiFrameGood s frame 0x20 4 = true → beAt frame 4 2 = 4 → exec (.spiRegisterWrite frame) s =
      .next (cvuRegWrite u unit .spi off (BitVec.ofNat 32 (beAt frame 6 4)))) ∧
    (SpiFrameGood s frame 0x21 0 = true → beAt frame 4 2 = 0 → exec (.spiRegisterRead frame) s =
      .next (emit u (.spi ([0xFF] ++ be 4 v.toNat ++ be 2 (crcCcitt (be 4 v.toNat)))))) ∧
    (SpiFrameGood s frame 0x7F 0 = true → beAt frame 4 2 = 0 → exec (.spiTargetReset frame) s = .next (spiReset u)) ∧
    (SpiFrameGood s frame 0x20 4 = false → ∃ t, exec (.spiRegisterWrite frame) s = .next t ∧ t.cvu = s.cvu ∧ t.spi.request = s.spi.request ∧ t.spi.answer = s.spi.answer) ∧
    (SpiFrameGood s frame 0x7F 0 = false → ∃ t, exec (.spiTargetReset frame) s = .next t ∧ t.cvu = s.cvu ∧ t.spi.request = s.spi.request ∧ t.spi.answer = s.spi.answer))

/-- Where the host reaches the window outside Recovery: a request while none is open is decided as owner 8 and shows done
with the handle, or done and failed (cause 2 for a bad size, else 0); a free and a give are the Pool Manager's
operations as owner 8 with the fault shown in HPFST, and a buffer so returned or given is no longer read through the
aperture; a read through an open aperture (with the selection and the offset in force, or as written with it) returns
the four bytes at HPAOFF, least significant first, and a write stores them, each moving HPAOFF on; through a closed
one a read returns all ones, and each is counted. A link that may train comes up at its rate in D0 with event 2801h;
session 17 opens with the role of 2110h.04 where it was closed, and HOST's port changes to up. A link that is up goes
down: the interface is reset, the session closed, the buffers of owner 8 and of the rings reclaimed, HOST's frames
discarded, the loss counted and event 2801h raised. On a link that is up, the host's power state is stored and HOST
frames that no longer leave are discarded. (R551, R115, R552, R557, R576) -/
def Obligations.HostPoolAndAperture : Prop :=
  (∀ (s : State) (v dest : BitVec 32) (h : BitVec 32) (ap : Option (BitVec 32 × BitVec 32)),
    poolServed s = true →
    (hpDone s = true → let r := poolRequestOne s 8 (bitsOf v.toNat 20 0) (v.getLsbD 31)
      let cause : BitVec 32 := if bitsOf v.toNat 20 0 = 0 ∨ 1048576 < bitsOf v.toNat 20 0 then 2 else 0;
      (r.2 = some h → exec (.hpreqWrite v) s = .next { r.1 with host := { r.1.host with pres := 0x80000000, phdl := h } }) ∧
      (r.2 = none → exec (.hpreqWrite v) s = .next { r.1 with host := { r.1.host with pres := 0xC0000000 ||| cause } })) ∧
    (let fault := fun (give : Bool) => match handleCheck s 8 v give with | .inl k => BitVec.ofNat 32 k.1 | .inr _ => 0;
      let held := fun (give : Bool) => if fault give = 0 then
        { s with host := { s.host with buffers := s.host.buffers.filter (fun e => decide (e.1 / 2 ^ 21 ≠ v.toNat)) } } else s;
      let freed := poolFreeOp (held false) 8 v;
      let given := poolGiveOp (held true) 8 v (dest.toNat % 32);
      exec (.hpfreeWrite v) s = .next { freed with host := { freed.host with pfst := fault false } } ∧
      exec (.hpgiveWrite v dest) s = .next { given with host := { given.host with pfst := fault true, pgto := dest } }) ∧
    (let u := setAperture s ap;
      let moved := fun (t : State) => { t with host := { t.host with paoff := u.host.paoff + 4 } };
      (apertureOpen u = true →
        exec (.hpadatRead ap) s = .next (moved (emit u (.register (BitVec.ofNat 32
          ((List.range 4).foldl (fun n i => n + (bufferByte u u.host.pasel (u.host.paoff.toNat + i)).toNat * 256 ^ i) 0))))) ∧
        (∃ t, exec (.hpadatWrite ap v) s = .next (moved t) ∧ t = { u with host := { u.host with buffers := t.host.buffers } } ∧
          (sortedKeys s.host.buffers = true → ∀ i < 4, tget t.host.buffers (apertureKey u.host.pasel (u.host.paoff.toNat + i)) = some (BitVec.ofNat 8 (v.toNat / 256 ^ i))))) ∧
      (apertureOpen u = false →
        exec (.hpadatRead ap) s = .next (moved (emit (bump u 0x2810 0x0B) (.register 0xFFFFFFFF))) ∧
        exec (.hpadatWrite ap v) s = .next (moved (bump u 0x2810 0x0B))))) ∧
  (∀ (s : State) (rate : Fin 4) (d3 : Bool),
    (linkMayTrain s = true → isOpen s 17 = false → s.op.state ≠ .recovery →
      let u := raise (openSession { s with host := { s.host with link := 1, rate := BitVec.ofNat 8 rate.val, d3hot := false } } 17 (s.val 0x2110 4) 4)
        0x2801 1 0xFF (be 1 1 ++ be 1 rate.val);
      (linkIsUp u 38 = false → exec (.pcieLinkUp rate) s = .next (linkChanged u 38 1 0)) ∧
      (linkIsUp u 38 = true → exec (.pcieLinkUp rate) s = .next u)) ∧
    (s.host.link ≠ 0 →
      let u := reclaim (interfaceReset (closeSession s 17 6)) (fun t => t.owner == 8 || decide (16 ≤ t.owner));
      let w := { u with host := { u.host with link := 0, rate := 0, d3hot := false, busMaster := false } };
      exec .pcieLinkDown s = .next (raise (bump (linkChanged (discardQueues w 38) 38 0 0) 0x2810 0x0C) 0x2801 1 0xFF (be 1 0 ++ be 1 0))) ∧
    (s.host.link ≠ 0 → exec (.pciePowerStateChange d3) s = .next (discardHost { s with host := { s.host with d3hot := d3 } })))

/-- Where the host reaches the window, a tail below the ring's size is stored and one beyond stops the ring with cause 3;
a ring enabled with a good size runs from the base written; the ring reset and the interface reset are their
operations. The TX ring whose turn it is, with a posted descriptor of a good length from host memory whose buffer is
granted, hands the frame to Lookup as a frame of port 38; a length of less than 14 or too long is completed in error
with code 1. The running RX ring of the class that the egress scheduler of port 38 picks among those ready delivers
the frame at the head of its queue. A ring with unsignalled completions sends its message when its time has passed.
(R552, R553, R554, R555, R159) -/
def Obligations.HostRingsRun : Prop :=
  ∀ (s : State) (r16 : Fin 16) (r8 : Fin 8) (v rctl sz : BitVec 32) (base : BitVec 64) (d : TxDescriptor) (b : Bytes) (mem : HostMemory) (bs : BitVec 16) (err : Bool)
    (reads : List CellRead) (h : BitVec 32) (k : Copy) (rest : List Copy) (f : Frame),
    (hostReaches s = true →
      (v.toNat < (ring s r16.val).size.toNat → exec (.rtailWrite r16 v) s = .next (setRing s r16.val (fun y => { y with tail := v.toNat }))) ∧
      ((ring s r16.val).size.toNat ≤ v.toNat → exec (.rtailWrite r16 v) s = .next (ringStop s r16.val 3)) ∧
      (let u := setRing s r16.val (fun y => { y with basl := base.setWidth 32 &&& 0xFFFFFFC0, bash := (base >>> 32).setWidth 32, size := sz, ctl := (rctl &&& 0xFFFFFFFC) ||| 1, sts := 0 });
        (ring s r16.val).ctl.getLsbD 0 = false → ringSizeOk (ring u r16.val) = true → exec (.ringEnable (.enable r16 base sz rctl)) s = .next u) ∧
      exec (.ringReset r16) s = .next (resetRing s r16.val) ∧ exec .interfaceReset s = .next (interfaceReset s)) ∧
    (let u := { s with host := { s.host with lastTx := r8.val } };
      let len := leAt d.bytes 8 2;
      let p := poolRequestOne u (ringOwner r8.val) len true;
      txTurn s = some r8.val →
      (14 ≤ len → len ≤ s.val 0x3026 5 - 4 → bitOf (byteAt d.bytes 10) 2 = false → p.2 = some h →
        exec (.txDescriptorProcess r8 d (.data b)) s = .next (txHand p.1 r8.val d.bytes (padTo len b) h)) ∧
      ((len < 14 ∨ s.val 0x3026 5 - 4 < len) → exec (.txDescriptorProcess r8 d mem) s = .next (txError u r8.val 1 (bitOf (byteAt d.bytes 10) 0)))) ∧
    (let r := selectClass s (hostReady s) 38;
      ringRuns s (8 + r8.val) = true → r.2 = some r8.val → queue r.1 (queueNo 38 r8.val) = k :: rest → frameOf r.1 k.frame = some f →
        exec (.rxFrameDelivery r8 ⟨bs, err⟩ reads) s = .next (rxDeliver r.1 r8.val bs.toNat err reads k f)) ∧
    (0 < (ring s r16.val).unsignalled → (ring s r16.val).since + 1000 * bitsOf (ring s r16.val).ctl.toNat 31 16 ≤ s.time.mono →
      exec (.interruptModerationExpiry r16) s = .next (ringSignal s r16.val))

/-- EXTEST, CLAMP and HIGHZ with RESET_N held low or not, SAMPLE/PRELOAD, IDCODE, DBGSTAT and an unknown code each make
their instruction current and select the data register the table gives it: the boundary register (EXTEST while RESET_N
is held, SAMPLE), the IDCODE 0x1726_099B, the status byte, or the bypass register (EXTEST without it, CLAMP, HIGHZ and
unknown codes); DBGACC selects debug access while debug is open, and else the bypass register. (R600, R601) -/
def Obligations.TestAccessPort : Prop :=
  ∀ (s : State) (held : Bool) (pins load : BitVec 139) (code : BitVec 8),
    let low := { s with tap := { s.tap with resetLow := held } };
    (held = true → exec (.extest held pins) s = .next (tapLoad low 0x00 (pins.setWidth 192))) ∧
    (held = false → exec (.extest held pins) s = .next (tapLoad low 0x00 0)) ∧
    (exec (.samplePreload none pins) s = .next (tapLoad s 0x01 (pins.setWidth 192))) ∧
    (∃ t, exec (.samplePreload (some load) pins) s = .next t ∧ t = { tapLoad s 0x01 (pins.setWidth 192) with tap := t.tap } ∧
      t.tap.bsr = load ∧ t.tap.ir = 0x01 ∧ t.tap.dr = pins.setWidth 192) ∧
    (exec .idcode s = .next (tapLoad s 0x02 0x1726099B)) ∧
    (exec (.clamp held) s = .next (tapLoad low 0x03 0)) ∧ (exec (.highz held) s = .next (tapLoad low 0x04 0)) ∧
    (exec .dbgstat s = .next (tapLoad s 0x22 (BitVec.ofNat 192 (dbgStatus s)))) ∧
    (debugOpen s = true → exec .dbgacc s = .next { s with tap := { s.tap with ir := 0x30 } }) ∧
    (debugOpen s = false → exec .dbgacc s = .next (tapLoad s 0x30 0)) ∧
    ([0x00, 0x01, 0x02, 0x03, 0x04, 0x20, 0x21, 0x22, 0x30].contains code.toNat = false → exec (.bypass code) s = .next (tapLoad s code 0))

/-- DBGCHAL draws a fresh challenge that is kept with its time and shown in the data register. DBGTOKEN while not blocked
keeps the token with its time for the check; while blocked it keeps none. When the check ends, a token that was given
within 60 s of the challenge and that the challenge with the unit ID makes valid opens debug with an entry for the
journal and event 2708h; any other leaves debug as it was, marks the token invalid, counts one more failure and blocks
from the fourth. (R602) -/
def Obligations.DebugUnlock : Prop :=
  ∀ (s : State) (tok : Bytes) (tk : Bytes) (at_ : Nat),
    (∃ t, exec .dbgchal s = .next t ∧ t.tap.challenge = some ((drawBytes s 16).2, s.time.mono) ∧ t.tap.ir = 0x20 ∧ t.tap.isOpen = s.tap.isOpen ∧
      t.tap.dr = BitVec.ofNat 192 (leNat (drawBytes s 16).2)) ∧
    (∃ t, exec (.dbgtoken tok) s = .next t ∧ t = { s with tap := t.tap } ∧ t.tap.isOpen = s.tap.isOpen ∧
      t.tap.token = if s.tap.blocked then s.tap.token else some (padTo 96 tok, s.time.mono)) ∧
    (s.tap.token = some (tk, at_) →
      let good := ∃ c t0, s.tap.challenge = some (c, t0) ∧ at_ < t0 + 60000000000 ∧ Config.debugTokenValid (c ++ be 8 Config.unitId.toNat) tk = true;
      (good → ∃ t, exec .debugTokenCheckComplete s = .next t ∧ t.tap.token = none ∧ t.tap.isOpen = true ∧ t.tap.invalid = false ∧ t.tap.failures = s.tap.failures ∧
        ∃ u, t = raise (jAppend u (.note 2 []) .nobody) 0x2708 2 0xFF []) ∧
      (¬ good → ∃ t, exec .debugTokenCheckComplete s = .next t ∧ t.tap.token = none ∧ t.tap.isOpen = s.tap.isOpen ∧ t.tap.invalid = true ∧
        t.tap.failures = s.tap.failures + 1 ∧ (t.tap.blocked = true ↔ 4 ≤ s.tap.failures + 1)))

/-- For every command and every state in which it answers a next state, the commands that wait are the same before and
after, in the same order. (spec/opcode_table.json, spec/INDEX.md) -/
def Obligations.CommandsLeaveTheQueue : Prop :=
  ∀ (c : Instr) (s t : State), exec c s = .next t → t.pending = s.pending

/-- For every command other than the restarts and start phases, the object and register writes that reach the object
server, the change-set validation and apply, the journal's record write, the update commands, and the events that can
make an armed set due (a Sync that steps the clock, a set time, an odometry edge, a set distance, and the end of
sleep), a next state has the same configuration in force. (R42, R57, R58, R65, R66, R528) -/
def Obligations.ConfigurationChangesOnlyByItsCommands : Prop :=
  ∀ (c : Instr) (s t : State), MayChangeConfig c = false → exec c s = .next t → t.cfg = s.cfg

/-- From every state whose configuration in force has strictly rising keys and lists no default, a step that answers a
next state gives one of the same form. (R42, R57, R66, R528) -/
def Obligations.ConfigurationStaysCanonical : Prop :=
  ∀ (s t : State), CanonicalConfig s.cfg → step s = .next t → CanonicalConfig t.cfg

/-- For every command other than the resets, the start phases, the writes that can carry a request or an activation, the
Guard Processor's failures, and the entry to and the wake from sleep (an Abort that comes after C among them), a next
state is in the same operating state. (R24, R25, R384, R385, R528, R529, R532, R536) -/
def Obligations.OperatingStateChangesOnlyByItsCommands : Prop :=
  ∀ (c : Instr) (s t : State), MayChangeState c = false → exec c s = .next t → t.op.state = s.op.state

/-- Whatever command is carried out, in every state: a blown field-lock fuse stays blown, and the rollback counter does
not fall. (R537, R538, R540) -/
def Obligations.FusesAreNeverTakenBack : Prop :=
  ∀ (c : Instr) (s t : State), exec c s = .next t → (s.upd.lockFuse = true → t.upd.lockFuse = true) ∧ s.upd.fuses ≤ t.upd.fuses

/-- A read or a write, from an open session that the server serves, of an index of no row of the object tables (outside
the vendor range) is answered with result 0x01, and of a subindex that no row of a known index names with result 0x02;
nothing else changes. Every index with a row of a subindex above 00 has a row for subindex 00 of type U8 and access
const, and its value is the largest subindex that the rows of that index name. (R37) -/
def Obligations.UndefinedObjectsAndRecordLengths : Prop :=
  (∀ (s : State) (ses : SessionNo) (index : BitVec 16) (sub : BitVec 8) (v : Bytes),
      served s = true → isOpen s ses.val = true → transportBar s ses.val = none → isVendorObject index.toNat = false →
      (objIndexKnown index.toNat = false →
        exec (.objectRead ses index sub) s = .next (emit s (.answer (.session ses) 1 [])) ∧
        exec (.objectWrite ses index sub v) s = .next (emit s (.answer (.session ses) 1 []))) ∧
      (objIndexKnown index.toNat = true → objRow? index.toNat sub.toNat = none →
        exec (.objectRead ses index sub) s = .next (emit s (.answer (.session ses) 2 [])) ∧
        exec (.objectWrite ses index sub v) s = .next (emit s (.answer (.session ses) 2 [])))) ∧
    (∀ idx : Nat, idx < 65536 →
      let rows := (objRows (idx / 256)).filter (fun x => decide (x.lo ≤ idx) && decide (idx ≤ x.hi));
      let last := rows.foldl (fun n x => max n x.shi) 0;
      0 < last → ∃ r, objRow? idx 0 = some r ∧ r.ty = .u8 ∧ r.acc = .const ∧ defaultOf idx 0 = be 1 last)

/-- Of a session that the server serves: without the Maintainer role every request of 2000h.02, and every write of the
object, is answered with a result other than 0, and the operating state and the configuration in force stay; without
the Vendor role so is the request for Test. The sleep requests 5 and 6 are so refused from every session, as requests
and as object writes. (R29) -/
def Obligations.StateRequestsNeedTheirRole : Prop :=
  ∀ (s : State) (ses : SessionNo) (straps : Straps) (deep : Bool) (v : Bytes),
    let refused := fun (c : Instr) => ∃ t code, exec c s = .next t ∧ t.op = s.op ∧ t.cfg = s.cfg ∧ code ≠ 0 ∧ Answered t ses code [];
    served s = true → isOpen s ses.val = true →
    (roleOf s ses.val < 2 →
      refused (.requestRestart ses straps) ∧ refused (.requestCommissioning ses) ∧ refused (.requestNormal ses) ∧ refused (.requestTest ses) ∧
      refused (.requestRecovery ses straps) ∧ refused (.requestSafe ses) ∧ refused (.objectWrite ses 0x2000 2 v)) ∧
    (roleOf s ses.val < 3 → refused (.requestTest ses) ∧ refused (.objectWrite ses 0x2000 2 [3])) ∧
    refused (.requestSleepState ses deep) ∧ refused (.objectWrite ses 0x2000 2 [5]) ∧ refused (.objectWrite ses 0x2000 2 [6])

/-- While an emergency announcement is active: a write of 0, 1, 3 (of a Vendor session) or 4 to 2000h.02 that passes the
object server's checks raises event 2002h with the requested code, the state and reason 3, and is answered with a
result other than 0; the operating state stays. The power-on reset (armed), the RESET_N pulse and the watchdog still
lead to Start, and a write of 7 from Normal, Commissioning or Test that passes the object server's checks, with no
sleep entry due at its commit time, leads to Safe. (R28) -/
def Obligations.EmergencyRefusesRequests : Prop :=
  ∀ (s : State) (ses : SessionNo) (straps : Straps),
    let refused := fun (c : Instr) (n : Nat) => ∃ t code, exec c s = .next t ∧ code ≠ 0 ∧
      t = emit (raise s 0x2002 2 0xFF (be 1 n ++ be 1 s.op.state.code ++ be 1 3)) (.answer (.session ses) code []) ∧ t.op.state = s.op.state;
    let starts := fun (c : Instr) => ∃ t, exec c s = .next t ∧ t.op.state = .start;
    s.aud.emergency = true →
    (WriteAllowed s ses 0x2000 2 [0] → refused (.requestRestart ses straps) 0) ∧
    (WriteAllowed s ses 0x2000 2 [1] → refused (.requestCommissioning ses) 1) ∧
    (WriteAllowed s ses 0x2000 2 [3] → roleOf s ses.val = 3 → refused (.requestTest ses) 3) ∧
    (WriteAllowed s ses 0x2000 2 [4] → refused (.requestRecovery ses straps) 4) ∧
    (s.pins.porArmed = true → starts (.powerOnResetRelease straps)) ∧ starts (.resetNPulse straps) ∧ starts (.watchdogExpiry straps) ∧
    (WriteAllowed s ses 0x2000 2 [7] → commitDue s = false → (s.op.state = .normal ∨ s.op.state = .commissioning ∨ s.op.state = .test) →
      ∃ t, exec (.requestSafe ses) s = .next t ∧ t.op.state = .safe)

/-- While a set is armed: commands 1, 2 and 3 of the pending set's owner are answered 0x0B, shown as the last result, and
change nothing else; and with no pending set, a staged write that passes every check, of an object outside the armed
set, opens a new pending set of the writing session with that one entry and is answered 0. (R62) -/
def Obligations.ArmedSetBarsCommands1To3 : Prop :=
  ∀ (s : State) (ses : SessionNo) (a : ArmedSet) (p : PendingSet) (index : BitVec 16) (sub : BitVec 8) (v : Bytes) (x : ObjRow),
    let barred := emit { s with cs := { s.cs with lastResult := 0x0B } } (.answer (.session ses) 0x0B []);
    let idx := index.toNat;
    s.cs.armed = some a →
    (s.cs.pending = some p → p.owner = ses →
      (WriteAllowed s ses 0x2200 1 [1] → exec (.csApplyNow ses) s = .next barred) ∧
      (WriteAllowed s ses 0x2200 1 [2] → exec (.csArmTime ses) s = .next barred) ∧
      (WriteAllowed s ses 0x2200 1 [3] → exec (.csArmPosition ses) s = .next barred)) ∧
    (s.cs.pending = none → served s = true → isOpen s ses.val = true → undocumented s ses.val idx = false →
      writeCheck s ses.val idx sub.toNat v = .inl x → x.apply = .s → inArmed s idx sub.toNat = false →
      exec (.objectWrite ses index sub v) s = .next (emit { s with cs := { s.cs with
        pending := some { owner := ses, role := roleOf s ses.val, entries := [(okey idx sub.toNat, v)], types := [none], base := 0 } } }
        (.answer (.session ses) 0 [])))

/-- An S-class write and a change-set file leave a pending set within 4,096 entries and 2 MiB of values within both
limits. An S-class write of the owner that would add an entry to a full set, or bring the values above 2 MiB, is
answered 0x0A and changes nothing. A write of either class, from any session, to an object of the armed set is
answered 0x0B and changes nothing. (R59) -/
def Obligations.PendingSetLimitsAndArmedObjects : Prop :=
  ∀ (s : State) (ses : SessionNo) (index : BitVec 16) (sub : BitVec 8) (v file : Bytes) (x : ObjRow) (p : PendingSet) (a : ArmedSet),
    let idx := index.toNat;
    let key := okey idx sub.toNat;
    let total := fun (es : List (Nat × Bytes)) => (es.map (fun e => e.2.length)).sum;
    let within := fun (t : State) => ∀ q, t.cs.pending = some q → q.entries.length ≤ 4096 ∧ total q.entries ≤ 2097152;
    (within s → ∀ t, exec (.changeSetFileWrite ses file) s = .next t → within t) ∧
    (served s = true → isOpen s ses.val = true → undocumented s ses.val idx = false → writeCheck s ses.val idx sub.toNat v = .inl x →
      (x.apply = .s → within s → ∀ t, exec (.objectWrite ses index sub v) s = .next t → within t) ∧
      (x.apply = .s → inArmed s idx sub.toNat = false → s.cs.pending = some p → p.owner = ses → s.cs.validating = none →
        ((p.entries.any (fun e => e.1 == key) = false ∧ p.entries.length = 4096) ∨
          2097152 < total (p.entries.filter (fun e => e.1 != key)) + v.length) →
        exec (.objectWrite ses index sub v) s = .next (emit s (.answer (.session ses) 0x0A []))) ∧
      (s.cs.armed = some a → a.entries.any (fun e => e.1 == key) = true →
        exec (.objectWrite ses index sub v) s = .next (emit s (.answer (.session ses) 0x0B []))))

/-- In Recovery, where nothing of R532 stands against the activation of a Staged target bank: the command leaves the
device in Start, the target bank in Trial, the other bank in Previous if it was Active, and no activation or pause
running. (R536) -/
def Obligations.RecoveryActivatesByRestart : Prop :=
  ∀ (s : State) (ses : SessionNo),
    s.op.state = .recovery → WriteAllowed s ses 0x2700 1 [3] → activationBar s = none → s.upd.target < 2 → (bankOf s s.upd.target).state = .staged →
    ∃ t, exec (.activateImage ses) s = .next t ∧ t.op.state = .start ∧ (bankOf t s.upd.target).state = .trial ∧
      ((bankOf s (1 - s.upd.target)).state = .active → (bankOf t (1 - s.upd.target)).state = .previous) ∧ t.upd.activating = 0

end
end

