-- ==== Sys2Proof/Laws/State.lean ====
section
/-! SUPPORT. Each named update of the state changes one block: every other field reads as before. -/

namespace Sys2Proof.Machine

@[simp] theorem emit_out (s : State) (x : Out) : (emit s x).out = x :: s.out := rfl
@[simp] theorem emit_op (s : State) (o : Out) : (emit s o).op = s.op := rfl
@[simp] theorem emit_cfg (s : State) (o : Out) : (emit s o).cfg = s.cfg := rfl
@[simp] theorem emit_cnt (s : State) (o : Out) : (emit s o).cnt = s.cnt := rfl
@[simp] theorem emit_store (s : State) (o : Out) : (emit s o).store = s.store := rfl
@[simp] theorem emit_sessions (s : State) (o : Out) : (emit s o).sessions = s.sessions := rfl
@[simp] theorem emit_cs (s : State) (o : Out) : (emit s o).cs = s.cs := rfl
@[simp] theorem emit_ev (s : State) (o : Out) : (emit s o).ev = s.ev := rfl
@[simp] theorem emit_time (s : State) (o : Out) : (emit s o).time = s.time := rfl
@[simp] theorem emit_can (s : State) (o : Out) : (emit s o).can = s.can := rfl
@[simp] theorem emit_serial (s : State) (o : Out) : (emit s o).serial = s.serial := rfl
@[simp] theorem emit_mvb (s : State) (o : Out) : (emit s o).mvb = s.mvb := rfl
@[simp] theorem emit_jour (s : State) (o : Out) : (emit s o).jour = s.jour := rfl
@[simp] theorem emit_wear (s : State) (o : Out) : (emit s o).wear = s.wear := rfl
@[simp] theorem emit_fab (s : State) (o : Out) : (emit s o).fab = s.fab := rfl
@[simp] theorem emit_look (s : State) (o : Out) : (emit s o).look = s.look := rfl
@[simp] theorem emit_zone (s : State) (o : Out) : (emit s o).zone = s.zone := rfl
@[simp] theorem emit_gw (s : State) (o : Out) : (emit s o).gw = s.gw := rfl
@[simp] theorem emit_br (s : State) (o : Out) : (emit s o).br = s.br := rfl
@[simp] theorem emit_aud (s : State) (o : Out) : (emit s o).aud = s.aud := rfl
@[simp] theorem emit_pos (s : State) (o : Out) : (emit s o).pos = s.pos := rfl
@[simp] theorem emit_pow (s : State) (o : Out) : (emit s o).pow = s.pow := rfl
@[simp] theorem emit_slp (s : State) (o : Out) : (emit s o).slp = s.slp := rfl
@[simp] theorem emit_gp (s : State) (o : Out) : (emit s o).gp = s.gp := rfl
@[simp] theorem emit_pair (s : State) (o : Out) : (emit s o).pair = s.pair := rfl
@[simp] theorem emit_dram (s : State) (o : Out) : (emit s o).dram = s.dram := rfl
@[simp] theorem emit_pool (s : State) (o : Out) : (emit s o).pool = s.pool := rfl
@[simp] theorem emit_cvu (s : State) (o : Out) : (emit s o).cvu = s.cvu := rfl
@[simp] theorem emit_upd (s : State) (o : Out) : (emit s o).upd = s.upd := rfl
@[simp] theorem emit_host (s : State) (o : Out) : (emit s o).host = s.host := rfl
@[simp] theorem emit_spi (s : State) (o : Out) : (emit s o).spi = s.spi := rfl
@[simp] theorem emit_pins (s : State) (o : Out) : (emit s o).pins = s.pins := rfl
@[simp] theorem emit_tap (s : State) (o : Out) : (emit s o).tap = s.tap := rfl
@[simp] theorem emit_drawn (s : State) (o : Out) : (emit s o).drawn = s.drawn := rfl
@[simp] theorem emit_pending (s : State) (o : Out) : (emit s o).pending = s.pending := rfl

@[simp] theorem putStore_op (s : State) (idx sub sel : Nat) (v : Bytes) : (putStore s idx sub sel v).op = s.op := rfl
@[simp] theorem putStore_cfg (s : State) (idx sub sel : Nat) (v : Bytes) : (putStore s idx sub sel v).cfg = s.cfg := rfl
@[simp] theorem putStore_cnt (s : State) (idx sub sel : Nat) (v : Bytes) : (putStore s idx sub sel v).cnt = s.cnt := rfl
@[simp] theorem putStore_sessions (s : State) (idx sub sel : Nat) (v : Bytes) : (putStore s idx sub sel v).sessions = s.sessions := rfl
@[simp] theorem putStore_cs (s : State) (idx sub sel : Nat) (v : Bytes) : (putStore s idx sub sel v).cs = s.cs := rfl
@[simp] theorem putStore_ev (s : State) (idx sub sel : Nat) (v : Bytes) : (putStore s idx sub sel v).ev = s.ev := rfl
@[simp] theorem putStore_time (s : State) (idx sub sel : Nat) (v : Bytes) : (putStore s idx sub sel v).time = s.time := rfl
@[simp] theorem putStore_can (s : State) (idx sub sel : Nat) (v : Bytes) : (putStore s idx sub sel v).can = s.can := rfl
@[simp] theorem putStore_serial (s : State) (idx sub sel : Nat) (v : Bytes) : (putStore s idx sub sel v).serial = s.serial := rfl
@[simp] theorem putStore_mvb (s : State) (idx sub sel : Nat) (v : Bytes) : (putStore s idx sub sel v).mvb = s.mvb := rfl
@[simp] theorem putStore_jour (s : State) (idx sub sel : Nat) (v : Bytes) : (putStore s idx sub sel v).jour = s.jour := rfl
@[simp] theorem putStore_wear (s : State) (idx sub sel : Nat) (v : Bytes) : (putStore s idx sub sel v).wear = s.wear := rfl
@[simp] theorem putStore_fab (s : State) (idx sub sel : Nat) (v : Bytes) : (putStore s idx sub sel v).fab = s.fab := rfl
@[simp] theorem putStore_look (s : State) (idx sub sel : Nat) (v : Bytes) : (putStore s idx sub sel v).look = s.look := rfl
@[simp] theorem putStore_zone (s : State) (idx sub sel : Nat) (v : Bytes) : (putStore s idx sub sel v).zone = s.zone := rfl
@[simp] theorem putStore_gw (s : State) (idx sub sel : Nat) (v : Bytes) : (putStore s idx sub sel v).gw = s.gw := rfl
@[simp] theorem putStore_br (s : State) (idx sub sel : Nat) (v : Bytes) : (putStore s idx sub sel v).br = s.br := rfl
@[simp] theorem putStore_aud (s : State) (idx sub sel : Nat) (v : Bytes) : (putStore s idx sub sel v).aud = s.aud := rfl
@[simp] theorem putStore_pos (s : State) (idx sub sel : Nat) (v : Bytes) : (putStore s idx sub sel v).pos = s.pos := rfl
@[simp] theorem putStore_pow (s : State) (idx sub sel : Nat) (v : Bytes) : (putStore s idx sub sel v).pow = s.pow := rfl
@[simp] theorem putStore_slp (s : State) (idx sub sel : Nat) (v : Bytes) : (putStore s idx sub sel v).slp = s.slp := rfl
@[simp] theorem putStore_gp (s : State) (idx sub sel : Nat) (v : Bytes) : (putStore s idx sub sel v).gp = s.gp := rfl
@[simp] theorem putStore_pair (s : State) (idx sub sel : Nat) (v : Bytes) : (putStore s idx sub sel v).pair = s.pair := rfl
@[simp] theorem putStore_dram (s : State) (idx sub sel : Nat) (v : Bytes) : (putStore s idx sub sel v).dram = s.dram := rfl
@[simp] theorem putStore_pool (s : State) (idx sub sel : Nat) (v : Bytes) : (putStore s idx sub sel v).pool = s.pool := rfl
@[simp] theorem putStore_cvu (s : State) (idx sub sel : Nat) (v : Bytes) : (putStore s idx sub sel v).cvu = s.cvu := rfl
@[simp] theorem putStore_upd (s : State) (idx sub sel : Nat) (v : Bytes) : (putStore s idx sub sel v).upd = s.upd := rfl
@[simp] theorem putStore_host (s : State) (idx sub sel : Nat) (v : Bytes) : (putStore s idx sub sel v).host = s.host := rfl
@[simp] theorem putStore_spi (s : State) (idx sub sel : Nat) (v : Bytes) : (putStore s idx sub sel v).spi = s.spi := rfl
@[simp] theorem putStore_pins (s : State) (idx sub sel : Nat) (v : Bytes) : (putStore s idx sub sel v).pins = s.pins := rfl
@[simp] theorem putStore_tap (s : State) (idx sub sel : Nat) (v : Bytes) : (putStore s idx sub sel v).tap = s.tap := rfl
@[simp] theorem putStore_out (s : State) (idx sub sel : Nat) (v : Bytes) : (putStore s idx sub sel v).out = s.out := rfl
@[simp] theorem putStore_drawn (s : State) (idx sub sel : Nat) (v : Bytes) : (putStore s idx sub sel v).drawn = s.drawn := rfl
@[simp] theorem putStore_pending (s : State) (idx sub sel : Nat) (v : Bytes) : (putStore s idx sub sel v).pending = s.pending := rfl

@[simp] theorem setOwn_op (s : State) (n idx sub v : Nat) : (setOwn s n idx sub v).op = s.op := rfl
@[simp] theorem setOwn_cfg (s : State) (n idx sub v : Nat) : (setOwn s n idx sub v).cfg = s.cfg := rfl
@[simp] theorem setOwn_cnt (s : State) (n idx sub v : Nat) : (setOwn s n idx sub v).cnt = s.cnt := rfl
@[simp] theorem setOwn_store (s : State) (n idx sub v : Nat) : (setOwn s n idx sub v).store = s.store := rfl
@[simp] theorem setOwn_cs (s : State) (n idx sub v : Nat) : (setOwn s n idx sub v).cs = s.cs := rfl
@[simp] theorem setOwn_ev (s : State) (n idx sub v : Nat) : (setOwn s n idx sub v).ev = s.ev := rfl
@[simp] theorem setOwn_time (s : State) (n idx sub v : Nat) : (setOwn s n idx sub v).time = s.time := rfl
@[simp] theorem setOwn_can (s : State) (n idx sub v : Nat) : (setOwn s n idx sub v).can = s.can := rfl
@[simp] theorem setOwn_serial (s : State) (n idx sub v : Nat) : (setOwn s n idx sub v).serial = s.serial := rfl
@[simp] theorem setOwn_mvb (s : State) (n idx sub v : Nat) : (setOwn s n idx sub v).mvb = s.mvb := rfl
@[simp] theorem setOwn_jour (s : State) (n idx sub v : Nat) : (setOwn s n idx sub v).jour = s.jour := rfl
@[simp] theorem setOwn_wear (s : State) (n idx sub v : Nat) : (setOwn s n idx sub v).wear = s.wear := rfl
@[simp] theorem setOwn_fab (s : State) (n idx sub v : Nat) : (setOwn s n idx sub v).fab = s.fab := rfl
@[simp] theorem setOwn_look (s : State) (n idx sub v : Nat) : (setOwn s n idx sub v).look = s.look := rfl
@[simp] theorem setOwn_zone (s : State) (n idx sub v : Nat) : (setOwn s n idx sub v).zone = s.zone := rfl
@[simp] theorem setOwn_gw (s : State) (n idx sub v : Nat) : (setOwn s n idx sub v).gw = s.gw := rfl
@[simp] theorem setOwn_br (s : State) (n idx sub v : Nat) : (setOwn s n idx sub v).br = s.br := rfl
@[simp] theorem setOwn_aud (s : State) (n idx sub v : Nat) : (setOwn s n idx sub v).aud = s.aud := rfl
@[simp] theorem setOwn_pos (s : State) (n idx sub v : Nat) : (setOwn s n idx sub v).pos = s.pos := rfl
@[simp] theorem setOwn_pow (s : State) (n idx sub v : Nat) : (setOwn s n idx sub v).pow = s.pow := rfl
@[simp] theorem setOwn_slp (s : State) (n idx sub v : Nat) : (setOwn s n idx sub v).slp = s.slp := rfl
@[simp] theorem setOwn_gp (s : State) (n idx sub v : Nat) : (setOwn s n idx sub v).gp = s.gp := rfl
@[simp] theorem setOwn_pair (s : State) (n idx sub v : Nat) : (setOwn s n idx sub v).pair = s.pair := rfl
@[simp] theorem setOwn_dram (s : State) (n idx sub v : Nat) : (setOwn s n idx sub v).dram = s.dram := rfl
@[simp] theorem setOwn_pool (s : State) (n idx sub v : Nat) : (setOwn s n idx sub v).pool = s.pool := rfl
@[simp] theorem setOwn_cvu (s : State) (n idx sub v : Nat) : (setOwn s n idx sub v).cvu = s.cvu := rfl
@[simp] theorem setOwn_upd (s : State) (n idx sub v : Nat) : (setOwn s n idx sub v).upd = s.upd := rfl
@[simp] theorem setOwn_host (s : State) (n idx sub v : Nat) : (setOwn s n idx sub v).host = s.host := rfl
@[simp] theorem setOwn_spi (s : State) (n idx sub v : Nat) : (setOwn s n idx sub v).spi = s.spi := rfl
@[simp] theorem setOwn_pins (s : State) (n idx sub v : Nat) : (setOwn s n idx sub v).pins = s.pins := rfl
@[simp] theorem setOwn_tap (s : State) (n idx sub v : Nat) : (setOwn s n idx sub v).tap = s.tap := rfl
@[simp] theorem setOwn_out (s : State) (n idx sub v : Nat) : (setOwn s n idx sub v).out = s.out := rfl
@[simp] theorem setOwn_drawn (s : State) (n idx sub v : Nat) : (setOwn s n idx sub v).drawn = s.drawn := rfl
@[simp] theorem setOwn_pending (s : State) (n idx sub v : Nat) : (setOwn s n idx sub v).pending = s.pending := rfl

@[simp] theorem setSdo_op (s : State) (cn : Nat) (x : SdoTransfer) : (setSdo s cn x).op = s.op := rfl
@[simp] theorem setSdo_cfg (s : State) (cn : Nat) (x : SdoTransfer) : (setSdo s cn x).cfg = s.cfg := rfl
@[simp] theorem setSdo_cnt (s : State) (cn : Nat) (x : SdoTransfer) : (setSdo s cn x).cnt = s.cnt := rfl
@[simp] theorem setSdo_store (s : State) (cn : Nat) (x : SdoTransfer) : (setSdo s cn x).store = s.store := rfl
@[simp] theorem setSdo_cs (s : State) (cn : Nat) (x : SdoTransfer) : (setSdo s cn x).cs = s.cs := rfl
@[simp] theorem setSdo_ev (s : State) (cn : Nat) (x : SdoTransfer) : (setSdo s cn x).ev = s.ev := rfl
@[simp] theorem setSdo_time (s : State) (cn : Nat) (x : SdoTransfer) : (setSdo s cn x).time = s.time := rfl
@[simp] theorem setSdo_can (s : State) (cn : Nat) (x : SdoTransfer) : (setSdo s cn x).can = s.can := rfl
@[simp] theorem setSdo_serial (s : State) (cn : Nat) (x : SdoTransfer) : (setSdo s cn x).serial = s.serial := rfl
@[simp] theorem setSdo_mvb (s : State) (cn : Nat) (x : SdoTransfer) : (setSdo s cn x).mvb = s.mvb := rfl
@[simp] theorem setSdo_jour (s : State) (cn : Nat) (x : SdoTransfer) : (setSdo s cn x).jour = s.jour := rfl
@[simp] theorem setSdo_wear (s : State) (cn : Nat) (x : SdoTransfer) : (setSdo s cn x).wear = s.wear := rfl
@[simp] theorem setSdo_fab (s : State) (cn : Nat) (x : SdoTransfer) : (setSdo s cn x).fab = s.fab := rfl
@[simp] theorem setSdo_look (s : State) (cn : Nat) (x : SdoTransfer) : (setSdo s cn x).look = s.look := rfl
@[simp] theorem setSdo_zone (s : State) (cn : Nat) (x : SdoTransfer) : (setSdo s cn x).zone = s.zone := rfl
@[simp] theorem setSdo_gw (s : State) (cn : Nat) (x : SdoTransfer) : (setSdo s cn x).gw = s.gw := rfl
@[simp] theorem setSdo_br (s : State) (cn : Nat) (x : SdoTransfer) : (setSdo s cn x).br = s.br := rfl
@[simp] theorem setSdo_aud (s : State) (cn : Nat) (x : SdoTransfer) : (setSdo s cn x).aud = s.aud := rfl
@[simp] theorem setSdo_pos (s : State) (cn : Nat) (x : SdoTransfer) : (setSdo s cn x).pos = s.pos := rfl
@[simp] theorem setSdo_pow (s : State) (cn : Nat) (x : SdoTransfer) : (setSdo s cn x).pow = s.pow := rfl
@[simp] theorem setSdo_slp (s : State) (cn : Nat) (x : SdoTransfer) : (setSdo s cn x).slp = s.slp := rfl
@[simp] theorem setSdo_gp (s : State) (cn : Nat) (x : SdoTransfer) : (setSdo s cn x).gp = s.gp := rfl
@[simp] theorem setSdo_pair (s : State) (cn : Nat) (x : SdoTransfer) : (setSdo s cn x).pair = s.pair := rfl
@[simp] theorem setSdo_dram (s : State) (cn : Nat) (x : SdoTransfer) : (setSdo s cn x).dram = s.dram := rfl
@[simp] theorem setSdo_pool (s : State) (cn : Nat) (x : SdoTransfer) : (setSdo s cn x).pool = s.pool := rfl
@[simp] theorem setSdo_cvu (s : State) (cn : Nat) (x : SdoTransfer) : (setSdo s cn x).cvu = s.cvu := rfl
@[simp] theorem setSdo_upd (s : State) (cn : Nat) (x : SdoTransfer) : (setSdo s cn x).upd = s.upd := rfl
@[simp] theorem setSdo_host (s : State) (cn : Nat) (x : SdoTransfer) : (setSdo s cn x).host = s.host := rfl
@[simp] theorem setSdo_spi (s : State) (cn : Nat) (x : SdoTransfer) : (setSdo s cn x).spi = s.spi := rfl
@[simp] theorem setSdo_pins (s : State) (cn : Nat) (x : SdoTransfer) : (setSdo s cn x).pins = s.pins := rfl
@[simp] theorem setSdo_tap (s : State) (cn : Nat) (x : SdoTransfer) : (setSdo s cn x).tap = s.tap := rfl
@[simp] theorem setSdo_out (s : State) (cn : Nat) (x : SdoTransfer) : (setSdo s cn x).out = s.out := rfl
@[simp] theorem setSdo_drawn (s : State) (cn : Nat) (x : SdoTransfer) : (setSdo s cn x).drawn = s.drawn := rfl
@[simp] theorem setSdo_pending (s : State) (cn : Nat) (x : SdoTransfer) : (setSdo s cn x).pending = s.pending := rfl

@[simp] theorem setLink_op (s : State) (p : Nat) (f : PortLink → PortLink) : (setLink s p f).op = s.op := rfl
@[simp] theorem setLink_cfg (s : State) (p : Nat) (f : PortLink → PortLink) : (setLink s p f).cfg = s.cfg := rfl
@[simp] theorem setLink_cnt (s : State) (p : Nat) (f : PortLink → PortLink) : (setLink s p f).cnt = s.cnt := rfl
@[simp] theorem setLink_store (s : State) (p : Nat) (f : PortLink → PortLink) : (setLink s p f).store = s.store := rfl
@[simp] theorem setLink_sessions (s : State) (p : Nat) (f : PortLink → PortLink) : (setLink s p f).sessions = s.sessions := rfl
@[simp] theorem setLink_cs (s : State) (p : Nat) (f : PortLink → PortLink) : (setLink s p f).cs = s.cs := rfl
@[simp] theorem setLink_ev (s : State) (p : Nat) (f : PortLink → PortLink) : (setLink s p f).ev = s.ev := rfl
@[simp] theorem setLink_time (s : State) (p : Nat) (f : PortLink → PortLink) : (setLink s p f).time = s.time := rfl
@[simp] theorem setLink_can (s : State) (p : Nat) (f : PortLink → PortLink) : (setLink s p f).can = s.can := rfl
@[simp] theorem setLink_serial (s : State) (p : Nat) (f : PortLink → PortLink) : (setLink s p f).serial = s.serial := rfl
@[simp] theorem setLink_mvb (s : State) (p : Nat) (f : PortLink → PortLink) : (setLink s p f).mvb = s.mvb := rfl
@[simp] theorem setLink_jour (s : State) (p : Nat) (f : PortLink → PortLink) : (setLink s p f).jour = s.jour := rfl
@[simp] theorem setLink_wear (s : State) (p : Nat) (f : PortLink → PortLink) : (setLink s p f).wear = s.wear := rfl
@[simp] theorem setLink_look (s : State) (p : Nat) (f : PortLink → PortLink) : (setLink s p f).look = s.look := rfl
@[simp] theorem setLink_zone (s : State) (p : Nat) (f : PortLink → PortLink) : (setLink s p f).zone = s.zone := rfl
@[simp] theorem setLink_gw (s : State) (p : Nat) (f : PortLink → PortLink) : (setLink s p f).gw = s.gw := rfl
@[simp] theorem setLink_br (s : State) (p : Nat) (f : PortLink → PortLink) : (setLink s p f).br = s.br := rfl
@[simp] theorem setLink_aud (s : State) (p : Nat) (f : PortLink → PortLink) : (setLink s p f).aud = s.aud := rfl
@[simp] theorem setLink_pos (s : State) (p : Nat) (f : PortLink → PortLink) : (setLink s p f).pos = s.pos := rfl
@[simp] theorem setLink_pow (s : State) (p : Nat) (f : PortLink → PortLink) : (setLink s p f).pow = s.pow := rfl
@[simp] theorem setLink_slp (s : State) (p : Nat) (f : PortLink → PortLink) : (setLink s p f).slp = s.slp := rfl
@[simp] theorem setLink_gp (s : State) (p : Nat) (f : PortLink → PortLink) : (setLink s p f).gp = s.gp := rfl
@[simp] theorem setLink_pair (s : State) (p : Nat) (f : PortLink → PortLink) : (setLink s p f).pair = s.pair := rfl
@[simp] theorem setLink_dram (s : State) (p : Nat) (f : PortLink → PortLink) : (setLink s p f).dram = s.dram := rfl
@[simp] theorem setLink_pool (s : State) (p : Nat) (f : PortLink → PortLink) : (setLink s p f).pool = s.pool := rfl
@[simp] theorem setLink_cvu (s : State) (p : Nat) (f : PortLink → PortLink) : (setLink s p f).cvu = s.cvu := rfl
@[simp] theorem setLink_upd (s : State) (p : Nat) (f : PortLink → PortLink) : (setLink s p f).upd = s.upd := rfl
@[simp] theorem setLink_host (s : State) (p : Nat) (f : PortLink → PortLink) : (setLink s p f).host = s.host := rfl
@[simp] theorem setLink_spi (s : State) (p : Nat) (f : PortLink → PortLink) : (setLink s p f).spi = s.spi := rfl
@[simp] theorem setLink_pins (s : State) (p : Nat) (f : PortLink → PortLink) : (setLink s p f).pins = s.pins := rfl
@[simp] theorem setLink_tap (s : State) (p : Nat) (f : PortLink → PortLink) : (setLink s p f).tap = s.tap := rfl
@[simp] theorem setLink_out (s : State) (p : Nat) (f : PortLink → PortLink) : (setLink s p f).out = s.out := rfl
@[simp] theorem setLink_drawn (s : State) (p : Nat) (f : PortLink → PortLink) : (setLink s p f).drawn = s.drawn := rfl
@[simp] theorem setLink_pending (s : State) (p : Nat) (f : PortLink → PortLink) : (setLink s p f).pending = s.pending := rfl

@[simp] theorem setColumn_op (s : State) (j : Nat) (c : Column) : (setColumn s j c).op = s.op := rfl
@[simp] theorem setColumn_cfg (s : State) (j : Nat) (c : Column) : (setColumn s j c).cfg = s.cfg := rfl
@[simp] theorem setColumn_cnt (s : State) (j : Nat) (c : Column) : (setColumn s j c).cnt = s.cnt := rfl
@[simp] theorem setColumn_store (s : State) (j : Nat) (c : Column) : (setColumn s j c).store = s.store := rfl
@[simp] theorem setColumn_sessions (s : State) (j : Nat) (c : Column) : (setColumn s j c).sessions = s.sessions := rfl
@[simp] theorem setColumn_cs (s : State) (j : Nat) (c : Column) : (setColumn s j c).cs = s.cs := rfl
@[simp] theorem setColumn_ev (s : State) (j : Nat) (c : Column) : (setColumn s j c).ev = s.ev := rfl
@[simp] theorem setColumn_time (s : State) (j : Nat) (c : Column) : (setColumn s j c).time = s.time := rfl
@[simp] theorem setColumn_can (s : State) (j : Nat) (c : Column) : (setColumn s j c).can = s.can := rfl
@[simp] theorem setColumn_serial (s : State) (j : Nat) (c : Column) : (setColumn s j c).serial = s.serial := rfl
@[simp] theorem setColumn_mvb (s : State) (j : Nat) (c : Column) : (setColumn s j c).mvb = s.mvb := rfl
@[simp] theorem setColumn_jour (s : State) (j : Nat) (c : Column) : (setColumn s j c).jour = s.jour := rfl
@[simp] theorem setColumn_wear (s : State) (j : Nat) (c : Column) : (setColumn s j c).wear = s.wear := rfl
@[simp] theorem setColumn_look (s : State) (j : Nat) (c : Column) : (setColumn s j c).look = s.look := rfl
@[simp] theorem setColumn_zone (s : State) (j : Nat) (c : Column) : (setColumn s j c).zone = s.zone := rfl
@[simp] theorem setColumn_gw (s : State) (j : Nat) (c : Column) : (setColumn s j c).gw = s.gw := rfl
@[simp] theorem setColumn_br (s : State) (j : Nat) (c : Column) : (setColumn s j c).br = s.br := rfl
@[simp] theorem setColumn_aud (s : State) (j : Nat) (c : Column) : (setColumn s j c).aud = s.aud := rfl
@[simp] theorem setColumn_pos (s : State) (j : Nat) (c : Column) : (setColumn s j c).pos = s.pos := rfl
@[simp] theorem setColumn_pow (s : State) (j : Nat) (c : Column) : (setColumn s j c).pow = s.pow := rfl
@[simp] theorem setColumn_slp (s : State) (j : Nat) (c : Column) : (setColumn s j c).slp = s.slp := rfl
@[simp] theorem setColumn_gp (s : State) (j : Nat) (c : Column) : (setColumn s j c).gp = s.gp := rfl
@[simp] theorem setColumn_pair (s : State) (j : Nat) (c : Column) : (setColumn s j c).pair = s.pair := rfl
@[simp] theorem setColumn_dram (s : State) (j : Nat) (c : Column) : (setColumn s j c).dram = s.dram := rfl
@[simp] theorem setColumn_pool (s : State) (j : Nat) (c : Column) : (setColumn s j c).pool = s.pool := rfl
@[simp] theorem setColumn_cvu (s : State) (j : Nat) (c : Column) : (setColumn s j c).cvu = s.cvu := rfl
@[simp] theorem setColumn_upd (s : State) (j : Nat) (c : Column) : (setColumn s j c).upd = s.upd := rfl
@[simp] theorem setColumn_host (s : State) (j : Nat) (c : Column) : (setColumn s j c).host = s.host := rfl
@[simp] theorem setColumn_spi (s : State) (j : Nat) (c : Column) : (setColumn s j c).spi = s.spi := rfl
@[simp] theorem setColumn_pins (s : State) (j : Nat) (c : Column) : (setColumn s j c).pins = s.pins := rfl
@[simp] theorem setColumn_tap (s : State) (j : Nat) (c : Column) : (setColumn s j c).tap = s.tap := rfl
@[simp] theorem setColumn_out (s : State) (j : Nat) (c : Column) : (setColumn s j c).out = s.out := rfl
@[simp] theorem setColumn_drawn (s : State) (j : Nat) (c : Column) : (setColumn s j c).drawn = s.drawn := rfl
@[simp] theorem setColumn_pending (s : State) (j : Nat) (c : Column) : (setColumn s j c).pending = s.pending := rfl

@[simp] theorem setFrame_op (s : State) (f : Frame) : (setFrame s f).op = s.op := rfl
@[simp] theorem setFrame_cfg (s : State) (f : Frame) : (setFrame s f).cfg = s.cfg := rfl
@[simp] theorem setFrame_cnt (s : State) (f : Frame) : (setFrame s f).cnt = s.cnt := rfl
@[simp] theorem setFrame_store (s : State) (f : Frame) : (setFrame s f).store = s.store := rfl
@[simp] theorem setFrame_sessions (s : State) (f : Frame) : (setFrame s f).sessions = s.sessions := rfl
@[simp] theorem setFrame_cs (s : State) (f : Frame) : (setFrame s f).cs = s.cs := rfl
@[simp] theorem setFrame_ev (s : State) (f : Frame) : (setFrame s f).ev = s.ev := rfl
@[simp] theorem setFrame_time (s : State) (f : Frame) : (setFrame s f).time = s.time := rfl
@[simp] theorem setFrame_can (s : State) (f : Frame) : (setFrame s f).can = s.can := rfl
@[simp] theorem setFrame_serial (s : State) (f : Frame) : (setFrame s f).serial = s.serial := rfl
@[simp] theorem setFrame_mvb (s : State) (f : Frame) : (setFrame s f).mvb = s.mvb := rfl
@[simp] theorem setFrame_jour (s : State) (f : Frame) : (setFrame s f).jour = s.jour := rfl
@[simp] theorem setFrame_wear (s : State) (f : Frame) : (setFrame s f).wear = s.wear := rfl
@[simp] theorem setFrame_look (s : State) (f : Frame) : (setFrame s f).look = s.look := rfl
@[simp] theorem setFrame_zone (s : State) (f : Frame) : (setFrame s f).zone = s.zone := rfl
@[simp] theorem setFrame_gw (s : State) (f : Frame) : (setFrame s f).gw = s.gw := rfl
@[simp] theorem setFrame_br (s : State) (f : Frame) : (setFrame s f).br = s.br := rfl
@[simp] theorem setFrame_aud (s : State) (f : Frame) : (setFrame s f).aud = s.aud := rfl
@[simp] theorem setFrame_pos (s : State) (f : Frame) : (setFrame s f).pos = s.pos := rfl
@[simp] theorem setFrame_pow (s : State) (f : Frame) : (setFrame s f).pow = s.pow := rfl
@[simp] theorem setFrame_slp (s : State) (f : Frame) : (setFrame s f).slp = s.slp := rfl
@[simp] theorem setFrame_gp (s : State) (f : Frame) : (setFrame s f).gp = s.gp := rfl
@[simp] theorem setFrame_pair (s : State) (f : Frame) : (setFrame s f).pair = s.pair := rfl
@[simp] theorem setFrame_dram (s : State) (f : Frame) : (setFrame s f).dram = s.dram := rfl
@[simp] theorem setFrame_pool (s : State) (f : Frame) : (setFrame s f).pool = s.pool := rfl
@[simp] theorem setFrame_cvu (s : State) (f : Frame) : (setFrame s f).cvu = s.cvu := rfl
@[simp] theorem setFrame_upd (s : State) (f : Frame) : (setFrame s f).upd = s.upd := rfl
@[simp] theorem setFrame_host (s : State) (f : Frame) : (setFrame s f).host = s.host := rfl
@[simp] theorem setFrame_spi (s : State) (f : Frame) : (setFrame s f).spi = s.spi := rfl
@[simp] theorem setFrame_pins (s : State) (f : Frame) : (setFrame s f).pins = s.pins := rfl
@[simp] theorem setFrame_tap (s : State) (f : Frame) : (setFrame s f).tap = s.tap := rfl
@[simp] theorem setFrame_out (s : State) (f : Frame) : (setFrame s f).out = s.out := rfl
@[simp] theorem setFrame_drawn (s : State) (f : Frame) : (setFrame s f).drawn = s.drawn := rfl
@[simp] theorem setFrame_pending (s : State) (f : Frame) : (setFrame s f).pending = s.pending := rfl

@[simp] theorem setEgress_op (s : State) (p : Nat) (f : PortEgress → PortEgress) : (setEgress s p f).op = s.op := rfl
@[simp] theorem setEgress_cfg (s : State) (p : Nat) (f : PortEgress → PortEgress) : (setEgress s p f).cfg = s.cfg := rfl
@[simp] theorem setEgress_cnt (s : State) (p : Nat) (f : PortEgress → PortEgress) : (setEgress s p f).cnt = s.cnt := rfl
@[simp] theorem setEgress_store (s : State) (p : Nat) (f : PortEgress → PortEgress) : (setEgress s p f).store = s.store := rfl
@[simp] theorem setEgress_sessions (s : State) (p : Nat) (f : PortEgress → PortEgress) : (setEgress s p f).sessions = s.sessions := rfl
@[simp] theorem setEgress_cs (s : State) (p : Nat) (f : PortEgress → PortEgress) : (setEgress s p f).cs = s.cs := rfl
@[simp] theorem setEgress_ev (s : State) (p : Nat) (f : PortEgress → PortEgress) : (setEgress s p f).ev = s.ev := rfl
@[simp] theorem setEgress_time (s : State) (p : Nat) (f : PortEgress → PortEgress) : (setEgress s p f).time = s.time := rfl
@[simp] theorem setEgress_can (s : State) (p : Nat) (f : PortEgress → PortEgress) : (setEgress s p f).can = s.can := rfl
@[simp] theorem setEgress_serial (s : State) (p : Nat) (f : PortEgress → PortEgress) : (setEgress s p f).serial = s.serial := rfl
@[simp] theorem setEgress_mvb (s : State) (p : Nat) (f : PortEgress → PortEgress) : (setEgress s p f).mvb = s.mvb := rfl
@[simp] theorem setEgress_jour (s : State) (p : Nat) (f : PortEgress → PortEgress) : (setEgress s p f).jour = s.jour := rfl
@[simp] theorem setEgress_wear (s : State) (p : Nat) (f : PortEgress → PortEgress) : (setEgress s p f).wear = s.wear := rfl
@[simp] theorem setEgress_look (s : State) (p : Nat) (f : PortEgress → PortEgress) : (setEgress s p f).look = s.look := rfl
@[simp] theorem setEgress_zone (s : State) (p : Nat) (f : PortEgress → PortEgress) : (setEgress s p f).zone = s.zone := rfl
@[simp] theorem setEgress_gw (s : State) (p : Nat) (f : PortEgress → PortEgress) : (setEgress s p f).gw = s.gw := rfl
@[simp] theorem setEgress_br (s : State) (p : Nat) (f : PortEgress → PortEgress) : (setEgress s p f).br = s.br := rfl
@[simp] theorem setEgress_aud (s : State) (p : Nat) (f : PortEgress → PortEgress) : (setEgress s p f).aud = s.aud := rfl
@[simp] theorem setEgress_pos (s : State) (p : Nat) (f : PortEgress → PortEgress) : (setEgress s p f).pos = s.pos := rfl
@[simp] theorem setEgress_pow (s : State) (p : Nat) (f : PortEgress → PortEgress) : (setEgress s p f).pow = s.pow := rfl
@[simp] theorem setEgress_slp (s : State) (p : Nat) (f : PortEgress → PortEgress) : (setEgress s p f).slp = s.slp := rfl
@[simp] theorem setEgress_gp (s : State) (p : Nat) (f : PortEgress → PortEgress) : (setEgress s p f).gp = s.gp := rfl
@[simp] theorem setEgress_pair (s : State) (p : Nat) (f : PortEgress → PortEgress) : (setEgress s p f).pair = s.pair := rfl
@[simp] theorem setEgress_dram (s : State) (p : Nat) (f : PortEgress → PortEgress) : (setEgress s p f).dram = s.dram := rfl
@[simp] theorem setEgress_pool (s : State) (p : Nat) (f : PortEgress → PortEgress) : (setEgress s p f).pool = s.pool := rfl
@[simp] theorem setEgress_cvu (s : State) (p : Nat) (f : PortEgress → PortEgress) : (setEgress s p f).cvu = s.cvu := rfl
@[simp] theorem setEgress_upd (s : State) (p : Nat) (f : PortEgress → PortEgress) : (setEgress s p f).upd = s.upd := rfl
@[simp] theorem setEgress_host (s : State) (p : Nat) (f : PortEgress → PortEgress) : (setEgress s p f).host = s.host := rfl
@[simp] theorem setEgress_spi (s : State) (p : Nat) (f : PortEgress → PortEgress) : (setEgress s p f).spi = s.spi := rfl
@[simp] theorem setEgress_pins (s : State) (p : Nat) (f : PortEgress → PortEgress) : (setEgress s p f).pins = s.pins := rfl
@[simp] theorem setEgress_tap (s : State) (p : Nat) (f : PortEgress → PortEgress) : (setEgress s p f).tap = s.tap := rfl
@[simp] theorem setEgress_out (s : State) (p : Nat) (f : PortEgress → PortEgress) : (setEgress s p f).out = s.out := rfl
@[simp] theorem setEgress_drawn (s : State) (p : Nat) (f : PortEgress → PortEgress) : (setEgress s p f).drawn = s.drawn := rfl
@[simp] theorem setEgress_pending (s : State) (p : Nat) (f : PortEgress → PortEgress) : (setEgress s p f).pending = s.pending := rfl

@[simp] theorem creditsNow_op (s : State) (p : Nat) : (creditsNow s p).op = s.op := by simp [creditsNow]
@[simp] theorem creditsNow_cfg (s : State) (p : Nat) : (creditsNow s p).cfg = s.cfg := by simp [creditsNow]
@[simp] theorem creditsNow_cnt (s : State) (p : Nat) : (creditsNow s p).cnt = s.cnt := by simp [creditsNow]
@[simp] theorem creditsNow_store (s : State) (p : Nat) : (creditsNow s p).store = s.store := by simp [creditsNow]
@[simp] theorem creditsNow_sessions (s : State) (p : Nat) : (creditsNow s p).sessions = s.sessions := by simp [creditsNow]
@[simp] theorem creditsNow_cs (s : State) (p : Nat) : (creditsNow s p).cs = s.cs := by simp [creditsNow]
@[simp] theorem creditsNow_ev (s : State) (p : Nat) : (creditsNow s p).ev = s.ev := by simp [creditsNow]
@[simp] theorem creditsNow_time (s : State) (p : Nat) : (creditsNow s p).time = s.time := by simp [creditsNow]
@[simp] theorem creditsNow_can (s : State) (p : Nat) : (creditsNow s p).can = s.can := by simp [creditsNow]
@[simp] theorem creditsNow_serial (s : State) (p : Nat) : (creditsNow s p).serial = s.serial := by simp [creditsNow]
@[simp] theorem creditsNow_mvb (s : State) (p : Nat) : (creditsNow s p).mvb = s.mvb := by simp [creditsNow]
@[simp] theorem creditsNow_jour (s : State) (p : Nat) : (creditsNow s p).jour = s.jour := by simp [creditsNow]
@[simp] theorem creditsNow_wear (s : State) (p : Nat) : (creditsNow s p).wear = s.wear := by simp [creditsNow]
@[simp] theorem creditsNow_look (s : State) (p : Nat) : (creditsNow s p).look = s.look := by simp [creditsNow]
@[simp] theorem creditsNow_zone (s : State) (p : Nat) : (creditsNow s p).zone = s.zone := by simp [creditsNow]
@[simp] theorem creditsNow_gw (s : State) (p : Nat) : (creditsNow s p).gw = s.gw := by simp [creditsNow]
@[simp] theorem creditsNow_br (s : State) (p : Nat) : (creditsNow s p).br = s.br := by simp [creditsNow]
@[simp] theorem creditsNow_aud (s : State) (p : Nat) : (creditsNow s p).aud = s.aud := by simp [creditsNow]
@[simp] theorem creditsNow_pos (s : State) (p : Nat) : (creditsNow s p).pos = s.pos := by simp [creditsNow]
@[simp] theorem creditsNow_pow (s : State) (p : Nat) : (creditsNow s p).pow = s.pow := by simp [creditsNow]
@[simp] theorem creditsNow_slp (s : State) (p : Nat) : (creditsNow s p).slp = s.slp := by simp [creditsNow]
@[simp] theorem creditsNow_gp (s : State) (p : Nat) : (creditsNow s p).gp = s.gp := by simp [creditsNow]
@[simp] theorem creditsNow_pair (s : State) (p : Nat) : (creditsNow s p).pair = s.pair := by simp [creditsNow]
@[simp] theorem creditsNow_dram (s : State) (p : Nat) : (creditsNow s p).dram = s.dram := by simp [creditsNow]
@[simp] theorem creditsNow_pool (s : State) (p : Nat) : (creditsNow s p).pool = s.pool := by simp [creditsNow]
@[simp] theorem creditsNow_cvu (s : State) (p : Nat) : (creditsNow s p).cvu = s.cvu := by simp [creditsNow]
@[simp] theorem creditsNow_upd (s : State) (p : Nat) : (creditsNow s p).upd = s.upd := by simp [creditsNow]
@[simp] theorem creditsNow_host (s : State) (p : Nat) : (creditsNow s p).host = s.host := by simp [creditsNow]
@[simp] theorem creditsNow_spi (s : State) (p : Nat) : (creditsNow s p).spi = s.spi := by simp [creditsNow]
@[simp] theorem creditsNow_pins (s : State) (p : Nat) : (creditsNow s p).pins = s.pins := by simp [creditsNow]
@[simp] theorem creditsNow_tap (s : State) (p : Nat) : (creditsNow s p).tap = s.tap := by simp [creditsNow]
@[simp] theorem creditsNow_out (s : State) (p : Nat) : (creditsNow s p).out = s.out := by simp [creditsNow]
@[simp] theorem creditsNow_drawn (s : State) (p : Nat) : (creditsNow s p).drawn = s.drawn := by simp [creditsNow]
@[simp] theorem creditsNow_pending (s : State) (p : Nat) : (creditsNow s p).pending = s.pending := by simp [creditsNow]

@[simp] theorem setQueue_op (s : State) (q : Nat) (l : List Copy) : (setQueue s q l).op = s.op := by unfold setQueue; dsimp only; split <;> simp
@[simp] theorem setQueue_cfg (s : State) (q : Nat) (l : List Copy) : (setQueue s q l).cfg = s.cfg := by unfold setQueue; dsimp only; split <;> simp
@[simp] theorem setQueue_cnt (s : State) (q : Nat) (l : List Copy) : (setQueue s q l).cnt = s.cnt := by unfold setQueue; dsimp only; split <;> simp
@[simp] theorem setQueue_store (s : State) (q : Nat) (l : List Copy) : (setQueue s q l).store = s.store := by unfold setQueue; dsimp only; split <;> simp
@[simp] theorem setQueue_sessions (s : State) (q : Nat) (l : List Copy) : (setQueue s q l).sessions = s.sessions := by unfold setQueue; dsimp only; split <;> simp
@[simp] theorem setQueue_cs (s : State) (q : Nat) (l : List Copy) : (setQueue s q l).cs = s.cs := by unfold setQueue; dsimp only; split <;> simp
@[simp] theorem setQueue_ev (s : State) (q : Nat) (l : List Copy) : (setQueue s q l).ev = s.ev := by unfold setQueue; dsimp only; split <;> simp
@[simp] theorem setQueue_time (s : State) (q : Nat) (l : List Copy) : (setQueue s q l).time = s.time := by unfold setQueue; dsimp only; split <;> simp
@[simp] theorem setQueue_can (s : State) (q : Nat) (l : List Copy) : (setQueue s q l).can = s.can := by unfold setQueue; dsimp only; split <;> simp
@[simp] theorem setQueue_serial (s : State) (q : Nat) (l : List Copy) : (setQueue s q l).serial = s.serial := by unfold setQueue; dsimp only; split <;> simp
@[simp] theorem setQueue_mvb (s : State) (q : Nat) (l : List Copy) : (setQueue s q l).mvb = s.mvb := by unfold setQueue; dsimp only; split <;> simp
@[simp] theorem setQueue_jour (s : State) (q : Nat) (l : List Copy) : (setQueue s q l).jour = s.jour := by unfold setQueue; dsimp only; split <;> simp
@[simp] theorem setQueue_wear (s : State) (q : Nat) (l : List Copy) : (setQueue s q l).wear = s.wear := by unfold setQueue; dsimp only; split <;> simp
@[simp] theorem setQueue_look (s : State) (q : Nat) (l : List Copy) : (setQueue s q l).look = s.look := by unfold setQueue; dsimp only; split <;> simp
@[simp] theorem setQueue_zone (s : State) (q : Nat) (l : List Copy) : (setQueue s q l).zone = s.zone := by unfold setQueue; dsimp only; split <;> simp
@[simp] theorem setQueue_gw (s : State) (q : Nat) (l : List Copy) : (setQueue s q l).gw = s.gw := by unfold setQueue; dsimp only; split <;> simp
@[simp] theorem setQueue_br (s : State) (q : Nat) (l : List Copy) : (setQueue s q l).br = s.br := by unfold setQueue; dsimp only; split <;> simp
@[simp] theorem setQueue_aud (s : State) (q : Nat) (l : List Copy) : (setQueue s q l).aud = s.aud := by unfold setQueue; dsimp only; split <;> simp
@[simp] theorem setQueue_pos (s : State) (q : Nat) (l : List Copy) : (setQueue s q l).pos = s.pos := by unfold setQueue; dsimp only; split <;> simp
@[simp] theorem setQueue_pow (s : State) (q : Nat) (l : List Copy) : (setQueue s q l).pow = s.pow := by unfold setQueue; dsimp only; split <;> simp
@[simp] theorem setQueue_slp (s : State) (q : Nat) (l : List Copy) : (setQueue s q l).slp = s.slp := by unfold setQueue; dsimp only; split <;> simp
@[simp] theorem setQueue_gp (s : State) (q : Nat) (l : List Copy) : (setQueue s q l).gp = s.gp := by unfold setQueue; dsimp only; split <;> simp
@[simp] theorem setQueue_pair (s : State) (q : Nat) (l : List Copy) : (setQueue s q l).pair = s.pair := by unfold setQueue; dsimp only; split <;> simp
@[simp] theorem setQueue_dram (s : State) (q : Nat) (l : List Copy) : (setQueue s q l).dram = s.dram := by unfold setQueue; dsimp only; split <;> simp
@[simp] theorem setQueue_pool (s : State) (q : Nat) (l : List Copy) : (setQueue s q l).pool = s.pool := by unfold setQueue; dsimp only; split <;> simp
@[simp] theorem setQueue_cvu (s : State) (q : Nat) (l : List Copy) : (setQueue s q l).cvu = s.cvu := by unfold setQueue; dsimp only; split <;> simp
@[simp] theorem setQueue_upd (s : State) (q : Nat) (l : List Copy) : (setQueue s q l).upd = s.upd := by unfold setQueue; dsimp only; split <;> simp
@[simp] theorem setQueue_host (s : State) (q : Nat) (l : List Copy) : (setQueue s q l).host = s.host := by unfold setQueue; dsimp only; split <;> simp
@[simp] theorem setQueue_spi (s : State) (q : Nat) (l : List Copy) : (setQueue s q l).spi = s.spi := by unfold setQueue; dsimp only; split <;> simp
@[simp] theorem setQueue_pins (s : State) (q : Nat) (l : List Copy) : (setQueue s q l).pins = s.pins := by unfold setQueue; dsimp only; split <;> simp
@[simp] theorem setQueue_tap (s : State) (q : Nat) (l : List Copy) : (setQueue s q l).tap = s.tap := by unfold setQueue; dsimp only; split <;> simp
@[simp] theorem setQueue_out (s : State) (q : Nat) (l : List Copy) : (setQueue s q l).out = s.out := by unfold setQueue; dsimp only; split <;> simp
@[simp] theorem setQueue_drawn (s : State) (q : Nat) (l : List Copy) : (setQueue s q l).drawn = s.drawn := by unfold setQueue; dsimp only; split <;> simp
@[simp] theorem setQueue_pending (s : State) (q : Nat) (l : List Copy) : (setQueue s q l).pending = s.pending := by unfold setQueue; dsimp only; split <;> simp

@[simp] theorem setLag_op (s : State) (g : Nat) (t : Bytes) : (setLag s g t).op = s.op := rfl
@[simp] theorem setLag_cfg (s : State) (g : Nat) (t : Bytes) : (setLag s g t).cfg = s.cfg := rfl
@[simp] theorem setLag_cnt (s : State) (g : Nat) (t : Bytes) : (setLag s g t).cnt = s.cnt := rfl
@[simp] theorem setLag_store (s : State) (g : Nat) (t : Bytes) : (setLag s g t).store = s.store := rfl
@[simp] theorem setLag_sessions (s : State) (g : Nat) (t : Bytes) : (setLag s g t).sessions = s.sessions := rfl
@[simp] theorem setLag_cs (s : State) (g : Nat) (t : Bytes) : (setLag s g t).cs = s.cs := rfl
@[simp] theorem setLag_ev (s : State) (g : Nat) (t : Bytes) : (setLag s g t).ev = s.ev := rfl
@[simp] theorem setLag_time (s : State) (g : Nat) (t : Bytes) : (setLag s g t).time = s.time := rfl
@[simp] theorem setLag_can (s : State) (g : Nat) (t : Bytes) : (setLag s g t).can = s.can := rfl
@[simp] theorem setLag_serial (s : State) (g : Nat) (t : Bytes) : (setLag s g t).serial = s.serial := rfl
@[simp] theorem setLag_mvb (s : State) (g : Nat) (t : Bytes) : (setLag s g t).mvb = s.mvb := rfl
@[simp] theorem setLag_jour (s : State) (g : Nat) (t : Bytes) : (setLag s g t).jour = s.jour := rfl
@[simp] theorem setLag_wear (s : State) (g : Nat) (t : Bytes) : (setLag s g t).wear = s.wear := rfl
@[simp] theorem setLag_look (s : State) (g : Nat) (t : Bytes) : (setLag s g t).look = s.look := rfl
@[simp] theorem setLag_zone (s : State) (g : Nat) (t : Bytes) : (setLag s g t).zone = s.zone := rfl
@[simp] theorem setLag_gw (s : State) (g : Nat) (t : Bytes) : (setLag s g t).gw = s.gw := rfl
@[simp] theorem setLag_br (s : State) (g : Nat) (t : Bytes) : (setLag s g t).br = s.br := rfl
@[simp] theorem setLag_aud (s : State) (g : Nat) (t : Bytes) : (setLag s g t).aud = s.aud := rfl
@[simp] theorem setLag_pos (s : State) (g : Nat) (t : Bytes) : (setLag s g t).pos = s.pos := rfl
@[simp] theorem setLag_pow (s : State) (g : Nat) (t : Bytes) : (setLag s g t).pow = s.pow := rfl
@[simp] theorem setLag_slp (s : State) (g : Nat) (t : Bytes) : (setLag s g t).slp = s.slp := rfl
@[simp] theorem setLag_gp (s : State) (g : Nat) (t : Bytes) : (setLag s g t).gp = s.gp := rfl
@[simp] theorem setLag_pair (s : State) (g : Nat) (t : Bytes) : (setLag s g t).pair = s.pair := rfl
@[simp] theorem setLag_dram (s : State) (g : Nat) (t : Bytes) : (setLag s g t).dram = s.dram := rfl
@[simp] theorem setLag_pool (s : State) (g : Nat) (t : Bytes) : (setLag s g t).pool = s.pool := rfl
@[simp] theorem setLag_cvu (s : State) (g : Nat) (t : Bytes) : (setLag s g t).cvu = s.cvu := rfl
@[simp] theorem setLag_upd (s : State) (g : Nat) (t : Bytes) : (setLag s g t).upd = s.upd := rfl
@[simp] theorem setLag_host (s : State) (g : Nat) (t : Bytes) : (setLag s g t).host = s.host := rfl
@[simp] theorem setLag_spi (s : State) (g : Nat) (t : Bytes) : (setLag s g t).spi = s.spi := rfl
@[simp] theorem setLag_pins (s : State) (g : Nat) (t : Bytes) : (setLag s g t).pins = s.pins := rfl
@[simp] theorem setLag_tap (s : State) (g : Nat) (t : Bytes) : (setLag s g t).tap = s.tap := rfl
@[simp] theorem setLag_out (s : State) (g : Nat) (t : Bytes) : (setLag s g t).out = s.out := rfl
@[simp] theorem setLag_drawn (s : State) (g : Nat) (t : Bytes) : (setLag s g t).drawn = s.drawn := rfl
@[simp] theorem setLag_pending (s : State) (g : Nat) (t : Bytes) : (setLag s g t).pending = s.pending := rfl

@[simp] theorem setFwd_op (s : State) (t : Tbl FwdEntry) : (setFwd s t).op = s.op := rfl
@[simp] theorem setFwd_cfg (s : State) (t : Tbl FwdEntry) : (setFwd s t).cfg = s.cfg := rfl
@[simp] theorem setFwd_cnt (s : State) (t : Tbl FwdEntry) : (setFwd s t).cnt = s.cnt := rfl
@[simp] theorem setFwd_store (s : State) (t : Tbl FwdEntry) : (setFwd s t).store = s.store := rfl
@[simp] theorem setFwd_sessions (s : State) (t : Tbl FwdEntry) : (setFwd s t).sessions = s.sessions := rfl
@[simp] theorem setFwd_cs (s : State) (t : Tbl FwdEntry) : (setFwd s t).cs = s.cs := rfl
@[simp] theorem setFwd_ev (s : State) (t : Tbl FwdEntry) : (setFwd s t).ev = s.ev := rfl
@[simp] theorem setFwd_time (s : State) (t : Tbl FwdEntry) : (setFwd s t).time = s.time := rfl
@[simp] theorem setFwd_can (s : State) (t : Tbl FwdEntry) : (setFwd s t).can = s.can := rfl
@[simp] theorem setFwd_serial (s : State) (t : Tbl FwdEntry) : (setFwd s t).serial = s.serial := rfl
@[simp] theorem setFwd_mvb (s : State) (t : Tbl FwdEntry) : (setFwd s t).mvb = s.mvb := rfl
@[simp] theorem setFwd_jour (s : State) (t : Tbl FwdEntry) : (setFwd s t).jour = s.jour := rfl
@[simp] theorem setFwd_wear (s : State) (t : Tbl FwdEntry) : (setFwd s t).wear = s.wear := rfl
@[simp] theorem setFwd_fab (s : State) (t : Tbl FwdEntry) : (setFwd s t).fab = s.fab := rfl
@[simp] theorem setFwd_zone (s : State) (t : Tbl FwdEntry) : (setFwd s t).zone = s.zone := rfl
@[simp] theorem setFwd_gw (s : State) (t : Tbl FwdEntry) : (setFwd s t).gw = s.gw := rfl
@[simp] theorem setFwd_br (s : State) (t : Tbl FwdEntry) : (setFwd s t).br = s.br := rfl
@[simp] theorem setFwd_aud (s : State) (t : Tbl FwdEntry) : (setFwd s t).aud = s.aud := rfl
@[simp] theorem setFwd_pos (s : State) (t : Tbl FwdEntry) : (setFwd s t).pos = s.pos := rfl
@[simp] theorem setFwd_pow (s : State) (t : Tbl FwdEntry) : (setFwd s t).pow = s.pow := rfl
@[simp] theorem setFwd_slp (s : State) (t : Tbl FwdEntry) : (setFwd s t).slp = s.slp := rfl
@[simp] theorem setFwd_gp (s : State) (t : Tbl FwdEntry) : (setFwd s t).gp = s.gp := rfl
@[simp] theorem setFwd_pair (s : State) (t : Tbl FwdEntry) : (setFwd s t).pair = s.pair := rfl
@[simp] theorem setFwd_dram (s : State) (t : Tbl FwdEntry) : (setFwd s t).dram = s.dram := rfl
@[simp] theorem setFwd_pool (s : State) (t : Tbl FwdEntry) : (setFwd s t).pool = s.pool := rfl
@[simp] theorem setFwd_cvu (s : State) (t : Tbl FwdEntry) : (setFwd s t).cvu = s.cvu := rfl
@[simp] theorem setFwd_upd (s : State) (t : Tbl FwdEntry) : (setFwd s t).upd = s.upd := rfl
@[simp] theorem setFwd_host (s : State) (t : Tbl FwdEntry) : (setFwd s t).host = s.host := rfl
@[simp] theorem setFwd_spi (s : State) (t : Tbl FwdEntry) : (setFwd s t).spi = s.spi := rfl
@[simp] theorem setFwd_pins (s : State) (t : Tbl FwdEntry) : (setFwd s t).pins = s.pins := rfl
@[simp] theorem setFwd_tap (s : State) (t : Tbl FwdEntry) : (setFwd s t).tap = s.tap := rfl
@[simp] theorem setFwd_out (s : State) (t : Tbl FwdEntry) : (setFwd s t).out = s.out := rfl
@[simp] theorem setFwd_drawn (s : State) (t : Tbl FwdEntry) : (setFwd s t).drawn = s.drawn := rfl
@[simp] theorem setFwd_pending (s : State) (t : Tbl FwdEntry) : (setFwd s t).pending = s.pending := rfl

@[simp] theorem setMeter_op (s : State) (m : Nat) (x : Meter) : (setMeter s m x).op = s.op := rfl
@[simp] theorem setMeter_cfg (s : State) (m : Nat) (x : Meter) : (setMeter s m x).cfg = s.cfg := rfl
@[simp] theorem setMeter_cnt (s : State) (m : Nat) (x : Meter) : (setMeter s m x).cnt = s.cnt := rfl
@[simp] theorem setMeter_store (s : State) (m : Nat) (x : Meter) : (setMeter s m x).store = s.store := rfl
@[simp] theorem setMeter_sessions (s : State) (m : Nat) (x : Meter) : (setMeter s m x).sessions = s.sessions := rfl
@[simp] theorem setMeter_cs (s : State) (m : Nat) (x : Meter) : (setMeter s m x).cs = s.cs := rfl
@[simp] theorem setMeter_ev (s : State) (m : Nat) (x : Meter) : (setMeter s m x).ev = s.ev := rfl
@[simp] theorem setMeter_time (s : State) (m : Nat) (x : Meter) : (setMeter s m x).time = s.time := rfl
@[simp] theorem setMeter_can (s : State) (m : Nat) (x : Meter) : (setMeter s m x).can = s.can := rfl
@[simp] theorem setMeter_serial (s : State) (m : Nat) (x : Meter) : (setMeter s m x).serial = s.serial := rfl
@[simp] theorem setMeter_mvb (s : State) (m : Nat) (x : Meter) : (setMeter s m x).mvb = s.mvb := rfl
@[simp] theorem setMeter_jour (s : State) (m : Nat) (x : Meter) : (setMeter s m x).jour = s.jour := rfl
@[simp] theorem setMeter_wear (s : State) (m : Nat) (x : Meter) : (setMeter s m x).wear = s.wear := rfl
@[simp] theorem setMeter_fab (s : State) (m : Nat) (x : Meter) : (setMeter s m x).fab = s.fab := rfl
@[simp] theorem setMeter_zone (s : State) (m : Nat) (x : Meter) : (setMeter s m x).zone = s.zone := rfl
@[simp] theorem setMeter_gw (s : State) (m : Nat) (x : Meter) : (setMeter s m x).gw = s.gw := rfl
@[simp] theorem setMeter_br (s : State) (m : Nat) (x : Meter) : (setMeter s m x).br = s.br := rfl
@[simp] theorem setMeter_aud (s : State) (m : Nat) (x : Meter) : (setMeter s m x).aud = s.aud := rfl
@[simp] theorem setMeter_pos (s : State) (m : Nat) (x : Meter) : (setMeter s m x).pos = s.pos := rfl
@[simp] theorem setMeter_pow (s : State) (m : Nat) (x : Meter) : (setMeter s m x).pow = s.pow := rfl
@[simp] theorem setMeter_slp (s : State) (m : Nat) (x : Meter) : (setMeter s m x).slp = s.slp := rfl
@[simp] theorem setMeter_gp (s : State) (m : Nat) (x : Meter) : (setMeter s m x).gp = s.gp := rfl
@[simp] theorem setMeter_pair (s : State) (m : Nat) (x : Meter) : (setMeter s m x).pair = s.pair := rfl
@[simp] theorem setMeter_dram (s : State) (m : Nat) (x : Meter) : (setMeter s m x).dram = s.dram := rfl
@[simp] theorem setMeter_pool (s : State) (m : Nat) (x : Meter) : (setMeter s m x).pool = s.pool := rfl
@[simp] theorem setMeter_cvu (s : State) (m : Nat) (x : Meter) : (setMeter s m x).cvu = s.cvu := rfl
@[simp] theorem setMeter_upd (s : State) (m : Nat) (x : Meter) : (setMeter s m x).upd = s.upd := rfl
@[simp] theorem setMeter_host (s : State) (m : Nat) (x : Meter) : (setMeter s m x).host = s.host := rfl
@[simp] theorem setMeter_spi (s : State) (m : Nat) (x : Meter) : (setMeter s m x).spi = s.spi := rfl
@[simp] theorem setMeter_pins (s : State) (m : Nat) (x : Meter) : (setMeter s m x).pins = s.pins := rfl
@[simp] theorem setMeter_tap (s : State) (m : Nat) (x : Meter) : (setMeter s m x).tap = s.tap := rfl
@[simp] theorem setMeter_out (s : State) (m : Nat) (x : Meter) : (setMeter s m x).out = s.out := rfl
@[simp] theorem setMeter_drawn (s : State) (m : Nat) (x : Meter) : (setMeter s m x).drawn = s.drawn := rfl
@[simp] theorem setMeter_pending (s : State) (m : Nat) (x : Meter) : (setMeter s m x).pending = s.pending := rfl

@[simp] theorem setGate_op (s : State) (g : Nat) (x : StreamGate) : (setGate s g x).op = s.op := rfl
@[simp] theorem setGate_cfg (s : State) (g : Nat) (x : StreamGate) : (setGate s g x).cfg = s.cfg := rfl
@[simp] theorem setGate_cnt (s : State) (g : Nat) (x : StreamGate) : (setGate s g x).cnt = s.cnt := rfl
@[simp] theorem setGate_store (s : State) (g : Nat) (x : StreamGate) : (setGate s g x).store = s.store := rfl
@[simp] theorem setGate_sessions (s : State) (g : Nat) (x : StreamGate) : (setGate s g x).sessions = s.sessions := rfl
@[simp] theorem setGate_cs (s : State) (g : Nat) (x : StreamGate) : (setGate s g x).cs = s.cs := rfl
@[simp] theorem setGate_ev (s : State) (g : Nat) (x : StreamGate) : (setGate s g x).ev = s.ev := rfl
@[simp] theorem setGate_time (s : State) (g : Nat) (x : StreamGate) : (setGate s g x).time = s.time := rfl
@[simp] theorem setGate_can (s : State) (g : Nat) (x : StreamGate) : (setGate s g x).can = s.can := rfl
@[simp] theorem setGate_serial (s : State) (g : Nat) (x : StreamGate) : (setGate s g x).serial = s.serial := rfl
@[simp] theorem setGate_mvb (s : State) (g : Nat) (x : StreamGate) : (setGate s g x).mvb = s.mvb := rfl
@[simp] theorem setGate_jour (s : State) (g : Nat) (x : StreamGate) : (setGate s g x).jour = s.jour := rfl
@[simp] theorem setGate_wear (s : State) (g : Nat) (x : StreamGate) : (setGate s g x).wear = s.wear := rfl
@[simp] theorem setGate_fab (s : State) (g : Nat) (x : StreamGate) : (setGate s g x).fab = s.fab := rfl
@[simp] theorem setGate_zone (s : State) (g : Nat) (x : StreamGate) : (setGate s g x).zone = s.zone := rfl
@[simp] theorem setGate_gw (s : State) (g : Nat) (x : StreamGate) : (setGate s g x).gw = s.gw := rfl
@[simp] theorem setGate_br (s : State) (g : Nat) (x : StreamGate) : (setGate s g x).br = s.br := rfl
@[simp] theorem setGate_aud (s : State) (g : Nat) (x : StreamGate) : (setGate s g x).aud = s.aud := rfl
@[simp] theorem setGate_pos (s : State) (g : Nat) (x : StreamGate) : (setGate s g x).pos = s.pos := rfl
@[simp] theorem setGate_pow (s : State) (g : Nat) (x : StreamGate) : (setGate s g x).pow = s.pow := rfl
@[simp] theorem setGate_slp (s : State) (g : Nat) (x : StreamGate) : (setGate s g x).slp = s.slp := rfl
@[simp] theorem setGate_gp (s : State) (g : Nat) (x : StreamGate) : (setGate s g x).gp = s.gp := rfl
@[simp] theorem setGate_pair (s : State) (g : Nat) (x : StreamGate) : (setGate s g x).pair = s.pair := rfl
@[simp] theorem setGate_dram (s : State) (g : Nat) (x : StreamGate) : (setGate s g x).dram = s.dram := rfl
@[simp] theorem setGate_pool (s : State) (g : Nat) (x : StreamGate) : (setGate s g x).pool = s.pool := rfl
@[simp] theorem setGate_cvu (s : State) (g : Nat) (x : StreamGate) : (setGate s g x).cvu = s.cvu := rfl
@[simp] theorem setGate_upd (s : State) (g : Nat) (x : StreamGate) : (setGate s g x).upd = s.upd := rfl
@[simp] theorem setGate_host (s : State) (g : Nat) (x : StreamGate) : (setGate s g x).host = s.host := rfl
@[simp] theorem setGate_spi (s : State) (g : Nat) (x : StreamGate) : (setGate s g x).spi = s.spi := rfl
@[simp] theorem setGate_pins (s : State) (g : Nat) (x : StreamGate) : (setGate s g x).pins = s.pins := rfl
@[simp] theorem setGate_tap (s : State) (g : Nat) (x : StreamGate) : (setGate s g x).tap = s.tap := rfl
@[simp] theorem setGate_out (s : State) (g : Nat) (x : StreamGate) : (setGate s g x).out = s.out := rfl
@[simp] theorem setGate_drawn (s : State) (g : Nat) (x : StreamGate) : (setGate s g x).drawn = s.drawn := rfl
@[simp] theorem setGate_pending (s : State) (g : Nat) (x : StreamGate) : (setGate s g x).pending = s.pending := rfl

@[simp] theorem setRecovery_op (s : State) (n : Nat) (x : Recovery) : (setRecovery s n x).op = s.op := rfl
@[simp] theorem setRecovery_cfg (s : State) (n : Nat) (x : Recovery) : (setRecovery s n x).cfg = s.cfg := rfl
@[simp] theorem setRecovery_cnt (s : State) (n : Nat) (x : Recovery) : (setRecovery s n x).cnt = s.cnt := rfl
@[simp] theorem setRecovery_store (s : State) (n : Nat) (x : Recovery) : (setRecovery s n x).store = s.store := rfl
@[simp] theorem setRecovery_sessions (s : State) (n : Nat) (x : Recovery) : (setRecovery s n x).sessions = s.sessions := rfl
@[simp] theorem setRecovery_cs (s : State) (n : Nat) (x : Recovery) : (setRecovery s n x).cs = s.cs := rfl
@[simp] theorem setRecovery_ev (s : State) (n : Nat) (x : Recovery) : (setRecovery s n x).ev = s.ev := rfl
@[simp] theorem setRecovery_time (s : State) (n : Nat) (x : Recovery) : (setRecovery s n x).time = s.time := rfl
@[simp] theorem setRecovery_can (s : State) (n : Nat) (x : Recovery) : (setRecovery s n x).can = s.can := rfl
@[simp] theorem setRecovery_serial (s : State) (n : Nat) (x : Recovery) : (setRecovery s n x).serial = s.serial := rfl
@[simp] theorem setRecovery_mvb (s : State) (n : Nat) (x : Recovery) : (setRecovery s n x).mvb = s.mvb := rfl
@[simp] theorem setRecovery_jour (s : State) (n : Nat) (x : Recovery) : (setRecovery s n x).jour = s.jour := rfl
@[simp] theorem setRecovery_wear (s : State) (n : Nat) (x : Recovery) : (setRecovery s n x).wear = s.wear := rfl
@[simp] theorem setRecovery_fab (s : State) (n : Nat) (x : Recovery) : (setRecovery s n x).fab = s.fab := rfl
@[simp] theorem setRecovery_zone (s : State) (n : Nat) (x : Recovery) : (setRecovery s n x).zone = s.zone := rfl
@[simp] theorem setRecovery_gw (s : State) (n : Nat) (x : Recovery) : (setRecovery s n x).gw = s.gw := rfl
@[simp] theorem setRecovery_br (s : State) (n : Nat) (x : Recovery) : (setRecovery s n x).br = s.br := rfl
@[simp] theorem setRecovery_aud (s : State) (n : Nat) (x : Recovery) : (setRecovery s n x).aud = s.aud := rfl
@[simp] theorem setRecovery_pos (s : State) (n : Nat) (x : Recovery) : (setRecovery s n x).pos = s.pos := rfl
@[simp] theorem setRecovery_pow (s : State) (n : Nat) (x : Recovery) : (setRecovery s n x).pow = s.pow := rfl
@[simp] theorem setRecovery_slp (s : State) (n : Nat) (x : Recovery) : (setRecovery s n x).slp = s.slp := rfl
@[simp] theorem setRecovery_gp (s : State) (n : Nat) (x : Recovery) : (setRecovery s n x).gp = s.gp := rfl
@[simp] theorem setRecovery_pair (s : State) (n : Nat) (x : Recovery) : (setRecovery s n x).pair = s.pair := rfl
@[simp] theorem setRecovery_dram (s : State) (n : Nat) (x : Recovery) : (setRecovery s n x).dram = s.dram := rfl
@[simp] theorem setRecovery_pool (s : State) (n : Nat) (x : Recovery) : (setRecovery s n x).pool = s.pool := rfl
@[simp] theorem setRecovery_cvu (s : State) (n : Nat) (x : Recovery) : (setRecovery s n x).cvu = s.cvu := rfl
@[simp] theorem setRecovery_upd (s : State) (n : Nat) (x : Recovery) : (setRecovery s n x).upd = s.upd := rfl
@[simp] theorem setRecovery_host (s : State) (n : Nat) (x : Recovery) : (setRecovery s n x).host = s.host := rfl
@[simp] theorem setRecovery_spi (s : State) (n : Nat) (x : Recovery) : (setRecovery s n x).spi = s.spi := rfl
@[simp] theorem setRecovery_pins (s : State) (n : Nat) (x : Recovery) : (setRecovery s n x).pins = s.pins := rfl
@[simp] theorem setRecovery_tap (s : State) (n : Nat) (x : Recovery) : (setRecovery s n x).tap = s.tap := rfl
@[simp] theorem setRecovery_out (s : State) (n : Nat) (x : Recovery) : (setRecovery s n x).out = s.out := rfl
@[simp] theorem setRecovery_drawn (s : State) (n : Nat) (x : Recovery) : (setRecovery s n x).drawn = s.drawn := rfl
@[simp] theorem setRecovery_pending (s : State) (n : Nat) (x : Recovery) : (setRecovery s n x).pending = s.pending := rfl

@[simp] theorem setFlow_op (s : State) (n : Nat) (x : Flow) : (setFlow s n x).op = s.op := rfl
@[simp] theorem setFlow_cfg (s : State) (n : Nat) (x : Flow) : (setFlow s n x).cfg = s.cfg := rfl
@[simp] theorem setFlow_cnt (s : State) (n : Nat) (x : Flow) : (setFlow s n x).cnt = s.cnt := rfl
@[simp] theorem setFlow_store (s : State) (n : Nat) (x : Flow) : (setFlow s n x).store = s.store := rfl
@[simp] theorem setFlow_sessions (s : State) (n : Nat) (x : Flow) : (setFlow s n x).sessions = s.sessions := rfl
@[simp] theorem setFlow_cs (s : State) (n : Nat) (x : Flow) : (setFlow s n x).cs = s.cs := rfl
@[simp] theorem setFlow_ev (s : State) (n : Nat) (x : Flow) : (setFlow s n x).ev = s.ev := rfl
@[simp] theorem setFlow_time (s : State) (n : Nat) (x : Flow) : (setFlow s n x).time = s.time := rfl
@[simp] theorem setFlow_can (s : State) (n : Nat) (x : Flow) : (setFlow s n x).can = s.can := rfl
@[simp] theorem setFlow_serial (s : State) (n : Nat) (x : Flow) : (setFlow s n x).serial = s.serial := rfl
@[simp] theorem setFlow_mvb (s : State) (n : Nat) (x : Flow) : (setFlow s n x).mvb = s.mvb := rfl
@[simp] theorem setFlow_jour (s : State) (n : Nat) (x : Flow) : (setFlow s n x).jour = s.jour := rfl
@[simp] theorem setFlow_wear (s : State) (n : Nat) (x : Flow) : (setFlow s n x).wear = s.wear := rfl
@[simp] theorem setFlow_fab (s : State) (n : Nat) (x : Flow) : (setFlow s n x).fab = s.fab := rfl
@[simp] theorem setFlow_look (s : State) (n : Nat) (x : Flow) : (setFlow s n x).look = s.look := rfl
@[simp] theorem setFlow_gw (s : State) (n : Nat) (x : Flow) : (setFlow s n x).gw = s.gw := rfl
@[simp] theorem setFlow_br (s : State) (n : Nat) (x : Flow) : (setFlow s n x).br = s.br := rfl
@[simp] theorem setFlow_aud (s : State) (n : Nat) (x : Flow) : (setFlow s n x).aud = s.aud := rfl
@[simp] theorem setFlow_pos (s : State) (n : Nat) (x : Flow) : (setFlow s n x).pos = s.pos := rfl
@[simp] theorem setFlow_pow (s : State) (n : Nat) (x : Flow) : (setFlow s n x).pow = s.pow := rfl
@[simp] theorem setFlow_slp (s : State) (n : Nat) (x : Flow) : (setFlow s n x).slp = s.slp := rfl
@[simp] theorem setFlow_gp (s : State) (n : Nat) (x : Flow) : (setFlow s n x).gp = s.gp := rfl
@[simp] theorem setFlow_pair (s : State) (n : Nat) (x : Flow) : (setFlow s n x).pair = s.pair := rfl
@[simp] theorem setFlow_dram (s : State) (n : Nat) (x : Flow) : (setFlow s n x).dram = s.dram := rfl
@[simp] theorem setFlow_pool (s : State) (n : Nat) (x : Flow) : (setFlow s n x).pool = s.pool := rfl
@[simp] theorem setFlow_cvu (s : State) (n : Nat) (x : Flow) : (setFlow s n x).cvu = s.cvu := rfl
@[simp] theorem setFlow_upd (s : State) (n : Nat) (x : Flow) : (setFlow s n x).upd = s.upd := rfl
@[simp] theorem setFlow_host (s : State) (n : Nat) (x : Flow) : (setFlow s n x).host = s.host := rfl
@[simp] theorem setFlow_spi (s : State) (n : Nat) (x : Flow) : (setFlow s n x).spi = s.spi := rfl
@[simp] theorem setFlow_pins (s : State) (n : Nat) (x : Flow) : (setFlow s n x).pins = s.pins := rfl
@[simp] theorem setFlow_tap (s : State) (n : Nat) (x : Flow) : (setFlow s n x).tap = s.tap := rfl
@[simp] theorem setFlow_out (s : State) (n : Nat) (x : Flow) : (setFlow s n x).out = s.out := rfl
@[simp] theorem setFlow_drawn (s : State) (n : Nat) (x : Flow) : (setFlow s n x).drawn = s.drawn := rfl
@[simp] theorem setFlow_pending (s : State) (n : Nat) (x : Flow) : (setFlow s n x).pending = s.pending := rfl

@[simp] theorem setCan_op (s : State) (cn : Nat) (f : CanPort → CanPort) : (setCan s cn f).op = s.op := rfl
@[simp] theorem setCan_cfg (s : State) (cn : Nat) (f : CanPort → CanPort) : (setCan s cn f).cfg = s.cfg := rfl
@[simp] theorem setCan_cnt (s : State) (cn : Nat) (f : CanPort → CanPort) : (setCan s cn f).cnt = s.cnt := rfl
@[simp] theorem setCan_store (s : State) (cn : Nat) (f : CanPort → CanPort) : (setCan s cn f).store = s.store := rfl
@[simp] theorem setCan_sessions (s : State) (cn : Nat) (f : CanPort → CanPort) : (setCan s cn f).sessions = s.sessions := rfl
@[simp] theorem setCan_cs (s : State) (cn : Nat) (f : CanPort → CanPort) : (setCan s cn f).cs = s.cs := rfl
@[simp] theorem setCan_ev (s : State) (cn : Nat) (f : CanPort → CanPort) : (setCan s cn f).ev = s.ev := rfl
@[simp] theorem setCan_time (s : State) (cn : Nat) (f : CanPort → CanPort) : (setCan s cn f).time = s.time := rfl
@[simp] theorem setCan_serial (s : State) (cn : Nat) (f : CanPort → CanPort) : (setCan s cn f).serial = s.serial := rfl
@[simp] theorem setCan_mvb (s : State) (cn : Nat) (f : CanPort → CanPort) : (setCan s cn f).mvb = s.mvb := rfl
@[simp] theorem setCan_jour (s : State) (cn : Nat) (f : CanPort → CanPort) : (setCan s cn f).jour = s.jour := rfl
@[simp] theorem setCan_wear (s : State) (cn : Nat) (f : CanPort → CanPort) : (setCan s cn f).wear = s.wear := rfl
@[simp] theorem setCan_fab (s : State) (cn : Nat) (f : CanPort → CanPort) : (setCan s cn f).fab = s.fab := rfl
@[simp] theorem setCan_look (s : State) (cn : Nat) (f : CanPort → CanPort) : (setCan s cn f).look = s.look := rfl
@[simp] theorem setCan_zone (s : State) (cn : Nat) (f : CanPort → CanPort) : (setCan s cn f).zone = s.zone := rfl
@[simp] theorem setCan_gw (s : State) (cn : Nat) (f : CanPort → CanPort) : (setCan s cn f).gw = s.gw := rfl
@[simp] theorem setCan_br (s : State) (cn : Nat) (f : CanPort → CanPort) : (setCan s cn f).br = s.br := rfl
@[simp] theorem setCan_aud (s : State) (cn : Nat) (f : CanPort → CanPort) : (setCan s cn f).aud = s.aud := rfl
@[simp] theorem setCan_pos (s : State) (cn : Nat) (f : CanPort → CanPort) : (setCan s cn f).pos = s.pos := rfl
@[simp] theorem setCan_pow (s : State) (cn : Nat) (f : CanPort → CanPort) : (setCan s cn f).pow = s.pow := rfl
@[simp] theorem setCan_slp (s : State) (cn : Nat) (f : CanPort → CanPort) : (setCan s cn f).slp = s.slp := rfl
@[simp] theorem setCan_gp (s : State) (cn : Nat) (f : CanPort → CanPort) : (setCan s cn f).gp = s.gp := rfl
@[simp] theorem setCan_pair (s : State) (cn : Nat) (f : CanPort → CanPort) : (setCan s cn f).pair = s.pair := rfl
@[simp] theorem setCan_dram (s : State) (cn : Nat) (f : CanPort → CanPort) : (setCan s cn f).dram = s.dram := rfl
@[simp] theorem setCan_pool (s : State) (cn : Nat) (f : CanPort → CanPort) : (setCan s cn f).pool = s.pool := rfl
@[simp] theorem setCan_cvu (s : State) (cn : Nat) (f : CanPort → CanPort) : (setCan s cn f).cvu = s.cvu := rfl
@[simp] theorem setCan_upd (s : State) (cn : Nat) (f : CanPort → CanPort) : (setCan s cn f).upd = s.upd := rfl
@[simp] theorem setCan_host (s : State) (cn : Nat) (f : CanPort → CanPort) : (setCan s cn f).host = s.host := rfl
@[simp] theorem setCan_spi (s : State) (cn : Nat) (f : CanPort → CanPort) : (setCan s cn f).spi = s.spi := rfl
@[simp] theorem setCan_pins (s : State) (cn : Nat) (f : CanPort → CanPort) : (setCan s cn f).pins = s.pins := rfl
@[simp] theorem setCan_tap (s : State) (cn : Nat) (f : CanPort → CanPort) : (setCan s cn f).tap = s.tap := rfl
@[simp] theorem setCan_out (s : State) (cn : Nat) (f : CanPort → CanPort) : (setCan s cn f).out = s.out := rfl
@[simp] theorem setCan_drawn (s : State) (cn : Nat) (f : CanPort → CanPort) : (setCan s cn f).drawn = s.drawn := rfl
@[simp] theorem setCan_pending (s : State) (cn : Nat) (f : CanPort → CanPort) : (setCan s cn f).pending = s.pending := rfl

@[simp] theorem setSerial_op (s : State) (sp : Nat) (f : SerialPort → SerialPort) : (setSerial s sp f).op = s.op := rfl
@[simp] theorem setSerial_cfg (s : State) (sp : Nat) (f : SerialPort → SerialPort) : (setSerial s sp f).cfg = s.cfg := rfl
@[simp] theorem setSerial_cnt (s : State) (sp : Nat) (f : SerialPort → SerialPort) : (setSerial s sp f).cnt = s.cnt := rfl
@[simp] theorem setSerial_store (s : State) (sp : Nat) (f : SerialPort → SerialPort) : (setSerial s sp f).store = s.store := rfl
@[simp] theorem setSerial_sessions (s : State) (sp : Nat) (f : SerialPort → SerialPort) : (setSerial s sp f).sessions = s.sessions := rfl
@[simp] theorem setSerial_cs (s : State) (sp : Nat) (f : SerialPort → SerialPort) : (setSerial s sp f).cs = s.cs := rfl
@[simp] theorem setSerial_ev (s : State) (sp : Nat) (f : SerialPort → SerialPort) : (setSerial s sp f).ev = s.ev := rfl
@[simp] theorem setSerial_time (s : State) (sp : Nat) (f : SerialPort → SerialPort) : (setSerial s sp f).time = s.time := rfl
@[simp] theorem setSerial_can (s : State) (sp : Nat) (f : SerialPort → SerialPort) : (setSerial s sp f).can = s.can := rfl
@[simp] theorem setSerial_mvb (s : State) (sp : Nat) (f : SerialPort → SerialPort) : (setSerial s sp f).mvb = s.mvb := rfl
@[simp] theorem setSerial_jour (s : State) (sp : Nat) (f : SerialPort → SerialPort) : (setSerial s sp f).jour = s.jour := rfl
@[simp] theorem setSerial_wear (s : State) (sp : Nat) (f : SerialPort → SerialPort) : (setSerial s sp f).wear = s.wear := rfl
@[simp] theorem setSerial_fab (s : State) (sp : Nat) (f : SerialPort → SerialPort) : (setSerial s sp f).fab = s.fab := rfl
@[simp] theorem setSerial_look (s : State) (sp : Nat) (f : SerialPort → SerialPort) : (setSerial s sp f).look = s.look := rfl
@[simp] theorem setSerial_zone (s : State) (sp : Nat) (f : SerialPort → SerialPort) : (setSerial s sp f).zone = s.zone := rfl
@[simp] theorem setSerial_gw (s : State) (sp : Nat) (f : SerialPort → SerialPort) : (setSerial s sp f).gw = s.gw := rfl
@[simp] theorem setSerial_br (s : State) (sp : Nat) (f : SerialPort → SerialPort) : (setSerial s sp f).br = s.br := rfl
@[simp] theorem setSerial_aud (s : State) (sp : Nat) (f : SerialPort → SerialPort) : (setSerial s sp f).aud = s.aud := rfl
@[simp] theorem setSerial_pos (s : State) (sp : Nat) (f : SerialPort → SerialPort) : (setSerial s sp f).pos = s.pos := rfl
@[simp] theorem setSerial_pow (s : State) (sp : Nat) (f : SerialPort → SerialPort) : (setSerial s sp f).pow = s.pow := rfl
@[simp] theorem setSerial_slp (s : State) (sp : Nat) (f : SerialPort → SerialPort) : (setSerial s sp f).slp = s.slp := rfl
@[simp] theorem setSerial_gp (s : State) (sp : Nat) (f : SerialPort → SerialPort) : (setSerial s sp f).gp = s.gp := rfl
@[simp] theorem setSerial_pair (s : State) (sp : Nat) (f : SerialPort → SerialPort) : (setSerial s sp f).pair = s.pair := rfl
@[simp] theorem setSerial_dram (s : State) (sp : Nat) (f : SerialPort → SerialPort) : (setSerial s sp f).dram = s.dram := rfl
@[simp] theorem setSerial_pool (s : State) (sp : Nat) (f : SerialPort → SerialPort) : (setSerial s sp f).pool = s.pool := rfl
@[simp] theorem setSerial_cvu (s : State) (sp : Nat) (f : SerialPort → SerialPort) : (setSerial s sp f).cvu = s.cvu := rfl
@[simp] theorem setSerial_upd (s : State) (sp : Nat) (f : SerialPort → SerialPort) : (setSerial s sp f).upd = s.upd := rfl
@[simp] theorem setSerial_host (s : State) (sp : Nat) (f : SerialPort → SerialPort) : (setSerial s sp f).host = s.host := rfl
@[simp] theorem setSerial_spi (s : State) (sp : Nat) (f : SerialPort → SerialPort) : (setSerial s sp f).spi = s.spi := rfl
@[simp] theorem setSerial_pins (s : State) (sp : Nat) (f : SerialPort → SerialPort) : (setSerial s sp f).pins = s.pins := rfl
@[simp] theorem setSerial_tap (s : State) (sp : Nat) (f : SerialPort → SerialPort) : (setSerial s sp f).tap = s.tap := rfl
@[simp] theorem setSerial_out (s : State) (sp : Nat) (f : SerialPort → SerialPort) : (setSerial s sp f).out = s.out := rfl
@[simp] theorem setSerial_drawn (s : State) (sp : Nat) (f : SerialPort → SerialPort) : (setSerial s sp f).drawn = s.drawn := rfl
@[simp] theorem setSerial_pending (s : State) (sp : Nat) (f : SerialPort → SerialPort) : (setSerial s sp f).pending = s.pending := rfl

@[simp] theorem setMvb_op (s : State) (seg : Nat) (f : MvbSeg → MvbSeg) : (setMvb s seg f).op = s.op := rfl
@[simp] theorem setMvb_cfg (s : State) (seg : Nat) (f : MvbSeg → MvbSeg) : (setMvb s seg f).cfg = s.cfg := rfl
@[simp] theorem setMvb_cnt (s : State) (seg : Nat) (f : MvbSeg → MvbSeg) : (setMvb s seg f).cnt = s.cnt := rfl
@[simp] theorem setMvb_store (s : State) (seg : Nat) (f : MvbSeg → MvbSeg) : (setMvb s seg f).store = s.store := rfl
@[simp] theorem setMvb_sessions (s : State) (seg : Nat) (f : MvbSeg → MvbSeg) : (setMvb s seg f).sessions = s.sessions := rfl
@[simp] theorem setMvb_cs (s : State) (seg : Nat) (f : MvbSeg → MvbSeg) : (setMvb s seg f).cs = s.cs := rfl
@[simp] theorem setMvb_ev (s : State) (seg : Nat) (f : MvbSeg → MvbSeg) : (setMvb s seg f).ev = s.ev := rfl
@[simp] theorem setMvb_time (s : State) (seg : Nat) (f : MvbSeg → MvbSeg) : (setMvb s seg f).time = s.time := rfl
@[simp] theorem setMvb_can (s : State) (seg : Nat) (f : MvbSeg → MvbSeg) : (setMvb s seg f).can = s.can := rfl
@[simp] theorem setMvb_serial (s : State) (seg : Nat) (f : MvbSeg → MvbSeg) : (setMvb s seg f).serial = s.serial := rfl
@[simp] theorem setMvb_jour (s : State) (seg : Nat) (f : MvbSeg → MvbSeg) : (setMvb s seg f).jour = s.jour := rfl
@[simp] theorem setMvb_wear (s : State) (seg : Nat) (f : MvbSeg → MvbSeg) : (setMvb s seg f).wear = s.wear := rfl
@[simp] theorem setMvb_fab (s : State) (seg : Nat) (f : MvbSeg → MvbSeg) : (setMvb s seg f).fab = s.fab := rfl
@[simp] theorem setMvb_look (s : State) (seg : Nat) (f : MvbSeg → MvbSeg) : (setMvb s seg f).look = s.look := rfl
@[simp] theorem setMvb_zone (s : State) (seg : Nat) (f : MvbSeg → MvbSeg) : (setMvb s seg f).zone = s.zone := rfl
@[simp] theorem setMvb_gw (s : State) (seg : Nat) (f : MvbSeg → MvbSeg) : (setMvb s seg f).gw = s.gw := rfl
@[simp] theorem setMvb_br (s : State) (seg : Nat) (f : MvbSeg → MvbSeg) : (setMvb s seg f).br = s.br := rfl
@[simp] theorem setMvb_aud (s : State) (seg : Nat) (f : MvbSeg → MvbSeg) : (setMvb s seg f).aud = s.aud := rfl
@[simp] theorem setMvb_pos (s : State) (seg : Nat) (f : MvbSeg → MvbSeg) : (setMvb s seg f).pos = s.pos := rfl
@[simp] theorem setMvb_pow (s : State) (seg : Nat) (f : MvbSeg → MvbSeg) : (setMvb s seg f).pow = s.pow := rfl
@[simp] theorem setMvb_slp (s : State) (seg : Nat) (f : MvbSeg → MvbSeg) : (setMvb s seg f).slp = s.slp := rfl
@[simp] theorem setMvb_gp (s : State) (seg : Nat) (f : MvbSeg → MvbSeg) : (setMvb s seg f).gp = s.gp := rfl
@[simp] theorem setMvb_pair (s : State) (seg : Nat) (f : MvbSeg → MvbSeg) : (setMvb s seg f).pair = s.pair := rfl
@[simp] theorem setMvb_dram (s : State) (seg : Nat) (f : MvbSeg → MvbSeg) : (setMvb s seg f).dram = s.dram := rfl
@[simp] theorem setMvb_pool (s : State) (seg : Nat) (f : MvbSeg → MvbSeg) : (setMvb s seg f).pool = s.pool := rfl
@[simp] theorem setMvb_cvu (s : State) (seg : Nat) (f : MvbSeg → MvbSeg) : (setMvb s seg f).cvu = s.cvu := rfl
@[simp] theorem setMvb_upd (s : State) (seg : Nat) (f : MvbSeg → MvbSeg) : (setMvb s seg f).upd = s.upd := rfl
@[simp] theorem setMvb_host (s : State) (seg : Nat) (f : MvbSeg → MvbSeg) : (setMvb s seg f).host = s.host := rfl
@[simp] theorem setMvb_spi (s : State) (seg : Nat) (f : MvbSeg → MvbSeg) : (setMvb s seg f).spi = s.spi := rfl
@[simp] theorem setMvb_pins (s : State) (seg : Nat) (f : MvbSeg → MvbSeg) : (setMvb s seg f).pins = s.pins := rfl
@[simp] theorem setMvb_tap (s : State) (seg : Nat) (f : MvbSeg → MvbSeg) : (setMvb s seg f).tap = s.tap := rfl
@[simp] theorem setMvb_out (s : State) (seg : Nat) (f : MvbSeg → MvbSeg) : (setMvb s seg f).out = s.out := rfl
@[simp] theorem setMvb_drawn (s : State) (seg : Nat) (f : MvbSeg → MvbSeg) : (setMvb s seg f).drawn = s.drawn := rfl
@[simp] theorem setMvb_pending (s : State) (seg : Nat) (f : MvbSeg → MvbSeg) : (setMvb s seg f).pending = s.pending := rfl

@[simp] theorem setInst_op (s : State) (i : Nat) (f : PtpInst → PtpInst) : (setInst s i f).op = s.op := rfl
@[simp] theorem setInst_cfg (s : State) (i : Nat) (f : PtpInst → PtpInst) : (setInst s i f).cfg = s.cfg := rfl
@[simp] theorem setInst_cnt (s : State) (i : Nat) (f : PtpInst → PtpInst) : (setInst s i f).cnt = s.cnt := rfl
@[simp] theorem setInst_store (s : State) (i : Nat) (f : PtpInst → PtpInst) : (setInst s i f).store = s.store := rfl
@[simp] theorem setInst_sessions (s : State) (i : Nat) (f : PtpInst → PtpInst) : (setInst s i f).sessions = s.sessions := rfl
@[simp] theorem setInst_cs (s : State) (i : Nat) (f : PtpInst → PtpInst) : (setInst s i f).cs = s.cs := rfl
@[simp] theorem setInst_ev (s : State) (i : Nat) (f : PtpInst → PtpInst) : (setInst s i f).ev = s.ev := rfl
@[simp] theorem setInst_can (s : State) (i : Nat) (f : PtpInst → PtpInst) : (setInst s i f).can = s.can := rfl
@[simp] theorem setInst_serial (s : State) (i : Nat) (f : PtpInst → PtpInst) : (setInst s i f).serial = s.serial := rfl
@[simp] theorem setInst_mvb (s : State) (i : Nat) (f : PtpInst → PtpInst) : (setInst s i f).mvb = s.mvb := rfl
@[simp] theorem setInst_jour (s : State) (i : Nat) (f : PtpInst → PtpInst) : (setInst s i f).jour = s.jour := rfl
@[simp] theorem setInst_wear (s : State) (i : Nat) (f : PtpInst → PtpInst) : (setInst s i f).wear = s.wear := rfl
@[simp] theorem setInst_fab (s : State) (i : Nat) (f : PtpInst → PtpInst) : (setInst s i f).fab = s.fab := rfl
@[simp] theorem setInst_look (s : State) (i : Nat) (f : PtpInst → PtpInst) : (setInst s i f).look = s.look := rfl
@[simp] theorem setInst_zone (s : State) (i : Nat) (f : PtpInst → PtpInst) : (setInst s i f).zone = s.zone := rfl
@[simp] theorem setInst_gw (s : State) (i : Nat) (f : PtpInst → PtpInst) : (setInst s i f).gw = s.gw := rfl
@[simp] theorem setInst_br (s : State) (i : Nat) (f : PtpInst → PtpInst) : (setInst s i f).br = s.br := rfl
@[simp] theorem setInst_aud (s : State) (i : Nat) (f : PtpInst → PtpInst) : (setInst s i f).aud = s.aud := rfl
@[simp] theorem setInst_pos (s : State) (i : Nat) (f : PtpInst → PtpInst) : (setInst s i f).pos = s.pos := rfl
@[simp] theorem setInst_pow (s : State) (i : Nat) (f : PtpInst → PtpInst) : (setInst s i f).pow = s.pow := rfl
@[simp] theorem setInst_slp (s : State) (i : Nat) (f : PtpInst → PtpInst) : (setInst s i f).slp = s.slp := rfl
@[simp] theorem setInst_gp (s : State) (i : Nat) (f : PtpInst → PtpInst) : (setInst s i f).gp = s.gp := rfl
@[simp] theorem setInst_pair (s : State) (i : Nat) (f : PtpInst → PtpInst) : (setInst s i f).pair = s.pair := rfl
@[simp] theorem setInst_dram (s : State) (i : Nat) (f : PtpInst → PtpInst) : (setInst s i f).dram = s.dram := rfl
@[simp] theorem setInst_pool (s : State) (i : Nat) (f : PtpInst → PtpInst) : (setInst s i f).pool = s.pool := rfl
@[simp] theorem setInst_cvu (s : State) (i : Nat) (f : PtpInst → PtpInst) : (setInst s i f).cvu = s.cvu := rfl
@[simp] theorem setInst_upd (s : State) (i : Nat) (f : PtpInst → PtpInst) : (setInst s i f).upd = s.upd := rfl
@[simp] theorem setInst_host (s : State) (i : Nat) (f : PtpInst → PtpInst) : (setInst s i f).host = s.host := rfl
@[simp] theorem setInst_spi (s : State) (i : Nat) (f : PtpInst → PtpInst) : (setInst s i f).spi = s.spi := rfl
@[simp] theorem setInst_pins (s : State) (i : Nat) (f : PtpInst → PtpInst) : (setInst s i f).pins = s.pins := rfl
@[simp] theorem setInst_tap (s : State) (i : Nat) (f : PtpInst → PtpInst) : (setInst s i f).tap = s.tap := rfl
@[simp] theorem setInst_out (s : State) (i : Nat) (f : PtpInst → PtpInst) : (setInst s i f).out = s.out := rfl
@[simp] theorem setInst_drawn (s : State) (i : Nat) (f : PtpInst → PtpInst) : (setInst s i f).drawn = s.drawn := rfl
@[simp] theorem setInst_pending (s : State) (i : Nat) (f : PtpInst → PtpInst) : (setInst s i f).pending = s.pending := rfl

@[simp] theorem setTpo_op (s : State) (pin : Nat) (f : TpoPin → TpoPin) : (setTpo s pin f).op = s.op := rfl
@[simp] theorem setTpo_cfg (s : State) (pin : Nat) (f : TpoPin → TpoPin) : (setTpo s pin f).cfg = s.cfg := rfl
@[simp] theorem setTpo_cnt (s : State) (pin : Nat) (f : TpoPin → TpoPin) : (setTpo s pin f).cnt = s.cnt := rfl
@[simp] theorem setTpo_store (s : State) (pin : Nat) (f : TpoPin → TpoPin) : (setTpo s pin f).store = s.store := rfl
@[simp] theorem setTpo_sessions (s : State) (pin : Nat) (f : TpoPin → TpoPin) : (setTpo s pin f).sessions = s.sessions := rfl
@[simp] theorem setTpo_cs (s : State) (pin : Nat) (f : TpoPin → TpoPin) : (setTpo s pin f).cs = s.cs := rfl
@[simp] theorem setTpo_ev (s : State) (pin : Nat) (f : TpoPin → TpoPin) : (setTpo s pin f).ev = s.ev := rfl
@[simp] theorem setTpo_can (s : State) (pin : Nat) (f : TpoPin → TpoPin) : (setTpo s pin f).can = s.can := rfl
@[simp] theorem setTpo_serial (s : State) (pin : Nat) (f : TpoPin → TpoPin) : (setTpo s pin f).serial = s.serial := rfl
@[simp] theorem setTpo_mvb (s : State) (pin : Nat) (f : TpoPin → TpoPin) : (setTpo s pin f).mvb = s.mvb := rfl
@[simp] theorem setTpo_jour (s : State) (pin : Nat) (f : TpoPin → TpoPin) : (setTpo s pin f).jour = s.jour := rfl
@[simp] theorem setTpo_wear (s : State) (pin : Nat) (f : TpoPin → TpoPin) : (setTpo s pin f).wear = s.wear := rfl
@[simp] theorem setTpo_fab (s : State) (pin : Nat) (f : TpoPin → TpoPin) : (setTpo s pin f).fab = s.fab := rfl
@[simp] theorem setTpo_look (s : State) (pin : Nat) (f : TpoPin → TpoPin) : (setTpo s pin f).look = s.look := rfl
@[simp] theorem setTpo_zone (s : State) (pin : Nat) (f : TpoPin → TpoPin) : (setTpo s pin f).zone = s.zone := rfl
@[simp] theorem setTpo_gw (s : State) (pin : Nat) (f : TpoPin → TpoPin) : (setTpo s pin f).gw = s.gw := rfl
@[simp] theorem setTpo_br (s : State) (pin : Nat) (f : TpoPin → TpoPin) : (setTpo s pin f).br = s.br := rfl
@[simp] theorem setTpo_aud (s : State) (pin : Nat) (f : TpoPin → TpoPin) : (setTpo s pin f).aud = s.aud := rfl
@[simp] theorem setTpo_pos (s : State) (pin : Nat) (f : TpoPin → TpoPin) : (setTpo s pin f).pos = s.pos := rfl
@[simp] theorem setTpo_pow (s : State) (pin : Nat) (f : TpoPin → TpoPin) : (setTpo s pin f).pow = s.pow := rfl
@[simp] theorem setTpo_slp (s : State) (pin : Nat) (f : TpoPin → TpoPin) : (setTpo s pin f).slp = s.slp := rfl
@[simp] theorem setTpo_gp (s : State) (pin : Nat) (f : TpoPin → TpoPin) : (setTpo s pin f).gp = s.gp := rfl
@[simp] theorem setTpo_pair (s : State) (pin : Nat) (f : TpoPin → TpoPin) : (setTpo s pin f).pair = s.pair := rfl
@[simp] theorem setTpo_dram (s : State) (pin : Nat) (f : TpoPin → TpoPin) : (setTpo s pin f).dram = s.dram := rfl
@[simp] theorem setTpo_pool (s : State) (pin : Nat) (f : TpoPin → TpoPin) : (setTpo s pin f).pool = s.pool := rfl
@[simp] theorem setTpo_cvu (s : State) (pin : Nat) (f : TpoPin → TpoPin) : (setTpo s pin f).cvu = s.cvu := rfl
@[simp] theorem setTpo_upd (s : State) (pin : Nat) (f : TpoPin → TpoPin) : (setTpo s pin f).upd = s.upd := rfl
@[simp] theorem setTpo_host (s : State) (pin : Nat) (f : TpoPin → TpoPin) : (setTpo s pin f).host = s.host := rfl
@[simp] theorem setTpo_spi (s : State) (pin : Nat) (f : TpoPin → TpoPin) : (setTpo s pin f).spi = s.spi := rfl
@[simp] theorem setTpo_pins (s : State) (pin : Nat) (f : TpoPin → TpoPin) : (setTpo s pin f).pins = s.pins := rfl
@[simp] theorem setTpo_tap (s : State) (pin : Nat) (f : TpoPin → TpoPin) : (setTpo s pin f).tap = s.tap := rfl
@[simp] theorem setTpo_out (s : State) (pin : Nat) (f : TpoPin → TpoPin) : (setTpo s pin f).out = s.out := rfl
@[simp] theorem setTpo_drawn (s : State) (pin : Nat) (f : TpoPin → TpoPin) : (setTpo s pin f).drawn = s.drawn := rfl
@[simp] theorem setTpo_pending (s : State) (pin : Nat) (f : TpoPin → TpoPin) : (setTpo s pin f).pending = s.pending := rfl

@[simp] theorem setTx_op (s : State) (tag : Nat) (f : BridgeTx → BridgeTx) : (setTx s tag f).op = s.op := rfl
@[simp] theorem setTx_cfg (s : State) (tag : Nat) (f : BridgeTx → BridgeTx) : (setTx s tag f).cfg = s.cfg := rfl
@[simp] theorem setTx_cnt (s : State) (tag : Nat) (f : BridgeTx → BridgeTx) : (setTx s tag f).cnt = s.cnt := rfl
@[simp] theorem setTx_store (s : State) (tag : Nat) (f : BridgeTx → BridgeTx) : (setTx s tag f).store = s.store := rfl
@[simp] theorem setTx_sessions (s : State) (tag : Nat) (f : BridgeTx → BridgeTx) : (setTx s tag f).sessions = s.sessions := rfl
@[simp] theorem setTx_cs (s : State) (tag : Nat) (f : BridgeTx → BridgeTx) : (setTx s tag f).cs = s.cs := rfl
@[simp] theorem setTx_ev (s : State) (tag : Nat) (f : BridgeTx → BridgeTx) : (setTx s tag f).ev = s.ev := rfl
@[simp] theorem setTx_time (s : State) (tag : Nat) (f : BridgeTx → BridgeTx) : (setTx s tag f).time = s.time := rfl
@[simp] theorem setTx_can (s : State) (tag : Nat) (f : BridgeTx → BridgeTx) : (setTx s tag f).can = s.can := rfl
@[simp] theorem setTx_serial (s : State) (tag : Nat) (f : BridgeTx → BridgeTx) : (setTx s tag f).serial = s.serial := rfl
@[simp] theorem setTx_mvb (s : State) (tag : Nat) (f : BridgeTx → BridgeTx) : (setTx s tag f).mvb = s.mvb := rfl
@[simp] theorem setTx_jour (s : State) (tag : Nat) (f : BridgeTx → BridgeTx) : (setTx s tag f).jour = s.jour := rfl
@[simp] theorem setTx_wear (s : State) (tag : Nat) (f : BridgeTx → BridgeTx) : (setTx s tag f).wear = s.wear := rfl
@[simp] theorem setTx_fab (s : State) (tag : Nat) (f : BridgeTx → BridgeTx) : (setTx s tag f).fab = s.fab := rfl
@[simp] theorem setTx_look (s : State) (tag : Nat) (f : BridgeTx → BridgeTx) : (setTx s tag f).look = s.look := rfl
@[simp] theorem setTx_zone (s : State) (tag : Nat) (f : BridgeTx → BridgeTx) : (setTx s tag f).zone = s.zone := rfl
@[simp] theorem setTx_gw (s : State) (tag : Nat) (f : BridgeTx → BridgeTx) : (setTx s tag f).gw = s.gw := rfl
@[simp] theorem setTx_aud (s : State) (tag : Nat) (f : BridgeTx → BridgeTx) : (setTx s tag f).aud = s.aud := rfl
@[simp] theorem setTx_pos (s : State) (tag : Nat) (f : BridgeTx → BridgeTx) : (setTx s tag f).pos = s.pos := rfl
@[simp] theorem setTx_pow (s : State) (tag : Nat) (f : BridgeTx → BridgeTx) : (setTx s tag f).pow = s.pow := rfl
@[simp] theorem setTx_slp (s : State) (tag : Nat) (f : BridgeTx → BridgeTx) : (setTx s tag f).slp = s.slp := rfl
@[simp] theorem setTx_gp (s : State) (tag : Nat) (f : BridgeTx → BridgeTx) : (setTx s tag f).gp = s.gp := rfl
@[simp] theorem setTx_pair (s : State) (tag : Nat) (f : BridgeTx → BridgeTx) : (setTx s tag f).pair = s.pair := rfl
@[simp] theorem setTx_dram (s : State) (tag : Nat) (f : BridgeTx → BridgeTx) : (setTx s tag f).dram = s.dram := rfl
@[simp] theorem setTx_pool (s : State) (tag : Nat) (f : BridgeTx → BridgeTx) : (setTx s tag f).pool = s.pool := rfl
@[simp] theorem setTx_cvu (s : State) (tag : Nat) (f : BridgeTx → BridgeTx) : (setTx s tag f).cvu = s.cvu := rfl
@[simp] theorem setTx_upd (s : State) (tag : Nat) (f : BridgeTx → BridgeTx) : (setTx s tag f).upd = s.upd := rfl
@[simp] theorem setTx_host (s : State) (tag : Nat) (f : BridgeTx → BridgeTx) : (setTx s tag f).host = s.host := rfl
@[simp] theorem setTx_spi (s : State) (tag : Nat) (f : BridgeTx → BridgeTx) : (setTx s tag f).spi = s.spi := rfl
@[simp] theorem setTx_pins (s : State) (tag : Nat) (f : BridgeTx → BridgeTx) : (setTx s tag f).pins = s.pins := rfl
@[simp] theorem setTx_tap (s : State) (tag : Nat) (f : BridgeTx → BridgeTx) : (setTx s tag f).tap = s.tap := rfl
@[simp] theorem setTx_out (s : State) (tag : Nat) (f : BridgeTx → BridgeTx) : (setTx s tag f).out = s.out := rfl
@[simp] theorem setTx_drawn (s : State) (tag : Nat) (f : BridgeTx → BridgeTx) : (setTx s tag f).drawn = s.drawn := rfl
@[simp] theorem setTx_pending (s : State) (tag : Nat) (f : BridgeTx → BridgeTx) : (setTx s tag f).pending = s.pending := rfl

@[simp] theorem setStream_op (s : State) (n : Nat) (f : AudioStream → AudioStream) : (setStream s n f).op = s.op := rfl
@[simp] theorem setStream_cfg (s : State) (n : Nat) (f : AudioStream → AudioStream) : (setStream s n f).cfg = s.cfg := rfl
@[simp] theorem setStream_cnt (s : State) (n : Nat) (f : AudioStream → AudioStream) : (setStream s n f).cnt = s.cnt := rfl
@[simp] theorem setStream_store (s : State) (n : Nat) (f : AudioStream → AudioStream) : (setStream s n f).store = s.store := rfl
@[simp] theorem setStream_sessions (s : State) (n : Nat) (f : AudioStream → AudioStream) : (setStream s n f).sessions = s.sessions := rfl
@[simp] theorem setStream_cs (s : State) (n : Nat) (f : AudioStream → AudioStream) : (setStream s n f).cs = s.cs := rfl
@[simp] theorem setStream_ev (s : State) (n : Nat) (f : AudioStream → AudioStream) : (setStream s n f).ev = s.ev := rfl
@[simp] theorem setStream_time (s : State) (n : Nat) (f : AudioStream → AudioStream) : (setStream s n f).time = s.time := rfl
@[simp] theorem setStream_can (s : State) (n : Nat) (f : AudioStream → AudioStream) : (setStream s n f).can = s.can := rfl
@[simp] theorem setStream_serial (s : State) (n : Nat) (f : AudioStream → AudioStream) : (setStream s n f).serial = s.serial := rfl
@[simp] theorem setStream_mvb (s : State) (n : Nat) (f : AudioStream → AudioStream) : (setStream s n f).mvb = s.mvb := rfl
@[simp] theorem setStream_jour (s : State) (n : Nat) (f : AudioStream → AudioStream) : (setStream s n f).jour = s.jour := rfl
@[simp] theorem setStream_wear (s : State) (n : Nat) (f : AudioStream → AudioStream) : (setStream s n f).wear = s.wear := rfl
@[simp] theorem setStream_fab (s : State) (n : Nat) (f : AudioStream → AudioStream) : (setStream s n f).fab = s.fab := rfl
@[simp] theorem setStream_look (s : State) (n : Nat) (f : AudioStream → AudioStream) : (setStream s n f).look = s.look := rfl
@[simp] theorem setStream_zone (s : State) (n : Nat) (f : AudioStream → AudioStream) : (setStream s n f).zone = s.zone := rfl
@[simp] theorem setStream_gw (s : State) (n : Nat) (f : AudioStream → AudioStream) : (setStream s n f).gw = s.gw := rfl
@[simp] theorem setStream_br (s : State) (n : Nat) (f : AudioStream → AudioStream) : (setStream s n f).br = s.br := rfl
@[simp] theorem setStream_pos (s : State) (n : Nat) (f : AudioStream → AudioStream) : (setStream s n f).pos = s.pos := rfl
@[simp] theorem setStream_pow (s : State) (n : Nat) (f : AudioStream → AudioStream) : (setStream s n f).pow = s.pow := rfl
@[simp] theorem setStream_slp (s : State) (n : Nat) (f : AudioStream → AudioStream) : (setStream s n f).slp = s.slp := rfl
@[simp] theorem setStream_gp (s : State) (n : Nat) (f : AudioStream → AudioStream) : (setStream s n f).gp = s.gp := rfl
@[simp] theorem setStream_pair (s : State) (n : Nat) (f : AudioStream → AudioStream) : (setStream s n f).pair = s.pair := rfl
@[simp] theorem setStream_dram (s : State) (n : Nat) (f : AudioStream → AudioStream) : (setStream s n f).dram = s.dram := rfl
@[simp] theorem setStream_pool (s : State) (n : Nat) (f : AudioStream → AudioStream) : (setStream s n f).pool = s.pool := rfl
@[simp] theorem setStream_cvu (s : State) (n : Nat) (f : AudioStream → AudioStream) : (setStream s n f).cvu = s.cvu := rfl
@[simp] theorem setStream_upd (s : State) (n : Nat) (f : AudioStream → AudioStream) : (setStream s n f).upd = s.upd := rfl
@[simp] theorem setStream_host (s : State) (n : Nat) (f : AudioStream → AudioStream) : (setStream s n f).host = s.host := rfl
@[simp] theorem setStream_spi (s : State) (n : Nat) (f : AudioStream → AudioStream) : (setStream s n f).spi = s.spi := rfl
@[simp] theorem setStream_pins (s : State) (n : Nat) (f : AudioStream → AudioStream) : (setStream s n f).pins = s.pins := rfl
@[simp] theorem setStream_tap (s : State) (n : Nat) (f : AudioStream → AudioStream) : (setStream s n f).tap = s.tap := rfl
@[simp] theorem setStream_out (s : State) (n : Nat) (f : AudioStream → AudioStream) : (setStream s n f).out = s.out := rfl
@[simp] theorem setStream_drawn (s : State) (n : Nat) (f : AudioStream → AudioStream) : (setStream s n f).drawn = s.drawn := rfl
@[simp] theorem setStream_pending (s : State) (n : Nat) (f : AudioStream → AudioStream) : (setStream s n f).pending = s.pending := rfl

@[simp] theorem setOdo_op (s : State) (c : Nat) (f : OdoChannel → OdoChannel) : (setOdo s c f).op = s.op := rfl
@[simp] theorem setOdo_cfg (s : State) (c : Nat) (f : OdoChannel → OdoChannel) : (setOdo s c f).cfg = s.cfg := rfl
@[simp] theorem setOdo_cnt (s : State) (c : Nat) (f : OdoChannel → OdoChannel) : (setOdo s c f).cnt = s.cnt := rfl
@[simp] theorem setOdo_store (s : State) (c : Nat) (f : OdoChannel → OdoChannel) : (setOdo s c f).store = s.store := rfl
@[simp] theorem setOdo_sessions (s : State) (c : Nat) (f : OdoChannel → OdoChannel) : (setOdo s c f).sessions = s.sessions := rfl
@[simp] theorem setOdo_cs (s : State) (c : Nat) (f : OdoChannel → OdoChannel) : (setOdo s c f).cs = s.cs := rfl
@[simp] theorem setOdo_ev (s : State) (c : Nat) (f : OdoChannel → OdoChannel) : (setOdo s c f).ev = s.ev := rfl
@[simp] theorem setOdo_time (s : State) (c : Nat) (f : OdoChannel → OdoChannel) : (setOdo s c f).time = s.time := rfl
@[simp] theorem setOdo_can (s : State) (c : Nat) (f : OdoChannel → OdoChannel) : (setOdo s c f).can = s.can := rfl
@[simp] theorem setOdo_serial (s : State) (c : Nat) (f : OdoChannel → OdoChannel) : (setOdo s c f).serial = s.serial := rfl
@[simp] theorem setOdo_mvb (s : State) (c : Nat) (f : OdoChannel → OdoChannel) : (setOdo s c f).mvb = s.mvb := rfl
@[simp] theorem setOdo_jour (s : State) (c : Nat) (f : OdoChannel → OdoChannel) : (setOdo s c f).jour = s.jour := rfl
@[simp] theorem setOdo_wear (s : State) (c : Nat) (f : OdoChannel → OdoChannel) : (setOdo s c f).wear = s.wear := rfl
@[simp] theorem setOdo_fab (s : State) (c : Nat) (f : OdoChannel → OdoChannel) : (setOdo s c f).fab = s.fab := rfl
@[simp] theorem setOdo_look (s : State) (c : Nat) (f : OdoChannel → OdoChannel) : (setOdo s c f).look = s.look := rfl
@[simp] theorem setOdo_zone (s : State) (c : Nat) (f : OdoChannel → OdoChannel) : (setOdo s c f).zone = s.zone := rfl
@[simp] theorem setOdo_gw (s : State) (c : Nat) (f : OdoChannel → OdoChannel) : (setOdo s c f).gw = s.gw := rfl
@[simp] theorem setOdo_br (s : State) (c : Nat) (f : OdoChannel → OdoChannel) : (setOdo s c f).br = s.br := rfl
@[simp] theorem setOdo_aud (s : State) (c : Nat) (f : OdoChannel → OdoChannel) : (setOdo s c f).aud = s.aud := rfl
@[simp] theorem setOdo_pow (s : State) (c : Nat) (f : OdoChannel → OdoChannel) : (setOdo s c f).pow = s.pow := rfl
@[simp] theorem setOdo_slp (s : State) (c : Nat) (f : OdoChannel → OdoChannel) : (setOdo s c f).slp = s.slp := rfl
@[simp] theorem setOdo_gp (s : State) (c : Nat) (f : OdoChannel → OdoChannel) : (setOdo s c f).gp = s.gp := rfl
@[simp] theorem setOdo_pair (s : State) (c : Nat) (f : OdoChannel → OdoChannel) : (setOdo s c f).pair = s.pair := rfl
@[simp] theorem setOdo_dram (s : State) (c : Nat) (f : OdoChannel → OdoChannel) : (setOdo s c f).dram = s.dram := rfl
@[simp] theorem setOdo_pool (s : State) (c : Nat) (f : OdoChannel → OdoChannel) : (setOdo s c f).pool = s.pool := rfl
@[simp] theorem setOdo_cvu (s : State) (c : Nat) (f : OdoChannel → OdoChannel) : (setOdo s c f).cvu = s.cvu := rfl
@[simp] theorem setOdo_upd (s : State) (c : Nat) (f : OdoChannel → OdoChannel) : (setOdo s c f).upd = s.upd := rfl
@[simp] theorem setOdo_host (s : State) (c : Nat) (f : OdoChannel → OdoChannel) : (setOdo s c f).host = s.host := rfl
@[simp] theorem setOdo_spi (s : State) (c : Nat) (f : OdoChannel → OdoChannel) : (setOdo s c f).spi = s.spi := rfl
@[simp] theorem setOdo_pins (s : State) (c : Nat) (f : OdoChannel → OdoChannel) : (setOdo s c f).pins = s.pins := rfl
@[simp] theorem setOdo_tap (s : State) (c : Nat) (f : OdoChannel → OdoChannel) : (setOdo s c f).tap = s.tap := rfl
@[simp] theorem setOdo_out (s : State) (c : Nat) (f : OdoChannel → OdoChannel) : (setOdo s c f).out = s.out := rfl
@[simp] theorem setOdo_drawn (s : State) (c : Nat) (f : OdoChannel → OdoChannel) : (setOdo s c f).drawn = s.drawn := rfl
@[simp] theorem setOdo_pending (s : State) (c : Nat) (f : OdoChannel → OdoChannel) : (setOdo s c f).pending = s.pending := rfl

@[simp] theorem setPosEvent_op (s : State) (n : Nat) (f : PosEvent → PosEvent) : (setPosEvent s n f).op = s.op := rfl
@[simp] theorem setPosEvent_cfg (s : State) (n : Nat) (f : PosEvent → PosEvent) : (setPosEvent s n f).cfg = s.cfg := rfl
@[simp] theorem setPosEvent_cnt (s : State) (n : Nat) (f : PosEvent → PosEvent) : (setPosEvent s n f).cnt = s.cnt := rfl
@[simp] theorem setPosEvent_store (s : State) (n : Nat) (f : PosEvent → PosEvent) : (setPosEvent s n f).store = s.store := rfl
@[simp] theorem setPosEvent_sessions (s : State) (n : Nat) (f : PosEvent → PosEvent) : (setPosEvent s n f).sessions = s.sessions := rfl
@[simp] theorem setPosEvent_cs (s : State) (n : Nat) (f : PosEvent → PosEvent) : (setPosEvent s n f).cs = s.cs := rfl
@[simp] theorem setPosEvent_ev (s : State) (n : Nat) (f : PosEvent → PosEvent) : (setPosEvent s n f).ev = s.ev := rfl
@[simp] theorem setPosEvent_time (s : State) (n : Nat) (f : PosEvent → PosEvent) : (setPosEvent s n f).time = s.time := rfl
@[simp] theorem setPosEvent_can (s : State) (n : Nat) (f : PosEvent → PosEvent) : (setPosEvent s n f).can = s.can := rfl
@[simp] theorem setPosEvent_serial (s : State) (n : Nat) (f : PosEvent → PosEvent) : (setPosEvent s n f).serial = s.serial := rfl
@[simp] theorem setPosEvent_mvb (s : State) (n : Nat) (f : PosEvent → PosEvent) : (setPosEvent s n f).mvb = s.mvb := rfl
@[simp] theorem setPosEvent_jour (s : State) (n : Nat) (f : PosEvent → PosEvent) : (setPosEvent s n f).jour = s.jour := rfl
@[simp] theorem setPosEvent_wear (s : State) (n : Nat) (f : PosEvent → PosEvent) : (setPosEvent s n f).wear = s.wear := rfl
@[simp] theorem setPosEvent_fab (s : State) (n : Nat) (f : PosEvent → PosEvent) : (setPosEvent s n f).fab = s.fab := rfl
@[simp] theorem setPosEvent_look (s : State) (n : Nat) (f : PosEvent → PosEvent) : (setPosEvent s n f).look = s.look := rfl
@[simp] theorem setPosEvent_zone (s : State) (n : Nat) (f : PosEvent → PosEvent) : (setPosEvent s n f).zone = s.zone := rfl
@[simp] theorem setPosEvent_gw (s : State) (n : Nat) (f : PosEvent → PosEvent) : (setPosEvent s n f).gw = s.gw := rfl
@[simp] theorem setPosEvent_br (s : State) (n : Nat) (f : PosEvent → PosEvent) : (setPosEvent s n f).br = s.br := rfl
@[simp] theorem setPosEvent_aud (s : State) (n : Nat) (f : PosEvent → PosEvent) : (setPosEvent s n f).aud = s.aud := rfl
@[simp] theorem setPosEvent_pow (s : State) (n : Nat) (f : PosEvent → PosEvent) : (setPosEvent s n f).pow = s.pow := rfl
@[simp] theorem setPosEvent_slp (s : State) (n : Nat) (f : PosEvent → PosEvent) : (setPosEvent s n f).slp = s.slp := rfl
@[simp] theorem setPosEvent_gp (s : State) (n : Nat) (f : PosEvent → PosEvent) : (setPosEvent s n f).gp = s.gp := rfl
@[simp] theorem setPosEvent_pair (s : State) (n : Nat) (f : PosEvent → PosEvent) : (setPosEvent s n f).pair = s.pair := rfl
@[simp] theorem setPosEvent_dram (s : State) (n : Nat) (f : PosEvent → PosEvent) : (setPosEvent s n f).dram = s.dram := rfl
@[simp] theorem setPosEvent_pool (s : State) (n : Nat) (f : PosEvent → PosEvent) : (setPosEvent s n f).pool = s.pool := rfl
@[simp] theorem setPosEvent_cvu (s : State) (n : Nat) (f : PosEvent → PosEvent) : (setPosEvent s n f).cvu = s.cvu := rfl
@[simp] theorem setPosEvent_upd (s : State) (n : Nat) (f : PosEvent → PosEvent) : (setPosEvent s n f).upd = s.upd := rfl
@[simp] theorem setPosEvent_host (s : State) (n : Nat) (f : PosEvent → PosEvent) : (setPosEvent s n f).host = s.host := rfl
@[simp] theorem setPosEvent_spi (s : State) (n : Nat) (f : PosEvent → PosEvent) : (setPosEvent s n f).spi = s.spi := rfl
@[simp] theorem setPosEvent_pins (s : State) (n : Nat) (f : PosEvent → PosEvent) : (setPosEvent s n f).pins = s.pins := rfl
@[simp] theorem setPosEvent_tap (s : State) (n : Nat) (f : PosEvent → PosEvent) : (setPosEvent s n f).tap = s.tap := rfl
@[simp] theorem setPosEvent_out (s : State) (n : Nat) (f : PosEvent → PosEvent) : (setPosEvent s n f).out = s.out := rfl
@[simp] theorem setPosEvent_drawn (s : State) (n : Nat) (f : PosEvent → PosEvent) : (setPosEvent s n f).drawn = s.drawn := rfl
@[simp] theorem setPosEvent_pending (s : State) (n : Nat) (f : PosEvent → PosEvent) : (setPosEvent s n f).pending = s.pending := rfl

@[simp] theorem setBallot_op (s : State) (f : Ballot → Ballot) : (setBallot s f).op = s.op := rfl
@[simp] theorem setBallot_cfg (s : State) (f : Ballot → Ballot) : (setBallot s f).cfg = s.cfg := rfl
@[simp] theorem setBallot_cnt (s : State) (f : Ballot → Ballot) : (setBallot s f).cnt = s.cnt := rfl
@[simp] theorem setBallot_store (s : State) (f : Ballot → Ballot) : (setBallot s f).store = s.store := rfl
@[simp] theorem setBallot_sessions (s : State) (f : Ballot → Ballot) : (setBallot s f).sessions = s.sessions := rfl
@[simp] theorem setBallot_cs (s : State) (f : Ballot → Ballot) : (setBallot s f).cs = s.cs := rfl
@[simp] theorem setBallot_ev (s : State) (f : Ballot → Ballot) : (setBallot s f).ev = s.ev := rfl
@[simp] theorem setBallot_time (s : State) (f : Ballot → Ballot) : (setBallot s f).time = s.time := rfl
@[simp] theorem setBallot_can (s : State) (f : Ballot → Ballot) : (setBallot s f).can = s.can := rfl
@[simp] theorem setBallot_serial (s : State) (f : Ballot → Ballot) : (setBallot s f).serial = s.serial := rfl
@[simp] theorem setBallot_mvb (s : State) (f : Ballot → Ballot) : (setBallot s f).mvb = s.mvb := rfl
@[simp] theorem setBallot_jour (s : State) (f : Ballot → Ballot) : (setBallot s f).jour = s.jour := rfl
@[simp] theorem setBallot_wear (s : State) (f : Ballot → Ballot) : (setBallot s f).wear = s.wear := rfl
@[simp] theorem setBallot_fab (s : State) (f : Ballot → Ballot) : (setBallot s f).fab = s.fab := rfl
@[simp] theorem setBallot_look (s : State) (f : Ballot → Ballot) : (setBallot s f).look = s.look := rfl
@[simp] theorem setBallot_zone (s : State) (f : Ballot → Ballot) : (setBallot s f).zone = s.zone := rfl
@[simp] theorem setBallot_gw (s : State) (f : Ballot → Ballot) : (setBallot s f).gw = s.gw := rfl
@[simp] theorem setBallot_br (s : State) (f : Ballot → Ballot) : (setBallot s f).br = s.br := rfl
@[simp] theorem setBallot_aud (s : State) (f : Ballot → Ballot) : (setBallot s f).aud = s.aud := rfl
@[simp] theorem setBallot_pos (s : State) (f : Ballot → Ballot) : (setBallot s f).pos = s.pos := rfl
@[simp] theorem setBallot_pow (s : State) (f : Ballot → Ballot) : (setBallot s f).pow = s.pow := rfl
@[simp] theorem setBallot_gp (s : State) (f : Ballot → Ballot) : (setBallot s f).gp = s.gp := rfl
@[simp] theorem setBallot_pair (s : State) (f : Ballot → Ballot) : (setBallot s f).pair = s.pair := rfl
@[simp] theorem setBallot_dram (s : State) (f : Ballot → Ballot) : (setBallot s f).dram = s.dram := rfl
@[simp] theorem setBallot_pool (s : State) (f : Ballot → Ballot) : (setBallot s f).pool = s.pool := rfl
@[simp] theorem setBallot_cvu (s : State) (f : Ballot → Ballot) : (setBallot s f).cvu = s.cvu := rfl
@[simp] theorem setBallot_upd (s : State) (f : Ballot → Ballot) : (setBallot s f).upd = s.upd := rfl
@[simp] theorem setBallot_host (s : State) (f : Ballot → Ballot) : (setBallot s f).host = s.host := rfl
@[simp] theorem setBallot_spi (s : State) (f : Ballot → Ballot) : (setBallot s f).spi = s.spi := rfl
@[simp] theorem setBallot_pins (s : State) (f : Ballot → Ballot) : (setBallot s f).pins = s.pins := rfl
@[simp] theorem setBallot_tap (s : State) (f : Ballot → Ballot) : (setBallot s f).tap = s.tap := rfl
@[simp] theorem setBallot_out (s : State) (f : Ballot → Ballot) : (setBallot s f).out = s.out := rfl
@[simp] theorem setBallot_drawn (s : State) (f : Ballot → Ballot) : (setBallot s f).drawn = s.drawn := rfl
@[simp] theorem setBallot_pending (s : State) (f : Ballot → Ballot) : (setBallot s f).pending = s.pending := rfl

@[simp] theorem setSrc_op (s : State) (n : Nat) (f : WakeSource → WakeSource) : (setSrc s n f).op = s.op := rfl
@[simp] theorem setSrc_cfg (s : State) (n : Nat) (f : WakeSource → WakeSource) : (setSrc s n f).cfg = s.cfg := rfl
@[simp] theorem setSrc_cnt (s : State) (n : Nat) (f : WakeSource → WakeSource) : (setSrc s n f).cnt = s.cnt := rfl
@[simp] theorem setSrc_store (s : State) (n : Nat) (f : WakeSource → WakeSource) : (setSrc s n f).store = s.store := rfl
@[simp] theorem setSrc_sessions (s : State) (n : Nat) (f : WakeSource → WakeSource) : (setSrc s n f).sessions = s.sessions := rfl
@[simp] theorem setSrc_cs (s : State) (n : Nat) (f : WakeSource → WakeSource) : (setSrc s n f).cs = s.cs := rfl
@[simp] theorem setSrc_ev (s : State) (n : Nat) (f : WakeSource → WakeSource) : (setSrc s n f).ev = s.ev := rfl
@[simp] theorem setSrc_time (s : State) (n : Nat) (f : WakeSource → WakeSource) : (setSrc s n f).time = s.time := rfl
@[simp] theorem setSrc_can (s : State) (n : Nat) (f : WakeSource → WakeSource) : (setSrc s n f).can = s.can := rfl
@[simp] theorem setSrc_serial (s : State) (n : Nat) (f : WakeSource → WakeSource) : (setSrc s n f).serial = s.serial := rfl
@[simp] theorem setSrc_mvb (s : State) (n : Nat) (f : WakeSource → WakeSource) : (setSrc s n f).mvb = s.mvb := rfl
@[simp] theorem setSrc_jour (s : State) (n : Nat) (f : WakeSource → WakeSource) : (setSrc s n f).jour = s.jour := rfl
@[simp] theorem setSrc_wear (s : State) (n : Nat) (f : WakeSource → WakeSource) : (setSrc s n f).wear = s.wear := rfl
@[simp] theorem setSrc_fab (s : State) (n : Nat) (f : WakeSource → WakeSource) : (setSrc s n f).fab = s.fab := rfl
@[simp] theorem setSrc_look (s : State) (n : Nat) (f : WakeSource → WakeSource) : (setSrc s n f).look = s.look := rfl
@[simp] theorem setSrc_zone (s : State) (n : Nat) (f : WakeSource → WakeSource) : (setSrc s n f).zone = s.zone := rfl
@[simp] theorem setSrc_gw (s : State) (n : Nat) (f : WakeSource → WakeSource) : (setSrc s n f).gw = s.gw := rfl
@[simp] theorem setSrc_br (s : State) (n : Nat) (f : WakeSource → WakeSource) : (setSrc s n f).br = s.br := rfl
@[simp] theorem setSrc_aud (s : State) (n : Nat) (f : WakeSource → WakeSource) : (setSrc s n f).aud = s.aud := rfl
@[simp] theorem setSrc_pos (s : State) (n : Nat) (f : WakeSource → WakeSource) : (setSrc s n f).pos = s.pos := rfl
@[simp] theorem setSrc_pow (s : State) (n : Nat) (f : WakeSource → WakeSource) : (setSrc s n f).pow = s.pow := rfl
@[simp] theorem setSrc_gp (s : State) (n : Nat) (f : WakeSource → WakeSource) : (setSrc s n f).gp = s.gp := rfl
@[simp] theorem setSrc_pair (s : State) (n : Nat) (f : WakeSource → WakeSource) : (setSrc s n f).pair = s.pair := rfl
@[simp] theorem setSrc_dram (s : State) (n : Nat) (f : WakeSource → WakeSource) : (setSrc s n f).dram = s.dram := rfl
@[simp] theorem setSrc_pool (s : State) (n : Nat) (f : WakeSource → WakeSource) : (setSrc s n f).pool = s.pool := rfl
@[simp] theorem setSrc_cvu (s : State) (n : Nat) (f : WakeSource → WakeSource) : (setSrc s n f).cvu = s.cvu := rfl
@[simp] theorem setSrc_upd (s : State) (n : Nat) (f : WakeSource → WakeSource) : (setSrc s n f).upd = s.upd := rfl
@[simp] theorem setSrc_host (s : State) (n : Nat) (f : WakeSource → WakeSource) : (setSrc s n f).host = s.host := rfl
@[simp] theorem setSrc_spi (s : State) (n : Nat) (f : WakeSource → WakeSource) : (setSrc s n f).spi = s.spi := rfl
@[simp] theorem setSrc_pins (s : State) (n : Nat) (f : WakeSource → WakeSource) : (setSrc s n f).pins = s.pins := rfl
@[simp] theorem setSrc_tap (s : State) (n : Nat) (f : WakeSource → WakeSource) : (setSrc s n f).tap = s.tap := rfl
@[simp] theorem setSrc_out (s : State) (n : Nat) (f : WakeSource → WakeSource) : (setSrc s n f).out = s.out := rfl
@[simp] theorem setSrc_drawn (s : State) (n : Nat) (f : WakeSource → WakeSource) : (setSrc s n f).drawn = s.drawn := rfl
@[simp] theorem setSrc_pending (s : State) (n : Nat) (f : WakeSource → WakeSource) : (setSrc s n f).pending = s.pending := rfl

@[simp] theorem setClass_op (s : State) (c : Nat) (x : PoolClass) : (setClass s c x).op = s.op := rfl
@[simp] theorem setClass_cfg (s : State) (c : Nat) (x : PoolClass) : (setClass s c x).cfg = s.cfg := rfl
@[simp] theorem setClass_cnt (s : State) (c : Nat) (x : PoolClass) : (setClass s c x).cnt = s.cnt := rfl
@[simp] theorem setClass_store (s : State) (c : Nat) (x : PoolClass) : (setClass s c x).store = s.store := rfl
@[simp] theorem setClass_sessions (s : State) (c : Nat) (x : PoolClass) : (setClass s c x).sessions = s.sessions := rfl
@[simp] theorem setClass_cs (s : State) (c : Nat) (x : PoolClass) : (setClass s c x).cs = s.cs := rfl
@[simp] theorem setClass_ev (s : State) (c : Nat) (x : PoolClass) : (setClass s c x).ev = s.ev := rfl
@[simp] theorem setClass_time (s : State) (c : Nat) (x : PoolClass) : (setClass s c x).time = s.time := rfl
@[simp] theorem setClass_can (s : State) (c : Nat) (x : PoolClass) : (setClass s c x).can = s.can := rfl
@[simp] theorem setClass_serial (s : State) (c : Nat) (x : PoolClass) : (setClass s c x).serial = s.serial := rfl
@[simp] theorem setClass_mvb (s : State) (c : Nat) (x : PoolClass) : (setClass s c x).mvb = s.mvb := rfl
@[simp] theorem setClass_jour (s : State) (c : Nat) (x : PoolClass) : (setClass s c x).jour = s.jour := rfl
@[simp] theorem setClass_wear (s : State) (c : Nat) (x : PoolClass) : (setClass s c x).wear = s.wear := rfl
@[simp] theorem setClass_fab (s : State) (c : Nat) (x : PoolClass) : (setClass s c x).fab = s.fab := rfl
@[simp] theorem setClass_look (s : State) (c : Nat) (x : PoolClass) : (setClass s c x).look = s.look := rfl
@[simp] theorem setClass_zone (s : State) (c : Nat) (x : PoolClass) : (setClass s c x).zone = s.zone := rfl
@[simp] theorem setClass_gw (s : State) (c : Nat) (x : PoolClass) : (setClass s c x).gw = s.gw := rfl
@[simp] theorem setClass_br (s : State) (c : Nat) (x : PoolClass) : (setClass s c x).br = s.br := rfl
@[simp] theorem setClass_aud (s : State) (c : Nat) (x : PoolClass) : (setClass s c x).aud = s.aud := rfl
@[simp] theorem setClass_pos (s : State) (c : Nat) (x : PoolClass) : (setClass s c x).pos = s.pos := rfl
@[simp] theorem setClass_pow (s : State) (c : Nat) (x : PoolClass) : (setClass s c x).pow = s.pow := rfl
@[simp] theorem setClass_slp (s : State) (c : Nat) (x : PoolClass) : (setClass s c x).slp = s.slp := rfl
@[simp] theorem setClass_gp (s : State) (c : Nat) (x : PoolClass) : (setClass s c x).gp = s.gp := rfl
@[simp] theorem setClass_pair (s : State) (c : Nat) (x : PoolClass) : (setClass s c x).pair = s.pair := rfl
@[simp] theorem setClass_dram (s : State) (c : Nat) (x : PoolClass) : (setClass s c x).dram = s.dram := rfl
@[simp] theorem setClass_cvu (s : State) (c : Nat) (x : PoolClass) : (setClass s c x).cvu = s.cvu := rfl
@[simp] theorem setClass_upd (s : State) (c : Nat) (x : PoolClass) : (setClass s c x).upd = s.upd := rfl
@[simp] theorem setClass_host (s : State) (c : Nat) (x : PoolClass) : (setClass s c x).host = s.host := rfl
@[simp] theorem setClass_spi (s : State) (c : Nat) (x : PoolClass) : (setClass s c x).spi = s.spi := rfl
@[simp] theorem setClass_pins (s : State) (c : Nat) (x : PoolClass) : (setClass s c x).pins = s.pins := rfl
@[simp] theorem setClass_tap (s : State) (c : Nat) (x : PoolClass) : (setClass s c x).tap = s.tap := rfl
@[simp] theorem setClass_out (s : State) (c : Nat) (x : PoolClass) : (setClass s c x).out = s.out := rfl
@[simp] theorem setClass_drawn (s : State) (c : Nat) (x : PoolClass) : (setClass s c x).drawn = s.drawn := rfl
@[simp] theorem setClass_pending (s : State) (c : Nat) (x : PoolClass) : (setClass s c x).pending = s.pending := rfl

@[simp] theorem setCvu_op (s : State) (u : Nat) (f : Cvu → Cvu) : (setCvu s u f).op = s.op := rfl
@[simp] theorem setCvu_cfg (s : State) (u : Nat) (f : Cvu → Cvu) : (setCvu s u f).cfg = s.cfg := rfl
@[simp] theorem setCvu_cnt (s : State) (u : Nat) (f : Cvu → Cvu) : (setCvu s u f).cnt = s.cnt := rfl
@[simp] theorem setCvu_store (s : State) (u : Nat) (f : Cvu → Cvu) : (setCvu s u f).store = s.store := rfl
@[simp] theorem setCvu_sessions (s : State) (u : Nat) (f : Cvu → Cvu) : (setCvu s u f).sessions = s.sessions := rfl
@[simp] theorem setCvu_cs (s : State) (u : Nat) (f : Cvu → Cvu) : (setCvu s u f).cs = s.cs := rfl
@[simp] theorem setCvu_ev (s : State) (u : Nat) (f : Cvu → Cvu) : (setCvu s u f).ev = s.ev := rfl
@[simp] theorem setCvu_time (s : State) (u : Nat) (f : Cvu → Cvu) : (setCvu s u f).time = s.time := rfl
@[simp] theorem setCvu_can (s : State) (u : Nat) (f : Cvu → Cvu) : (setCvu s u f).can = s.can := rfl
@[simp] theorem setCvu_serial (s : State) (u : Nat) (f : Cvu → Cvu) : (setCvu s u f).serial = s.serial := rfl
@[simp] theorem setCvu_mvb (s : State) (u : Nat) (f : Cvu → Cvu) : (setCvu s u f).mvb = s.mvb := rfl
@[simp] theorem setCvu_jour (s : State) (u : Nat) (f : Cvu → Cvu) : (setCvu s u f).jour = s.jour := rfl
@[simp] theorem setCvu_wear (s : State) (u : Nat) (f : Cvu → Cvu) : (setCvu s u f).wear = s.wear := rfl
@[simp] theorem setCvu_fab (s : State) (u : Nat) (f : Cvu → Cvu) : (setCvu s u f).fab = s.fab := rfl
@[simp] theorem setCvu_look (s : State) (u : Nat) (f : Cvu → Cvu) : (setCvu s u f).look = s.look := rfl
@[simp] theorem setCvu_zone (s : State) (u : Nat) (f : Cvu → Cvu) : (setCvu s u f).zone = s.zone := rfl
@[simp] theorem setCvu_gw (s : State) (u : Nat) (f : Cvu → Cvu) : (setCvu s u f).gw = s.gw := rfl
@[simp] theorem setCvu_br (s : State) (u : Nat) (f : Cvu → Cvu) : (setCvu s u f).br = s.br := rfl
@[simp] theorem setCvu_aud (s : State) (u : Nat) (f : Cvu → Cvu) : (setCvu s u f).aud = s.aud := rfl
@[simp] theorem setCvu_pos (s : State) (u : Nat) (f : Cvu → Cvu) : (setCvu s u f).pos = s.pos := rfl
@[simp] theorem setCvu_pow (s : State) (u : Nat) (f : Cvu → Cvu) : (setCvu s u f).pow = s.pow := rfl
@[simp] theorem setCvu_slp (s : State) (u : Nat) (f : Cvu → Cvu) : (setCvu s u f).slp = s.slp := rfl
@[simp] theorem setCvu_gp (s : State) (u : Nat) (f : Cvu → Cvu) : (setCvu s u f).gp = s.gp := rfl
@[simp] theorem setCvu_pair (s : State) (u : Nat) (f : Cvu → Cvu) : (setCvu s u f).pair = s.pair := rfl
@[simp] theorem setCvu_dram (s : State) (u : Nat) (f : Cvu → Cvu) : (setCvu s u f).dram = s.dram := rfl
@[simp] theorem setCvu_pool (s : State) (u : Nat) (f : Cvu → Cvu) : (setCvu s u f).pool = s.pool := rfl
@[simp] theorem setCvu_upd (s : State) (u : Nat) (f : Cvu → Cvu) : (setCvu s u f).upd = s.upd := rfl
@[simp] theorem setCvu_host (s : State) (u : Nat) (f : Cvu → Cvu) : (setCvu s u f).host = s.host := rfl
@[simp] theorem setCvu_spi (s : State) (u : Nat) (f : Cvu → Cvu) : (setCvu s u f).spi = s.spi := rfl
@[simp] theorem setCvu_pins (s : State) (u : Nat) (f : Cvu → Cvu) : (setCvu s u f).pins = s.pins := rfl
@[simp] theorem setCvu_tap (s : State) (u : Nat) (f : Cvu → Cvu) : (setCvu s u f).tap = s.tap := rfl
@[simp] theorem setCvu_out (s : State) (u : Nat) (f : Cvu → Cvu) : (setCvu s u f).out = s.out := rfl
@[simp] theorem setCvu_drawn (s : State) (u : Nat) (f : Cvu → Cvu) : (setCvu s u f).drawn = s.drawn := rfl
@[simp] theorem setCvu_pending (s : State) (u : Nat) (f : Cvu → Cvu) : (setCvu s u f).pending = s.pending := rfl

@[simp] theorem setBank_op (s : State) (b : Nat) (f : ImageBank → ImageBank) : (setBank s b f).op = s.op := rfl
@[simp] theorem setBank_cfg (s : State) (b : Nat) (f : ImageBank → ImageBank) : (setBank s b f).cfg = s.cfg := rfl
@[simp] theorem setBank_cnt (s : State) (b : Nat) (f : ImageBank → ImageBank) : (setBank s b f).cnt = s.cnt := rfl
@[simp] theorem setBank_store (s : State) (b : Nat) (f : ImageBank → ImageBank) : (setBank s b f).store = s.store := rfl
@[simp] theorem setBank_sessions (s : State) (b : Nat) (f : ImageBank → ImageBank) : (setBank s b f).sessions = s.sessions := rfl
@[simp] theorem setBank_cs (s : State) (b : Nat) (f : ImageBank → ImageBank) : (setBank s b f).cs = s.cs := rfl
@[simp] theorem setBank_ev (s : State) (b : Nat) (f : ImageBank → ImageBank) : (setBank s b f).ev = s.ev := rfl
@[simp] theorem setBank_time (s : State) (b : Nat) (f : ImageBank → ImageBank) : (setBank s b f).time = s.time := rfl
@[simp] theorem setBank_can (s : State) (b : Nat) (f : ImageBank → ImageBank) : (setBank s b f).can = s.can := rfl
@[simp] theorem setBank_serial (s : State) (b : Nat) (f : ImageBank → ImageBank) : (setBank s b f).serial = s.serial := rfl
@[simp] theorem setBank_mvb (s : State) (b : Nat) (f : ImageBank → ImageBank) : (setBank s b f).mvb = s.mvb := rfl
@[simp] theorem setBank_jour (s : State) (b : Nat) (f : ImageBank → ImageBank) : (setBank s b f).jour = s.jour := rfl
@[simp] theorem setBank_wear (s : State) (b : Nat) (f : ImageBank → ImageBank) : (setBank s b f).wear = s.wear := rfl
@[simp] theorem setBank_fab (s : State) (b : Nat) (f : ImageBank → ImageBank) : (setBank s b f).fab = s.fab := rfl
@[simp] theorem setBank_look (s : State) (b : Nat) (f : ImageBank → ImageBank) : (setBank s b f).look = s.look := rfl
@[simp] theorem setBank_zone (s : State) (b : Nat) (f : ImageBank → ImageBank) : (setBank s b f).zone = s.zone := rfl
@[simp] theorem setBank_gw (s : State) (b : Nat) (f : ImageBank → ImageBank) : (setBank s b f).gw = s.gw := rfl
@[simp] theorem setBank_br (s : State) (b : Nat) (f : ImageBank → ImageBank) : (setBank s b f).br = s.br := rfl
@[simp] theorem setBank_aud (s : State) (b : Nat) (f : ImageBank → ImageBank) : (setBank s b f).aud = s.aud := rfl
@[simp] theorem setBank_pos (s : State) (b : Nat) (f : ImageBank → ImageBank) : (setBank s b f).pos = s.pos := rfl
@[simp] theorem setBank_pow (s : State) (b : Nat) (f : ImageBank → ImageBank) : (setBank s b f).pow = s.pow := rfl
@[simp] theorem setBank_slp (s : State) (b : Nat) (f : ImageBank → ImageBank) : (setBank s b f).slp = s.slp := rfl
@[simp] theorem setBank_gp (s : State) (b : Nat) (f : ImageBank → ImageBank) : (setBank s b f).gp = s.gp := rfl
@[simp] theorem setBank_pair (s : State) (b : Nat) (f : ImageBank → ImageBank) : (setBank s b f).pair = s.pair := rfl
@[simp] theorem setBank_dram (s : State) (b : Nat) (f : ImageBank → ImageBank) : (setBank s b f).dram = s.dram := rfl
@[simp] theorem setBank_pool (s : State) (b : Nat) (f : ImageBank → ImageBank) : (setBank s b f).pool = s.pool := rfl
@[simp] theorem setBank_cvu (s : State) (b : Nat) (f : ImageBank → ImageBank) : (setBank s b f).cvu = s.cvu := rfl
@[simp] theorem setBank_host (s : State) (b : Nat) (f : ImageBank → ImageBank) : (setBank s b f).host = s.host := rfl
@[simp] theorem setBank_spi (s : State) (b : Nat) (f : ImageBank → ImageBank) : (setBank s b f).spi = s.spi := rfl
@[simp] theorem setBank_pins (s : State) (b : Nat) (f : ImageBank → ImageBank) : (setBank s b f).pins = s.pins := rfl
@[simp] theorem setBank_tap (s : State) (b : Nat) (f : ImageBank → ImageBank) : (setBank s b f).tap = s.tap := rfl
@[simp] theorem setBank_out (s : State) (b : Nat) (f : ImageBank → ImageBank) : (setBank s b f).out = s.out := rfl
@[simp] theorem setBank_drawn (s : State) (b : Nat) (f : ImageBank → ImageBank) : (setBank s b f).drawn = s.drawn := rfl
@[simp] theorem setBank_pending (s : State) (b : Nat) (f : ImageBank → ImageBank) : (setBank s b f).pending = s.pending := rfl

@[simp] theorem setRing_op (s : State) (r : Nat) (f : Ring → Ring) : (setRing s r f).op = s.op := rfl
@[simp] theorem setRing_cfg (s : State) (r : Nat) (f : Ring → Ring) : (setRing s r f).cfg = s.cfg := rfl
@[simp] theorem setRing_cnt (s : State) (r : Nat) (f : Ring → Ring) : (setRing s r f).cnt = s.cnt := rfl
@[simp] theorem setRing_store (s : State) (r : Nat) (f : Ring → Ring) : (setRing s r f).store = s.store := rfl
@[simp] theorem setRing_sessions (s : State) (r : Nat) (f : Ring → Ring) : (setRing s r f).sessions = s.sessions := rfl
@[simp] theorem setRing_cs (s : State) (r : Nat) (f : Ring → Ring) : (setRing s r f).cs = s.cs := rfl
@[simp] theorem setRing_ev (s : State) (r : Nat) (f : Ring → Ring) : (setRing s r f).ev = s.ev := rfl
@[simp] theorem setRing_time (s : State) (r : Nat) (f : Ring → Ring) : (setRing s r f).time = s.time := rfl
@[simp] theorem setRing_can (s : State) (r : Nat) (f : Ring → Ring) : (setRing s r f).can = s.can := rfl
@[simp] theorem setRing_serial (s : State) (r : Nat) (f : Ring → Ring) : (setRing s r f).serial = s.serial := rfl
@[simp] theorem setRing_mvb (s : State) (r : Nat) (f : Ring → Ring) : (setRing s r f).mvb = s.mvb := rfl
@[simp] theorem setRing_jour (s : State) (r : Nat) (f : Ring → Ring) : (setRing s r f).jour = s.jour := rfl
@[simp] theorem setRing_wear (s : State) (r : Nat) (f : Ring → Ring) : (setRing s r f).wear = s.wear := rfl
@[simp] theorem setRing_fab (s : State) (r : Nat) (f : Ring → Ring) : (setRing s r f).fab = s.fab := rfl
@[simp] theorem setRing_look (s : State) (r : Nat) (f : Ring → Ring) : (setRing s r f).look = s.look := rfl
@[simp] theorem setRing_zone (s : State) (r : Nat) (f : Ring → Ring) : (setRing s r f).zone = s.zone := rfl
@[simp] theorem setRing_gw (s : State) (r : Nat) (f : Ring → Ring) : (setRing s r f).gw = s.gw := rfl
@[simp] theorem setRing_br (s : State) (r : Nat) (f : Ring → Ring) : (setRing s r f).br = s.br := rfl
@[simp] theorem setRing_aud (s : State) (r : Nat) (f : Ring → Ring) : (setRing s r f).aud = s.aud := rfl
@[simp] theorem setRing_pos (s : State) (r : Nat) (f : Ring → Ring) : (setRing s r f).pos = s.pos := rfl
@[simp] theorem setRing_pow (s : State) (r : Nat) (f : Ring → Ring) : (setRing s r f).pow = s.pow := rfl
@[simp] theorem setRing_slp (s : State) (r : Nat) (f : Ring → Ring) : (setRing s r f).slp = s.slp := rfl
@[simp] theorem setRing_gp (s : State) (r : Nat) (f : Ring → Ring) : (setRing s r f).gp = s.gp := rfl
@[simp] theorem setRing_pair (s : State) (r : Nat) (f : Ring → Ring) : (setRing s r f).pair = s.pair := rfl
@[simp] theorem setRing_dram (s : State) (r : Nat) (f : Ring → Ring) : (setRing s r f).dram = s.dram := rfl
@[simp] theorem setRing_pool (s : State) (r : Nat) (f : Ring → Ring) : (setRing s r f).pool = s.pool := rfl
@[simp] theorem setRing_cvu (s : State) (r : Nat) (f : Ring → Ring) : (setRing s r f).cvu = s.cvu := rfl
@[simp] theorem setRing_upd (s : State) (r : Nat) (f : Ring → Ring) : (setRing s r f).upd = s.upd := rfl
@[simp] theorem setRing_spi (s : State) (r : Nat) (f : Ring → Ring) : (setRing s r f).spi = s.spi := rfl
@[simp] theorem setRing_pins (s : State) (r : Nat) (f : Ring → Ring) : (setRing s r f).pins = s.pins := rfl
@[simp] theorem setRing_tap (s : State) (r : Nat) (f : Ring → Ring) : (setRing s r f).tap = s.tap := rfl
@[simp] theorem setRing_out (s : State) (r : Nat) (f : Ring → Ring) : (setRing s r f).out = s.out := rfl
@[simp] theorem setRing_drawn (s : State) (r : Nat) (f : Ring → Ring) : (setRing s r f).drawn = s.drawn := rfl
@[simp] theorem setRing_pending (s : State) (r : Nat) (f : Ring → Ring) : (setRing s r f).pending = s.pending := rfl

@[simp] theorem drawNat_op (s : State) (k : Nat) : (drawNat s k).1.op = s.op := rfl
@[simp] theorem drawNat_cfg (s : State) (k : Nat) : (drawNat s k).1.cfg = s.cfg := rfl
@[simp] theorem drawNat_cnt (s : State) (k : Nat) : (drawNat s k).1.cnt = s.cnt := rfl
@[simp] theorem drawNat_store (s : State) (k : Nat) : (drawNat s k).1.store = s.store := rfl
@[simp] theorem drawNat_sessions (s : State) (k : Nat) : (drawNat s k).1.sessions = s.sessions := rfl
@[simp] theorem drawNat_cs (s : State) (k : Nat) : (drawNat s k).1.cs = s.cs := rfl
@[simp] theorem drawNat_ev (s : State) (k : Nat) : (drawNat s k).1.ev = s.ev := rfl
@[simp] theorem drawNat_time (s : State) (k : Nat) : (drawNat s k).1.time = s.time := rfl
@[simp] theorem drawNat_can (s : State) (k : Nat) : (drawNat s k).1.can = s.can := rfl
@[simp] theorem drawNat_serial (s : State) (k : Nat) : (drawNat s k).1.serial = s.serial := rfl
@[simp] theorem drawNat_mvb (s : State) (k : Nat) : (drawNat s k).1.mvb = s.mvb := rfl
@[simp] theorem drawNat_jour (s : State) (k : Nat) : (drawNat s k).1.jour = s.jour := rfl
@[simp] theorem drawNat_wear (s : State) (k : Nat) : (drawNat s k).1.wear = s.wear := rfl
@[simp] theorem drawNat_fab (s : State) (k : Nat) : (drawNat s k).1.fab = s.fab := rfl
@[simp] theorem drawNat_look (s : State) (k : Nat) : (drawNat s k).1.look = s.look := rfl
@[simp] theorem drawNat_zone (s : State) (k : Nat) : (drawNat s k).1.zone = s.zone := rfl
@[simp] theorem drawNat_gw (s : State) (k : Nat) : (drawNat s k).1.gw = s.gw := rfl
@[simp] theorem drawNat_br (s : State) (k : Nat) : (drawNat s k).1.br = s.br := rfl
@[simp] theorem drawNat_aud (s : State) (k : Nat) : (drawNat s k).1.aud = s.aud := rfl
@[simp] theorem drawNat_pos (s : State) (k : Nat) : (drawNat s k).1.pos = s.pos := rfl
@[simp] theorem drawNat_pow (s : State) (k : Nat) : (drawNat s k).1.pow = s.pow := rfl
@[simp] theorem drawNat_slp (s : State) (k : Nat) : (drawNat s k).1.slp = s.slp := rfl
@[simp] theorem drawNat_gp (s : State) (k : Nat) : (drawNat s k).1.gp = s.gp := rfl
@[simp] theorem drawNat_pair (s : State) (k : Nat) : (drawNat s k).1.pair = s.pair := rfl
@[simp] theorem drawNat_dram (s : State) (k : Nat) : (drawNat s k).1.dram = s.dram := rfl
@[simp] theorem drawNat_pool (s : State) (k : Nat) : (drawNat s k).1.pool = s.pool := rfl
@[simp] theorem drawNat_cvu (s : State) (k : Nat) : (drawNat s k).1.cvu = s.cvu := rfl
@[simp] theorem drawNat_upd (s : State) (k : Nat) : (drawNat s k).1.upd = s.upd := rfl
@[simp] theorem drawNat_host (s : State) (k : Nat) : (drawNat s k).1.host = s.host := rfl
@[simp] theorem drawNat_spi (s : State) (k : Nat) : (drawNat s k).1.spi = s.spi := rfl
@[simp] theorem drawNat_pins (s : State) (k : Nat) : (drawNat s k).1.pins = s.pins := rfl
@[simp] theorem drawNat_tap (s : State) (k : Nat) : (drawNat s k).1.tap = s.tap := rfl
@[simp] theorem drawNat_out (s : State) (k : Nat) : (drawNat s k).1.out = s.out := rfl
@[simp] theorem drawNat_pending (s : State) (k : Nat) : (drawNat s k).1.pending = s.pending := rfl

@[simp] theorem drawBytes_op (s : State) (k : Nat) : (drawBytes s k).1.op = s.op := rfl
@[simp] theorem drawBytes_cfg (s : State) (k : Nat) : (drawBytes s k).1.cfg = s.cfg := rfl
@[simp] theorem drawBytes_cnt (s : State) (k : Nat) : (drawBytes s k).1.cnt = s.cnt := rfl
@[simp] theorem drawBytes_store (s : State) (k : Nat) : (drawBytes s k).1.store = s.store := rfl
@[simp] theorem drawBytes_sessions (s : State) (k : Nat) : (drawBytes s k).1.sessions = s.sessions := rfl
@[simp] theorem drawBytes_cs (s : State) (k : Nat) : (drawBytes s k).1.cs = s.cs := rfl
@[simp] theorem drawBytes_ev (s : State) (k : Nat) : (drawBytes s k).1.ev = s.ev := rfl
@[simp] theorem drawBytes_time (s : State) (k : Nat) : (drawBytes s k).1.time = s.time := rfl
@[simp] theorem drawBytes_can (s : State) (k : Nat) : (drawBytes s k).1.can = s.can := rfl
@[simp] theorem drawBytes_serial (s : State) (k : Nat) : (drawBytes s k).1.serial = s.serial := rfl
@[simp] theorem drawBytes_mvb (s : State) (k : Nat) : (drawBytes s k).1.mvb = s.mvb := rfl
@[simp] theorem drawBytes_jour (s : State) (k : Nat) : (drawBytes s k).1.jour = s.jour := rfl
@[simp] theorem drawBytes_wear (s : State) (k : Nat) : (drawBytes s k).1.wear = s.wear := rfl
@[simp] theorem drawBytes_fab (s : State) (k : Nat) : (drawBytes s k).1.fab = s.fab := rfl
@[simp] theorem drawBytes_look (s : State) (k : Nat) : (drawBytes s k).1.look = s.look := rfl
@[simp] theorem drawBytes_zone (s : State) (k : Nat) : (drawBytes s k).1.zone = s.zone := rfl
@[simp] theorem drawBytes_gw (s : State) (k : Nat) : (drawBytes s k).1.gw = s.gw := rfl
@[simp] theorem drawBytes_br (s : State) (k : Nat) : (drawBytes s k).1.br = s.br := rfl
@[simp] theorem drawBytes_aud (s : State) (k : Nat) : (drawBytes s k).1.aud = s.aud := rfl
@[simp] theorem drawBytes_pos (s : State) (k : Nat) : (drawBytes s k).1.pos = s.pos := rfl
@[simp] theorem drawBytes_pow (s : State) (k : Nat) : (drawBytes s k).1.pow = s.pow := rfl
@[simp] theorem drawBytes_slp (s : State) (k : Nat) : (drawBytes s k).1.slp = s.slp := rfl
@[simp] theorem drawBytes_gp (s : State) (k : Nat) : (drawBytes s k).1.gp = s.gp := rfl
@[simp] theorem drawBytes_pair (s : State) (k : Nat) : (drawBytes s k).1.pair = s.pair := rfl
@[simp] theorem drawBytes_dram (s : State) (k : Nat) : (drawBytes s k).1.dram = s.dram := rfl
@[simp] theorem drawBytes_pool (s : State) (k : Nat) : (drawBytes s k).1.pool = s.pool := rfl
@[simp] theorem drawBytes_cvu (s : State) (k : Nat) : (drawBytes s k).1.cvu = s.cvu := rfl
@[simp] theorem drawBytes_upd (s : State) (k : Nat) : (drawBytes s k).1.upd = s.upd := rfl
@[simp] theorem drawBytes_host (s : State) (k : Nat) : (drawBytes s k).1.host = s.host := rfl
@[simp] theorem drawBytes_spi (s : State) (k : Nat) : (drawBytes s k).1.spi = s.spi := rfl
@[simp] theorem drawBytes_pins (s : State) (k : Nat) : (drawBytes s k).1.pins = s.pins := rfl
@[simp] theorem drawBytes_tap (s : State) (k : Nat) : (drawBytes s k).1.tap = s.tap := rfl
@[simp] theorem drawBytes_out (s : State) (k : Nat) : (drawBytes s k).1.out = s.out := rfl
@[simp] theorem drawBytes_pending (s : State) (k : Nat) : (drawBytes s k).1.pending = s.pending := rfl

end Sys2Proof.Machine
end

