-- ==== Sys2Proof/Laws/Commands.lean ====
section
/-! SUPPORT. What the frames of the session commands do where every check
passes. -/

namespace Sys2Proof.Machine

theorem reply_session (s : State) (ses : SessionNo) (code : Byte) (data : Bytes) :
    reply s (.session ses) code data = emit s (.answer (.session ses) code data) := rfl

theorem WriteAllowed.row {s : State} {ses : SessionNo} {idx sub : Nat} {v : Bytes} (h : WriteAllowed s ses idx sub v) :
    ∃ x, writeCheck s ses.val idx sub v = .inl x := by
  obtain ⟨-, -, -, h⟩ := h
  cases hw : writeCheck s ses.val idx sub v with
  | inl x => exact ⟨x, rfl⟩
  | inr c => rw [hw] at h; cases h

theorem ReadAllowed.row {s : State} {ses : SessionNo} {idx sub : Nat} (h : ReadAllowed s ses idx sub) :
    ∃ x, readCheck s ses.val idx sub = .inl x := by
  obtain ⟨-, -, h⟩ := h
  cases hr : readCheck s ses.val idx sub with
  | inl x => exact ⟨x, rfl⟩
  | inr c => rw [hr] at h; cases h

/-- A command whose write passes every check acts and is answered with its result. -/
theorem command_allowed {s : State} {ses : SessionNo} {idx sub : Nat} {v : Bytes} (act : State → State × Nat) (h : WriteAllowed s ses idx sub v) :
    command s ses idx sub v act = emit (act s).1 (.answer (.session ses) (BitVec.ofNat 8 (act s).2) []) := by
  obtain ⟨x, hx⟩ := h.row
  obtain ⟨hs, ho, ha, -⟩ := h
  simp [command, hs, ho, ha, hx, reply_session]

/-- A read whose checks pass acts and is answered with its value. -/
theorem readCommand_allowed {s : State} {ses : SessionNo} {idx sub : Nat} (act : State → State × Bytes) (h : ReadAllowed s ses idx sub) :
    readCommand s ses idx sub act = emit (act s).1 (.answer (.session ses) 0 (act s).2) := by
  obtain ⟨x, hx⟩ := h.row
  obtain ⟨hs, ho, -⟩ := h
  simp [readCommand, hs, ho, hx, reply_session]

/-- A command whose answer may come later: with a result it is answered, without one its action stands alone. -/
theorem lateCommand_allowed {s : State} {ses : SessionNo} {idx sub : Nat} {v : Bytes} (act : State → State × Option Nat) (h : WriteAllowed s ses idx sub v) :
    lateCommand s ses idx sub v act = match act s with
      | (t, some c) => emit t (.answer (.session ses) (BitVec.ofNat 8 c) [])
      | (t, none) => t := by
  obtain ⟨x, hx⟩ := h.row
  obtain ⟨hs, ho, ha, -⟩ := h
  simp only [lateCommand, hs, ho, ha, hx, Bool.and_self, if_true, Bool.false_eq_true, if_false]
  rcases act s with ⟨t, _ | c⟩ <;> rfl

/-- A request of 2000h.02 that nothing bars is answered first and then acts. -/
theorem request_allowed {s : State} {ses : SessionNo} {code : Nat} (act : State → State) (h : WriteAllowed s ses 0x2000 2 (be 1 code))
    (hb : requestBar s ses.val code = none) : request s ses code act = act (emit s (.answer (.session ses) 0 [])) := by
  obtain ⟨x, hx⟩ := h.row
  obtain ⟨hs, ho, -, -⟩ := h
  simp [request, hs, ho, hx, hb, reply_session]

end Sys2Proof.Machine
end

