-- ==== Sys2Proof/Laws/Kept.lean ====
section
/-! SUPPORT. What almost every operation of the machine leaves alone: the queue, the configuration in force, the operating
state and the fuses. `kept` gathers them, and one lemma per operation says that it keeps them. -/

namespace Sys2Proof.Machine

/-- The queue, the values in force, the operating state and the fuses. -/
def kept (s : State) : List Instr × Tbl Bytes × OpState × Nat × Bool :=
  (s.pending, s.cfg, s.op.state, s.upd.fuses, s.upd.lockFuse)

@[simp] theorem kept_mk (op cfg cnt store sessions cs ev time can serial mvb jour wear fab look zone gw br aud pos pow slp gp pair dram pool cvu upd host spi pins tap out drawn pending) :
  kept (State.mk op cfg cnt store sessions cs ev time can serial mvb jour wear fab look zone gw br aud pos pow slp gp pair dram pool cvu upd host spi pins tap out drawn pending) = (pending, cfg, op.state, upd.fuses, upd.lockFuse) := id rfl

@[simp] theorem kept_eta (s : State) : (s.pending, s.cfg, s.op.state, s.upd.fuses, s.upd.lockFuse) = kept s := rfl

@[simp] theorem kept_ite (c : Prop) [Decidable c] (a b : State) : kept (if c then a else b) = if c then kept a else kept b := by split <;> rfl

@[simp] theorem kept_ite_fst {α : Type} (c : Prop) [Decidable c] (a b : State × α) : kept (if c then a else b).1 = if c then kept a.1 else kept b.1 := by split <;> rfl

@[simp] theorem kept_foldl {α : Type} (f : State → α → State) (h : ∀ t x, kept (f t x) = kept t) (l : List α) (s : State) : kept (l.foldl f s) = kept s := by
  induction l generalizing s with
  | nil => rfl
  | cons x r ih => simp [List.foldl, ih, h]

@[simp] theorem kept_foldl_pair {α β : Type} (f : State × β → α → State × β) (h : ∀ p x, kept (f p x).1 = kept p.1) (l : List α) (p : State × β) :
    kept (l.foldl f p).1 = kept p.1 := by
  induction l generalizing p with
  | nil => rfl
  | cons x r ih => simp [List.foldl, ih, h]

end Sys2Proof.Machine
end

