-- ==== Sys2Proof/Laws/KeptBase.lean ====
section
/-! SUPPORT. What `kept` gathers is the same after the operations of the operations shared by every chapter. -/

namespace Sys2Proof.Machine

@[simp] theorem emit_kept (s : State) (o : Out) : kept (emit s o) = kept s := by simp [emit]

@[simp] theorem drawNat_kept (s : State) (kind : Nat) : kept (drawNat s kind).1 = kept s := by simp [drawNat]

@[simp] theorem drawBytes_kept (s : State) (n : Nat) : kept (drawBytes s n).1 = kept s := by simp [drawBytes]

@[simp] theorem putStore_kept (s : State) (idx sub sel : Nat) (v : Bytes) : kept (putStore s idx sub sel v) = kept s := by
  simp [putStore]

@[simp] theorem rawBump_kept (s : State) (idx sub sel : Nat) : kept (rawBump s idx sub sel) = kept s := by simp [rawBump]

@[simp] theorem jAppend_kept (s : State) (body : JBody) (dest : ReplyTo) : kept (jAppend s body dest) = kept s := by simp [jAppend]

@[simp] theorem keepCount_kept (s : State) (idx sub sel : Nat) : kept (keepCount s idx sub sel) = kept s := by simp [keepCount]

@[simp] theorem tally_kept (s : State) (idx sub sel : Nat) : kept (tally s idx sub sel) = kept s := by simp [tally]

@[simp] theorem bumpW_kept (s : State) (idx sub sel n : Nat) : kept (bumpW s idx sub sel n) = kept s := by simp [bumpW]

@[simp] theorem canMgmtSend_kept (s : State) (cn : Nat) (f : CanFrame) : kept (canMgmtSend s cn f) = kept s := by
  unfold canMgmtSend
  (try dsimp only)
  (repeat' split) <;> simp

@[simp] theorem emcyOn_kept (s : State) (data : Bytes) (cn : Nat) : kept (emcyOn s data cn) = kept s := by
  unfold emcyOn
  (try dsimp only)
  (repeat' split) <;> simp

@[simp] theorem emcyAll_kept (s : State) (data : Bytes) : kept (emcyAll s data) = kept s := by simp [emcyAll]

@[simp] theorem loseRecord_kept (s : State) (gone : BitVec 32) : kept (loseRecord s gone) = kept s := by simp [loseRecord]

@[simp] theorem pushRecord_kept (s : State) (code sev src : Nat) (data : Bytes) :
    kept (pushRecord s code sev src data) = kept s := by
  unfold pushRecord
  (try dsimp only)
  (repeat' split) <;> simp

@[simp] theorem noteLimit_kept (s : State) (key : Nat) : kept (noteLimit s key) = kept s := by simp [noteLimit]

@[simp] theorem afterRound_kept (before s : State) : kept (afterRound before s) = kept s := by
  have h1 : ∀ (t : State) (k i j : Nat), kept (if tnat before.cnt k < s32Max ∧ tnat s.cnt k = s32Max then
      pushRecord t 0x2302 2 0xFF (be 2 i ++ be 1 j) else t) = kept t := by
    intro t k i j
    split <;> simp
  have h2 : ∀ (t : State) (cn : Nat), kept (if tnat before.cnt (ckey (0x4420 + cn) 8 0) < tnat s.cnt (ckey (0x4420 + cn) 8 0) ∧ limitOpen t (0x44060000 + cn) 1000000000 then
      noteLimit (pushRecord t 0x4406 2 0xFF (be 1 cn)) (0x44060000 + cn) else t) = kept t := by
    intro t cn
    split <;> simp
  unfold afterRound
  extract_lets sat s1 s2 s3
  have hs1 : kept s1 = kept s := h1 _ _ _ _
  have hs2 : kept s2 = kept s := (kept_foldl _ (fun t x => h1 t _ _ _) _ _).trans hs1
  have hs3 : kept s3 = kept s := (kept_foldl _ (fun t x => h2 t x) _ _).trans hs2
  clear_value s3
  split
  · rw [noteLimit_kept, pushRecord_kept, ← hs3]
    rfl
  · exact hs3

@[simp] theorem afterRounds_kept (fuel : Nat) (before s : State) : kept (afterRounds fuel before s) = kept s := by
  induction fuel generalizing before s with
  | zero => rfl
  | succ n ih =>
    unfold afterRounds
    dsimp only
    split <;> simp [ih]

@[simp] theorem afterRecord_kept (before s : State) : kept (afterRecord before s) = kept s := afterRounds_kept _ _ _

@[simp] theorem hostEdges_kept (s : State) : kept (hostEdges s) = kept s := by simp [hostEdges]

@[simp] theorem settle_kept (before s : State) : kept (settle before s) = kept s := by
  unfold settle
  split <;> simp

@[simp] theorem canMgmt_kept (s : State) (cn : Nat) (f : CanFrame) : kept (canMgmt s cn f) = kept s := by simp [canMgmt]

@[simp] theorem emcyCleared_kept (before after : State) : kept (emcyCleared before after) = kept after := by
  unfold emcyCleared
  dsimp only
  repeat' split
  all_goals simp

@[simp] theorem raise_kept (s : State) (code sev src : Nat) (data : Bytes) : kept (raise s code sev src data) = kept s := by
  simp [raise]

@[simp] theorem raiseLimited_kept (s : State) (sel period code sev src : Nat) (data : Bytes) :
    kept (raiseLimited s sel period code sev src data) = kept s := by
  simp [raiseLimited]

@[simp] theorem bumpAt_kept (s : State) (idx sub sel shown : Nat) : kept (bumpAt s idx sub sel shown) = kept s := by simp [bumpAt]

@[simp] theorem bump_kept (s : State) (idx sub : Nat) : kept (bump s idx sub) = kept s := by simp [bump]

@[simp] theorem bumpN_kept (s : State) (base n sub : Nat) : kept (bumpN s base n sub) = kept s := by simp [bumpN]

@[simp] theorem wideN_kept (s : State) (base n sub amount : Nat) : kept (wideN s base n sub amount) = kept s := by simp [wideN]

@[simp] theorem recordInclusion_kept (s : State) (src kind : Nat) (detail : Bytes) :
    kept (recordInclusion s src kind detail) = kept s := by
  simp [recordInclusion]

@[simp] theorem sdoSend_kept (s : State) (cn : Nat) (data : Bytes) : kept (sdoSend s cn data) = kept s := by simp [sdoSend]

@[simp] theorem sdoPump_kept (s : State) (cn fuel : Nat) : kept (sdoPump s cn fuel) = kept s := by
  induction fuel generalizing s with
  | zero => rfl
  | succ n ih =>
    unfold sdoPump
    repeat' split
    all_goals simp [ih]

@[simp] theorem sdoFrame_kept (s : State) (cn : Nat) (data : Bytes) : kept (sdoFrame s cn data) = kept s := by simp [sdoFrame]

@[simp] theorem setSdo_kept (s : State) (cn : Nat) (x : SdoTransfer) : kept (setSdo s cn x) = kept s := by simp [setSdo]

@[simp] theorem sdoAbort_kept (s : State) (cn idx sub code : Nat) : kept (sdoAbort s cn idx sub code) = kept s := by
  simp [sdoAbort]

@[simp] theorem sdoReply_kept (s : State) (cn idx sub code : Nat) : kept (sdoReply s cn idx sub code) = kept s := by
  unfold sdoReply
  (try dsimp only)
  (repeat' split) <;> simp

@[simp] theorem reply_kept (s : State) (dest : ReplyTo) (code : Byte) (data : Bytes) : kept (reply s dest code data) = kept s := by
  unfold reply
  (try dsimp only)
  (repeat' split) <;> simp

@[simp] theorem dropPartials_kept (s : State) (ses : Nat) : kept (dropPartials s ses) = kept s := by simp [dropPartials]

@[simp] theorem forgetReplies_kept (s : State) (gone : ReplyTo → Bool) : kept (forgetReplies s gone) = kept s := by
  simp [forgetReplies]

@[simp] theorem dropReplies_kept (s : State) : kept (dropReplies s) = kept s := by simp [dropReplies]

@[simp] theorem setOwn_kept (s : State) (n idx sub v : Nat) : kept (setOwn s n idx sub v) = kept s := by simp [setOwn]

@[simp] theorem stage_kept (s : State) (ses : SessionNo) (idx sub : Nat) (v : Bytes) :
    kept (stage s ses idx sub v).1 = kept s := by
  unfold stage
  (try dsimp only)
  (repeat' split) <;> simp

@[simp] theorem command_kept (s : State) (ses : SessionNo) (idx sub : Nat) (v : Bytes) (act : State → State × Nat)
    (h : kept (act s).1 = kept s) : kept (command s ses idx sub v act) = kept s := by
  unfold command
  repeat' split
  all_goals simp [h]

@[simp] theorem readCommand_kept (s : State) (ses : SessionNo) (idx sub : Nat) (act : State → State × Bytes)
    (h : kept (act s).1 = kept s) : kept (readCommand s ses idx sub act) = kept s := by
  unfold readCommand
  repeat' split
  all_goals simp [h]

@[simp] theorem marginEvents_kept (s : State) (cls : Nat) (wornAtZero : Bool) : kept (marginEvents s cls wornAtZero) = kept s := by
  simp [marginEvents]

@[simp] theorem journalCheck_kept (s : State) : kept (journalCheck s) = kept s := by simp [journalCheck]

@[simp] theorem queueCheckpoint_kept (s : State) : kept (queueCheckpoint s) = kept s := by simp [queueCheckpoint]

@[simp] theorem thaw_kept (s : State) : kept (thaw s) = kept s := by simp [thaw]

@[simp] theorem startCompaction_kept (s : State) : kept (startCompaction s) = kept s := by simp [startCompaction]

@[simp] theorem flashWorn_kept (s : State) (block cause : Nat) (inclKind : Nat) (extra : Bytes) :
    kept (flashWorn s block cause inclKind extra) = kept s := by
  unfold flashWorn
  (try dsimp only)
  (repeat' split) <;> simp

@[simp] theorem eraseBlock_kept (s : State) (block : Nat) : kept (eraseBlock s block) = kept s := by simp [eraseBlock]

@[simp] theorem setClass_kept (s : State) (c : Nat) (x : PoolClass) : kept (setClass s c x) = kept s := by simp [setClass]

@[simp] theorem grantFrom_kept (s : State) (o c : Nat) : kept (grantFrom s o c).1 = kept s := by simp [grantFrom]

@[simp] theorem poolFail_kept (s : State) (o c cause : Nat) : kept (poolFail s o c cause) = kept s := by simp [poolFail]

@[simp] theorem poolTry_kept (s : State) (o c : Nat) (climb : Bool) (fuel : Nat) : kept (poolTry s o c climb fuel).1 = kept s := by
  induction fuel generalizing s c with
  | zero => rfl
  | succ n ih =>
    unfold poolTry
    repeat' split
    all_goals simp [ih]

@[simp] theorem poolRequestOne_kept (s : State) (o size : Nat) (climb : Bool) :
    kept (poolRequestOne s o size climb).1 = kept s := by
  simp [poolRequestOne]

@[simp] theorem poolCycle_kept (start : State) (acc : State × List PoolWait × List PoolWait) (c : Nat) :
    kept (poolCycle start acc c).1 = kept acc.1 := by
  unfold poolCycle
  dsimp only
  repeat' split
  all_goals simp

@[simp] theorem poolCycles_kept (start s : State) (ws : List PoolWait) (fuel : Nat) : kept (poolCycles start s ws fuel) = kept s := by
  induction fuel generalizing s ws with
  | zero => rfl
  | succ n ih =>
    unfold poolCycles
    split
    · rfl
    · dsimp only
      rw [ih, kept_foldl_pair _ (fun p x => poolCycle_kept start p x)]

@[simp] theorem misuse_kept (s : State) (kind who : Nat) (owner state : Nat) (h : BitVec 32) :
    kept (misuse s kind who owner state h) = kept s := by
  simp [misuse]

@[simp] theorem rejectHandle_kept (s : State) (who : Nat) (h : BitVec 32) (kind ctr : Nat) :
    kept (rejectHandle s who h kind ctr) = kept s := by
  simp [rejectHandle]

@[simp] theorem cutMinima_kept (s : State) (c : Nat) : kept (cutMinima s c) = kept s := by
  unfold cutMinima
  apply kept_foldl
  intro t x
  (try dsimp only)
  (repeat' split) <;> simp

@[simp] theorem applyPool_kept (s : State) : kept (applyPool s) = kept s := by simp [applyPool]

@[simp] theorem touchPage_kept (s : State) (page : Nat) : kept (touchPage s page) = kept s := by simp [touchPage]

@[simp] theorem remapPage_kept (s : State) (page spare : Nat) (rest : List Nat) (uncorr : Bool) :
    kept (remapPage s page spare rest uncorr) = kept s := by
  simp [remapPage]

@[simp] theorem bufferGone_kept (s : State) (c i : Nat) : kept (bufferGone s c i) = kept s := by simp [bufferGone]

@[simp] theorem retireWaiting_kept (s : State) : kept (retireWaiting s) = kept s := by
  unfold retireWaiting
  (try dsimp only)
  (repeat' split) <;> simp (disch := (intros; (try dsimp only); (repeat' split) <;> simp))

@[simp] theorem withdrawFrom_kept (s : State) (c : Nat) : kept (withdrawFrom s c) = kept s := by
  unfold withdrawFrom
  (try dsimp only)
  (repeat' split) <;> simp

@[simp] theorem withdrawLargest_kept (s : State) (fuel : Nat) : kept (withdrawLargest s fuel) = kept s := by
  induction fuel generalizing s with
  | zero => rfl
  | succ n ih =>
    unfold withdrawLargest
    split
    · rfl
    · split <;> simp [ih]

@[simp] theorem withdrawCovering_kept (s : State) (page : Nat) : kept (withdrawCovering s page) = kept s := by
  simp [withdrawCovering]

@[simp] theorem retirePage_kept (s : State) (page : Nat) (uncorr : Bool) : kept (retirePage s page uncorr) = kept s := by
  unfold retirePage
  (try dsimp only)
  (repeat' split) <;> simp

@[simp] theorem dramUncorrectable_kept (s : State) (page reader : Nat) : kept (dramUncorrectable s page reader) = kept s := by
  simp [dramUncorrectable]

@[simp] theorem returnBuffer_kept (s : State) (c i : Nat) (t : PoolTag) : kept (returnBuffer s c i t) = kept s := by
  simp [returnBuffer]

@[simp] theorem poolFreeOp_kept (s : State) (who : Nat) (h : BitVec 32) : kept (poolFreeOp s who h) = kept s := by
  unfold poolFreeOp
  (try dsimp only)
  (repeat' split) <;> simp

@[simp] theorem poolGiveOp_kept (s : State) (who : Nat) (h : BitVec 32) (dest : Nat) :
    kept (poolGiveOp s who h dest) = kept s := by
  unfold poolGiveOp
  (try dsimp only)
  (repeat' split) <;> simp

@[simp] theorem reclaim_kept (s : State) (test : PoolTag → Bool) : kept (reclaim s test) = kept s := by simp [reclaim]

@[simp] theorem ringRead_kept (s : State) (ses idx sub len flagByte flagBit : Nat) (held : Nat) (next : BitVec 32) (recAt : Nat → Bytes) (lost : Session → Bool) (clear : Session → Session) :
    kept (ringRead s ses idx sub len flagByte flagBit held next recAt lost clear).1 = kept s := by
  simp [ringRead]

@[simp] theorem ringSeek_kept (s : State) (ses idx sub : Nat) (held : Nat) (next : BitVec 32) (pos : BitVec 32) (mark : Session → Session) :
    kept (ringSeek s ses idx sub held next pos mark) = kept s := by
  simp [ringSeek]

@[simp] theorem misuseRead_kept (s : State) (ses : Nat) : kept (misuseRead s ses).1 = kept s := by simp [misuseRead]

@[simp] theorem scrubWord_kept (page : Nat) (acc : State × Bool) (e : Fin 128 × SymbolErrors 36) : kept (scrubWord page acc e).1 = kept acc.1 := by
  unfold scrubWord
  dsimp only
  repeat' split
  all_goals simp
@[simp] theorem scrubWords_kept (page : Nat) (l : List (Fin 128 × SymbolErrors 36)) (p : State × Bool) : kept (l.foldl (scrubWord page) p).1 = kept p.1 :=
  kept_foldl_pair _ (scrubWord_kept page) _ _

end Sys2Proof.Machine
end

