-- ==== Sys2Proof/Laws/KeptFrames.lean ====
section
/-! SUPPORT. What `kept` gathers is the same after the operations of the fabric, Lookup, egress and the Zone Gate. -/

namespace Sys2Proof.Machine

@[simp] theorem setLink_kept (s : State) (p : Nat) (f : PortLink → PortLink) : kept (setLink s p f) = kept s := by simp [setLink]

@[simp] theorem setColumn_kept (s : State) (j : Nat) (c : Column) : kept (setColumn s j c) = kept s := by simp [setColumn]

@[simp] theorem chargeColumn_kept (s : State) (i j q : Nat) (b : Budget) : kept (chargeColumn s i j q b).1 = kept s := by
  simp [chargeColumn]

@[simp] theorem settleDrain_kept (s : State) (j : Nat) : kept (settleDrain s j) = kept s := by simp [settleDrain]

@[simp] theorem returnCells_kept (s : State) (i : Nat) (h : Holding) (keep : Nat) : kept (returnCells s i h keep).1 = kept s := by
  simp [returnCells]

@[simp] theorem setFrame_kept (s : State) (f : Frame) : kept (setFrame s f) = kept s := by simp [setFrame]

@[simp] theorem dropIfDone_kept (s : State) (id : Nat) : kept (dropIfDone s id) = kept s := by
  unfold dropIfDone
  (try dsimp only)
  (repeat' split) <;> simp

@[simp] theorem doneDest_kept (s : State) (id port : Nat) (mirror : Option Nat) : kept (doneDest s id port mirror) = kept s := by
  unfold doneDest
  (try dsimp only)
  (repeat' split) <;> simp

@[simp] theorem setEgress_kept (s : State) (p : Nat) (f : PortEgress → PortEgress) : kept (setEgress s p f) = kept s := by
  simp [setEgress]

@[simp] theorem creditsNow_kept (s : State) (port : Nat) : kept (creditsNow s port) = kept s := by simp [creditsNow]

@[simp] theorem creditsAll_kept (s : State) : kept (creditsAll s) = kept s := by simp [creditsAll]

@[simp] theorem setQueue_kept (s : State) (q : Nat) (l : List Copy) : kept (setQueue s q l) = kept s := by simp [setQueue]

@[simp] theorem unqueue_kept (s : State) (id port : Nat) (mirror : Option Nat) : kept (unqueue s id port mirror) = kept s := by
  unfold unqueue
  (try dsimp only)
  (repeat' split) <;> simp

@[simp] theorem dropCopy_kept (s : State) (id port : Nat) (mirror : Option Nat) : kept (dropCopy s id port mirror) = kept s := by
  simp [dropCopy]

@[simp] theorem discardCopy_kept (s : State) (id port : Nat) (mirror : Option Nat) :
    kept (discardCopy s id port mirror) = kept s := by
  simp [discardCopy]

@[simp] theorem failCopy_kept (s : State) (id port : Nat) (mirror : Option Nat) : kept (failCopy s id port mirror) = kept s := by
  simp [failCopy]

@[simp] theorem discardQueues_kept (s : State) (port : Nat) : kept (discardQueues s port) = kept s := by simp [discardQueues]

@[simp] theorem markBad_kept (s : State) (id : Nat) : kept (markBad s id) = kept s := by
  unfold markBad
  (try dsimp only)
  (repeat' split) <;> simp

@[simp] theorem setLag_kept (s : State) (g : Nat) (t : Bytes) : kept (setLag s g t) = kept s := by simp [setLag]

@[simp] theorem lagChange_kept (s : State) (p : Nat) (up : Bool) : kept (lagChange s p up) = kept s := by
  unfold lagChange
  (try dsimp only)
  (repeat' split) <;> simp

@[simp] theorem formBudgets_kept (s : State) (j : Nat) : kept (formBudgets s j) = kept s := by simp [formBudgets]

@[simp] theorem journalBanks_kept (s : State) (j : Nat) : kept (journalBanks s j) = kept s := by simp [journalBanks]

@[simp] theorem bankWorn_kept (s : State) (j bank cause facet : Nat) : kept (bankWorn s j bank cause facet) = kept s := by
  unfold bankWorn
  (try dsimp only)
  (repeat' split) <;> simp

@[simp] theorem cellResult_kept (s : State) (j bank facet : Nat) (r : Decoded) :
    kept (cellResult s j bank facet r).1 = kept s := by
  unfold cellResult
  (try dsimp only)
  (repeat' split) <;> simp

@[simp] theorem readCell_kept (s : State) (j bank facet : Nat) (d : Bytes) (r : CellRead) :
    kept (readCell s j bank facet d r).1 = kept s := by
  simp [readCell]

@[simp] theorem drainTimeout_kept (s : State) (j bank : Nat) : kept (drainTimeout s j bank) = kept s := by simp [drainTimeout]

@[simp] theorem linkChanged_kept (s : State) (p : Nat) (state rate : BitVec 8) : kept (linkChanged s p state rate) = kept s := by
  simp [linkChanged]

@[simp] theorem setPreemption_kept (s : State) (p : Nat) (status : BitVec 8) (attempts : Nat) :
    kept (setPreemption s p status attempts) = kept s := by
  simp [setPreemption]

@[simp] theorem preemptStart_kept (s : State) (p : Nat) : kept (preemptStart s p) = kept s := by simp [preemptStart]

@[simp] theorem setFwd_kept (s : State) (t : Tbl FwdEntry) : kept (setFwd s t) = kept s := by simp [setFwd]

@[simp] theorem learn_kept (s : State) (port fid mac : Nat) : kept (learn s port fid mac) = kept s := by
  unfold learn
  (try dsimp only)
  (repeat' split) <;> simp

@[simp] theorem setMeter_kept (s : State) (m : Nat) (x : Meter) : kept (setMeter s m x) = kept s := by simp [setMeter]

@[simp] theorem meterDecide_kept (s : State) (m : Nat) : kept (meterDecide s m).1 = kept s := by simp [meterDecide]

@[simp] theorem meterCharge_kept (s : State) (m : Nat) (green : Bool) (len : Nat) : kept (meterCharge s m green len) = kept s := by
  simp [meterCharge]

@[simp] theorem setGate_kept (s : State) (g : Nat) (x : StreamGate) : kept (setGate s g x) = kept s := by simp [setGate]

@[simp] theorem closeGate_kept (s : State) (g cause : Nat) : kept (closeGate s g cause) = kept s := by simp [closeGate]

@[simp] theorem gateDecide_kept (s : State) (g : Nat) : kept (gateDecide s g).1 = kept s := by
  unfold gateDecide
  (try dsimp only)
  (repeat' split) <;> simp

@[simp] theorem setRecovery_kept (s : State) (f : Nat) (x : Recovery) : kept (setRecovery s f x) = kept s := by simp [setRecovery]

@[simp] theorem bumpBy_kept (s : State) (idx sub sel shown n : Nat) : kept (bumpBy s idx sub sel shown n) = kept s := by
  simp [bumpBy]

@[simp] theorem recoveryDecide_kept (s : State) (f port : Nat) (seq : Option Nat) :
    kept (recoveryDecide s f port seq).1 = kept s := by
  unfold recoveryDecide
  (try dsimp only)
  (repeat' split) <;> simp

@[simp] theorem recoveryReset_kept (s : State) (f cause : Nat) : kept (recoveryReset s f cause) = kept s := by simp [recoveryReset]

@[simp] theorem latentCheck_kept (s : State) (f : Nat) : kept (latentCheck s f) = kept s := by simp [latentCheck]

@[simp] theorem flushLearned_kept (s : State) (test : FwdEntry → Bool) : kept (flushLearned s test) = kept s := by
  simp [flushLearned]

@[simp] theorem clearAllRed_kept (s : State) (ses : Nat) (v : Nat) : kept (clearAllRed s ses v).1 = kept s := by simp [clearAllRed]

@[simp] theorem applyGate_kept (s : State) (g : Nat) : kept (applyGate s g) = kept s := by simp [applyGate]

@[simp] theorem applyLookup_kept (old : Tbl Bytes) (s : State) : kept (applyLookup old s) = kept s := by
  unfold applyLookup
  extract_lets same _moved _fids s1 s2 _keep _src s3 fresh s4
  have hs1 : kept s1 = kept s := by
    dsimp only [s1]
    split <;> simp
  clear_value s1
  have hs2 : kept s2 = kept s := by
    dsimp only [s2]
    repeat' split
    all_goals simp [hs1]
  clear_value s2
  have hs3 : kept s3 = kept s := by
    dsimp only [s3]
    split
    · exact hs2
    · rw [← hs2]; rfl
  clear_value s3
  have hs4 : kept s4 = kept s := by
    dsimp only [s4]
    split
    · exact hs3
    · refine (kept_foldl _ ?_ _ _).trans hs3
      intro t x
      split <;> simp
  clear_value s4
  split
  · exact hs4
  · refine (kept_foldl _ ?_ _ _).trans hs4
    intro t x
    split <;> simp

@[simp] theorem applyRecoveries_kept (old : Tbl Bytes) (s : State) : kept (applyRecoveries old s) = kept s := by
  simp [applyRecoveries]

@[simp] theorem selectClass_kept (s : State) (ok : Nat → Bool) (port : Nat) : kept (selectClass s ok port).1 = kept s := by
  unfold selectClass
  (try dsimp only)
  (repeat' split) <;> simp

@[simp] theorem frameCell_kept (s : State) (f : Frame) (port k : Nat) (r : Option CellRead) :
    kept (frameCell s f port k r).1 = kept s := by
  unfold frameCell
  (try dsimp only)
  (repeat' split) <;> simp

@[simp] theorem readFrame_kept (s : State) (f : Frame) (port start : Nat) (reads : List CellRead) :
    kept (readFrame s f port start reads).1 = kept s := by
  simp [readFrame]

@[simp] theorem dequeue_kept (s : State) (port c : Nat) : kept (dequeue s port c) = kept s := by simp [dequeue]

@[simp] theorem dropHead_kept (s : State) (port c ctr : Nat) : kept (dropHead s port c ctr) = kept s := by
  unfold dropHead
  (try dsimp only)
  (repeat' split) <;> simp

@[simp] theorem preempt_kept (s0 : State) (port : Nat) : kept (preempt s0 port) = kept s0 := by
  unfold preempt
  (try dsimp only)
  (repeat' split) <;> simp

@[simp] theorem startSelected_kept (s : State) (port : Nat) (read : CellRead) : kept (transmissionSelect.startSelected s port read) = kept s := by
  unfold transmissionSelect.startSelected
  extract_lets r
  have hr : kept r.1 = kept s := selectClass_kept _ _ _
  clear_value r
  repeat' split
  all_goals try exact hr
  all_goals
    extract_lets rd
    have hd : kept rd.1 = kept s := (frameCell_kept _ _ _ _ _).trans hr
    clear_value rd
    repeat' split
    all_goals simp [hd]
@[simp] theorem transmissionSelect_kept (s0 : State) (port : Nat) (read : CellRead) : kept (transmissionSelect s0 port read) = kept s0 := by
  unfold transmissionSelect
  extract_lets s e act express s1 e1
  have h : kept s = kept s0 := creditsNow_kept _ _
  clear_value s
  have h1 : kept s1 = kept s0 := by
    dsimp only [s1]
    repeat' split
    all_goals simp [h]
  clear_value s1
  repeat' split
  all_goals simp [h1]

@[simp] theorem chargeSent_kept (s : State) (port c len spent : Nat) : kept (chargeSent s port c len spent) = kept s := by
  simp [chargeSent]

@[simp] theorem transmitEnd_kept (s0 : State) (port : Nat) (reads : List CellRead) :
    kept (transmitEnd s0 port reads) = kept s0 := by
  unfold transmitEnd
  (try dsimp only)
  (repeat' split) <;> simp

@[simp] theorem processorTake_kept (s : State) (port : Nat) (reads : List CellRead) :
    kept (processorTake s port reads) = kept s := by
  unfold processorTake
  (try dsimp only)
  (repeat' split) <;> simp

@[simp] theorem judgeGates_kept (before : Nat) (s : State) (port : Nat) : kept (judgeGates before s port) = kept s := by
  unfold judgeGates
  (try dsimp only)
  (repeat' split) <;> simp

@[simp] theorem entryEffect_kept (before : Nat) (s : State) (port : Nat) (word : Nat) :
    kept (entryEffect before s port word) = kept s := by
  unfold entryEffect
  (try dsimp only)
  (repeat' split) <;> simp

@[simp] theorem swapLists_kept (s : State) (port : Nat) (p : PendingList) : kept (swapLists s port p) = kept s := by
  simp [swapLists]

@[simp] theorem dropSwap_kept (s : State) (port cause : Nat) : kept (dropSwap s port cause) = kept s := by
  unfold dropSwap
  (try dsimp only)
  (repeat' split) <;> simp

@[simp] theorem applyGateList_kept (s : State) (port : Nat) (atStart : Bool) : kept (applyGateList s port atStart) = kept s := by
  simp [applyGateList]

@[simp] theorem fixSwaps_kept (s : State) (event : Nat) : kept (fixSwaps s event) = kept s := by
  unfold fixSwaps
  (try dsimp only)
  (repeat' split) <;> simp (disch := (intros; (try dsimp only); (repeat' split) <;> simp))

@[simp] theorem startGateLists_kept (s : State) : kept (startGateLists s) = kept s := by simp [startGateLists]

@[simp] theorem applyEgress_kept (carried : Nat → Nat → Bool) (atStart : Bool) (old : Tbl Bytes) (s : State) :
    kept (applyEgress carried atStart old s) = kept s := by
  simp [applyEgress]

@[simp] theorem stepLists_kept (s : State) (delta : Int) : kept (stepLists s delta) = kept s := by
  unfold stepLists
  (try dsimp only)
  (repeat' split) <;> simp (disch := (intros; (try dsimp only); (repeat' split) <;> simp))

@[simp] theorem advanceGrids_kept (s : State) : kept (advanceGrids s) = kept s := by simp [advanceGrids]

@[simp] theorem countQueueRefusal_kept (s : State) (w : Want) : kept (countQueueRefusal s w) = kept s := by
  unfold countQueueRefusal
  (try dsimp only)
  (repeat' split) <;> simp

@[simp] theorem refuseColumn_kept (s : State) (j tc : Nat) (ws : List Want) : kept (refuseColumn s j tc ws) = kept s := by
  unfold refuseColumn
  (try dsimp only)
  (repeat' split) <;> simp (disch := (intros; (try dsimp only); (repeat' split) <;> simp))

@[simp] theorem discardHost_kept (s : State) : kept (discardHost s) = kept s := by simp [discardHost]

@[simp] theorem placeCopy_kept (s : State) (id charge : Nat) (w : Want) : kept (placeCopy s id charge w) = kept s := by
  unfold placeCopy
  (try dsimp only)
  (repeat' split) <;> simp

@[simp] theorem admitColumn_kept (s : State) (j : Nat) (a : Asking) : kept (admitColumn s j a) = kept s := by
  unfold admitColumn
  split
  · dsimp only
    split
    · exact kept_foldl _ (fun t x => countQueueRefusal_kept t x) _ _
    · split
      · rw [refuseColumn_kept]
        exact kept_foldl _ (fun t x => countQueueRefusal_kept t x) _ _
      · refine (kept_foldl _ (fun t x => placeCopy_kept t _ _ x) _ _).trans ?_
        rw [setFrame_kept]
        split <;> simp
  · rfl

@[simp] theorem admitAll_kept (s : State) (l : List Asking) : kept (admitAll s l) = kept s := by simp [admitAll]

@[simp] theorem enterFrame_kept (s : State) (f : Frame) : kept (enterFrame s f) = kept s := by simp [enterFrame]

@[simp] theorem admitFrame_kept (s : State) (f : Frame) (ws : List Want) (q : Nat) : kept (admitFrame s f ws q) = kept s := by
  simp [admitFrame]

@[simp] theorem correctCharge_kept (s : State) (id len : Nat) : kept (correctCharge s id len) = kept s := by
  unfold correctCharge
  (try dsimp only)
  (repeat' split) <;> simp

@[simp] theorem queueHeld_kept (s : State) (id : Nat) : kept (queueHeld s id) = kept s := by
  unfold queueHeld
  (try dsimp only)
  (repeat' split) <;> simp

@[simp] theorem loadGuard_kept (s : State) (component : Bytes) : kept (loadGuard s component) = kept s := by simp [loadGuard]

@[simp] theorem gpStore_kept (s : State) (second : Bool) (w : Nat) (enables : BitVec 4) (v : BitVec 32) :
    kept (gpStore s second w enables v) = kept s := by
  simp [gpStore]

@[simp] theorem commitOne_kept (second : Bool) (us : List GpUpset) (r : PassRun) (a : GpCommit) : kept (commitOne second us r a).s = kept r.s := by
  unfold commitOne
  dsimp only
  repeat' split
  all_goals simp
theorem passRun_foldl_kept {α : Type} (f : PassRun → α → PassRun) (h : ∀ r x, kept (f r x).s = kept r.s) (l : List α) (r : PassRun) :
    kept (l.foldl f r).s = kept r.s := by
  induction l generalizing r with
  | nil => rfl
  | cons x t ih => exact (ih _).trans (h r x)

@[simp] theorem copyBlock_kept (s : State) (w : Nat) (data : List (BitVec 32)) : kept (copyBlock s w data) = kept s := by
  refine kept_foldl _ ?_ _ _
  intro t k
  split <;> simp

@[simp] theorem debugApply_kept (s : State) (second : Bool) (e : ReplayEntry) : kept (debugApply s second e) = kept s := by
  unfold debugApply
  (try dsimp only)
  (repeat' split) <;> simp

@[simp] theorem sampleOne_kept (r : PassRun) (e : ReplayEntry) : kept (sampleOne r e).s = kept r.s := by
  unfold sampleOne
  (try dsimp only)
  repeat' split
  all_goals simp
@[simp] theorem itemOne_kept (us : List GpUpset) (r : PassRun) (i : WindowItem) : kept (itemOne us r i).s = kept r.s := by
  unfold itemOne
  dsimp only
  repeat' split
  all_goals simp

@[simp] theorem passOne_kept (s : State) (work : List GpAct) (us : List GpUpset) : kept (passOne s work us) = kept s := by
  unfold passOne
  exact (passRun_foldl_kept _ (itemOne_kept us) _ _).trans rfl

@[simp] theorem itemTwo_kept (us : List GpUpset) (r : PassRun) (i : Option GpCommit) : kept (itemTwo us r i).s = kept r.s := by
  unfold itemTwo
  repeat' split
  all_goals simp

@[simp] theorem passTwo_kept (s : State) (queue : List ReplayEntry) (us : List GpUpset) : kept (passTwo s queue us).1 = kept s := by
  unfold passTwo
  exact passRun_foldl_kept _ (itemTwo_kept us) _ _

@[simp] theorem releaseHold_kept (s : State) (upsets : List HoldUpset) : kept (releaseHold s upsets).1 = kept s := by
  simp [releaseHold]

@[simp] theorem setFlow_kept (s : State) (pos : Nat) (w : Flow) : kept (setFlow s pos w) = kept s := by simp [setFlow]

@[simp] theorem removeFlow_kept (s : State) (pos : Nat) : kept (removeFlow s pos) = kept s := by simp [removeFlow]

@[simp] theorem logSecondEnd_kept (s : State) : kept (logSecondEnd s) = kept s := by simp [logSecondEnd]

@[simp] theorem zoneLog_kept (s0 : State) (typ reason : Nat) (k : FlowKey) (lane : Nat) (oneWay : Bool) (ingress ruleId frames : Nat) :
    kept (zoneLog s0 typ reason k lane oneWay ingress ruleId frames) = kept s0 := by
  simp [zoneLog]

@[simp] theorem logFlow_kept (s : State) (typ reason : Nat) (w : Flow) (ingress : Nat) :
    kept (logFlow s typ reason w ingress) = kept s := by
  simp [logFlow]

@[simp] theorem logCrossing_kept (s : State) (typ reason : Nat) (k : FlowKey) (lane ingress ruleId : Nat) :
    kept (logCrossing s typ reason k lane ingress ruleId) = kept s := by
  simp [logCrossing]

@[simp] theorem bumpPair_kept (s : State) (p sub : Nat) : kept (bumpPair s p sub) = kept s := by simp [bumpPair]

@[simp] theorem widePair_kept (s : State) (p sub n : Nat) : kept (widePair s p sub n) = kept s := by simp [widePair]

@[simp] theorem revokeFlow_kept (s : State) (pos : Nat) (w : Flow) (ingress : Nat) :
    kept (revokeFlow s pos w ingress) = kept s := by
  simp [revokeFlow]

@[simp] theorem denyLogged_kept (s : State) (k : FlowKey) (lane ingress reason : Nat) :
    kept (denyLogged s k lane ingress reason) = kept s := by
  simp [denyLogged]

@[simp] theorem laneMiss_kept (s : State) (f : Frame) (x : Parsed) (k : FlowKey) (lane : Nat) :
    kept (laneMiss s f x k lane).1 = kept s := by
  simp [laneMiss]

@[simp] theorem noteFragment_kept (s : State) (x : Parsed) (k : FlowKey) (pos : Nat) : kept (noteFragment s x k pos) = kept s := by
  unfold noteFragment
  (try dsimp only)
  (repeat' split) <;> simp

@[simp] theorem laneHit_kept (s : State) (f : Frame) (x : Parsed) (k : FlowKey) (pos : Nat) (w : Flow) (fwd : Bool) :
    kept (laneHit s f x k pos w fwd).1 = kept s := by
  simp [laneHit]

@[simp] theorem laneFound_kept (s : State) (f : Frame) (x : Parsed) (k : FlowKey) (pos : Nat) (w : Flow) (fwd : Bool) :
    kept (laneFound s f x k pos w fwd).1 = kept s := by
  unfold laneFound
  (try dsimp only)
  (repeat' split) <;> simp

@[simp] theorem laneTake_kept (s : State) (lane len : Nat) : kept (laneTake s lane len).1 = kept s := by simp [laneTake]

@[simp] theorem laneRest_kept (s : State) (f : Frame) : kept (laneRest s f) = kept s := by simp [laneRest]

@[simp] theorem laneDecide_kept (s : State) (f : Frame) (x : Parsed) (zd : Nat) : kept (laneDecide s f x zd).1 = kept s := by
  unfold laneDecide
  (try dsimp only)
  (repeat' split) <;> simp

@[simp] theorem zoneInspect_kept (s : State) (f : Frame) (x : Parsed) (dests : List Nat) :
    kept (zoneInspect s f x dests).1 = kept s := by
  unfold zoneInspect
  (try dsimp only)
  (repeat' split) <;> simp (disch := (intros; (try dsimp only); (repeat' split) <;> simp))

@[simp] theorem flowSegment_kept (s : State) (x : Parsed) (hit : Nat × Bool) : kept (flowSegment s x hit) = kept s := by
  unfold flowSegment
  (try dsimp only)
  (repeat' split) <;> simp

@[simp] theorem freeFirst_kept (s : State) (p : FirstFrame) : kept (freeFirst s p) = kept s := by simp [freeFirst]

@[simp] theorem queueRefusal_kept (s : State) (k : FlowKey) (lane ingress : Nat) :
    kept (queueRefusal s k lane ingress) = kept s := by
  simp [queueRefusal]

@[simp] theorem flowRefusal_kept (s : State) (k : FlowKey) (lane ingress : Nat) :
    kept (flowRefusal s k lane ingress) = kept s := by
  simp [flowRefusal]

@[simp] theorem enqueueFirst_kept (s0 : State) (f : Frame) (x : Parsed) (zd : Nat) (ports : List Nat) :
    kept (enqueueFirst s0 f x zd ports) = kept s0 := by
  unfold enqueueFirst
  extract_lets k0 hit k canon lane p closing s recheck g _vd same _gs _gz
  have hs : kept s = kept s0 := by
    clear_value closing hit
    dsimp only [s]
    (repeat' split) <;> simp
  have hg : kept g.1 = kept s0 := by
    dsimp only [g]
    simp [hs]
  clear_value s g
  split
  · simp [hg]
  · extract_lets pk refuse join e s1
    have hr : ∀ t, kept (refuse t) = kept t := fun t => by simp [refuse]
    have h1 : kept s1 = kept s0 := by
      dsimp only [s1]
      rw [widePair_kept]
      exact Eq.trans rfl hg
    clear_value refuse join
    split
    · split
      · exact Eq.trans rfl hg
      · simp [hr, hg]
    · split
      · simp [hr, hg]
      · split
        · simp [hr, hg]
        · split
          · simp [hr, hg]
          · split <;> simp [h1]

@[simp] theorem firstPacketLost_kept (s : State) (e : FirstEntry) : kept (firstPacketLost s e) = kept s := by
  simp [firstPacketLost]

@[simp] theorem copyHeader_kept (s : State) (e : FirstEntry) : kept (copyHeader s e) = kept s := by
  unfold copyHeader
  extract_lets w d s1 p
  have h1 : kept s1 = kept s := copyBlock_kept _ _ _
  have hp : kept p.1 = kept s := (drawNat_kept _ _).trans h1
  clear_value s1 p
  split
  · exact Eq.trans rfl hp
  · exact h1

@[simp] theorem roomFor_kept (s : State) (p bucket ingress : Nat) (evict : Bool) :
    kept (roomFor s p bucket ingress evict).1 = kept s := by
  unfold roomFor
  (try dsimp only)
  (repeat' split) <;> simp

@[simp] theorem admitFirst_kept (s : State) (pos : Nat) (k : FlowKey) (p : FirstFrame) : kept (admitFirst s pos k p) = kept s := by
  unfold admitFirst
  (try dsimp only)
  (repeat' split) <;> simp

@[simp] theorem discardQueue_kept (s : State) : kept (discardQueue s) = kept s := by simp [discardQueue]

@[simp] theorem clearZone_kept (s : State) : kept (clearZone s) = kept s := by simp [clearZone]

@[simp] theorem applyDeny_kept (s : State) (v : GpVerdict) : kept (applyDeny s v) = kept s := by
  unfold applyDeny
  (try dsimp only)
  (repeat' split) <;> simp

@[simp] theorem applyAllow_kept (s : State) (v : GpVerdict) : kept (applyAllow s v) = kept s := by
  unfold applyAllow
  (try dsimp only)
  (repeat' split) <;> simp

@[simp] theorem applyVerdict_kept (s : State) (v : GpVerdict) : kept (applyVerdict s v) = kept s := by simp [applyVerdict]

@[simp] theorem applyVerdicts_kept (s : State) : kept (applyVerdicts s) = kept s := by simp [applyVerdicts]

@[simp] theorem discardVerdicts_kept (s : State) : kept (discardVerdicts s) = kept s := by simp [discardVerdicts]

@[simp] theorem sweepEnd_kept (s : State) : kept (sweepEnd s) = kept s := by simp [sweepEnd]

@[simp] theorem flushFlows_kept (s : State) (test : Flow → Bool) : kept (flushFlows s test) = kept s := by simp [flushFlows]

@[simp] theorem flowFlush_kept (s : State) (v : Nat) : kept (flowFlush s v).1 = kept s := by
  unfold flowFlush
  (try dsimp only)
  (repeat' split) <;> simp

@[simp] theorem zoneLogRead_kept (s : State) (ses : Nat) : kept (zoneLogRead s ses).1 = kept s := by simp [zoneLogRead]

@[simp] theorem zoneLogSeek_kept (s : State) (ses : Nat) (pos : BitVec 32) : kept (zoneLogSeek s ses pos) = kept s := by
  simp [zoneLogSeek]

@[simp] theorem applyZone_kept (carried : Bool) (old : Tbl Bytes) (s : State) : kept (applyZone carried old s) = kept s := by
  simp [applyZone]

@[simp] theorem ingressStamp_kept (s : State) (p phase : Nat) (sfd : List SfdEdge) :
    kept (ingressStamp s p phase sfd).1 = kept s := by
  unfold ingressStamp
  (try dsimp only)
  (repeat' split) <;> simp

@[simp] theorem setStaged_kept (s : State) (p : Nat) (x : Option Staged) : kept (setStaged s p x) = kept s := by simp [setStaged]

@[simp] theorem countOversize_kept (s : State) (p h : Nat) (stream : Bool) : kept (countOversize s p h stream) = kept s := by
  simp [countOversize]

@[simp] theorem trapRefill_kept (s : State) (b : Nat) : kept (trapRefill s b) = kept s := by simp [trapRefill]

@[simp] theorem look_drop_kept (l : Look) (sub : Option Nat) : kept (l.drop sub).s = kept l.s := by
  unfold Look.drop
  cases sub <;> simp
@[simp] theorem look_verdict_kept (l : Look) (g : Verdict → Verdict) : kept (l.verdict g).s = kept l.s := rfl
theorem look_on_kept (l : Look) (step : Look → Look) (h : ∀ m, kept (step m).s = kept m.s) : kept (l.on step).s = kept l.s := by
  unfold Look.on
  split
  · rfl
  · exact h l
@[simp] theorem look_meter_kept (l : Look) (m : Nat) : kept (l.meter m).1.s = kept l.s := meterDecide_kept _ _
@[simp] theorem look_reduce_kept (l : Look) (set : List Nat) : kept (l.reduce set).s = kept l.s := by
  unfold Look.reduce
  exact kept_foldl _ (fun t q => bumpN_kept _ _ _ _) _ _
@[simp] theorem look_settle_kept (l : Look) : kept l.settle.s = kept l.s := by
  unfold Look.settle
  split <;> simp
@[simp] theorem lookSource_kept (l : Look) : kept (lookSource l).s = kept l.s := by
  unfold lookSource
  split <;> simp
@[simp] theorem lookVlan_kept (l : Look) : kept (lookVlan l).s = kept l.s := by
  unfold lookVlan
  dsimp only
  repeat' split
  all_goals simp
@[simp] theorem lookDest_kept (l : Look) : kept (lookDest l).s = kept l.s := by
  unfold lookDest
  extract_lets v p named r m lm l1
  have hm : kept lm.1.s = kept l.s := by
    dsimp only [lm]
    split <;> simp
  have h1 : kept l1.s = kept l.s := by simp [l1, hm]
  clear_value lm l1
  repeat' split
  all_goals simp [hm, h1]
@[simp] theorem lookStream_kept (l : Look) : kept (lookStream l).s = kept l.s := by
  unfold lookStream
  dsimp only
  split <;> simp
@[simp] theorem look_filterDrop_kept (l : Look) (sub : Option Nat) : kept (l.filterDrop sub).s = kept l.s := by
  unfold Look.filterDrop
  simp
@[simp] theorem lookFilter_kept (whole : Bool) (l : Look) : kept (lookFilter whole l).1.s = kept l.s := by
  unfold lookFilter
  extract_lets h e lim l0 _a g gd l1 l2 l3 lm l4 s3 s4 tc
  have h0 : kept l0.s = kept l.s := rfl
  have hg : kept gd.1 = kept l.s := by
    dsimp only [gd]
    split <;> simp [h0]
  have h1 : kept l1.s = kept l.s := hg
  have h2 : kept l2.s = kept l.s := by simp [l2, h1]
  have h3 : kept l3.s = kept l.s := by
    dsimp only [l3]
    split <;> simp [h1]
  have hm : kept lm.1.s = kept l.s := by
    dsimp only [lm]
    split <;> simp [h3]
  have h4 : kept l4.s = kept l.s := by simp [l4, hm]
  have hs3 : kept s3 = kept l.s := by simp [s3, hm]
  have hs4 : kept s4 = kept l.s := by
    dsimp only [s4]
    split <;> simp [hs3]
  split
  · simp [h0]
  · split
    · split <;> simp [h0]
    · split
      · split <;> simp [h2]
      · split
        · simp [h4]
        · split
          · simp [hm]
          · exact hs4
@[simp] theorem lookSequence_kept (l : Look) : kept (lookSequence l).s = kept l.s := by
  unfold lookSequence
  extract_lets h e mode1 rec_ valid _n _l2 _s1 _s2 l1 l2
  have h1 : kept l1.s = kept l.s := by
    dsimp only [l1]
    split
    · rfl
    · split <;> rfl
  clear_value l1
  have h2 : kept l2.s = kept l.s := by
    dsimp only [l2]
    split <;> simp [h1]
  clear_value l2
  have step : ∀ (g : Look → Nat → Look) (hg : ∀ a i, kept (g a i).s = kept a.s) (js : List Nat) (a : Look), kept (js.foldl g a).s = kept a.s := by
    intro g hg js
    induction js with
    | nil => exact fun a => rfl
    | cons j r ih => exact fun a => (ih _).trans (hg a j)
  refine (step _ ?_ _ _).trans h2
  intro a i
  dsimp only
  split
  · rfl
  · simp
@[simp] theorem lookClass_kept (forced : Option Nat) (l : Look) : kept (lookClass forced l).s = kept l.s := by
  unfold lookClass
  extract_lets p trust tc lowered t _k l1
  have h1 : kept l1.s = kept l.s := rfl
  clear_value l1
  split <;> simp [h1]
@[simp] theorem lookTrap_kept (l : Look) (t : Option (Nat × Nat)) : kept (lookTrap l t).s = kept l.s := by
  unfold lookTrap
  dsimp only
  repeat' split
  all_goals simp
@[simp] theorem lookYellow_kept (l : Look) : kept (lookYellow l).s = kept l.s := by
  unfold lookYellow
  split <;> simp
@[simp] theorem lookSteps_kept (whole : Bool) (l : Look) : kept (lookSteps whole l).1.s = kept l.s := by
  unfold lookSteps
  extract_lets a r q b set zone _src _src2 z f ms live s1 main copies
  have ha : kept a.s = kept l.s := by
    dsimp only [a]
    rw [look_on_kept _ _ lookStream_kept, look_on_kept _ _ lookDest_kept, look_on_kept _ _ lookVlan_kept, look_on_kept _ _ lookSource_kept]
  have hr : kept r.1.s = kept l.s := (lookFilter_kept _ _).trans ha
  have hq : kept q.s = kept l.s := (lookSequence_kept _).trans ((lookYellow_kept _).trans hr)
  have hb : kept b.s = kept l.s := (lookClass_kept _ _).trans hq
  have hz : kept z.1 = kept l.s := (zoneInspect_kept _ _ _ _).trans hb
  have h1 : kept s1 = kept l.s := (kept_foldl _ (fun t m => bumpN_kept _ _ _ _) _ _).trans hz
  split
  · exact ha
  · split
    · exact hr
    · split
      · exact hq
      · exact h1

@[simp] theorem verdictOn_kept (s : State) (ingress : Nat) (header bytes : Bytes) (whole : Bool) (stamp : T32) :
    kept (verdictOn s ingress header bytes whole stamp).1.s = kept s := by
  unfold verdictOn
  extract_lets x vid _b f s1 s2 l
  have h2 : kept s2 = kept s := by
    dsimp only [s2, s1]
    split <;> simp
  have hl : kept l.s = kept s := h2
  clear_value s2 l
  repeat' split
  all_goals simp [*]

@[simp] theorem dropCopies_kept (s : State) (id : Nat) : kept (dropCopies s id) = kept s := by
  unfold dropCopies
  (try dsimp only)
  (repeat' split) <;> simp

@[simp] theorem chargeEnd_kept (s : State) (f : Frame) : kept (chargeEnd s f) = kept s := by
  unfold chargeEnd
  (try dsimp only)
  (repeat' split) <;> simp

@[simp] theorem prpReceive_kept (s : State) (f : Frame) (x : Parsed) : kept (prpReceive s f x).1 = kept s := by
  unfold prpReceive
  (try dsimp only)
  (repeat' split) <;> simp

@[simp] theorem afterEnd_kept (s : State) (f : Frame) (x : Parsed) : kept (afterEnd s f x) = kept s :=
  (kept_foldl _ (fun t _ => enqueueFirst_kept t _ _ _ _) _ _).trans (kept_foldl _ (fun t _ => flowSegment_kept t _ _) _ _)

@[simp] theorem learnFrame_kept (s : State) (f : Frame) (x : Parsed) : kept (learnFrame s f x) = kept s := by simp [learnFrame]

@[simp] theorem goodEnd_kept (s : State) (f : Frame) (x : Parsed) : kept (goodEnd s f x) = kept s := by
  unfold goodEnd
  (try dsimp only)
  (repeat' split) <;> simp

@[simp] theorem endReception_kept (s : State) (p id : Nat) : kept (endReception s p id) = kept s := by simp [endReception]

@[simp] theorem finishFrame_kept (s : State) (id : Nat) (e : FrameEnd) : kept (finishFrame s id e) = kept s := by
  unfold finishFrame
  (try dsimp only)
  (repeat' split) <;> simp

@[simp] theorem judgePort_kept (s : State) (p : Nat) : kept (judgePort s p).1 = kept s := by
  unfold judgePort
  split
  · rfl
  · simp

@[simp] theorem judgeInner_kept (s : State) (p : Nat) (header data : Bytes) (stamp : T32) : kept (judgeInner s p header data stamp).1 = kept s := by
  unfold judgeInner
  simp

@[simp] theorem settleJudged_kept (s : State) (j : Judged) : kept (settleJudged s j) = kept s := by
  unfold settleJudged
  (try dsimp only)
  (repeat' split) <;> simp

@[simp] theorem settleAll_kept (r : State × List Judged) : kept (settleAll r) = kept r.1 := by
  unfold settleAll
  rw [kept_foldl _ (fun t x => settleJudged_kept t x), admitAll_kept]

@[simp] theorem innerFrame_kept (s : State) (p : Nat) (header data : Bytes) (stamp : T32) : kept (innerFrame s p header data stamp) = kept s := by
  unfold innerFrame
  dsimp only
  rw [settleAll_kept, judgeInner_kept]

@[simp] theorem judge_kept (s : State) (src : VerdictSource) : kept (judge s src).1 = kept s := by
  unfold judge
  (try dsimp only)
  (repeat' split) <;> simp

@[simp] theorem cutReception_kept (s : State) (p : Nat) : kept (cutReception s p) = kept s := by
  unfold cutReception
  dsimp only
  refine (kept_foldl _ (fun t id => finishFrame_kept t id _) _ _).trans ?_
  repeat' split
  all_goals simp

@[simp] theorem takeLink_kept (s : State) (p rate : Nat) : kept (takeLink s p rate) = kept s := by simp [takeLink]

@[simp] theorem dropLink_kept (s : State) (p : Nat) : kept (dropLink s p) = kept s := by simp [dropLink]

@[simp] theorem ownFrame_kept (s : State) (p kind : Nat) (tagged : Bool) (len : Nat) (data : Bytes) :
    kept (ownFrame s p kind tagged len data) = kept s := by
  simp [ownFrame]

@[simp] theorem settleLink_kept (s : State) (p : Nat) : kept (settleLink s p) = kept s := by simp [settleLink]

@[simp] theorem applyFabric_kept (old : Tbl Bytes) (s : State) : kept (applyFabric old s) = kept s := by simp [applyFabric]

end Sys2Proof.Machine
end

