-- ==== Sys2Proof/Laws/KeptBuses.lean ====
section
/-! SUPPORT. What `kept` gathers is the same after the operations of the buses, the bridge and the gateway. -/

namespace Sys2Proof.Machine

@[simp] theorem noteOutput_kept (s : State) (bus ident : Nat) (data : Bytes) (mvb : Bool) (stamp : T32) :
    kept (noteOutput s bus ident data mvb stamp) = kept s := by
  simp [noteOutput]

@[simp] theorem noteSent_kept (s : State) (bus ident : Nat) (data : Bytes) (mvb : Bool) :
    kept (noteSent s bus ident data mvb) = kept s := by
  simp [noteSent]

@[simp] theorem noteHeard_kept (s : State) (bus ident : Nat) (data : Bytes) (mvb : Bool) (stamp : T32) :
    kept (noteHeard s bus ident data mvb stamp) = kept s := by
  simp [noteHeard]

@[simp] theorem setCan_kept (s : State) (cn : Nat) (f : CanPort → CanPort) : kept (setCan s cn f) = kept s := by simp [setCan]

@[simp] theorem queueFull_kept (s : State) (cn : Nat) : kept (queueFull s cn) = kept s := by simp [queueFull]

@[simp] theorem canOffer_kept (s : State) (cn : Nat) (f : CanFrame) (bridge : Option Nat) :
    kept (canOffer s cn f bridge).1 = kept s := by
  simp [canOffer]

@[simp] theorem slotOffer_kept (s : State) (cn slot : Nat) (f : CanFrame) : kept (slotOffer s cn slot f) = kept s := by
  simp [slotOffer]

@[simp] theorem setSerial_kept (s : State) (sp : Nat) (f : SerialPort → SerialPort) : kept (setSerial s sp f) = kept s := by
  simp [setSerial]

@[simp] theorem serialOffer_kept (s : State) (sp ident : Nat) (data : Bytes) : kept (serialOffer s sp ident data) = kept s := by
  simp [serialOffer]

@[simp] theorem modbusSend_kept (s : State) (sp : Nat) (r : ModbusReq) : kept (modbusSend s sp r) = kept s := by simp [modbusSend]

@[simp] theorem modbusOffer_kept (s : State) (sp : Nat) (r : ModbusReq) : kept (modbusOffer s sp r).1 = kept s := by
  simp [modbusOffer]

@[simp] theorem modbusNext_kept (s : State) (sp : Nat) : kept (modbusNext s sp) = kept s := by
  unfold modbusNext
  (try dsimp only)
  (repeat' split) <;> simp

@[simp] theorem setMvb_kept (s : State) (seg : Nat) (f : MvbSeg → MvbSeg) : kept (setMvb s seg f) = kept s := by simp [setMvb]

@[simp] theorem mvbWrite_kept (s : State) (seg addr : Nat) (data : Bytes) (bridge : Bool) :
    kept (mvbWrite s seg addr data bridge) = kept s := by
  unfold mvbWrite
  (try dsimp only)
  (repeat' split) <;> simp

@[simp] theorem lateFault_kept (s : State) (x : BridgeTx) (cause code : Nat) : kept (lateFault s x cause code) = kept s := by
  simp [lateFault]

@[simp] theorem strandedRead_kept (s : State) (x : BridgeTx) (at_ : T32) (value : Bytes) :
    kept (strandedRead s x at_ value) = kept s := by
  simp [strandedRead]

@[simp] theorem completeRead_kept (s : State) (x : BridgeTx) (data : Bytes) (result : BitVec 8) :
    kept (completeRead s x data result) = kept s := by
  simp [completeRead]

@[simp] theorem setTx_kept (s : State) (tag : Nat) (f : BridgeTx → BridgeTx) : kept (setTx s tag f) = kept s := by simp [setTx]

@[simp] theorem issueTx_kept (s : State) (x : BridgeTx) : kept (issueTx s x) = kept s := by simp [issueTx]

@[simp] theorem serveTarget_kept (s : State) (target : Nat) : kept (serveTarget s target) = kept s := by
  unfold serveTarget
  (try dsimp only)
  (repeat' split) <;> simp

@[simp] theorem serveAll_kept (s : State) : kept (serveAll s) = kept s := by simp [serveAll]

@[simp] theorem endTx_kept (s : State) (x : BridgeTx) : kept (endTx s x) = kept s := by simp [endTx]

@[simp] theorem withdrawRequest_kept (s : State) (x : BridgeTx) : kept (withdrawRequest s x) = kept s := by
  unfold withdrawRequest
  (try dsimp only)
  (repeat' split) <;> simp

@[simp] theorem cachePut_kept (s : State) (page slot : Nat) (v : Bytes) : kept (cachePut s page slot v) = kept s := by
  simp [cachePut]

@[simp] theorem cacheDrop_kept (s : State) (test : Nat → Nat → Bool) : kept (cacheDrop s test) = kept s := by simp [cacheDrop]

@[simp] theorem dropWritten_kept (s : State) (page off len : Nat) : kept (dropWritten s page off len) = kept s := by
  simp [dropWritten]

@[simp] theorem pollRead_kept (s : State) (n page : Nat) (v : Bytes) : kept (pollRead s n page v) = kept s := by simp [pollRead]

@[simp] theorem farValue_kept (s : State) (x : BridgeTx) (d : Bytes) : kept (farValue s x d) = kept s := by
  unfold farValue
  (try dsimp only)
  (repeat' split) <;> simp

@[simp] theorem farFailure_kept (s : State) (x : BridgeTx) (cause code : Nat) : kept (farFailure s x cause code) = kept s := by
  unfold farFailure
  (try dsimp only)
  (repeat' split) <;> simp

@[simp] theorem farSent_kept (s : State) (tag : Nat) : kept (farSent s tag) = kept s := by simp [farSent]

@[simp] theorem farCompletion_kept (s : State) (tag : Nat) (r : FarResult) : kept (farCompletion s tag r) = kept s := by
  unfold farCompletion
  (try dsimp only)
  (repeat' split) <;> simp

@[simp] theorem acceptTx_kept (s : State) (tag page off len : Nat) (data : Option Bytes) (u : BridgeUse) :
    kept (acceptTx s tag page off len data u) = kept s := by
  simp [acceptTx]

@[simp] theorem refuseAccess_kept (s : State) (page off len cause : Nat) :
    kept (refuseAccess s page off len cause).1 = kept s := by
  simp [refuseAccess]

@[simp] theorem prefetchAll_kept (s : State) (page off : Nat) : kept (prefetchAll s page off) = kept s := by
  unfold prefetchAll
  (try dsimp only)
  (repeat' split) <;> simp (disch := (intros; (try dsimp only); (repeat' split) <;> simp))

@[simp] theorem releaseLock_kept (s : State) : kept (releaseLock s) = kept s := by
  unfold releaseLock
  (try dsimp only)
  (repeat' split) <;> simp

@[simp] theorem grantLock_kept (s : State) (page target tag : Nat) : kept (grantLock s page target tag) = kept s := by
  simp [grantLock]

@[simp] theorem lockRequest_kept (s : State) (page : Nat) : kept (lockRequest s page).1 = kept s := by
  unfold lockRequest
  (try dsimp only)
  (repeat' split) <;> simp

@[simp] theorem lockFault_kept (s : State) (page tag : Nat) : kept (lockFault s page tag) = kept s := by simp [lockFault]

@[simp] theorem takeLateFault_kept (s : State) : kept (takeLateFault s).1 = kept s := by
  unfold takeLateFault
  (try dsimp only)
  (repeat' split) <;> simp

@[simp] theorem takeStranded_kept (s : State) : kept (takeStranded s).1 = kept s := by
  unfold takeStranded
  (try dsimp only)
  (repeat' split) <;> simp

@[simp] theorem bridgeStop_kept (s : State) : kept (bridgeStop s) = kept s := by
  unfold bridgeStop
  dsimp only
  refine (kept_foldl _ ?_ _ _).trans ((kept_foldl _ (fun t x => withdrawRequest_kept t x) _ _).trans rfl)
  intro t x
  repeat' split
  all_goals simp

@[simp] theorem bridgeAfterPause_kept (s : State) : kept (bridgeAfterPause s) = kept s := by
  unfold bridgeAfterPause
  refine (kept_foldl _ (fun t x => serveTarget_kept _ _) _ _).trans ((kept_foldl _ ?_ _ _).trans rfl)
  intro t x
  repeat' split
  all_goals simp

@[simp] theorem applyBridge_kept (old : Tbl Bytes) (s : State) : kept (applyBridge old s) = kept s := by simp [applyBridge]

@[simp] theorem freeRx_kept (s : State) (cn : Nat) (m : CanRx) : kept (freeRx s cn m) = kept s := by
  unfold freeRx
  (try dsimp only)
  (repeat' split) <;> simp

@[simp] theorem fifoPut_kept (s : State) (cn n : Nat) (m : CanRx) : kept (fifoPut s cn n m) = kept s := by
  unfold fifoPut
  (try dsimp only)
  (repeat' split) <;> simp

@[simp] theorem canAccept_kept (s : State) (cn : Nat) (f : CanFrame) (stamp : T32) : kept (canAccept s cn f stamp) = kept s := by
  unfold canAccept
  (try dsimp only)
  (repeat' split) <;> simp

@[simp] theorem canConfine_kept (s : State) (cn : Nat) : kept (canConfine s cn) = kept s := by simp [canConfine]

@[simp] theorem canBusOff_kept (s : State) (cn : Nat) : kept (canBusOff s cn) = kept s := by simp [canBusOff]

@[simp] theorem goodReceive_kept (s : State) (cn : Nat) : kept (goodReceive s cn) = kept s := by simp [goodReceive]

@[simp] theorem canGood_kept (s : State) (cn : Nat) (f : CanFrame) (stamp : T32) : kept (canGood s cn f stamp) = kept s := by
  simp [canGood]

@[simp] theorem canClear_kept (s : State) (cn : Nat) : kept (canClear s cn) = kept s := by simp [canClear]

@[simp] theorem canBegin_kept (s : State) (cn : Nat) : kept (canBegin s cn) = kept s := by simp [canBegin]

@[simp] theorem canIntegrate_kept (s : State) : kept (canIntegrate s) = kept s := by simp [canIntegrate]

@[simp] theorem canSwitch_kept (s : State) (cn : Nat) : kept (canSwitch s cn) = kept s := by simp [canSwitch]

@[simp] theorem underOld_kept (s : State) (cn : Nat) (f : State → State) (h : ∀ t, kept (f t) = kept t) : kept (underOld s cn f) = kept s := by
  unfold underOld
  extract_lets held _src
  have e := h { s with cfg := held }
  simp only [kept, Prod.mk.injEq] at e
  obtain ⟨e1, -, e3, e4, e5⟩ := e
  simp only [kept, Prod.mk.injEq]
  exact ⟨e1, trivial, e3, e4, e5⟩

@[simp] theorem canTakeFrame_kept (s : State) (cn : Nat) (f : CanFrame) (error : Option CanReceiveError) (stamp : T32) :
    kept (canTakeFrame s cn f error stamp) = kept s := by
  unfold canTakeFrame
  (try dsimp only)
  (repeat' split) <;> simp

@[simp] theorem handOver_kept (s : State) (m : GwMsg) : kept (handOver s m).1 = kept s := by simp [handOver]

@[simp] theorem canHandover_kept (s : State) (cn : Nat) : kept (canHandover s cn) = kept s := by
  unfold canHandover
  (try dsimp only)
  (repeat' split) <;> simp

@[simp] theorem serialHandover_kept (s : State) (sp : Nat) : kept (serialHandover s sp) = kept s := by
  unfold serialHandover
  (try dsimp only)
  (repeat' split) <;> simp

@[simp] theorem canRemove_kept (s : State) (cn : Nat) (e : Option Nat × CanTx) : kept (canRemove s cn e) = kept s := by
  unfold canRemove
  (try dsimp only)
  (repeat' split) <;> simp

@[simp] theorem canRetry_kept (s : State) (cn : Nat) (e : Option Nat × CanTx) : kept (canRetry s cn e) = kept s := by
  simp [canRetry]

@[simp] theorem canSend_kept (s : State) (n : Nat) (result : CanSendResult) : kept (canSend s n result) = kept s := by
  unfold canSend
  (try dsimp only)
  (repeat' split) <;> simp

@[simp] theorem canRecover_kept (s : State) (cn : Nat) : kept (canRecover s cn).1 = kept s := by
  unfold canRecover
  (try dsimp only)
  (repeat' split) <;> simp

@[simp] theorem serialDone_kept (s : State) (sp ident : Nat) (data : Bytes) (stamp : T32) :
    kept (serialDone s sp ident data stamp) = kept s := by
  simp [serialDone]

@[simp] theorem serialReset_kept (s : State) (sp : Nat) : kept (serialReset s sp) = kept s := by simp [serialReset]

@[simp] theorem rawEnd_kept (s : State) (sp : Nat) : kept (rawEnd s sp) = kept s := by simp [rawEnd]

@[simp] theorem telegramEnd_kept (s : State) (sp n : Nat) (b : Bytes) : kept (telegramEnd s sp n b) = kept s := by
  simp [telegramEnd]

@[simp] theorem templateChar_kept (s : State) (sp : Nat) : kept (templateChar s sp) = kept s := by
  unfold templateChar
  (try dsimp only)
  (repeat' split) <;> simp

@[simp] theorem searchChar_kept (s : State) (sp : Nat) (c : BitVec 9) (stamp : T32) : kept (searchChar s sp c stamp) = kept s := by
  unfold searchChar
  (try dsimp only)
  (repeat' split) <;> simp

@[simp] theorem countCharError_kept (s : State) (sp : Nat) (e : CharError) : kept (countCharError s sp e) = kept s := by
  unfold countCharError
  (try dsimp only)
  (repeat' split) <;> simp

@[simp] theorem takeChar_kept (s : State) (sp : Nat) (x : BitVec 9 × CharError × T32) : kept (takeChar s sp x) = kept s := by
  simp [takeChar]

@[simp] theorem refreshDe_kept (s : State) : kept (refreshDe s) = kept s := by simp [refreshDe]

@[simp] theorem driveLine_kept (s : State) (sp n : Nat) (data : Bytes) : kept (driveLine s sp n data) = kept s := by
  simp [driveLine]

@[simp] theorem modbusTimeout_kept (s : State) (sp : Nat) (r : ModbusReq) : kept (modbusTimeout s sp r) = kept s := by
  unfold modbusTimeout
  (try dsimp only)
  (repeat' split) <;> simp

@[simp] theorem modbusResponse_kept (s : State) (sp : Nat) (r : ModbusReq) (b : Bytes) (stamp : T32) :
    kept (modbusResponse s sp r b stamp) = kept s := by
  unfold modbusResponse
  (try dsimp only)
  (repeat' split) <;> simp

@[simp] theorem modbusServe_kept (s : State) (sp : Nat) (b : Bytes) (stamp : T32) : kept (modbusServe s sp b stamp) = kept s := by
  unfold modbusServe
  (try dsimp only)
  (repeat' split) <;> simp

@[simp] theorem sourceConflict_kept (s : State) (seg addr : Nat) : kept (sourceConflict s seg addr) = kept s := by
  simp [sourceConflict]

@[simp] theorem mvbSend_kept (s : State) (seg : Nat) (data : Bytes) : kept (mvbSend s seg data) = kept s := by simp [mvbSend]

@[simp] theorem sinkUpdate_kept (s : State) (seg : Nat) (e : MvbEntry) (data : Bytes) (stamp : T32) :
    kept (sinkUpdate s seg e data stamp) = kept s := by
  simp [sinkUpdate]

@[simp] theorem mvbTake_kept (s : State) (seg : Nat) (f : MvbSlaveFrame) (stamp : T32) :
    kept (mvbTake s seg f stamp) = kept s := by
  unfold mvbTake
  (try dsimp only)
  (repeat' split) <;> simp

@[simp] theorem canApply_kept (old : Tbl Bytes) (s : State) (cn : Nat) : kept (canApply old s cn) = kept s := by simp [canApply]

@[simp] theorem applyBuses_kept (old : Tbl Bytes) (s : State) : kept (applyBuses old s) = kept s := by simp [applyBuses]

@[simp] theorem busSilence_kept (s : State) : kept (busSilence s) = kept s := by
  unfold busSilence
  refine Eq.trans (kept_mk ..) ?_
  exact kept_foldl _ (fun t x => by simp) _ _

@[simp] theorem busStart_kept (s : State) (lvl : BusLevel) : kept (busStart s lvl) = kept s := by simp [busStart]

@[simp] theorem serialDrop_kept (s : State) : kept (serialDrop s) = kept s := by simp [serialDrop]

@[simp] theorem serialLimit_kept (s : State) : kept (serialLimit s) = kept s := by
  unfold serialLimit
  (try dsimp only)
  (repeat' split) <;> simp (disch := (intros; (try dsimp only); (repeat' split) <;> simp))

@[simp] theorem busEnter_kept (s : State) : kept (busEnter s) = kept s := by
  unfold busEnter
  (try dsimp only)
  (repeat' split) <;> simp

@[simp] theorem busWake_kept (s : State) : kept (busWake s) = kept s := by simp [busWake]

@[simp] theorem busAfterPause_kept (s : State) : kept (busAfterPause s) = kept s := by
  unfold busAfterPause
  apply kept_foldl
  intro t x
  dsimp only
  split <;> split <;> simp

@[simp] theorem sendInternal_kept (s : State) (n : Nat) (r : Route) (srcBus srcId : Nat) (data : Bytes) (xl : Option XlFields) (stamp : T32) :
    kept (sendInternal s n r srcBus srcId data xl stamp) = kept s := by
  simp [sendInternal]

@[simp] theorem sendDatagram_kept (s : State) (r : Route) (srcBus srcId : Nat) (data : Bytes) (stamp : T32) (flags : Nat) :
    kept (sendDatagram s r srcBus srcId data stamp flags) = kept s := by
  simp [sendDatagram]

@[simp] theorem setHeld_kept (s : State) (n : Nat) (data : Bytes) (xl : Option XlFields) (stamp : T32) :
    kept (setHeld s n data xl stamp) = kept s := by
  simp [setHeld]

@[simp] theorem legacySend_kept (s : State) (bus ident : Nat) (data : Bytes) (xl : Option XlFields) :
    kept (legacySend s bus ident data xl) = kept s := by
  unfold legacySend
  (try dsimp only)
  (repeat' split) <;> simp

@[simp] theorem writeCollected_kept (s : State) (bus ident : Nat) (data : Bytes) :
    kept (writeCollected s bus ident data) = kept s := by
  simp [writeCollected]

@[simp] theorem routeOne_kept (s : State) (m : GwMsg) (e : Nat × Route) : kept (routeOne s m e) = kept s := by
  unfold routeOne
  (try dsimp only)
  (repeat' split) <;> simp

@[simp] theorem latestSend_kept (s : State) (n : Nat) (r : Route) : kept (latestSend s n r) = kept s := by
  unfold latestSend
  (try dsimp only)
  (repeat' split) <;> simp

@[simp] theorem gridSend_kept (s : State) (n : Nat) : kept (gridSend s n) = kept s := by
  unfold gridSend
  (try dsimp only)
  (repeat' split) <;> simp

@[simp] theorem pollOffer_kept (s : State) (n : Nat) : kept (pollOffer s n) = kept s := by simp [pollOffer]

@[simp] theorem engineCycle_kept (s : State) (be_ : Nat) : kept (engineCycle s be_) = kept s := by simp [engineCycle]

@[simp] theorem setGrids_kept (s : State) : kept (setGrids s) = kept s := by simp [setGrids]

@[simp] theorem startGrids_kept (s : State) : kept (startGrids s) = kept s := by simp [startGrids]

@[simp] theorem applyGateway_kept (old : Tbl Bytes) (s : State) : kept (applyGateway old s) = kept s := by simp [applyGateway]

@[simp] theorem gatewayEnter_kept (s : State) : kept (gatewayEnter s) = kept s := by simp [gatewayEnter]

@[simp] theorem stepGrids_kept (s : State) (delta : Int) : kept (stepGrids s delta) = kept s := by simp [stepGrids]

end Sys2Proof.Machine
end

