-- ==== Sys2Proof/Laws/KeptUnits.lean ====
section
/-! SUPPORT. What `kept` gathers is the same after the operations of audio, position, power, time, the Pair and the journal. -/

namespace Sys2Proof.Machine

@[simp] theorem sendStream_kept (s : State) (n : Nat) : kept (sendStream s n) = kept s := by simp [sendStream]

@[simp] theorem sendStreams_kept (s : State) : kept (sendStreams s) = kept s := by simp [sendStreams]

@[simp] theorem setStream_kept (s : State) (n : Nat) (f : AudioStream → AudioStream) : kept (setStream s n f) = kept s := by
  simp [setStream]

@[simp] theorem streamBlock_kept (s : State) (n : Nat) : kept (streamBlock s n) = kept s := by
  unfold streamBlock
  (try dsimp only)
  (repeat' split) <;> simp

@[simp] theorem giveTdm_kept (s : State) (o : Nat) (samples : List Int) : kept (giveTdm s o samples) = kept s := by simp [giveTdm]

@[simp] theorem outputBlock_kept (s : State) (o : Nat) : kept (outputBlock s o) = kept s := by simp [outputBlock]

@[simp] theorem noteEmergency_kept (s : State) (ref : Nat) : kept (noteEmergency s ref) = kept s := by simp [noteEmergency]

@[simp] theorem blockIn_kept (s : State) (tdm : List (BitVec 24)) : kept (blockIn s tdm) = kept s := by simp [blockIn]

@[simp] theorem blockGrant_kept (s : State) : kept (blockGrant s) = kept s := by simp [blockGrant]

@[simp] theorem blockEnd_kept (s : State) : kept (blockEnd s) = kept s := by simp [blockEnd]

@[simp] theorem runBlock_kept (s : State) (tdm : List (BitVec 24)) : kept (runBlock s tdm) = kept s := by simp [runBlock]

@[simp] theorem pauseBlock_kept (s : State) : kept (pauseBlock s) = kept s := by simp [pauseBlock]

@[simp] theorem statusTo_kept (s : State) (known : Option Contact) (endpoint : Nat) (data : Bytes) :
    kept (statusTo s known endpoint data) = kept s := by
  simp [statusTo]

@[simp] theorem tellCall_kept (s : State) (c : Call) (state cause : Nat) : kept (tellCall s c state cause) = kept s := by
  simp [tellCall]

@[simp] theorem refuseCall_kept (s : State) (c : Call) (cause : Nat) : kept (refuseCall s c cause) = kept s := by simp [refuseCall]

@[simp] theorem admitCall_kept (s : State) (c : Call) : kept (admitCall s c) = kept s := by simp [admitCall]

@[simp] theorem tellPositions_kept (s : State) : kept (tellPositions s) = kept s := by simp [tellPositions]

@[simp] theorem closeCall_kept (s : State) (c : Call) (cause : Nat) : kept (closeCall s c cause) = kept s := by simp [closeCall]

@[simp] theorem admitHead_kept (s : State) : kept (admitHead s) = kept s := by
  unfold admitHead
  (try dsimp only)
  (repeat' split) <;> simp

@[simp] theorem endCall_kept (s : State) (c : Call) (cause : Nat) : kept (endCall s c cause) = kept s := by simp [endCall]

@[simp] theorem newCall_kept (s : State) (r : CallRequest) : kept (newCall s r) = kept s := by
  unfold newCall
  (try dsimp only)
  (repeat' split) <;> simp

@[simp] theorem answerCall_kept (s : State) (ref : BitVec 16) (sender : Option Contact) :
    kept (answerCall s ref sender) = kept s := by
  unfold answerCall
  (try dsimp only)
  (repeat' split) <;> simp

@[simp] theorem hangUp_kept (s : State) (ref : BitVec 16) : kept (hangUp s ref) = kept s := by
  unfold hangUp
  (try dsimp only)
  (repeat' split) <;> simp

@[simp] theorem callAct_kept (s : State) (r : CallRequest) : kept (callAct s r) = kept s := by simp [callAct]

@[simp] theorem callCommand_kept (s : State) (r : CallRequest) : kept (callCommand s r) = kept s := by simp [callCommand]

@[simp] theorem serveMailbox_kept (s : State) : kept (serveMailbox s) = kept s := by simp [serveMailbox]

@[simp] theorem startClip_kept (s : State) (p c : Nat) : kept (startClip s p c) = kept s := by simp [startClip]

@[simp] theorem playerCommand_kept (s : State) (v : Nat) : kept (playerCommand s v).1 = kept s := by simp [playerCommand]

@[simp] theorem audioEnter_kept (s : State) : kept (audioEnter s) = kept s := by simp [audioEnter]

@[simp] theorem applyAudio_kept (old : Tbl Bytes) (s : State) : kept (applyAudio old s) = kept s := by simp [applyAudio]

@[simp] theorem refreshPhy_kept (s : State) : kept (refreshPhy s) = kept s := by simp [refreshPhy]

@[simp] theorem setSegment_kept (s : State) (p st lease : Nat) : kept (setSegment s p st lease) = kept s := by simp [setSegment]

@[simp] theorem segWake_kept (s : State) (p : Nat) : kept (segWake s p) = kept s := by simp [segWake]

@[simp] theorem segSleep_kept (s : State) (p : Nat) : kept (segSleep s p) = kept s := by simp [segSleep]

@[simp] theorem segUnlink_kept (s : State) (p : Nat) : kept (segUnlink s p) = kept s := by simp [segUnlink]

@[simp] theorem segAsleep_kept (s : State) (p : Nat) : kept (segAsleep s p) = kept s := by simp [segAsleep]

@[simp] theorem segRequest_kept (s : State) (p v : Nat) : kept (segRequest s p v).1 = kept s := by simp [segRequest]

@[simp] theorem segCommand_kept (s : State) (ses : SessionNo) (p v : Nat) : kept (segCommand s ses p v) = kept s := by
  simp [segCommand]

@[simp] theorem releasePhy_kept (s : State) : kept (releasePhy s) = kept s := by
  unfold releasePhy
  (try dsimp only)
  (repeat' split) <;> simp

@[simp] theorem staggerPhy_kept (s : State) : kept (staggerPhy s) = kept s := by simp [staggerPhy]

@[simp] theorem segmentsEnter_kept (s : State) (fromSleep : Bool) (wakeSet : Nat) :
    kept (segmentsEnter s fromSleep wakeSet) = kept s := by
  unfold segmentsEnter
  (try dsimp only)
  (repeat' split) <;> simp

@[simp] theorem applySegments_kept (old : Tbl Bytes) (s : State) : kept (applySegments old s) = kept s := by simp [applySegments]

@[simp] theorem setOdo_kept (s : State) (k : Nat) (f : OdoChannel → OdoChannel) : kept (setOdo s k f) = kept s := by simp [setOdo]

@[simp] theorem advance_kept (s : State) (scale : Nat) (reverse : Bool) : kept (advance s scale reverse) = kept s := by
  simp [advance]

@[simp] theorem countEdge_kept (s : State) (k : Nat) (e : OdoEdge) : kept (countEdge s k e).1 = kept s := by
  unfold countEdge
  (try dsimp only)
  (repeat' split) <;> simp

@[simp] theorem extendD64_kept (s : State) : kept (extendD64 s) = kept s := by simp [extendD64]

@[simp] theorem journalDistance_kept (s : State) : kept (journalDistance s) = kept s := by simp [journalDistance]

@[simp] theorem setDoors_kept (s : State) (v : Nat) : kept (setDoors s v) = kept s := by simp [setDoors]

@[simp] theorem setDoorWrite_kept (s : State) (v : Nat) : kept (setDoorWrite s v).1 = kept s := by simp [setDoorWrite]

@[simp] theorem setPosEvent_kept (s : State) (n : Nat) (f : PosEvent → PosEvent) : kept (setPosEvent s n f) = kept s := by
  simp [setPosEvent]

theorem fireEvent_kept (applySet : State → Nat → State) (s : State) (n : Nat) (stamp : T32)
    (h : ∀ t, kept (applySet t n) = kept t) : kept (fireEvent applySet s n stamp) = kept s := by
  unfold fireEvent
  dsimp only
  repeat' split
  all_goals simp [h]

theorem missEvent_kept (applySet : State → Nat → State) (s : State) (n : Nat) (stamp : T32)
    (h : ∀ t, kept (applySet t n) = kept t) : kept (missEvent applySet s n stamp) = kept s := by
  unfold missEvent
  dsimp only
  split
  · rw [fireEvent_kept _ _ _ _ h]
    simp
  · simp

theorem compareTargets_kept (applySet : State → Nat → State) (s : State) (stamp : T32) (passed : List Nat)
    (h : ∀ t n, kept (applySet t n) = kept t) : kept (compareTargets applySet s stamp passed) = kept s := by
  unfold compareTargets
  split
  · refine kept_foldl _ ?_ _ _
    intro t n
    split
    · exact missEvent_kept _ _ _ _ (fun t => h t n)
    · exact fireEvent_kept _ _ _ _ (fun t => h t n)
  · rfl

@[simp] theorem missedAtEntry_kept (s : State) : kept (missedAtEntry s) = kept s := by
  unfold missedAtEntry
  split
  · rfl
  · refine kept_foldl _ ?_ _ _
    intro t n
    exact missEvent_kept _ _ _ _ (fun t => by simp)

@[simp] theorem armEvent_kept (s : State) (n : Nat) : kept (armEvent s n) = kept s := by simp [armEvent]

@[simp] theorem applyPosition_kept (carried : Nat → Nat → Bool) (old : Tbl Bytes) (s : State) :
    kept (applyPosition carried old s) = kept s := by
  simp [applyPosition]

@[simp] theorem positionEnter_kept (s : State) : kept (positionEnter s) = kept s := by simp [positionEnter]

@[simp] theorem countCharge_kept (s : State) (code : Int) : kept (countCharge s code) = kept s := by simp [countCharge]

@[simp] theorem judgeTj_kept (s : State) : kept (judgeTj s) = kept s := by simp [judgeTj]

@[simp] theorem noteVoltage_kept (s : State) (ch : Nat) (mv : Nat) : kept (noteVoltage s ch mv) = kept s := by simp [noteVoltage]

@[simp] theorem convert_kept (s : State) (ch : Nat) (v : Int) : kept (convert s ch v) = kept s := by simp [convert]

@[simp] theorem startSequence_kept (s : State) (n : Nat) : kept (startSequence s n).1 = kept s := by simp [startSequence]

@[simp] theorem budgetOutputs_kept (s : State) : kept (budgetOutputs s) = kept s := by simp [budgetOutputs]

@[simp] theorem stageChanged_kept (s : State) : kept (stageChanged s) = kept s := by simp [stageChanged]

@[simp] theorem engage_kept (s : State) (k : Nat) (byVoltage : Bool) : kept (engage s k byVoltage) = kept s := by simp [engage]

@[simp] theorem release_kept (s : State) (k : Nat) : kept (release s k) = kept s := by simp [release]

@[simp] theorem evaluateBudget_kept (s : State) : kept (evaluateBudget s) = kept s := by simp [evaluateBudget]

@[simp] theorem setChargeWrite_kept (s : State) (v : Bytes) : kept (setChargeWrite s v).1 = kept s := by simp [setChargeWrite]

@[simp] theorem sleepCharge_kept (s : State) (ms : Nat) : kept (sleepCharge s ms) = kept s := by simp [sleepCharge]

@[simp] theorem dropDisabled_kept (s : State) : kept (dropDisabled s) = kept s := by simp [dropDisabled]

@[simp] theorem sequencesEnter_kept (s : State) : kept (sequencesEnter s) = kept s := by simp [sequencesEnter]

@[simp] theorem powerEnter_kept (s : State) : kept (powerEnter s) = kept s := by
  unfold powerEnter
  (try dsimp only)
  (repeat' split) <;> simp

@[simp] theorem applyPower_kept (b : State) : kept (applyPower b) = kept b := by simp [applyPower]

@[simp] theorem clockTick_kept (s : State) : kept (clockTick s) = kept s := by
  unfold clockTick
  (try dsimp only)
  (repeat' split) <;> simp

@[simp] theorem writeAnchor_kept (s : State) : kept (writeAnchor s) = kept s := by simp [writeAnchor]

@[simp] theorem setTimescale_kept (s : State) (code : BitVec 8) : kept (setTimescale s code) = kept s := by simp [setTimescale]

@[simp] theorem setInst_kept (s : State) (i : Nat) (f : PtpInst → PtpInst) : kept (setInst s i f) = kept s := by simp [setInst]

@[simp] theorem setSync_kept (s : State) (st : BitVec 8) (offset : Int) : kept (setSync s st offset) = kept s := by simp [setSync]

@[simp] theorem selectSource_kept (s : State) (i : Nat) : kept (selectSource s i) = kept s := by
  unfold selectSource
  (try dsimp only)
  (repeat' split) <;> simp

@[simp] theorem firstSource_kept (s : State) : kept (firstSource s) = kept s := by
  unfold firstSource
  (try dsimp only)
  (repeat' split) <;> simp

@[simp] theorem loseSource_kept (s : State) : kept (loseSource s) = kept s := by
  unfold loseSource
  (try dsimp only)
  (repeat' split) <;> simp

@[simp] theorem noteGrandmaster_kept (s : State) (i : Nat) : kept (noteGrandmaster s i) = kept s := by simp [noteGrandmaster]

@[simp] theorem judgeClocks_kept (s : State) (i : Nat) (p : Fin 38) (r : Option ClockRank) :
    kept (judgeClocks s i p r) = kept s := by
  simp [judgeClocks]

@[simp] theorem sendPtp_kept (s : State) (i p typ : Nat) (stamp : Bytes) : kept (sendPtp s i p typ stamp) = kept s := by
  simp [sendPtp]

@[simp] theorem setDelay_kept (s : State) (i : Nat) (twice : Int) : kept (setDelay s i twice) = kept s := by simp [setDelay]

@[simp] theorem loseSync_kept (s : State) : kept (loseSync s) = kept s := by simp [loseSync]

@[simp] theorem startTrigger_kept (s : State) (k : Nat) : kept (startTrigger s k) = kept s := by simp [startTrigger]

@[simp] theorem setTpo_kept (s : State) (pin : Nat) (f : TpoPin → TpoPin) : kept (setTpo s pin f) = kept s := by simp [setTpo]

@[simp] theorem setTpoLevel_kept (s : State) (pin : Nat) (b : Bool) : kept (setTpoLevel s pin b) = kept s := by simp [setTpoLevel]

@[simp] theorem startProgram_kept (s : State) (pin : Nat) (fresh : Bool) : kept (startProgram s pin fresh) = kept s := by
  simp [startProgram]

@[simp] theorem startPrograms_kept (s : State) : kept (startPrograms s) = kept s := by simp [startPrograms]

@[simp] theorem clockEnter_kept (s : State) (fromStart : Bool) : kept (clockEnter s fromStart) = kept s := by
  unfold clockEnter
  (try dsimp only)
  (repeat' split) <;> simp

@[simp] theorem applyTime_kept (old : Tbl Bytes) (s : State) : kept (applyTime old s) = kept s := by simp [applyTime]

@[simp] theorem clockRestart_kept (s : State) : kept (clockRestart s) = kept s := by simp [clockRestart]

@[simp] theorem clockRestore_kept (s : State) (tx : Nat) : kept (clockRestore s tx) = kept s := by simp [clockRestore]

@[simp] theorem bumpMany_kept (s : State) (idx sub n : Nat) : kept (bumpMany s idx sub n) = kept s := by simp [bumpMany]

@[simp] theorem stepTriggers_kept (s : State) (delta : Int) : kept (stepTriggers s delta) = kept s := by
  unfold stepTriggers
  refine (kept_foldl _ ?_ _ _).trans (kept_foldl _ ?_ _ _)
  · intro t x
    dsimp only
    repeat' split
    all_goals simp
  · intro t x
    dsimp only
    repeat' split
    all_goals simp

@[simp] theorem stepInstances_kept (s : State) (delta : Int) : kept (stepInstances s delta) = kept s := by simp [stepInstances]

@[simp] theorem stepTime_kept (s : State) (target : Nat) : kept (stepTime s target) = kept s := by simp [stepTime]

@[simp] theorem takeCapture_kept (s : State) (n : Nat) : kept (takeCapture s n).1 = kept s := by
  unfold takeCapture
  (try dsimp only)
  (repeat' split) <;> simp

@[simp] theorem gpOpen_kept (s : State) : kept (gpOpen s) = kept s := by
  unfold gpOpen
  (try dsimp only)
  (repeat' split) <;> simp

@[simp] theorem recordInput_kept (s : State) (kind : Nat) (value : BitVec 32) (target : Option DebugTarget) :
    kept (recordInput s kind value target) = kept s := by
  simp [recordInput]

@[simp] theorem startGpCycle_kept (s : State) (c : Nat) : kept (startGpCycle s c).1 = kept s := by simp [startGpCycle]

@[simp] theorem triggerSkip_kept (s : State) : kept (triggerSkip s) = kept s := by simp [triggerSkip]

@[simp] theorem triggerOverrun_kept (s : State) (k target number : Nat) : kept (triggerOverrun s k target number) = kept s := by
  simp [triggerOverrun]

@[simp] theorem triggerEffect_kept (s : State) (k : Nat) (g : T32) (running : Bool) :
    kept (triggerEffect s k g running) = kept s := by
  unfold triggerEffect
  (try dsimp only)
  (repeat' split) <;> simp

@[simp] theorem sendPair_kept (s : State) (plane typ : Nat) (body : Bytes) : kept (sendPair s plane typ body) = kept s := by
  simp [sendPair]

@[simp] theorem writeTemplate_kept (s : State) : kept (writeTemplate s) = kept s := by simp [writeTemplate]

@[simp] theorem sendResign_kept (s : State) : kept (sendResign s) = kept s := by
  unfold sendResign
  (try dsimp only)
  (repeat' split) <;> simp

@[simp] theorem quietShared_kept (s : State) : kept (quietShared s) = kept s := by simp [quietShared]

@[simp] theorem driveShared_kept (s : State) : kept (driveShared s) = kept s := by simp [driveShared]

@[simp] theorem setRole_kept (s : State) (r : PairRole) (code : Nat) : kept (setRole s r code) = kept s := by simp [setRole]

@[simp] theorem pairEnter_kept (s : State) : kept (pairEnter s) = kept s := by simp [pairEnter]

@[simp] theorem applyPair_kept (old : Tbl Bytes) (s : State) : kept (applyPair old s) = kept s := by simp [applyPair]

@[simp] theorem pairTake_kept (s : State) (hdr : PairHeader) (typ extra : Nat) : kept (pairTake s hdr typ extra).1 = kept s := by
  simp [pairTake]

@[simp] theorem roleConflict_kept (s : State) (hdr : PairHeader) : kept (roleConflict s hdr) = kept s := by simp [roleConflict]

@[simp] theorem takeCapsule_kept (s : State) (handover : Bool) : kept (takeCapsule s handover) = kept s := by simp [takeCapsule]

@[simp] theorem claimed_kept (s : State) (cause : Nat) : kept (claimed s cause) = kept s := by simp [claimed]

@[simp] theorem loadHeld_kept (s : State) (b : Bytes) (fuel : Nat) : kept (loadHeld s b fuel) = kept s := by
  induction fuel generalizing s b with
  | zero => rfl
  | succ n ih =>
    unfold loadHeld
    (try dsimp only)
    repeat' split
    all_goals simp [ih]

@[simp] theorem loadMvb_kept (s : State) (b : Bytes) (fuel : Nat) : kept (loadMvb s b fuel) = kept s := by
  induction fuel generalizing s b with
  | zero => rfl
  | succ n ih =>
    unfold loadMvb
    (try dsimp only)
    repeat' split
    all_goals simp [ih]

@[simp] theorem loadAudio_kept (s : State) (b : Bytes) : kept (loadAudio s b) = kept s := by simp [loadAudio]

@[simp] theorem applyCapsule_kept (s : State) (c : Capsule) : kept (applyCapsule s c) = kept s := by simp [applyCapsule]

@[simp] theorem takeActive_kept (s : State) : kept (takeActive s) = kept s := by simp [takeActive]

@[simp] theorem applyLast_kept (s : State) (c : Option Capsule) : kept (applyLast s c) = kept s := by
  unfold applyLast
  (try dsimp only)
  (repeat' split) <;> simp

@[simp] theorem endLost_kept (s : State) : kept (endLost s) = kept s := by simp [endLost]

@[simp] theorem takeover_kept (s : State) (cause : Nat) : kept (takeover s cause) = kept s := by simp [takeover]

@[simp] theorem failedCycle_kept (s : State) (cause : Nat) : kept (failedCycle s cause) = kept s := by simp [failedCycle]

@[simp] theorem rejectCapsule_kept (s : State) (c : CapsuleIn) (reason : Nat) : kept (rejectCapsule s c reason) = kept s := by
  simp [rejectCapsule]

@[simp] theorem handoverIn_kept (s : State) (h : T32) (cause : Nat) : kept (handoverIn s h cause) = kept s := by simp [handoverIn]

@[simp] theorem acceptCapsule_kept (s : State) (c : CapsuleIn) (body : Bytes) : kept (acceptCapsule s c body) = kept s := by
  unfold acceptCapsule
  (try dsimp only)
  (repeat' split) <;> simp

@[simp] theorem sendClaim_kept (s : State) (cause : Nat) : kept (sendClaim s cause) = kept s := by simp [sendClaim]

@[simp] theorem swapWrite_kept (s : State) (v : Nat) : kept (swapWrite s v).1 = kept s := by simp [swapWrite]

@[simp] theorem claimArrives_kept (s : State) (hdr : PairHeader) (cause : Nat) : kept (claimArrives s hdr cause) = kept s := by
  simp [claimArrives]

@[simp] theorem handoverOut_kept (s : State) (h : T32) (cause : Nat) : kept (handoverOut s h cause) = kept s := by
  simp [handoverOut]

@[simp] theorem compactIfLow_kept (s : State) : kept (compactIfLow s) = kept s := by simp [compactIfLow]

@[simp] theorem endCompaction_kept (s : State) : kept (endCompaction s) = kept s := by
  unfold endCompaction
  (try dsimp only)
  (repeat' split) <;> simp

@[simp] theorem inclusionRead_kept (s : State) (ses : Nat) : kept (inclusionRead s ses).1 = kept s := by simp [inclusionRead]

end Sys2Proof.Machine
end

