-- ==== Sys2Proof/Laws/KeptSystem.lean ====
section
/-! SUPPORT. What `kept` gathers is the same after the operations of states, hosts, sleep, start, update, the object server and the ports. -/

namespace Sys2Proof.Machine

@[simp] theorem hostSignal_kept (s : State) (bit : Nat) : kept (hostSignal s bit) = kept s := by simp [hostSignal]

@[simp] theorem abandonValidation_kept (s : State) : kept (abandonValidation s) = kept s := by
  unfold abandonValidation
  (try dsimp only)
  (repeat' split) <;> simp

@[simp] theorem discardPending_kept (s : State) (cause : Nat) : kept (discardPending s cause) = kept s := by
  unfold discardPending
  (try dsimp only)
  (repeat' split) <;> simp

@[simp] theorem cancelArmed_kept (s : State) (cause : Nat) : kept (cancelArmed s cause) = kept s := by
  unfold cancelArmed
  (try dsimp only)
  (repeat' split) <;> simp

@[simp] theorem openSession_kept (s : State) (n role transport : Nat) : kept (openSession s n role transport) = kept s := by
  simp [openSession]

@[simp] theorem closeSession_kept (s : State) (n reason : Nat) : kept (closeSession s n reason) = kept s := by
  unfold closeSession
  (try dsimp only)
  (repeat' split) <;> simp

@[simp] theorem closeMos_kept (s : State) (reason : Nat) : kept (closeMos s reason) = kept s := by simp [closeMos]

@[simp] theorem busSessions_kept (s : State) : kept (busSessions s) = kept s := by simp [busSessions]

@[simp] theorem spiRole_kept (s : State) : kept (spiRole s) = kept s := by simp [spiRole]

@[simp] theorem cancelSets_kept (s : State) (cause : Nat) : kept (cancelSets s cause) = kept s := by simp [cancelSets]

@[simp] theorem refreshStb_kept (s : State) (asleep : Bool) : kept (refreshStb s asleep) = kept s := by simp [refreshStb]

@[simp] theorem gpEnter_kept (s : State) : kept (gpEnter s) = kept s := by
  unfold gpEnter
  (try dsimp only)
  (repeat' split) <;> simp

@[simp] theorem gpSleep_kept (s : State) : kept (gpSleep s) = kept s := by
  unfold gpSleep
  (try dsimp only)
  (repeat' split) <;> simp

@[simp] theorem portsOff_kept (s : State) (keep : Nat) : kept (portsOff s keep) = kept s := by simp [portsOff]

@[simp] theorem restLinks_kept (s : State) : kept (restLinks s) = kept s := by simp [restLinks]

@[simp] theorem portsEnter_kept (s : State) : kept (portsEnter s) = kept s := by
  unfold portsEnter
  (try dsimp only)
  (repeat' split) <;> simp

@[simp] theorem zoneEnter_kept (s : State) : kept (zoneEnter s) = kept s := by
  unfold zoneEnter
  (try dsimp only)
  (repeat' split) <;> simp

@[simp] theorem enterBlocks_kept (before s : State) : kept (enterBlocks before s) = kept s := by
  unfold enterBlocks
  extract_lets fromStart awake woken s1 s2 s3 s4 s5 s6
  have h1 : kept s1 = kept s := by
    dsimp only [s1]
    split <;> simp
  have h2 : kept s2 = kept s := by simp [s2, h1]
  have h3 : kept s3 = kept s := by simp [s3, h2]
  have h4 : kept s4 = kept s := by simp [s4, h3]
  have h5 : kept s5 = kept s := by
    dsimp only [s5]
    split <;> simp [h4]
  have h6 : kept s6 = kept s := by
    dsimp only [s6]
    split <;> simp [h5]
  simp [h6]

@[simp] theorem requestRefused_kept (s : State) (code reason : Nat) : kept (requestRefused s code reason) = kept s := by
  simp [requestRefused]

@[simp] theorem request_kept (s : State) (ses : SessionNo) (code : Nat) (act : State → State) (h : ∀ t, kept (act t) = kept t) :
    kept (request s ses code act) = kept s := by
  unfold request
  dsimp only
  repeat' split
  all_goals simp [h]

@[simp] theorem resignLeaving_kept (s : State) : kept (resignLeaving s) = kept s := by simp [resignLeaving]

@[simp] theorem countSafe_kept (s : State) : kept (countSafe s) = kept s := by simp [countSafe]

@[simp] theorem setCvu_kept (s : State) (u : Nat) (f : Cvu → Cvu) : kept (setCvu s u f) = kept s := by simp [setCvu]

@[simp] theorem cvuWrite_kept (s : State) (u : Nat) (src : CvuSource) (act : Cvu → Cvu) :
    kept (cvuWrite s u src act) = kept s := by
  simp [cvuWrite]

@[simp] theorem cvuRelease_kept (s : State) (src : CvuSource) : kept (cvuRelease s src) = kept s := by simp [cvuRelease]

@[simp] theorem cvuRegWrite_kept (s : State) (u : Nat) (src : CvuSource) (off : Nat) (v : BitVec 32) :
    kept (cvuRegWrite s u src off v) = kept s := by
  unfold cvuRegWrite
  (try dsimp only)
  (repeat' split) <;> simp

@[simp] theorem setRing_kept (s : State) (r : Nat) (f : Ring → Ring) : kept (setRing s r f) = kept s := by simp [setRing]

@[simp] theorem ringStop_kept (s : State) (r err : Nat) : kept (ringStop s r err) = kept s := by simp [ringStop]

@[simp] theorem ringSignal_kept (s : State) (r : Nat) : kept (ringSignal s r) = kept s := by simp [ringSignal]

@[simp] theorem completeDesc_kept (s : State) (r : Nat) (bytes : Bytes) (eligible : Bool) :
    kept (completeDesc s r bytes eligible) = kept s := by
  simp [completeDesc]

@[simp] theorem resetRing_kept (s : State) (r : Nat) : kept (resetRing s r) = kept s := by simp [resetRing]

@[simp] theorem interfaceReset_kept (s : State) : kept (interfaceReset s) = kept s := by
  unfold interfaceReset
  extract_lets s1 _src s2
  have h1 : kept s1 = kept s := (kept_foldl _ (fun t x => resetRing_kept _ _) _ _).trans (forgetReplies_kept _ _)
  clear_value s1
  have h2 : kept s2 = kept s := by rw [← h1]; rfl
  rw [reclaim_kept, cvuRelease_kept, h2]

@[simp] theorem forgetBuffer_kept (s : State) (h fault : BitVec 32) : kept (forgetBuffer s h fault) = kept s := by
  simp [forgetBuffer]

@[simp] theorem advanceAperture_kept (s : State) : kept (advanceAperture s) = kept s := by simp [advanceAperture]

@[simp] theorem setAperture_kept (s : State) (aperture : Option (BitVec 32 × BitVec 32)) :
    kept (setAperture s aperture) = kept s := by
  unfold setAperture
  (try dsimp only)
  (repeat' split) <;> simp

@[simp] theorem txError_kept (s : State) (r code : Nat) (flag : Bool) : kept (txError s r code flag) = kept s := by simp [txError]

@[simp] theorem txHand_kept (s : State) (r : Nat) (d data : Bytes) (h : BitVec 32) : kept (txHand s r d data h) = kept s := by
  simp [txHand]

@[simp] theorem txDescriptor_kept (b : State) (r : Nat) (desc : TxDescriptor) (memory : HostMemory) :
    kept (txDescriptor b r desc memory) = kept b := by
  unfold txDescriptor
  (try dsimp only)
  (repeat' split) <;> simp

@[simp] theorem rxDeliver_kept (s : State) (c : Nat) (size : Nat) (hostError : Bool) (reads : List CellRead) (k : Copy) (f : Frame) :
    kept (rxDeliver s c size hostError reads k f) = kept s := by
  simp [rxDeliver]

@[simp] theorem pcieDown_kept (s : State) : kept (pcieDown s) = kept s := by simp [pcieDown]

@[simp] theorem spiReset_kept (s : State) : kept (spiReset s) = kept s := by simp [spiReset]

@[simp] theorem setBallot_kept (s : State) (f : Ballot → Ballot) : kept (setBallot s f) = kept s := by simp [setBallot]

@[simp] theorem sendBallot_kept (s : State) (typ number proposer kind code reasons : Nat) (c : T32) :
    kept (sendBallot s typ number proposer kind code reasons c) = kept s := by
  simp [sendBallot]

@[simp] theorem sendOwnBallot_kept (s : State) (typ code : Nat) : kept (sendOwnBallot s typ code) = kept s := by
  simp [sendOwnBallot]

@[simp] theorem endBallot_kept (s : State) (cause sender : Nat) : kept (endBallot s cause sender) = kept s := by simp [endBallot]

@[simp] theorem abortBallot_kept (s : State) (cause : Nat) : kept (abortBallot s cause) = kept s := by simp [abortBallot]

@[simp] theorem ballotCheck_kept (s : State) : kept (ballotCheck s) = kept s := by simp [ballotCheck]

@[simp] theorem commitBallot_kept (s : State) (mine : Bool) : kept (commitBallot s mine) = kept s := by simp [commitBallot]

@[simp] theorem proposeBallot_kept (s : State) (kind : Nat) : kept (proposeBallot s kind) = kept s := by simp [proposeBallot]

@[simp] theorem proposeWrite_kept (s : State) (kind : Nat) : kept (proposeWrite s kind).1 = kept s := by simp [proposeWrite]

@[simp] theorem ballotTake_kept (s : State) (port : Nat) (b : Bytes) (typ : Nat) : kept (ballotTake s port b typ).1 = kept s := by
  simp [ballotTake]

@[simp] theorem voteOn_kept (s : State) (b : Bytes) : kept (voteOn s b) = kept s := by simp [voteOn]

@[simp] theorem onProposal_kept (s : State) (b : Bytes) : kept (onProposal s b) = kept s := by
  unfold onProposal
  (try dsimp only)
  (repeat' split) <;> simp

@[simp] theorem onVote_kept (s : State) (b : Bytes) : kept (onVote s b) = kept s := by simp [onVote]

@[simp] theorem onCommit_kept (s : State) (b : Bytes) : kept (onCommit s b) = kept s := by simp [onCommit]

@[simp] theorem latchWake_kept (s : State) (source : Nat) : kept (latchWake s source) = kept s := by simp [latchWake]

@[simp] theorem onAbort_kept (s : State) (b : Bytes) : kept (onAbort s b) = kept s := by simp [onAbort]

@[simp] theorem canWake_kept (s : State) : kept (canWake s) = kept s := by simp [canWake]

@[simp] theorem noteWake_kept (s : State) : kept (noteWake s) = kept s := by simp [noteWake]

@[simp] theorem wakeEvent_kept (s : State) : kept (wakeEvent s) = kept s := by simp [wakeEvent]

@[simp] theorem setSrc_kept (s : State) (n : Nat) (f : WakeSource → WakeSource) : kept (setSrc s n f) = kept s := by simp [setSrc]

@[simp] theorem countSource_kept (s : State) (n : Nat) : kept (countSource s n) = kept s := by simp [countSource]

@[simp] theorem seeSource_kept (s : State) (n : Nat) : kept (seeSource s n) = kept s := by simp [seeSource]

@[simp] theorem acceptNormal_kept (s : State) (n : Nat) : kept (acceptNormal s n) = kept s := by simp [acceptNormal]

@[simp] theorem persistCommand_kept (s : State) (ses : SessionNo) (idx sub : Nat) (v : Bytes) (own : State → Nat) :
    kept (persistCommand s ses idx sub v own) = kept s := by
  unfold persistCommand
  (try dsimp only)
  (repeat' split) <;> simp

@[simp] theorem windowFault_kept (s : State) (r : PassTwoReport) : kept (windowFault s r).1 = kept s := by
  unfold windowFault
  (try dsimp only)
  (repeat' split) <;> simp

@[simp] theorem taskDone_kept (s : State) (t : Nat) : kept (taskDone s t) = kept s := by simp [taskDone]

@[simp] theorem countReplayed_kept (s : State) : kept (countReplayed s) = kept s := by simp [countReplayed]

@[simp] theorem windowEqual_kept (s : State) : kept (windowEqual s) = kept s := by simp [windowEqual]

@[simp] theorem noteFault_kept (s : State) (f : RuleFault) : kept (noteFault s f) = kept s := by
  unfold noteFault
  (try dsimp only)
  (repeat' split) <;> simp

@[simp] theorem noteValid_kept (s : State) : kept (noteValid s) = kept s := by simp [noteValid]

@[simp] theorem applyBlocks_kept (carried : Nat → Nat → Bool) (atStart : Bool) (old : Tbl Bytes) (s : State) :
    kept (applyBlocks carried atStart old s) = kept s := by
  simp [applyBlocks]

@[simp] theorem applySessions_kept (s : State) : kept (applySessions s) = kept s := by simp [applySessions]

@[simp] theorem csResult_kept (s : State) (code : Nat) : kept (csResult s code).1 = kept s := by simp [csResult]

@[simp] theorem csWrite_kept (s : State) (ses : SessionNo) (dest : ReplyTo) (code : Nat) :
    kept (csWrite s ses dest code).1 = kept s := by
  unfold csWrite
  (try dsimp only)
  (repeat' split) <;> simp

@[simp] theorem noteCommand_kept (s : State) (ses idx sub code : Nat) : kept (noteCommand s ses idx sub code) = kept s := by
  simp [noteCommand]

@[simp] theorem lateCommand_kept (s : State) (ses : SessionNo) (idx sub : Nat) (v : Bytes) (act : State → State × Option Nat)
    (h : kept (act s).1 = kept s) : kept (lateCommand s ses idx sub v act) = kept s := by
  unfold lateCommand
  repeat' split
  all_goals simp_all

@[simp] theorem csCommand_kept (s : State) (ses : SessionNo) (code : Nat) : kept (csCommand s ses code) = kept s := by
  simp [csCommand]

@[simp] theorem csFileWrite_kept (s : State) (ses : SessionNo) (v : Bytes) : kept (csFileWrite s ses v).1 = kept s := by
  unfold csFileWrite
  (try dsimp only)
  (repeat' split) <;> simp

@[simp] theorem csAnswer_kept (s : State) (dest : ReplyTo) (code : Nat) : kept (csAnswer s dest code) = kept s := by
  simp [csAnswer]

@[simp] theorem armSet_kept (s : State) (p : PendingSet) (target : Option T32) (event : Nat) :
    kept (armSet s p target event) = kept s := by
  simp [armSet]

@[simp] theorem copierLoss_kept (s : State) (lost : Option Nat) : kept (copierLoss s lost) = kept s := by
  unfold copierLoss
  (try dsimp only)
  (repeat' split) <;> simp

@[simp] theorem requestWrite_kept (s : State) (ses : SessionNo) (code : Nat) (act : State → State × Nat)
    (h : kept (act s).1 = kept s) : kept (requestWrite s ses code act).1 = kept s := by
  unfold requestWrite
  split
  all_goals simp [h]

@[simp] theorem servoInc_kept (s : State) (offset : Int) : kept (servoInc s offset) = kept s := by simp [servoInc]

@[simp] theorem judgeLock_kept (s : State) (offset : Int) : kept (judgeLock s offset) = kept s := by simp [judgeLock]

@[simp] theorem tick_kept (s : State) : kept (tick s) = kept s := by simp [tick]

@[simp] theorem setBank_kept (s : State) (b : Nat) (f : ImageBank → ImageBank) : kept (setBank s b f) = kept s := by simp [setBank]

@[simp] theorem loadRunning_kept (s : State) : kept (loadRunning s) = kept s := by simp [loadRunning]

@[simp] theorem failBank_kept (s : State) (b : Nat) : kept (failBank s b) = kept s := by simp [failBank]

@[simp] theorem firstChoice_kept (s : State) : kept (firstChoice s).1 = kept s := by
  unfold firstChoice
  (try dsimp only)
  (repeat' split) <;> simp

@[simp] theorem takeBank_kept (s : State) (b : Nat) : kept (takeBank s b) = kept s := by simp [takeBank]

@[simp] theorem selectBank_kept (s : State) (good : Nat → Bool) : kept (selectBank s good).1 = kept s := by
  unfold selectBank
  (try dsimp only)
  (repeat' split) <;> simp

@[simp] theorem mpStarts_kept (s : State) : kept (mpStarts s) = kept s := by simp [mpStarts]

@[simp] theorem trainingFailed_kept (s : State) : kept (trainingFailed s) = kept s := by simp [trainingFailed]

@[simp] theorem restoreWear_kept (s : State) (a : Replay) : kept (restoreWear s a) = kept s := by
  unfold restoreWear
  (try dsimp only)
  (repeat' split) <;> simp (disch := (intros; (try dsimp only); (repeat' split) <;> simp))

@[simp] theorem restoreDistance_kept (s : State) (d q : Int) : kept (restoreDistance s d q) = kept s := by simp [restoreDistance]

@[simp] theorem restoreCounts_kept (s : State) (a : Replay) : kept (restoreCounts s a) = kept s := by simp [restoreCounts]

@[simp] theorem openInclusion_kept (s : State) (h : Nat × Nat × Bytes × T32) : kept (openInclusion s h) = kept s := by
  simp [openInclusion]

@[simp] theorem openJournal_kept (s : State) : kept (openJournal s) = kept s := by simp [openJournal]

@[simp] theorem noteTorn_kept (s : State) (recs : List JRec) : kept (noteTorn s recs) = kept s := by
  unfold noteTorn
  (try dsimp only)
  (repeat' split) <;> simp

@[simp] theorem noteCorrupt_kept (s : State) (recs : List JRec) (corrupt : List Nat) :
    kept (noteCorrupt s recs corrupt) = kept s := by
  simp [noteCorrupt]

@[simp] theorem startFabric_kept (s : State) : kept (startFabric s) = kept s := by simp [startFabric]

@[simp] theorem applyStart_kept (s : State) : kept (applyStart s) = kept s := by simp [applyStart]

@[simp] theorem startTarget_kept (s : State) (reported : Bool) : kept (startTarget s reported).1 = kept s := by
  unfold startTarget
  (try dsimp only)
  (repeat' split) <;> simp

@[simp] theorem loadFailed_kept (s : State) : kept (loadFailed s) = kept s := by simp [loadFailed]

@[simp] theorem selfTested_kept (s : State) : kept (selfTested s) = kept s := by simp [selfTested]

@[simp] theorem logPhase_kept (before after : State) : kept (logPhase before after) = kept after := by
  unfold logPhase
  dsimp only
  repeat' split
  all_goals simp

@[simp] theorem warmPhase2_kept (s : State) : kept (warmPhase2 s) = kept s := by simp [warmPhase2]

@[simp] theorem turnCold_kept (s : State) : kept (turnCold s) = kept s := by simp [turnCold]

@[simp] theorem updAbandoned_kept (s : State) (cause : Nat) : kept (updAbandoned s cause) = kept s := by simp [updAbandoned]

@[simp] theorem updResult_kept (s : State) (code reason : Nat) : kept (updResult s code reason).1 = kept s := by simp [updResult]

@[simp] theorem beginStagingWrite_kept (s : State) (dest : ReplyTo) : kept (beginStagingWrite s dest).1 = kept s := by
  simp [beginStagingWrite]

@[simp] theorem verifyWrite_kept (s : State) : kept (verifyWrite s).1 = kept s := by simp [verifyWrite]

@[simp] theorem discardWrite_kept (s : State) : kept (discardWrite s).1 = kept s := by simp [discardWrite]

@[simp] theorem toTrial_kept (s : State) (b : Nat) : kept (toTrial s b) = kept s := by simp [toTrial]

@[simp] theorem abortTransfers_kept (s : State) : kept (abortTransfers s) = kept s := by
  unfold abortTransfers
  refine kept_foldl _ ?_ _ _
  intro t cn
  repeat' split
  all_goals simp

@[simp] theorem startPause_kept (s : State) : kept (startPause s) = kept s := by simp [startPause]

@[simp] theorem partWrite_kept (s : State) (part : Nat) (data : Bytes) (failed : Option Nat) :
    kept (partWrite s part data failed).1 = kept s := by
  unfold partWrite
  (try dsimp only)
  (repeat' split) <;> simp

@[simp] theorem pausePhase1_kept (s : State) : kept (pausePhase1 s) = kept s := by simp [pausePhase1]

@[simp] theorem pausePhase2_kept (s : State) (good : Bool) : kept (pausePhase2 s good) = kept s := by cases good <;> rfl

@[simp] theorem handoverLost_kept (s : State) : kept (handoverLost s) = kept s := by simp [handoverLost]

@[simp] theorem recoveryTargetSet_kept (s : State) (v : Nat) : kept (recoveryTargetSet s v).1 = kept s := by
  simp [recoveryTargetSet]

@[simp] theorem latchWrite_kept (s : State) (ses idx v : Nat) : kept (latchWrite s ses idx v).1 = kept s := by
  unfold latchWrite
  (try dsimp only)
  (repeat' split) <;> simp

@[simp] theorem eventRead_kept (s : State) (ses : Nat) : kept (eventRead s ses).1 = kept s := by simp [eventRead]

@[simp] theorem eventSeek_kept (s : State) (ses : Nat) (pos : BitVec 32) : kept (eventSeek s ses pos) = kept s := by
  simp [eventSeek]

@[simp] theorem challengeRead_kept (s : State) (ses : Nat) : kept (challengeRead s ses).1 = kept s := by simp [challengeRead]

theorem readEffect_kept (s : State) (ses idx sub : Nat) (r : State × Bytes) (h : readEffect s ses idx sub = some r) : kept r.1 = kept s := by
  unfold readEffect at h
  repeat' split at h
  all_goals simp_all
  all_goals (subst h; simp)
@[simp] theorem readObject_kept (s : State) (ses idx sub : Nat) : kept (readObject s ses idx sub).1 = kept s := by
  unfold readObject
  split
  · rfl
  · split
    · rename_i h
      exact readEffect_kept _ _ _ _ _ h
    · rfl

@[simp] theorem authFailed_kept (s : State) (transport reason : Nat) : kept (authFailed s transport reason) = kept s := by
  simp [authFailed]

@[simp] theorem responseWrite_kept (s : State) (ses : Nat) (v : Bytes) : kept (responseWrite s ses v).1 = kept s := by
  unfold responseWrite
  (try dsimp only)
  (repeat' split) <;> simp

@[simp] theorem keepAwakeWrite_kept (s : State) (v : Nat) : kept (keepAwakeWrite s v).1 = kept s := by simp [keepAwakeWrite]

@[simp] theorem callWrite_kept (s : State) (v : Bytes) : kept (callWrite s v).1 = kept s := by simp [callWrite]

@[simp] theorem fwdFlush_kept (s : State) (v : Nat) : kept (fwdFlush s v).1 = kept s := by
  unfold fwdFlush
  (try dsimp only)
  (repeat' split) <;> simp

@[simp] theorem persistWrite_kept (s : State) (dest : ReplyTo) (body : JBody) (own : Nat) :
    kept (persistWrite s dest body own).1 = kept s := by
  simp [persistWrite]

@[simp] theorem answerRead_kept (s : State) (ses : SessionNo) (dest : ReplyTo) (idx sub : Nat) :
    kept (answerRead s ses dest idx sub) = kept s := by
  simp [answerRead]

@[simp] theorem setPartial_kept (s : State) (ses idx sub : Nat) (data : Bytes) :
    kept (setPartial s ses idx sub data) = kept s := by
  simp [setPartial]

@[simp] theorem dropPartial_kept (s : State) (ses idx sub : Nat) : kept (dropPartial s ses idx sub) = kept s := by
  simp [dropPartial]

@[simp] theorem segmentOf_kept (idx sub : Nat) (r : State × Nat × Bytes) (offset len : Nat) : kept (segmentOf idx sub r offset len).1 = kept r.1 := by
  unfold segmentOf
  repeat' split
  all_goals rfl

@[simp] theorem mosRequest_kept (s : State) (slot : Fin 8) (head : MosHead) (kind : BitVec 8) (tag index : BitVec 16) (sub : BitVec 8)
    (offset : BitVec 32) (act : State → ReplyTo → State) (h : ∀ t d, kept (act t d) = kept t) :
    kept (mosRequest s slot head kind tag index sub offset act) = kept s := by
  unfold mosRequest
  dsimp only
  repeat' split
  all_goals simp [h]

@[simp] theorem setSub_kept (s : State) (slot : Nat) (f : Subscription → Subscription) : kept (setSub s slot f) = kept s := by
  simp [setSub]

@[simp] theorem sendRecords_kept (s : State) (slot : Nat) (seqs : List Nat) : kept (sendRecords s slot seqs) = kept s := by
  simp [sendRecords]

@[simp] theorem movePast_kept (s : State) (slot n : Nat) : kept (movePast s slot n) = kept s := by simp [movePast]

@[simp] theorem countLost_kept (s : State) (n : Nat) : kept (countLost s n) = kept s := by simp [countLost]

@[simp] theorem sdoUpload_kept (s : State) (cn : Fin 8) (idx sub : Nat) : kept (sdoUpload s cn idx sub) = kept s := by
  simp [sdoUpload]

@[simp] theorem sdoUploadSegment_kept (s : State) (cn idx sub : Nat) (rest : Bytes) (expected toggle : Bool) :
    kept (sdoUploadSegment s cn idx sub rest expected toggle) = kept s := by
  simp [sdoUploadSegment]

@[simp] theorem sdoDownload_kept (s : State) (cn idx sub : Nat) (size : Option Nat) :
    kept (sdoDownload s cn idx sub size) = kept s := by
  unfold sdoDownload
  (try dsimp only)
  (repeat' split) <;> simp

@[simp] theorem sdoBlockDownload_kept (s : State) (cn idx sub : Nat) (size : Option Nat) (crc : Bool) :
    kept (sdoBlockDownload s cn idx sub size crc) = kept s := by
  unfold sdoBlockDownload
  (try dsimp only)
  (repeat' split) <;> simp

@[simp] theorem sdoBlockSegment_kept (s : State) (cn idx sub : Nat) (got : Bytes) (size : Option Nat) (crc : Bool) (next seqno : Nat) (data : Bytes) (last : Bool) :
    kept (sdoBlockSegment s cn idx sub got size crc next seqno data last) = kept s := by
  simp [sdoBlockSegment]

@[simp] theorem sdoBlockUpload_kept (s : State) (cn idx sub blksize : Nat) (crc : Bool) :
    kept (sdoBlockUpload s cn idx sub blksize crc) = kept s := by
  simp [sdoBlockUpload]

@[simp] theorem sdoBlock_kept (s : State) (cn : Nat) (rest : Bytes) (blksize : Nat) :
    kept (sdoBlock s cn rest blksize) = kept s := by
  simp [sdoBlock]

@[simp] theorem sdoBlockAck_kept (s : State) (cn idx sub : Nat) (rest whole : Bytes) (crc : Bool) (ackseq blksize : Nat) :
    kept (sdoBlockAck s cn idx sub rest whole crc ackseq blksize) = kept s := by
  simp [sdoBlockAck]

@[simp] theorem sdoUnknown_kept (s : State) (cn : Nat) : kept (sdoUnknown s cn) = kept s := by simp [sdoUnknown]

@[simp] theorem spiBegin_kept (s : State) : kept (spiBegin s) = kept s := by simp [spiBegin]

@[simp] theorem spiCrcError_kept (s : State) : kept (spiCrcError s) = kept s := by simp [spiCrcError]

@[simp] theorem spiRefuse_kept (s : State) : kept (spiRefuse s) = kept s := by simp [spiRefuse]

@[simp] theorem spiFrame_kept (s : State) (frame : Bytes) (cmd len : Nat) (fits : Bool) (act : State → State) (h : ∀ t, kept (act t) = kept t) :
    kept (spiFrame s frame cmd len fits act) = kept s := by
  unfold spiFrame
  dsimp only
  repeat' split
  all_goals simp [h]

@[simp] theorem spiReadAct_kept (frame : Bytes) (s : State) : kept (spiReadAct frame s) = kept s := by
  unfold spiReadAct
  extract_lets idx sub d _src s1 r q
  have h1 : kept s1 = kept s := rfl
  have hr : kept r.1 = kept s := (readObject_kept _ _ _ _).trans h1
  clear_value s1
  split
  · simp [h1]
  · rw [reply_kept]
    exact (segmentOf_kept _ _ _ _ _).trans hr

@[simp] theorem spiFetch_kept (n : Nat) (s : State) : kept (spiFetch n s) = kept s := by
  unfold spiFetch
  (try dsimp only)
  (repeat' split) <;> simp

@[simp] theorem tapLoad_kept (s : State) (ir : BitVec 8) (dr : BitVec 192) : kept (tapLoad s ir dr) = kept s := by simp [tapLoad]

@[simp] theorem tapBypass_kept (s : State) (ir : BitVec 8) : kept (tapBypass s ir) = kept s := by simp [tapBypass]

@[simp] theorem tapHeld_kept (s : State) (held : Bool) : kept (tapHeld s held) = kept s := by simp [tapHeld]

end Sys2Proof.Machine
end

