-- ==== Sys2Proof/Laws/Tables.lean ====
section
/-! SUPPORT. Reading and writing the sparse tables: what is read after a write, and that rising keys and the canonical form of
the values in force are kept. -/

namespace Sys2Proof.Machine

/-- Every key of the table is above k. -/
def keysAbove {α : Type} (k : Nat) (t : Tbl α) : Prop := ∀ e ∈ t, k < e.1

theorem keysAbove_nil {α : Type} (k : Nat) : keysAbove k ([] : Tbl α) := by simp [keysAbove]

theorem keysAbove_cons {α : Type} (k : Nat) (e : Nat × α) (t : Tbl α) : keysAbove k (e :: t) ↔ k < e.1 ∧ keysAbove k t := by
  simp [keysAbove]

theorem sortedKeys_cons {α : Type} (e : Nat × α) (t : Tbl α) : sortedKeys (e :: t) = true ↔ keysAbove e.1 t ∧ sortedKeys t = true := by
  induction t generalizing e with
  | nil => simp [sortedKeys, keysAbove]
  | cons f r ih =>
    have hf := ih f
    simp only [sortedKeys, Bool.and_eq_true, decide_eq_true_eq, keysAbove_cons]
    constructor
    · rintro ⟨h, hs⟩
      refine ⟨⟨h, ?_⟩, hs⟩
      intro g hg
      exact Nat.lt_trans h ((hf.1 hs).1 g hg)
    · rintro ⟨⟨h, -⟩, hs⟩
      exact ⟨h, hs⟩

theorem keysAbove_tput {α : Type} (k j : Nat) (v : α) (t : Tbl α) (h : k < j) (ht : keysAbove k t) : keysAbove k (tput t j v) := by
  induction t with
  | nil => simp [tput, keysAbove, h]
  | cons e r ih =>
    rw [keysAbove_cons] at ht
    unfold tput
    split
    · simp [keysAbove_cons, h, ht]
    · split
      · simp [keysAbove_cons, h, ht]
      · simp [keysAbove_cons, ht, ih ht.2]

theorem keysAbove_tdel {α : Type} (k j : Nat) (t : Tbl α) (ht : keysAbove k t) : keysAbove k (tdel t j) := by
  induction t with
  | nil => exact ht
  | cons e r ih =>
    rw [keysAbove_cons] at ht
    unfold tdel
    split
    · exact ht.2
    · split
      · simp [keysAbove_cons, ht]
      · simp [keysAbove_cons, ht, ih ht.2]

theorem sortedKeys_tput {α : Type} (t : Tbl α) (k : Nat) (v : α) (h : sortedKeys t = true) : sortedKeys (tput t k v) = true := by
  induction t with
  | nil => rfl
  | cons e r ih =>
    rw [sortedKeys_cons] at h
    unfold tput
    split
    · rename_i hk
      refine (sortedKeys_cons _ _).2 ⟨?_, (sortedKeys_cons _ _).2 h⟩
      exact (keysAbove_cons _ _ _).2 ⟨hk, fun g hg => Nat.lt_trans hk (h.1 g hg)⟩
    · split
      · rename_i hk
        subst hk
        exact (sortedKeys_cons _ _).2 h
      · refine (sortedKeys_cons _ _).2 ⟨keysAbove_tput _ _ _ _ ?_ h.1, ih h.2⟩
        simp only at *
        omega

theorem sortedKeys_tdel {α : Type} (t : Tbl α) (k : Nat) (h : sortedKeys t = true) : sortedKeys (tdel t k) = true := by
  induction t with
  | nil => rfl
  | cons e r ih =>
    rw [sortedKeys_cons] at h
    unfold tdel
    split
    · exact h.2
    · split
      · exact (sortedKeys_cons _ _).2 h
      · exact (sortedKeys_cons _ _).2 ⟨keysAbove_tdel _ _ _ h.1, ih h.2⟩

/-- A key above which all others lie is not in the table. -/
theorem tget_above {α : Type} (t : Tbl α) (k : Nat) (h : keysAbove k t) : tget t k = none := by
  cases t with
  | nil => rfl
  | cons e r =>
    have := ((keysAbove_cons _ _ _).1 h).1
    unfold tget
    rw [if_neg (by omega), if_pos this]

@[simp] theorem tget_tput_same {α : Type} (t : Tbl α) (k : Nat) (v : α) : tget (tput t k v) k = some v := by
  induction t with
  | nil => simp [tput, tget]
  | cons e r ih =>
    unfold tput
    split
    · simp [tget]
    · split
      · simp [tget]
      · rename_i h1 h2
        unfold tget
        rw [if_neg h2, if_neg h1]
        exact ih

theorem tget_tput_other {α : Type} (t : Tbl α) (k j : Nat) (v : α) (h : sortedKeys t = true) (hj : j ≠ k) :
    tget (tput t k v) j = tget t j := by
  induction t with
  | nil => simp only [tput, tget]; split <;> simp_all
  | cons e r ih =>
    rw [sortedKeys_cons] at h
    obtain ⟨i, w⟩ := e
    simp only at h
    unfold tput
    split
    · rename_i hk
      rw [tget, if_neg (Ne.symm hj)]
      split
      · rename_i hjk
        exact (tget_above _ _ ((keysAbove_cons _ _ _).2 ⟨by simp only; omega, fun g hg => by have := h.1 g hg; omega⟩)).symm
      · rfl
    · split
      · rename_i hk
        subst hk
        simp only [tget, if_neg (Ne.symm hj)]
      · simp only [tget, ih h.2]

theorem tget_tdel_same {α : Type} (t : Tbl α) (k : Nat) (h : sortedKeys t = true) : tget (tdel t k) k = none := by
  induction t with
  | nil => rfl
  | cons e r ih =>
    rw [sortedKeys_cons] at h
    obtain ⟨i, w⟩ := e
    unfold tdel
    split
    · rename_i hk
      subst hk
      exact tget_above _ _ h.1
    · split
      · rename_i h1 h2
        rw [tget, if_neg h1, if_pos h2]
      · rename_i h1 h2
        rw [tget, if_neg h1, if_neg h2]
        exact ih h.2

theorem tget_tdel_other {α : Type} (t : Tbl α) (k j : Nat) (h : sortedKeys t = true) (hj : j ≠ k) : tget (tdel t k) j = tget t j := by
  induction t with
  | nil => rfl
  | cons e r ih =>
    rw [sortedKeys_cons] at h
    obtain ⟨i, w⟩ := e
    simp only at h
    unfold tdel
    split
    · rename_i hk
      subst hk
      simp only [tget, if_neg (Ne.symm hj)]
      split
      · exact tget_above _ _ (fun g hg => by have := h.1 g hg; omega)
      · rfl
    · split
      · rfl
      · simp only [tget, ih h.2]

theorem tput_mem {α : Type} (t : Tbl α) (k : Nat) (v : α) (e : Nat × α) (h : e ∈ tput t k v) : e = (k, v) ∨ e ∈ t := by
  induction t with
  | nil => exact .inl (by simpa [tput] using h)
  | cons f r ih =>
    unfold tput at h
    split at h
    · simpa using h
    · split at h
      · rcases List.mem_cons.1 h with h | h
        · exact .inl h
        · exact .inr (List.mem_cons_of_mem _ h)
      · rcases List.mem_cons.1 h with h | h
        · exact .inr (h ▸ List.mem_cons_self)
        · exact (ih h).imp id (List.mem_cons_of_mem _)

theorem tdel_mem {α : Type} (t : Tbl α) (k : Nat) (e : Nat × α) (h : e ∈ tdel t k) : e ∈ t := by
  induction t with
  | nil => exact h
  | cons f r ih =>
    unfold tdel at h
    split at h
    · exact List.mem_cons_of_mem _ h
    · split at h
      · exact h
      · rcases List.mem_cons.1 h with h | h
        · exact h ▸ List.mem_cons_self
        · exact List.mem_cons_of_mem _ (ih h)

/-- A count of a counter table after a write of that count and of another. -/
@[simp] theorem tnat_tput_same (t : Tbl Nat) (k v : Nat) : tnat (tput t k v) k = v := by simp [tnat]

theorem tnat_tput_other (t : Tbl Nat) (k j v : Nat) (h : sortedKeys t = true) (hj : j ≠ k) : tnat (tput t k v) j = tnat t j := by
  simp [tnat, tget_tput_other t k j v h hj]

theorem canonical_nil : CanonicalConfig [] := ⟨rfl, by simp⟩

/-- A value written keeps the canonical form; the key of an object with a subindex below 256 names that object alone. -/
theorem canonical_cfgPut (t : Tbl Bytes) (idx sub : Nat) (v : Bytes) (hs : sub < 256) (h : CanonicalConfig t) :
    CanonicalConfig (cfgPut t idx sub v) := by
  unfold cfgPut
  split
  · exact ⟨sortedKeys_tdel _ _ h.1, fun e he => h.2 e (tdel_mem _ _ _ he)⟩
  · rename_i hv
    refine ⟨sortedKeys_tput _ _ _ h.1, fun e he => ?_⟩
    rcases tput_mem _ _ _ _ he with he | he
    · subst he
      have h1 : okey idx sub / 256 = idx := by unfold okey; omega
      have h2 : okey idx sub % 256 = sub := by unfold okey; omega
      simp only [h1, h2]
      exact hv
    · exact h.2 e he

/-- No row of the object table has a subindex above 255. -/
theorem objRow_sub (idx sub : Nat) (x : ObjRow) (h : objRow? idx sub = some x) : sub < 256 := by
  have low : ∀ n < 78, ∀ y ∈ objRows n, y.shi < 256 := by decide +kernel
  have high : ∀ n, 78 ≤ n → objRows n = [] := by
    intro n hn
    unfold objRows
    split <;> first | rfl | omega
  unfold objRow? at h
  have hm := List.mem_of_find?_eq_some h
  have hp := List.find?_some h
  simp only [Bool.and_eq_true, decide_eq_true_eq] at hp
  rcases Nat.lt_or_ge (idx / 256) 78 with hn | hn
  · have := low _ hn _ hm
    omega
  · rw [high _ hn] at hm
    exact absurd hm (List.not_mem_nil)

end Sys2Proof.Machine
end

