-- ==== Sys2Proof/Laws/Sound.lean ====
section
/-! SUPPORT. The operations that write the configuration, the state or the fuses: what `kept` is after each, and that the queue
is the same, no fuse is taken back, and the values in force stay canonical. -/

namespace Sys2Proof.Machine

/-- What `kept` gathers. -/
abbrev Kept := List Instr × Tbl Bytes × OpState × Nat × Bool

def withState (k : Kept) (x : OpState) : Kept := (k.1, k.2.1, x, k.2.2.2)

def withConfig (k : Kept) (c : Tbl Bytes) : Kept := (k.1, c, k.2.2)

def withFuses (k : Kept) (n : Nat) (l : Bool) : Kept := (k.1, k.2.1, k.2.2.1, n, l)

@[simp low] theorem kept_state (s : State) (x : OpState) : (s.pending, s.cfg, x, s.upd.fuses, s.upd.lockFuse) = withState (kept s) x := rfl
@[simp low] theorem kept_config (s : State) (c : Tbl Bytes) : (s.pending, c, s.op.state, s.upd.fuses, s.upd.lockFuse) = withConfig (kept s) c := rfl
@[simp low] theorem kept_fuses (s : State) (n : Nat) (l : Bool) : (s.pending, s.cfg, s.op.state, n, l) = withFuses (kept s) n l := rfl
@[simp] theorem withState_same (s : State) : withState (kept s) s.op.state = kept s := rfl
@[simp] theorem withConfig_same (s : State) : withConfig (kept s) s.cfg = kept s := rfl
@[simp] theorem withFuses_same (s : State) : withFuses (kept s) s.upd.fuses s.upd.lockFuse = kept s := rfl

/-- The queue is the same, no fuse is taken back, and canonical values in force stay canonical. -/
def Sound (a b : Kept) : Prop :=
  b.1 = a.1 ∧ (CanonicalConfig a.2.1 → CanonicalConfig b.2.1) ∧ a.2.2.2.1 ≤ b.2.2.2.1 ∧ (a.2.2.2.2 = true → b.2.2.2.2 = true)

/-- Only the values in force differ, and they stay canonical. -/
def OnlyConfig (a b : Kept) : Prop := b = withConfig a b.2.1 ∧ (CanonicalConfig a.2.1 → CanonicalConfig b.2.1)

@[simp] theorem Sound.refl (a : Kept) : Sound a a := ⟨rfl, id, Nat.le_refl _, id⟩

theorem Sound.trans {a b c : Kept} (h : Sound a b) (g : Sound b c) : Sound a c :=
  ⟨g.1.trans h.1, g.2.1 ∘ h.2.1, Nat.le_trans h.2.2.1 g.2.2.1, g.2.2.2 ∘ h.2.2.2⟩

@[simp] theorem Sound.withState (a : Kept) (x : OpState) : Sound a (withState a x) := ⟨rfl, id, Nat.le_refl _, id⟩

@[simp] theorem OnlyConfig.refl (a : Kept) : OnlyConfig a a := ⟨rfl, id⟩

theorem OnlyConfig.same {a b : Kept} (h : b = a) : OnlyConfig a b := h ▸ OnlyConfig.refl a

theorem Sound.same {a b : Kept} (h : b = a) : Sound a b := h ▸ Sound.refl a

theorem OnlyConfig.trans {a b c : Kept} (h : OnlyConfig a b) (g : OnlyConfig b c) : OnlyConfig a c := by
  refine ⟨?_, g.2 ∘ h.2⟩
  rw [g.1, h.1]
  rfl

theorem OnlyConfig.sound {a b : Kept} (h : OnlyConfig a b) : Sound a b := by
  obtain ⟨h, c⟩ := h
  rw [h]
  exact ⟨rfl, c, Nat.le_refl _, id⟩

theorem OnlyConfig.put (a : Kept) (idx sub : Nat) (v : Bytes) (hs : sub < 256) : OnlyConfig a (withConfig a (cfgPut a.2.1 idx sub v)) :=
  ⟨rfl, canonical_cfgPut _ _ _ _ hs⟩

theorem foldl_onlyConfig {α : Type} (f : State → α → State) (h : ∀ t x, OnlyConfig (kept t) (kept (f t x))) (l : List α) (s : State) :
    OnlyConfig (kept s) (kept (l.foldl f s)) := by
  induction l generalizing s with
  | nil => exact OnlyConfig.refl _
  | cons x r ih => exact (h s x).trans (ih _)

theorem foldl_sound {α : Type} (f : State → α → State) (h : ∀ t x, Sound (kept t) (kept (f t x))) (l : List α) (s : State) :
    Sound (kept s) (kept (l.foldl f s)) := by
  induction l generalizing s with
  | nil => exact Sound.refl _
  | cons x r ih => exact (h s x).trans (ih _)

theorem valueLands_config (s : State) (key : Nat) (v : Bytes) : OnlyConfig (kept s) (kept (valueLands s key v)) := by
  unfold valueLands
  dsimp only
  repeat' split
  · simp
    exact OnlyConfig.put (kept s) _ _ _ (Nat.mod_lt _ (by decide))
  · simp
  · simp
    exact OnlyConfig.put (kept s) _ _ _ (Nat.mod_lt _ (by decide))

theorem recordSealed_config (s : State) (b : JBody) (dest : ReplyTo) : OnlyConfig (kept s) (kept (recordSealed s b dest)) := by
  cases b
  case value k v =>
    unfold recordSealed
    dsimp only
    split
    · exact OnlyConfig.refl _
    · rw [reply_kept]
      exact valueLands_config _ _ _
  case checkpointEnd =>
    unfold recordSealed
    dsimp only
    split
    · rw [raise_kept]
      exact OnlyConfig.refl (kept s)
    · exact OnlyConfig.refl (kept s)
  case cleared k =>
    unfold recordSealed
    dsimp only
    rw [reply_kept]
    exact OnlyConfig.refl (kept s)
  all_goals exact OnlyConfig.refl (kept s)

theorem writeRecord_config (s : State) (ok : Bool) : OnlyConfig (kept s) (kept (writeRecord s ok)) := by
  unfold writeRecord
  dsimp only
  repeat' split
  all_goals simp
  all_goals exact OnlyConfig.trans (by simp) (recordSealed_config _ _ _)

theorem sealAll_config (s : State) (fuel : Nat) : OnlyConfig (kept s) (kept (sealAll s fuel)) := by
  induction fuel generalizing s with
  | zero => exact OnlyConfig.refl _
  | succ k ih =>
    unfold sealAll
    split
    · exact OnlyConfig.refl _
    · exact (writeRecord_config _ _).trans (ih _)

@[simp] theorem noteState_kept (s : State) (new : OpState) (cause : Nat) : kept (noteState s new cause) = withState (kept s) new := by
  simp [noteState]

@[simp] theorem enterState_kept (s : State) (new : OpState) (cause : Nat) : kept (enterState s new cause) = withState (kept s) new := by
  simp [enterState]

@[simp] theorem coldBlocks_kept (s : State) : kept (coldBlocks s) = (s.pending, [], OpState.start, s.upd.fuses, s.upd.lockFuse) := rfl

/-- A restart takes every value in force back to its default and the state to Start; the queue and the fuses stay. -/
def restarted (k : Kept) : Kept := (k.1, [], OpState.start, k.2.2.2)

@[simp] theorem restarted_sound (k : Kept) : Sound k (restarted k) := ⟨rfl, fun _ => canonical_nil, Nat.le_refl _, id⟩

@[simp] theorem restart_kept (b : State) (cause : Nat) (straps : Straps) (recovery : Bool) : kept (restart b cause straps recovery) = restarted (kept b) := by
  unfold restart
  extract_lets s _src _cs c _time t _op op t0 t1 t2 t3 lost
  have hs : kept s = kept b := abandonValidation_kept b
  have ht : kept t = restarted (kept b) := by
    dsimp only [t]
    rw [clockRestart_kept, ← hs]
    rfl
  have h0 : kept t0 = restarted (kept b) := by
    have h : kept t0 = withState (kept t) OpState.start := by
      simp only [t0, kept_mk, kept_state]
      rfl
    rw [h, ht]
    rfl
  clear_value t0
  have h3 : kept t3 = restarted (kept b) := by
    simp only [t3, t2, t1]
    split <;> simp [h0]
  split <;> simp [h3]

@[simp] theorem gpFault_kept (s : State) (cause entry : Nat) (sig1 sig2 : BitVec 64) : kept (gpFault s cause entry sig1 sig2) = withState (kept s) OpState.safe := by
  unfold gpFault
  extract_lets task window probe f code s1 _gp s2 s2b _gp2 s3 s4 s5 num
  have h1 : kept s1 = kept s := by simp [s1]
  clear_value s1
  have h2 : kept s2 = kept s := by simp [s2, h1]
  have h2b : kept s2b = withState (kept s) OpState.safe := by simp only [s2b, enterState_kept, h2]
  clear_value s2b
  have h3 : kept s3 = withState (kept s) OpState.safe := by simp [s3, h2b]
  have h4 : kept s4 = withState (kept s) OpState.safe := by simp only [s4, recordInclusion_kept, h3]
  clear_value s4
  have h5 : kept s5 = withState (kept s) OpState.safe := by
    simp only [s5]
    repeat' split
    all_goals simp [h4]
  simp [h5]

@[simp] theorem goSafe_kept (t : State) : kept (goSafe t) = withState (kept t) OpState.safe := by
  unfold goSafe
  extract_lets t1 _gp t2 t3
  have h1 : kept t1 = withState (kept t) OpState.safe := by simp [t1]
  clear_value t1
  have h3 : kept t3 = withState (kept t) OpState.safe := by simp [t3, t2, h1]
  clear_value t3
  split
  · exact h3
  · exact Eq.trans rfl h3

theorem enterSleep_kept (s : State) : kept (enterSleep s) = withState (kept s) (if s.slp.ballot.kind = 2 then OpState.deepSleep else OpState.lightSleep) := by
  simp only [enterSleep]
  by_cases h : s.slp.ballot.kind = 2 <;> simp [h]

theorem reachCommit_sound (s : State) : Sound (kept s) (kept (reachCommit s)) := by
  unfold reachCommit
  repeat' split
  · simp
  · rw [enterSleep_kept]; simp
  · simp

@[simp] theorem warmStart_kept (s : State) : kept (warmStart s) = restarted (kept s) := by
  unfold warmStart
  extract_lets s1
  have h : kept s1 = restarted (kept s) := by simp [s1]
  clear_value s1
  exact Eq.trans rfl h

theorem wakeUp_sound (s : State) : Sound (kept s) (kept (wakeUp s)) := by
  unfold wakeUp
  dsimp only
  split <;> simp

theorem entryDone_config (s : State) : OnlyConfig (kept s) (kept (entryDone s)) := by
  unfold entryDone
  extract_lets s1 _pins _slp s2 s3
  have h2 : OnlyConfig (kept s) (kept s2) := by
    simp [s2, s1]
    exact sealAll_config _ _
  split
  · simpa [s3] using h2
  · exact h2

theorem acceptSource_sound (s : State) (n : Nat) : Sound (kept s) (kept (acceptSource s n)) := by
  unfold acceptSource
  refine Sound.trans (reachCommit_sound s) ?_
  dsimp only
  repeat' split
  all_goals first
    | (simp; done)
    | with_reducible exact Sound.trans (by simp) (wakeUp_sound _)

theorem withEntries_canonical (t : Tbl Bytes) (es : List (Nat × Bytes)) (h : CanonicalConfig t) : CanonicalConfig (withEntries t es) := by
  unfold withEntries
  induction es generalizing t with
  | nil => exact h
  | cons e r ih => exact ih _ (canonical_cfgPut _ _ _ _ (Nat.mod_lt _ (by decide)) h)

@[simp] theorem applySet_kept (s : State) (es : List (Nat × Bytes)) : kept (applySet s es) = withConfig (kept s) (withEntries (thaw s).cfg es) := by
  unfold applySet
  extract_lets s0 gen _cs s1 carried s2
  have h0 : kept s0 = kept (thaw s) := by
    simp only [s0, creditsAll_kept]
  have hc : s0.cfg = (thaw s).cfg := by
    simp only [kept, Prod.mk.injEq] at h0
    exact h0.2.1
  clear_value s0
  have h1 : kept s1 = withConfig (kept s) (withEntries (thaw s).cfg es) := by
    rw [thaw_kept] at h0
    simp [s1, h0, hc]
  clear_value s1
  simp [s2, h1]

theorem applySet_config (s : State) (es : List (Nat × Bytes)) : OnlyConfig (kept s) (kept (applySet s es)) := by
  rw [applySet_kept]
  refine ⟨rfl, fun h => withEntries_canonical _ _ ?_⟩
  have : kept (thaw s) = kept s := thaw_kept s
  simp only [kept, Prod.mk.injEq] at this
  rw [this.2.1]
  exact h

theorem applyArmed_config (s : State) : OnlyConfig (kept s) (kept (applyArmed s)) := by
  unfold applyArmed
  split
  · exact OnlyConfig.refl _
  · rw [jAppend_kept]
    exact OnlyConfig.trans (by simp) (applySet_config _ _)

theorem armedDue_config (s : State) : OnlyConfig (kept s) (kept (armedDue s)) := by
  unfold armedDue
  split
  · simp
  · exact applyArmed_config s

theorem applyAfterPause_config (s : State) : OnlyConfig (kept s) (kept (applyAfterPause s)) := by
  unfold applyAfterPause
  split
  · exact OnlyConfig.refl _
  · rw [raise_kept]
    exact applyArmed_config s

theorem applyAtEvent_config (s : State) (n : Nat) : OnlyConfig (kept s) (kept (applyAtEvent s n)) := by
  unfold applyAtEvent
  repeat' split
  · exact armedDue_config s
  all_goals simp

theorem stepArmed_config (s : State) (delta : Int) : OnlyConfig (kept s) (kept (stepArmed s delta)) := by
  unfold stepArmed
  repeat' split
  all_goals try simp
  all_goals exact applyArmed_config s

theorem stepClock_config (s : State) (target : Nat) : OnlyConfig (kept s) (kept (stepClock s target)) := by
  unfold stepClock
  exact OnlyConfig.trans (by simp) (stepArmed_config _ _)

theorem csPassed_config (s : State) (p : PendingSet) (k : CsCommand) (dest : ReplyTo) : OnlyConfig (kept s) (kept (csPassed s p k dest)) := by
  unfold csPassed
  dsimp only
  split
  · simp
  · rw [csAnswer_kept, jAppend_kept, jAppend_kept]
    exact OnlyConfig.trans (by simp) (applySet_config _ _)
  · split <;> simp
  · simp

theorem requestNormal_kept (s : State) : kept (requestNormal s).1 = kept s ∨ kept (requestNormal s).1 = withState (kept s) OpState.normal := by
  unfold requestNormal
  split <;> simp

theorem requestNormal_sound (s : State) : Sound (kept s) (kept (requestNormal s).1) := by
  rcases requestNormal_kept s with h | h <;> simp [h]

theorem correct_config (s : State) (offset : Int) : OnlyConfig (kept s) (kept (correct s offset)) := by
  unfold correct
  dsimp only
  split
  · exact OnlyConfig.trans (by simp) (stepClock_config _ _)
  · split <;> simp

theorem servo_config (s : State) (offset : Int) : OnlyConfig (kept s) (kept (servo s offset)) := by
  unfold servo
  dsimp only
  rw [judgeLock_kept]
  refine OnlyConfig.trans ?_ (correct_config _ _)
  split <;> simp

theorem setTimeWrite_config (s : State) (v : Bytes) : OnlyConfig (kept s) (kept (setTimeWrite s v).1) := by
  unfold setTimeWrite
  split
  · exact OnlyConfig.refl _
  · dsimp only
    exact OnlyConfig.trans (OnlyConfig.same (by simp)) (stepClock_config _ _)

theorem fireEvent_config (applySet : State → Nat → State) (s : State) (n : Nat) (stamp : T32)
    (h : ∀ t, OnlyConfig (kept t) (kept (applySet t n))) : OnlyConfig (kept s) (kept (fireEvent applySet s n stamp)) := by
  unfold fireEvent
  dsimp only
  split
  · split <;> exact OnlyConfig.same (by simp)
  · exact OnlyConfig.trans (OnlyConfig.same (by simp)) (h _)
  all_goals exact OnlyConfig.same (by simp)

theorem missEvent_config (applySet : State → Nat → State) (s : State) (n : Nat) (stamp : T32)
    (h : ∀ t, OnlyConfig (kept t) (kept (applySet t n))) : OnlyConfig (kept s) (kept (missEvent applySet s n stamp)) := by
  unfold missEvent
  dsimp only
  split
  · exact OnlyConfig.trans (OnlyConfig.same (by simp)) (fireEvent_config _ _ _ _ h)
  · exact OnlyConfig.same (by simp)

theorem compareTargets_config (applySet : State → Nat → State) (s : State) (stamp : T32) (passed : List Nat)
    (h : ∀ t n, OnlyConfig (kept t) (kept (applySet t n))) : OnlyConfig (kept s) (kept (compareTargets applySet s stamp passed)) := by
  unfold compareTargets
  split
  · refine foldl_onlyConfig _ ?_ _ _
    intro t n
    split
    · exact missEvent_config _ _ _ _ (fun t => h t n)
    · exact fireEvent_config _ _ _ _ (fun t => h t n)
  · exact OnlyConfig.refl _

theorem setDistanceWrite_config (s : State) (v : Bytes) : OnlyConfig (kept s) (kept (setDistanceWrite s v).1) := by
  unfold setDistanceWrite
  dsimp only
  exact OnlyConfig.trans (by simp) (compareTargets_config _ _ _ _ applyAtEvent_config)

@[simp] theorem goRecovery_kept (s : State) (cause : Nat) : kept (goRecovery s cause) = withState (kept s) OpState.recovery := by
  simp [goRecovery]

theorem startPhase2_sound (s : State) (good : Nat → Bool) : Sound (kept s) (kept (startPhase2 s good)) := by
  unfold startPhase2
  dsimp only
  repeat' split
  all_goals simp

/-- What the journal gives is in canonical form. -/
theorem journalReplay_canonical (s : State) (corrupt : List Nat) : CanonicalConfig (journalReplay s corrupt).cfg := by
  have step : ∀ (a : Replay) (b : JBody), CanonicalConfig a.cfg → CanonicalConfig (replayRecord a b).cfg := by
    intro a b h
    cases b
    case value k v =>
      simp only [replayRecord]
      split
      · exact h
      · exact canonical_cfgPut _ _ _ _ (Nat.mod_lt _ (by decide)) h
    case commit g =>
      simp only [replayRecord]
      split
      · exact h
      · exact withEntries_canonical _ _ h
    all_goals exact h
  have all : ∀ (l : List JRec) (a : Replay), CanonicalConfig a.cfg → CanonicalConfig (l.foldl (fun acc r => replayRecord acc r.body) a).cfg := by
    intro l
    induction l with
    | nil => exact fun a h => h
    | cons r l ih => exact fun a h => ih _ (step a r.body h)
  exact all _ _ canonical_nil

theorem restoreValues_config (s : State) (corrupt : List Nat) (u : State) : OnlyConfig (kept s) (kept (restoreValues s (journalReplay u corrupt))) := by
  simp only [restoreValues, restoreCounts_kept, kept_mk, kept_config]
  exact ⟨rfl, fun _ => journalReplay_canonical _ _⟩

theorem replayJournal_config (s : State) (corrupt : List Nat) : OnlyConfig (kept s) (kept (replayJournal s corrupt)) := by
  unfold replayJournal
  extract_lets recs a frozen s1 s2 _op s3
  have h2 : kept s2 = kept s := by
    simp only [s2, s1]
    split <;> simp
  have h3 : OnlyConfig (kept s) (kept s3) := by
    clear_value s2
    simp only [s3]
    split
    · exact OnlyConfig.same (Eq.trans rfl h2)
    · exact OnlyConfig.trans (OnlyConfig.same h2) (restoreValues_config _ _ _)
  simpa using h3

theorem startPhase6_config (s : State) (reported : Bool) : OnlyConfig (kept s) (kept (startPhase6 s reported)) := by
  unfold startPhase6
  extract_lets r _op
  have hr : kept r.1 = kept s := startTarget_kept _ _
  rw [applyStart_kept]
  exact OnlyConfig.same (Eq.trans rfl hr)

@[simp] theorem finishStart_kept (s : State) (new : OpState) (cause : Nat) : kept (finishStart s new cause) = withState (kept s) new := by
  simp [finishStart]

theorem finishStartSafe_kept (s : State) (probe : Bool) : kept (coldPhase.finishStartSafe s probe) = withState (kept s) OpState.safe := by
  unfold coldPhase.finishStartSafe
  extract_lets _op s1
  have h : kept s1 = withState (kept s) OpState.safe := by simp [s1, _op]
  clear_value s1
  exact Eq.trans rfl h

theorem coldPhase_sound (s : State) (r : PhaseReport) : Sound (kept s) (kept (coldPhase s r)) := by
  unfold coldPhase
  split
  all_goals first
    | with_reducible exact startPhase2_sound _ _
    | with_reducible exact (replayJournal_config _ _).sound
    | with_reducible exact (startPhase6_config _ _).sound
    | (rw [finishStartSafe_kept]; exact Sound.withState _ _)
    | with_reducible exact Sound.same (by simp)
    | (split <;> simp)

theorem warmPhase5_config (s : State) : OnlyConfig (kept s) (kept (warmPhase5 s)) := by
  unfold warmPhase5
  extract_lets a s1 s2 s3 _op
  have h1 : OnlyConfig (kept s) (kept s1) := OnlyConfig.trans (OnlyConfig.same (by simp)) (restoreValues_config (restoreWear s a) [] s)
  have h2 : kept s2 = kept s1 := by
    simp only [s2]
    split <;> simp
  have h3 : kept s3 = kept s1 := by simp [s3, h2]
  rw [applyStart_kept]
  exact h1.trans (OnlyConfig.same (Eq.trans rfl h3))

theorem warmPhase_sound (s : State) (r : PhaseReport) : Sound (kept s) (kept (warmPhase s r)) := by
  unfold warmPhase
  split
  all_goals first
    | with_reducible exact (warmPhase5_config _).sound
    | (rw [finishStartSafe_kept]; exact Sound.withState _ _)
    | (simp; done)

theorem confirm_kept (s : State) (b : Nat) : kept (confirm s b) = withFuses (kept s) (max s.upd.fuses (stepOf s b)) s.upd.lockFuse := by
  unfold confirm
  extract_lets n _upd s1 other s2
  have h1 : kept s1 = withFuses (kept s) n s.upd.lockFuse := by simp [s1, _upd]
  clear_value s1
  have h2 : kept s2 = withFuses (kept s) n s.upd.lockFuse := by
    simp only [s2]
    split <;> simp [h1]
  simp [h2, n]

theorem confirm_sound (s : State) (b : Nat) : Sound (kept s) (kept (confirm s b)) := by
  rw [confirm_kept]
  exact ⟨rfl, id, Nat.le_max_left _ _, id⟩

theorem confirmWrite_sound (s : State) : Sound (kept s) (kept (confirmWrite s).1) := by
  unfold confirmWrite
  split
  · rw [updResult_kept]
    exact confirm_sound _ _
  · simp

theorem activate_sound (s : State) (b cmd : Nat) (dest : ReplyTo) : Sound (kept s) (kept (activate s b cmd dest).1) := by
  unfold activate
  dsimp only
  repeat' split
  all_goals simp

theorem activateWrite_sound (s : State) (dest : ReplyTo) : Sound (kept s) (kept (activateWrite s dest).1) := by
  unfold activateWrite
  repeat' split
  all_goals first
    | with_reducible exact activate_sound _ _ _ _
    | (simp; done)

theorem revertWrite_sound (s : State) (dest : ReplyTo) : Sound (kept s) (kept (revertWrite s dest).1) := by
  unfold revertWrite
  dsimp only
  repeat' split
  all_goals first
    | with_reducible exact activate_sound _ _ _ _
    | (simp; done)

theorem updWrite_sound (s : State) (dest : ReplyTo) (code : Nat) : Sound (kept s) (kept (updWrite s dest code).1) := by
  unfold updWrite
  split
  all_goals first
    | with_reducible exact activateWrite_sound _ _
    | with_reducible exact revertWrite_sound _ _
    | with_reducible exact confirmWrite_sound _
    | (simp; done)

@[simp] theorem pauseRestart_kept (s : State) : kept (pauseRestart s) = restarted (kept s) := by
  unfold pauseRestart
  extract_lets s1 s2
  have h : kept s2 = restarted (kept s) := by simp [s2, s1]
  clear_value s2
  exact Eq.trans rfl h

theorem pausePhase5_sound (s : State) (configOk handoverOk : Bool) : Sound (kept s) (kept (pausePhase5 s configOk handoverOk)) := by
  unfold pausePhase5
  dsimp only
  split
  · simp
  · split <;> simp

theorem pausePhase6_config (s : State) : OnlyConfig (kept s) (kept (pausePhase6 s)) := by
  unfold pausePhase6
  dsimp only
  rw [gpOpen_kept]
  refine OnlyConfig.trans (OnlyConfig.same ?_) (applyAfterPause_config _)
  split <;> simp

@[simp] theorem pauseToSafe_kept (s : State) (probe : Bool) : kept (pauseToSafe s probe) = withState (kept s) OpState.safe := by
  simp [pauseToSafe]

theorem pausePhase_sound (s : State) (r : PhaseReport) : Sound (kept s) (kept (pausePhase s r)) := by
  unfold pausePhase
  split
  all_goals first
    | with_reducible exact pausePhase5_sound _ _ _
    | with_reducible exact (pausePhase6_config _).sound
    | (simp; done)

theorem fieldLockWrite_kept (s : State) (v : Nat) : kept (fieldLockWrite s v).1 = kept s ∨ kept (fieldLockWrite s v).1 = withFuses (kept s) s.upd.fuses true := by
  unfold fieldLockWrite
  repeat' split
  all_goals simp

theorem fieldLockWrite_sound (s : State) (v : Nat) : Sound (kept s) (kept (fieldLockWrite s v).1) := by
  rcases fieldLockWrite_kept s v with h | h
  · exact Sound.same h
  · rw [h]
    exact ⟨rfl, id, Nat.le_refl _, fun _ => rfl⟩

theorem stateWrite_sound (s : State) (ses : SessionNo) (dest : ReplyTo) (code : Nat) : Sound (kept s) (kept (stateWrite s ses dest code).1) := by
  unfold stateWrite
  dsimp only
  repeat' split
  all_goals first
    | with_reducible exact requestNormal_sound _
    | (simp; done)

theorem writeAct_sound (s : State) (ses : SessionNo) (idx sub : Nat) (v : Bytes) (r : State × Nat) (h : writeAct s ses idx sub v = some r) :
    Sound (kept s) (kept r.1) := by
  unfold writeAct at h
  dsimp only at h
  repeat' split at h
  all_goals first
    | (simp at h; done)
    | (injection h with h; subst h; first
        | with_reducible exact fieldLockWrite_sound _ _
        | with_reducible exact (setTimeWrite_config _ _).sound
        | with_reducible exact (setDistanceWrite_config _ _).sound
        | with_reducible exact Sound.same (by simp))

end Sys2Proof.Machine
end

