-- ==== Sys2Proof/Laws/SoundAccess.lean ====
section
/-! SUPPORT. The frames of the session commands and the write paths of every transport: what holds of `kept` before and after
a command's own action holds after the whole command, and the object writes leave the machine in order. -/

namespace Sys2Proof.Machine

theorem command_keeps (P : Kept → Prop) (s : State) (ses : SessionNo) (idx sub : Nat) (v : Bytes) (act : State → State × Nat)
    (h : P (kept s)) (ha : P (kept (act s).1)) : P (kept (command s ses idx sub v act)) := by
  unfold command
  repeat' split
  all_goals first | exact h | (rw [reply_kept]; first | exact h | exact ha)

theorem readCommand_keeps (P : Kept → Prop) (s : State) (ses : SessionNo) (idx sub : Nat) (act : State → State × Bytes)
    (h : P (kept s)) (ha : P (kept (act s).1)) : P (kept (readCommand s ses idx sub act)) := by
  unfold readCommand
  repeat' split
  all_goals first | exact h | (rw [reply_kept]; first | exact h | exact ha)

theorem lateCommand_keeps (P : Kept → Prop) (s : State) (ses : SessionNo) (idx sub : Nat) (v : Bytes) (act : State → State × Option Nat)
    (h : P (kept s)) (ha : P (kept (act s).1)) : P (kept (lateCommand s ses idx sub v act)) := by
  unfold lateCommand
  repeat' split
  all_goals simp_all

theorem request_keeps (P : Kept → Prop) (s : State) (ses : SessionNo) (code : Nat) (act : State → State)
    (h : P (kept s)) (ha : ∀ t, kept t = kept s → P (kept (act t))) : P (kept (request s ses code act)) := by
  unfold request
  dsimp only
  repeat' split
  all_goals first
    | exact h
    | (exact ha _ (reply_kept _ _ _ _))
    | (simp only [reply_kept, requestRefused_kept]; exact h)

theorem requestWrite_keeps (P : Kept → Prop) (s : State) (ses : SessionNo) (code : Nat) (act : State → State × Nat)
    (h : P (kept s)) (ha : P (kept (act s).1)) : P (kept (requestWrite s ses code act).1) := by
  unfold requestWrite
  split
  · rw [requestRefused_kept]; exact h
  · exact ha

theorem mosRequest_keeps (P : Kept → Prop) (s : State) (slot : Fin 8) (head : MosHead) (kind : BitVec 8) (tag index : BitVec 16)
    (sub : BitVec 8) (offset : BitVec 32) (act : State → ReplyTo → State) (h : P (kept s)) (ha : ∀ t d, kept t = kept s → P (kept (act t d))) :
    P (kept (mosRequest s slot head kind tag index sub offset act)) := by
  unfold mosRequest
  dsimp only
  repeat' split
  all_goals first
    | exact h
    | (rw [emit_kept]; exact h)
    | (rw [reply_kept]; exact h)
    | (exact ha _ _ (by simp))

theorem spiFrame_keeps (P : Kept → Prop) (s : State) (frame : Bytes) (cmd len : Nat) (fits : Bool) (act : State → State)
    (h : P (kept s)) (ha : ∀ t, kept t = kept s → P (kept (act t))) : P (kept (spiFrame s frame cmd len fits act)) := by
  unfold spiFrame
  dsimp only
  repeat' split
  all_goals first
    | exact h
    | exact ha _ (by simp)
    | (simp; exact h)

theorem updCommand_sound (s : State) (ses : SessionNo) (code : Nat) : Sound (kept s) (kept (updCommand s ses code)) :=
  lateCommand_keeps (Sound (kept s)) _ _ _ _ _ _ (Sound.refl _) (updWrite_sound _ _ _)

theorem writeImmediate_sound (s : State) (ses : SessionNo) (dest : ReplyTo) (x : ObjRow) (idx sub : Nat) (v : Bytes) (hs : sub < 256) :
    Sound (kept s) (kept (writeImmediate s ses dest x idx sub v).1) := by
  unfold writeImmediate
  dsimp only
  repeat' split
  all_goals first
    | exact stateWrite_sound _ _ _ _
    | exact updWrite_sound _ _ _
    | (rename_i h; exact writeAct_sound _ _ _ _ _ _ h)
    | (simp; done)
    | (simp; exact (OnlyConfig.put (kept s) _ _ _ hs).sound)

theorem findRow_sub (s : State) (ses idx sub : Nat) (x : ObjRow) (h : findRow s ses idx sub = .inl x) : sub < 256 := by
  unfold findRow at h
  repeat' split at h
  all_goals first
    | (cases h; done)
    | (rename_i hr; exact objRow_sub _ _ _ hr)
    | (rename_i hr _; exact objRow_sub _ _ _ hr)
    | (rename_i hr _ _; exact objRow_sub _ _ _ hr)

theorem writeCheck_sub (s : State) (ses idx sub : Nat) (v : Bytes) (x : ObjRow) (h : writeCheck s ses idx sub v = .inl x) : sub < 256 := by
  unfold writeCheck at h
  split at h
  · cases h
  · split at h
    · cases h
    · rename_i hr
      exact findRow_sub _ _ _ _ _ hr

theorem writeObject_sound (s : State) (ses : SessionNo) (dest : ReplyTo) (idx sub : Nat) (v : Bytes) :
    Sound (kept s) (kept (writeObject s ses dest idx sub v).1) := by
  unfold writeObject
  split
  · split <;> simp
  · rename_i h
    split
    · simp
    · split
      · simp
      · exact writeImmediate_sound _ _ _ _ _ _ _ (writeCheck_sub _ _ _ _ _ _ h)

theorem answerWrite_sound (s : State) (ses : SessionNo) (dest : ReplyTo) (idx sub : Nat) (v : Bytes) :
    Sound (kept s) (kept (answerWrite s ses dest idx sub v)) := by
  have h := writeObject_sound s ses dest idx sub v
  unfold answerWrite
  split
  · rename_i e
    rw [e] at h
    rw [reply_kept]
    exact h
  · rename_i e
    rw [e] at h
    exact h

theorem segmentWrite_sound (s : State) (ses : SessionNo) (dest : ReplyTo) (idx sub offset : Nat) (last : Bool) (data : Bytes) :
    Sound (kept s) (kept (segmentWrite s ses dest idx sub offset last data).1) := by
  unfold segmentWrite
  repeat' split
  all_goals first
    | exact writeObject_sound _ _ _ _ _ _
    | (simp; done)
    | (dsimp only
       repeat' split
       all_goals first
         | (simp; done)
         | exact Sound.trans (Sound.same (dropPartial_kept _ _ _ _)) (writeObject_sound _ _ _ _ _ _))

theorem sdoWrite_sound (s : State) (cn : Fin 8) (idx sub : Nat) (v confirm : Bytes) : Sound (kept s) (kept (sdoWrite s cn idx sub v confirm)) := by
  unfold sdoWrite
  exact Sound.trans (by simp) (answerWrite_sound _ _ _ _ _ _)

theorem sdoDownloadSegment_sound (s : State) (cn : Fin 8) (idx sub : Nat) (got : Bytes) (size : Option Nat) (expected toggle : Bool)
    (data : Bytes) (last : Bool) : Sound (kept s) (kept (sdoDownloadSegment s cn idx sub got size expected toggle data last)) := by
  unfold sdoDownloadSegment
  dsimp only
  repeat' split
  all_goals first
    | with_reducible exact sdoWrite_sound _ _ _ _ _ _
    | (simp; done)

theorem sdoBlockEnd_sound (s : State) (cn : Fin 8) (idx sub : Nat) (got : Bytes) (size : Option Nat) (crc : Bool) (unused check : Nat) :
    Sound (kept s) (kept (sdoBlockEnd s cn idx sub got size crc unused check)) := by
  unfold sdoBlockEnd
  dsimp only
  repeat' split
  all_goals first
    | with_reducible exact sdoWrite_sound _ _ _ _ _ _
    | (simp; done)

theorem sdoContinue_sound (s : State) (cn : Fin 8) (x : SdoTransfer) (req : SdoRequest) : Sound (kept s) (kept (sdoContinue s cn x req)) := by
  unfold sdoContinue
  cases x
  all_goals cases req
  all_goals dsimp only
  all_goals try split
  all_goals first
    | with_reducible exact sdoDownloadSegment_sound _ _ _ _ _ _ _ _ _ _
    | with_reducible exact sdoBlockEnd_sound _ _ _ _ _ _ _ _ _
    | (simp; done)

theorem sdoServe_sound (s : State) (cn : Fin 8) (x : SdoTransfer) (req : SdoRequest) : Sound (kept s) (kept (sdoServe s cn x req)) := by
  unfold sdoServe
  cases req
  all_goals dsimp only
  all_goals try split
  all_goals first
    | with_reducible exact sdoWrite_sound _ _ _ _ _ _
    | with_reducible exact sdoContinue_sound _ _ _ _
    | (simp; done)

theorem mailboxRun_sound (s : State) : Sound (kept s) (kept (mailboxRun s)) := by
  unfold mailboxRun
  dsimp only
  split
  · simp
  · split
    · simp
    · have h := segmentWrite_sound s 17 .mailbox (beAt s.host.mailbox 4 2) (byteAt s.host.mailbox 6) (beAt s.host.mailbox 8 4)
        (bitOf (byteAt s.host.mailbox 14) 0) (slice s.host.window 0 (beAt s.host.mailbox 12 2))
      split
      · rename_i e
        rw [e] at h
        rw [reply_kept]
        exact h
      · rename_i e
        rw [e] at h
        exact h

theorem spiWriteAct_sound (frame : Bytes) (s : State) : Sound (kept s) (kept (spiWriteAct frame s)) := by
  unfold spiWriteAct
  extract_lets idx sub d _spi s1 r
  have h1 : kept s1 = kept s := by simp [s1]
  clear_value s1
  have hr : Sound (kept s) (kept r.1) := by
    simp only [r]
    repeat' split
    · exact Sound.same h1
    · exact Sound.trans (Sound.same h1) (segmentWrite_sound _ _ _ _ _ _ _ _)
    · exact Sound.trans (Sound.same h1) (writeObject_sound _ _ _ _ _ _)
  clear_value r
  split
  · rw [reply_kept]; exact hr
  · exact hr

end Sys2Proof.Machine
end

