-- ==== Sys2Proof/WellFormed.lean ====
section
/-! DEFINITION. Which commands are well formed: the lengths of what a frame, message or window can carry. The meanings are
total; they do not rest on it. -/

namespace Sys2Proof

/-- The data of SDO frames (R52, CiA 301): one to four bytes expedited, up to seven in a segment. -/
def sdoWellFormed (r : SdoRequest) : Bool :=
  match r with
  | .downloadExpedited _ _ d => decide (1 ≤ d.length) && decide (d.length ≤ 4)
  | .downloadSegment _ d _ => decide (d.length ≤ 7)
  | .blockDownloadSegment n d _ => decide (d.length ≤ 7) && decide (1 ≤ n.val)
  | _ => true

/-- The data of CAN frames (R270): 8 bytes, 64 in FD, 2,048 in XL, none in a remote frame. -/
def canWellFormed (f : CanFrame) : Bool :=
  match f.kind with
  | .classical => decide (f.data.length ≤ 8)
  | .fd => decide (f.data.length ≤ 64)
  | .xl => decide (1 ≤ f.data.length) && decide (f.data.length ≤ 2048)
  | .remote => f.data.isEmpty

/-- A command whose operands the interface it comes by can carry. -/
def Instr.wellFormed (i : Instr) : Bool :=
  match i with
  | .powerOnResetRelease _ => true
  | .powerOnResetRearm => true
  | .resetNPulse _ => true
  | .watchdogExpiry _ => true
  | .startPhaseComplete _ => true
  | .deepSleepStartPhaseComplete _ => true
  | .requestRestart _ _ => true
  | .requestCommissioning _ => true
  | .requestNormal _ => true
  | .requestTest _ => true
  | .requestRecovery _ _ => true
  | .requestSleepState _ _ => true
  | .requestSafe _ => true
  | .safeAutoRestart _ => true
  | .resignFrameRepeat => true
  | .objectRead _ _ _ => true
  | .objectWrite _ _ _ _ => true
  | .counterClear _ _ _ _ => true
  | .counterLatch _ _ _ => true
  | .dtlsHandshakeComplete _ => true
  | .dtlsClose _ => true
  | .mosIdleTimeout _ => true
  | .mosRead _ _ _ _ _ _ => true
  | .mosWrite _ _ _ _ _ _ data => decide (data.length ≤ 1200)
  | .mosSubscribe _ _ _ _ => true
  | .mosEventAck _ _ => true
  | .mosKeepalive _ _ => true
  | .mosEventDelivery _ => true
  | .mosEventResend _ => true
  | .domPartialTimeout _ => true
  | .sdoRequest _ req => sdoWellFormed req
  | .sdoSegmentTimeout _ => true
  | .vendorChallengeRead _ => true
  | .vendorResponseWrite _ _ => true
  | .csApplyNow _ => true
  | .csArmTime _ => true
  | .csArmPosition _ => true
  | .csDiscardPending _ => true
  | .csCancelArmed _ => true
  | .csValidateOnly _ => true
  | .changeSetFileWrite _ _ => true
  | .csValidationComplete _ => true
  | .csApplyTimeDue => true
  | .eventRecordRead _ => true
  | .eventReadPositionWrite _ _ => true
  | .emcyInhibitExpiry _ => true
  | .heartbeatTimer => true
  | .frameHeadReceived _ head _ _ => decide (head.length ≤ 128)
  | .lookupVerdict srcs => decide (0 < srcs.length)
  | .frameEndReceived port rest _ => rest.parts.isEmpty || decide (port.val < 6)
  | .transmissionSelection _ _ => true
  | .frameTransmitEnd _ _ => true
  | .cellTest _ _ => true
  | .bankDrainTimeout _ => true
  | .linkUp _ _ => true
  | .linkDown _ => true
  | .forwardingAgeingScan => true
  | .flushAllLearned _ => true
  | .flushPortLearned _ => true
  | .flushFidLearned _ => true
  | .moveLockExpiry pos => decide (pos < 16640)
  | .reopenGate _ _ => true
  | .clearAllRed _ _ => true
  | .streamGateEntryStart _ => true
  | .recoveryResetTimeout _ => true
  | .latentErrorCheck => true
  | .prpEntryForget _ _ => true
  | .gateListEntryStart _ => true
  | .gateListSwap _ => true
  | .preemptionVerifyTimer _ => true
  | .respondMpacketReceived _ => true
  | .verifyMpacketReceived _ => true
  | .firstPacketEvaluation _ => true
  | .flowAgeingScan => true
  | .ruleSweepStep => true
  | .fragmentEntryExpiry _ => true
  | .flowFlushAll _ => true
  | .flowFlushPair _ => true
  | .flowFlushDenied _ => true
  | .zoneLogRecordRead _ => true
  | .zoneLogPositionWrite _ _ => true
  | .ptpSyncReceived _ _ _ _ => true
  | .ptpMessageReceived _ _ _ => true
  | .syncReceiptTimeout => true
  | .sourceInstanceChange => true
  | .primaryRevert => true
  | .holdoverLimitExpiry => true
  | .setTime _ _ => true
  | .epochAnchorWrite => true
  | .previousAnchorClear => true
  | .triggerOccurrence _ => true
  | .converterPulseEnd _ => true
  | .tpoProgramPulse _ => true
  | .tpoPulseEnd _ => true
  | .tpoProgramWrite _ _ _ _ => true
  | .tpoLowPeriodEnd => true
  | .tpiEdgeCapture _ _ => true
  | .captureRead _ _ => true
  | .canFrameReceived _ frame _ => canWellFormed frame
  | .engineHandover _ => true
  | .canFrameSent _ _ => true
  | .canSlotGridPoint _ _ => true
  | .busOffHoldoffExpiry _ => true
  | .busOffRecoveryComplete _ => true
  | .canRecoverCommand _ _ _ => true
  | .canPortReconfigure _ => true
  | .serialCharacterReceived _ _ _ => true
  | .serialIdleGap _ _ => true
  | .serialTransmit _ _ => true
  | .modbusFrameEnd _ => true
  | .modbusResponseTimeout _ => true
  | .mvbMasterFrame _ _ _ _ => true
  | .mvbSlaveFrame _ frame => decide (frame.data.length ≤ 32)
  | .sinkTimeLimitExpiry _ _ => true
  | .gatewayRouteMessage => true
  | .gatewayDestinationDelivery => true
  | .latestValueGridPoint _ => true
  | .sourceTimeoutExpiry _ => true
  | .gatewayDatagramReceived _ _ => true
  | .modbusPollGridPoint _ => true
  | .bridgeHeldRead _ length => decide (1 ≤ length) && decide (length ≤ 256)
  | .bridgePostedWrite _ data => decide (1 ≤ data.length) && decide (data.length ≤ 256)
  | .bridgeFarCompletion _ _ => true
  | .bridgeReadBoundExpiry _ => true
  | .bridgeAbandonedTimeout _ => true
  | .bridgeLockRequest _ _ => true
  | .bridgeLockRelease _ => true
  | .bridgeLockGrant => true
  | .bridgeLockExpiry => true
  | .bridgeStatusPoll _ => true
  | .bridgeCacheExpiry _ _ => true
  | .lateFaultRead _ => true
  | .strandedReadRead _ => true
  | .audioBlock _ => true
  | .inputStreamFrame _ _ => true
  | .streamLossTimeout _ => true
  | .ambientMeasureWindow _ => true
  | .callRequest _ => true
  | .callAnswer _ => true
  | .callEnd _ => true
  | .alertingTimeout _ => true
  | .callQueueTimeout _ => true
  | .playerStartClip _ _ _ => true
  | .playerStop _ _ => true
  | .odometryEdge _ _ => true
  | .quadratureError _ => true
  | .crossCheckWindowEnd => true
  | .d64Extension => true
  | .distanceChargeJournal => true
  | .setDistance _ _ => true
  | .setDoorSide _ _ => true
  | .adcSequenceComplete _ => true
  | .housekeepingSequence => true
  | .energyBudgetEvaluation => true
  | .lowVoltageTimer => true
  | .chargeRecalibration => true
  | .setCharge _ _ => true
  | .wakeSourceAccepted _ => true
  | .quarantineEnd _ => true
  | .quarantineClear _ _ _ => true
  | .phyReleaseStagger => true
  | .idleTimeProposal => true
  | .propose _ _ => true
  | .proposalReceived _ _ => true
  | .voteReceived _ _ => true
  | .commitReceived _ _ => true
  | .abortReceived _ _ => true
  | .voteWindowExpiry => true
  | .commitResend => true
  | .commitMissing => true
  | .sleepEntry => true
  | .sleepEntryComplete => true
  | .keepAwake _ _ => true
  | .keepAwakeExpiry => true
  | .wakeHoldExpiry => true
  | .segmentWakeRequest _ _ => true
  | .segmentSleepRequest _ _ => true
  | .segmentEndIsolation _ _ => true
  | .tsSegmentEnergy _ => true
  | .leaseExpiry _ => true
  | .drainQuietComplete _ => true
  | .segmentOverrun _ => true
  | .gpPass1Close _ _ _ => true
  | .gpInterrupt _ => true
  | .gpWindowCompare _ => true
  | .gpPassTimeout => true
  | .comparatorProbe _ => true
  | .gpCycle _ => true
  | .debugHalt _ => true
  | .debugSingleStep => true
  | .debugResume => true
  | .debugRead _ => true
  | .debugWrite _ _ => true
  | .discoveryTimeout => true
  | .presenceFrameReceived _ _ _ => true
  | .pairCycleStart => true
  | .pairCycleEnd => true
  | .digestFrameReceived _ _ _ => true
  | .cycleJudgement => true
  | .capsuleSegmentReceived _ _ _ => true
  | .capsuleAcceptTimeout => true
  | .resignFrameReceived _ _ _ => true
  | .healthFrameSend => true
  | .healthFrameReceived _ _ _ _ => true
  | .peerLostTimeout => true
  | .returnHoldOffExpiry => true
  | .swap _ _ => true
  | .claimRequestReceived _ _ => true
  | .claimFrameReceived _ _ _ => true
  | .handoverInstant => true
  | .handoverCapsuleTimeout => true
  | .scrubStep _ => true
  | .pageCountsDailyAppend => true
  | .poolRequest _ => true
  | .poolFree _ _ => true
  | .poolGive _ _ _ => true
  | .misuseRecordRead _ => true
  | .cvuConfigWrite _ _ _ _ => true
  | .cvuStart _ _ => true
  | .cvuClaim _ _ => true
  | .cvuRelease _ _ => true
  | .cvuFeedByte _ _ _ => true
  | .cvuFeedHalfWord _ _ _ => true
  | .cvuFeedWord _ _ _ => true
  | .journalRecordWrite _ => true
  | .healthReportUpdate => true
  | .hoursPoweredAppend => true
  | .inclusionRead _ => true
  | .beginStaging _ => true
  | .stagingEraseComplete _ => true
  | .imagePartWrite _ _ _ _ => true
  | .verifyImage _ => true
  | .activateImage _ => true
  | .confirmImage _ => true
  | .discardBank _ => true
  | .revertToPrevious _ => true
  | .activationHandoverTimeout => true
  | .activationPausePhaseComplete _ => true
  | .trialTimeExpiry => true
  | .fieldLockRequest _ _ => true
  | .recoveryTargetWrite _ _ => true
  | .mailboxDoorbell _ header window => decide (header.length = 16) && decide (window.length ≤ 1200)
  | .mailboxAnswerReady => true
  | .hstsClear _ => true
  | .interfaceReset => true
  | .hpreqWrite _ => true
  | .hpfreeWrite _ => true
  | .hpgiveWrite _ _ => true
  | .hpadatRead _ => true
  | .hpadatWrite _ _ => true
  | .rtailWrite _ _ => true
  | .ringReset _ => true
  | .txDescriptorProcess _ desc _ => decide (desc.bytes.length = 32)
  | .rxFrameDelivery _ _ _ => true
  | .interruptModerationExpiry _ => true
  | .pcieLinkUp _ => true
  | .pcieLinkDown => true
  | .spiStatus => true
  | .spiRead frame => decide (frame.length ≤ 1208)
  | .spiWrite frame => decide (frame.length ≤ 1208)
  | .spiFetchAnswer frame _ => decide (frame.length ≤ 1208)
  | .spiRegisterWrite frame => decide (frame.length ≤ 1208)
  | .spiRegisterRead frame => decide (frame.length ≤ 1208)
  | .spiTargetReset frame => decide (frame.length ≤ 1208)
  | .spiAnswerReady => true
  | .extest _ _ => true
  | .samplePreload _ _ => true
  | .idcode => true
  | .clamp _ => true
  | .highz _ => true
  | .dbgchal => true
  | .dbgtoken token => decide (token.length = 96)
  | .debugTokenCheckComplete => true
  | .dbgstat => true
  | .dbgacc => true
  | .bypass _ => true
  | .wakeLevelEnd _ => true
  | .ptpMessageInterval _ _ _ => true
  | .journalCompactionComplete => true
  | .ringEnable _ => true
  | .noCapsuleAccepted => true
  | .pciePowerStateChange _ => true

end Sys2Proof
end

