-- ==== Sys2Proof/Tests/Slice0.lean ====
section
/-! SUPPORT. The author's own checks: commands that are not well formed, values that the spec works out, and for every obligation
concrete states and operands that meet its hypotheses. -/

namespace Sys2Proof.Tests

set_option Elab.async false

open Sys2Proof.Machine

/-! ### Small states -/

/-- Session 0 is an open MOS session of a Maintainer, 3 of a Vendor, 16 and 17 stand open for Maintainers. -/
def testSessions : Vector Session 18 :=
  ((((Vector.replicate 18 Session.closed).set 0 { Session.closed with isOpen := true, role := 2 }).set 3
    { Session.closed with isOpen := true, role := 3, vendor := true }).set 16 { Session.closed with isOpen := true, role := 2 }).set 17
    { Session.closed with isOpen := true, role := 2 }

/-- The device in a state, its Guard Processor running, with these values in force. -/
def inState (st : OpState) (values : List (Nat × Nat × Bytes)) : State :=
  { State.reset with
    op := { OpBlock.reset with state := st, phase := 0 },
    cfg := values.foldl (fun t e => cfgPut t e.1 e.2.1 e.2.2) [],
    sessions := testSessions,
    gp := { GpBlock.reset with running := true } }

/-- The same in Normal with every value at its default. -/
def normal : State := inState .normal []

/-- The header bytes of a MOS message of version 1. -/
def mosHead : MosHead := { version := 1, result := 0, flags := 0, reserved := 0 }

/-- The XL fields of a frame that is not an XL frame. -/
def noXl : XlFields := { sdt := 0, vcid := 0, af := 0 }

/-- A ring that lets a test name its link: the port's link is up at 1 Gbit/s. -/
def withLink (s : State) (p : Nat) : State := setLink s p (fun l => { l with link := 1, rate := 3 })

/-! ### Commands that are not well formed -/

theorem test_wellFormed_mosWrite : Instr.wellFormed (.mosWrite 0 ⟨mosHead, 0⟩ 0 0 0 true (zeros 1201)) = false := by decide +kernel
theorem test_wellFormed_sdo : Instr.wellFormed (.sdoRequest 0 (.downloadExpedited 0 0 [])) = false := by decide
theorem test_wellFormed_head : Instr.wellFormed (.frameHeadReceived 0 (zeros 129) false ⟨0, []⟩) = false := by decide +kernel
theorem test_wellFormed_verdict : Instr.wellFormed (.lookupVerdict []) = false := by decide
theorem test_wellFormed_fragments : Instr.wellFormed (.frameEndReceived 6 ⟨[], [{ mcrc := 0, count := 1, data := [] }]⟩ false) = false := by decide
theorem test_wellFormed_moveLock : Instr.wellFormed (.moveLockExpiry 16640) = false := by decide
theorem test_wellFormed_can :
    Instr.wellFormed (.canFrameReceived 0 { kind := .remote, ext := false, id := 0, brs := false, esi := false, xl := noXl, data := [1] } ⟨none, 0⟩) = false := by
  decide
theorem test_wellFormed_mvb : Instr.wellFormed (.mvbSlaveFrame 0 { fcode := 0, address := 0, data := zeros 33, lineAValid := true, lineBValid := true, age := 0 }) = false := by
  decide +kernel
theorem test_wellFormed_heldRead : Instr.wellFormed (.bridgeHeldRead 0 257) = false := by decide
theorem test_wellFormed_postedWrite : Instr.wellFormed (.bridgePostedWrite 0 []) = false := by decide
theorem test_wellFormed_mailbox : Instr.wellFormed (.mailboxDoorbell 1 (zeros 15) []) = false := by decide +kernel
theorem test_wellFormed_txDescriptor : Instr.wellFormed (.txDescriptorProcess 0 { bytes := zeros 31 } .error) = false := by decide +kernel
theorem test_wellFormed_spi : Instr.wellFormed (.spiRead (zeros 1209)) = false := by decide +kernel
theorem test_wellFormed_token : Instr.wellFormed (.dbgtoken (zeros 95)) = false := by decide +kernel

/-! ### Values that the spec works out -/

/-- Chapter 18, worked example: the header of a read of 2000h.01 over SPI carries the check 0x7434. -/
theorem test_spi_check : crcCcitt [0x01, 0x20, 0x00, 0x01, 0x00, 0x00] = 0x7434 := by decide +kernel

/-- The standard check string of chapter 15's worked example: "123456789". -/
def checkString : Bytes := [0x31, 0x32, 0x33, 0x34, 0x35, 0x36, 0x37, 0x38, 0x39]

theorem test_crc32 : crc32 checkString = 0xCBF43926 := by decide +kernel
theorem test_crcCcitt : crcCcitt checkString = 0x29B1 := by decide +kernel

/-- Steps 2 and 3 of the example, with the last byte fed after them. -/
theorem test_cvu_words :
    cvuResult (cvuByte (((cvuBytes (cvuLoad { Cvu.reset with cfg := 0xDF, poly := 0x04C11DB7, init := 0xFFFFFFFF, xor := 0xFFFFFFFF }) 4 0x34333231) ++
      (cvuBytes { Cvu.reset with cfg := 0xDF } 4 0x38373635)).foldl cvuByte
        (cvuLoad { Cvu.reset with cfg := 0xDF, poly := 0x04C11DB7, init := 0xFFFFFFFF, xor := 0xFFFFFFFF })) 0x39) = 0xCBF43926 := by decide +kernel

/-- Steps 5 to 7: width 16, most significant byte first. -/
theorem test_cvu_context :
    cvuResult (cvuByte (((cvuBytes { Cvu.reset with cfg := 0x10F } 4 0x31323334) ++ (cvuBytes { Cvu.reset with cfg := 0x10F } 4 0x35363738)).foldl cvuByte
      (cvuLoad { Cvu.reset with cfg := 0x10F, poly := 0x1021, init := 0xFFFF })) 0x39) = 0x29B1 := by decide +kernel

/-- R601: the IDCODE of this part. -/
theorem test_idcode : (match exec .idcode State.reset with | .next t => t.tap.dr | _ => 0) = 0x1726099B := by decide +kernel

/-- R417's worked example: the adder of each pass, and the two fold words of the store, which are equal. -/
theorem test_guard_adder :
    passValue false (.op .add 0x1234 0x0F00) = 0x2134 ∧ passValue true (.op .add 0x1234 0x0F00) = 0xFFFFDECB := by decide +kernel

theorem test_guard_store :
    (let r := fun (second : Bool) => commitOne second [] { s := { State.reset with gp := { GpBlock.reset with region1 := [(0x100, 0)], region2 := [(0x7EFF, 0)] } }, folds := [], commits := 0, queue := [] } (.store 0x100 15 (.op .add 0x1234 0x0F00));
      (r true).folds = (r false).folds ∧ (r false).folds = [foldWord 0 15 0x400 0x2134] ∧
      tget (r false).s.gp.region1 (0x400 / 4) = some 0x2134 ∧ tget (r true).s.gp.region2 (0x1FBFC / 4) = some 0xFFFFDECB) := by decide +kernel

theorem test_length_be (n v : Nat) : (be n v).length = n := by induction n generalizing v <;> simp [be, *]

theorem test_length_streamFree (what n stream count : Nat) : (streamFree what n stream count).length = n := by
  simp only [streamFree, padTo, zeros, List.length_append, List.length_take, List.length_replicate]; omega

/-- R335: an AES67 stream of 8 channels with the priority extension makes frames of 218 bytes; 12 of them are addresses, 4 the FCS. -/
theorem test_audio_frame (n count port pt : Nat) (addr samples : Bytes) (h1 : addr.length = 4) (h2 : samples.length = 144) :
    (rtpFrame n count addr port pt (priorityExtension n count 3 1) samples).length = 218 - 12 - 4 := by
  simp only [rtpFrame, priorityExtension, List.length_append, test_length_be, test_length_streamFree, h1, h2]

/-! ### The queue -/

theorem test_step_front : ((step { normal with pending := [.wakeHoldExpiry, .idcode] }) matches .next _) = true := by decide +kernel
theorem test_step_tick : (match step State.reset with | .next t => t.time.t32 | _ => 0) = 4 := by decide +kernel
theorem test_withFetchWord : (normal.withFetchWord 8 0).pending = [] := by decide +kernel

/-! ### The hypotheses of the obligations are met: chapters 01 and 02 -/

theorem witness_StepRunsFrontCommand : ({ normal with pending := [.idcode] } : State).pending = .idcode :: [] := by decide +kernel

theorem witness_EmptyQueueTicks : State.reset.pending = [] ∧ State.reset.op.state ≠ .deepSleep := by decide

theorem witness_RestartsEnterStart :
    ({ State.reset with pins := { PinBlock.reset with porArmed := true } } : State).pins.porArmed = true ∧ State.reset.pins.porArmed = false ∧
      ({ inState .safe [] with op := { (inState .safe []).op with autoRestart := true } } : State).op.autoRestart = true ∧ (inState .safe []).op.state = .safe ∧
      WriteAllowed normal 17 0x2000 2 [0] ∧ requestBar normal 17 0 = none ∧ WriteAllowed normal 17 0x2000 2 [4] ∧ requestBar normal 17 4 = none := by
  unfold WriteAllowed; decide +kernel

theorem witness_ResetLinesAndStartPhases : State.reset.op.state = .start ∧ State.reset.op.phase = 1 ∧
    (let s := { State.reset with op := { OpBlock.reset with phase := 3 } }; s.op.state = .start ∧ s.op.phase = 3 ∧ s.op.warm = false) ∧
    (let s := { State.reset with op := { OpBlock.reset with phase := 4, warm := true } }; s.op.state = .start ∧ s.op.phase = 4 ∧ s.op.warm = true) := by decide

theorem witness_StateRequestsAreCarriedOut :
    WriteAllowed normal 0 0x2000 2 [1] ∧ requestBar normal 0 1 = none ∧
    WriteAllowed (inState .commissioning []) 0 0x2000 2 [2] ∧ requestBar (inState .commissioning []) 0 2 = none ∧
    WriteAllowed (inState .commissioning []) 3 0x2000 2 [3] ∧ requestBar (inState .commissioning []) 3 3 = none ∧
    WriteAllowed normal 0 0x2000 2 [7] ∧ requestBar normal 0 7 = none ∧
    WriteAllowed normal 0 0x2000 2 (be 1 5) ∧ WriteAllowed normal 0 0x2000 2 (be 1 6) ∧
    0 < ({ normal with gp := { normal.gp with resignLeft := 2 } } : State).gp.resignLeft := by
  unfold WriteAllowed; decide +kernel

/-- A configuration that R588 lets pass: time trigger 0 starts sequence 0, which holds codes 7, 8 and 9, every 500 ms;
the serial ports run at a rate that the divider meets exactly. -/
def validValues : List (Nat × Nat × Bytes) :=
  [(0x4060, 1, [1]), (0x4060, 2, [1]), (0x4060, 7, be 4 500000000), (0x4CA0, 1, [7, 8, 9, 0, 0, 0, 0, 0]), (0x4CA0, 2, [3]),
    (0x4500, 2, be 4 1000000), (0x4501, 2, be 4 1000000), (0x4502, 2, be 4 1000000), (0x4503, 2, be 4 1000000), (0x4504, 2, be 4 1000000),
    (0x4505, 2, be 4 1000000)]

theorem witness_StateRequests_valid : configFault (inState .commissioning validValues) = none ∧
    WriteAllowed (inState .commissioning validValues) 0 0x2000 2 [2] ∧ requestBar (inState .commissioning validValues) 0 2 = none := by
  unfold WriteAllowed; decide +kernel

/-- The checks of an access pass and give the object's row. -/
def rowOf (c : ObjRow ⊕ Nat) (p : ObjRow → Bool) : Bool := match c with | .inl x => p x | .inr _ => false

theorem witness_ObjectReadsAnswerTheValueInForce :
    served normal = true ∧ isOpen normal 17 = true ∧ undocumented normal 17 0x2000 = false ∧
    rowOf (readCheck normal 17 0x2000 1) (fun _ => true) = true ∧ readEffect normal 17 0x2000 1 = none ∧
    MosFresh normal 0 mosHead 1 7 0x2000 1 = true ∧ undocumented normal 0 0x2000 = false ∧
    rowOf (readCheck (mosTaken normal 0 1 7 0x2000 1) 0 0x2000 1) (fun x => objRow? 0x2000 1 == some x) = true ∧
    isDomObject 0x2000 1 = false ∧ isDomObject 0x4700 1 = true ∧ MosFresh normal 0 mosHead 1 7 0x4700 1 = true ∧
    rowOf (readCheck (mosTaken normal 0 1 7 0x4700 1) 0 0x4700 1) (fun x =>
      decide (0 ≤ (objectValue (mosTaken normal 0 1 7 0x4700 1) 0 x 0x4700 1).length) && decide ((objectValue (mosTaken normal 0 1 7 0x4700 1) 0 x 0x4700 1).length < 2097152)) =
      true := by decide +kernel

theorem witness_ObjectWrites_staged : inArmed normal 0x3000 1 = false ∧ undocumented normal 17 0x3000 = false ∧
    rowOf (writeCheck normal 17 0x3000 1 [0]) (fun x => x.apply == .s) = true := by decide +kernel

theorem witness_ObjectWrites_plain :
    rowOf (writeCheck normal 17 0x2200 3 [5]) (fun x => x.apply != .s && PlainObject normal 17 x 0x2200 3 [5]) = true ∧
    MosFresh normal 0 mosHead 2 1 0x2200 3 = true ∧ isDomObject 0x2200 3 = false ∧
    rowOf (writeCheck (mosTaken normal 0 2 1 0x2200 3) 0 0x2200 3 [63]) (fun x =>
      x.apply != .s && x.ty != .dom && objRow? 0x2200 3 == some x && PlainObject (mosTaken normal 0 2 1 0x2200 3) (mosSession 0) x 0x2200 3 [63]) = true := by
  decide +kernel

theorem witness_ObjectWrites_journal :
    rowOf (writeCheck normal 17 0x1017 0 [0, 5]) (fun x =>
      x.apply != .s && x.ty != .s32 && x.pers == .p && OrdinaryWrite normal 17 0x1017 0 [0, 5] && persistCheck normal 0x1017 0 [0, 5] == 0) = true ∧
    isGroup 0x1017 = false ∧ perSession 0x1017 0 = false ∧ normal.jour.state ≠ 2 := by decide +kernel

theorem witness_ObjectWrites_counters :
    rowOf (writeCheck normal 17 0x4100 3 (zeros 4)) (fun x => x.apply != .s && x.ty == .s32 && x.pers != .p && OrdinaryWrite normal 17 0x4100 3 (zeros 4)) = true ∧
    rowOf (writeCheck normal 17 0x2100 3 (zeros 4)) (fun x => x.apply != .s && x.ty == .s32 && x.pers == .p && OrdinaryWrite normal 17 0x2100 3 (zeros 4)) = true ∧
    isGroup 0x4420 = true ∧ beNat [1] = 1 ∧ beNat [0] = 0 ∧
    rowOf (writeCheck normal 17 0x4420 1 [1]) (fun x => x.apply != .s && x.ty != .s32 && OrdinaryWrite normal 17 0x4420 1 [1]) = true := by decide +kernel

theorem witness_ObjectWrites_segments :
    MosFresh normal 0 mosHead 2 1 0x4700 1 = true ∧ undocumented normal 0 0x4700 = false ∧ isDomObject 0x4700 1 = true ∧
    segmentCheck (mosTaken normal 0 2 1 0x4700 1) 0 0x4700 1 = none ∧ partialOf (mosTaken normal 0 2 1 0x4700 1) 0 0x4700 1 = [] := by decide +kernel

/-- In Normal with the PCIe session of a Vendor. -/
def vendorHost : State := { normal with sessions := normal.sessions.set 17 { Session.closed with isOpen := true, role := 3 } }

theorem witness_VendorObjectsStop : served vendorHost = true ∧ isOpen vendorHost 17 = true ∧ undocumented vendorHost 17 0x5F00 = true ∧
    isOpen vendorHost 3 = true ∧ mosHead.version = 1 ∧ undocumented vendorHost 3 0x5FFF = true := by decide +kernel

/-- In Normal with one trust anchor stored, an empty DER sequence. -/
def anchored : State := inState .normal [(0x2120, 2, [0x30, 0x00])]

theorem witness_MosSessionsOpenAndClose :
    mosServed anchored = true ∧ credentialRole anchored (.x509 (some [0x30, 0x00]) []) = .inl (0, false) ∧ (List.range 8).find? (fun n => !(isOpen anchored n)) = some 1 ∧
    MosFresh normal 0 mosHead 5 9 0 0 = true ∧ MosFresh normal 0 mosHead 3 9 0 0 = true := by decide +kernel

/-- In Normal with a subscription of session 0. -/
def subscribed (p : Subscription) : State :=
  { normal with sessions := normal.sessions.set 0 { Session.closed with isOpen := true, role := 2, subscription := some p } }

theorem witness_EventDelivery :
    subscriptionOf (subscribed { severity := 0, unacked := [], resends := 0 }) 0 = some { severity := 0, unacked := [], resends := 0 } ∧
    subscriptionOf (subscribed { severity := 0, unacked := [0, 1], resends := 5 }) 0 = some { severity := 0, unacked := [0, 1], resends := 5 } ∧
    ([0, 1].filter (fun k => decide (((0 : BitVec 32) - BitVec.ofNat 32 k).toNat < 2147483648))).getLast? = some 0 ∧ [0, 1].getLast? = some 1 ∧
    subscriptionOf (subscribed { severity := 0, unacked := [0, 1], resends := 4 }) 0 = some { severity := 0, unacked := [0, 1], resends := 4 } := by
  decide +kernel

/-- In Normal with CAN port 0 a management port of node 1, its controller active and its session open. -/
def sdoManaged (x : Session) : State :=
  let s := inState .normal [(0x2111, 1, [0x02]), (0x1017, 0, [0, 5]), (0x4700, 1, zeros 12)]
  { s with can := s.can.set 0 { CanPort.reset with ctl := .active }, sessions := s.sessions.set 8 { x with isOpen := true, role := 2 } }

theorem witness_SdoServer :
    (sdoManaged Session.closed).sessions[8]? = some { Session.closed with isOpen := true, role := 2 } ∧ sdoServed (sdoManaged Session.closed) 0 = true ∧
    (sdoManaged { Session.closed with sdo := .download 0x1017 0 [] none false }).sessions[8]? =
      some { Session.closed with isOpen := true, role := 2, sdo := .download 0x1017 0 [] none false } ∧
    sdoObject (.download 0x1017 0 [] none false) = some (0x1017, 0) ∧
    heartbeatByte (sdoManaged Session.closed) = some 5 ∧ (sdoManaged Session.closed).on 0x1017 0 = true ∧ isMgmtCan (sdoManaged Session.closed) 0 = true ∧
    ({ sdoManaged Session.closed with ev := { EventBlock.reset with inhibit := EventBlock.reset.inhibit.set 0 true, emcy := EventBlock.reset.emcy.set 0 [zeros 8] } } : State).ev.emcy[0]? =
      some [zeros 8] ∧
    sdoAnswering Session.closed.sdo = false ∧ rowOf (readCheck (sdoManaged Session.closed) 8 0x1017 0) (fun x =>
      decide ((sdoOrder 0x1017 0 (objectValue (sdoManaged Session.closed) 8 x 0x1017 0)).length = 2)) = true ∧ readEffect (sdoManaged Session.closed) 8 0x1017 0 = none ∧
    rowOf (readCheck (sdoManaged Session.closed) 8 0x4700 1) (fun x =>
      decide (4 < (sdoOrder 0x4700 1 (objectValue (sdoManaged Session.closed) 8 x 0x4700 1)).length) &&
      decide ((sdoOrder 0x4700 1 (objectValue (sdoManaged Session.closed) 8 x 0x4700 1)).length ≤ 65535)) = true ∧ readEffect (sdoManaged Session.closed) 8 0x4700 1 = none := by
  decide +kernel

theorem witness_VendorAccess :
    ReadAllowed normal 17 0x2120 5 ∧ WriteAllowed normal 17 0x2120 6 (zeros 96) ∧ ReadAllowed normal 17 0x2301 2 ∧ WriteAllowed normal 17 0x2301 1 (be 4 7) ∧
    ({ normal with sessions := normal.sessions.set 17 { Session.closed with isOpen := true, challenge := some ([1], 0) } } : State).time.mono < 0 + 60000000000 := by
  unfold WriteAllowed ReadAllowed; decide +kernel

/-! ### Change sets and requests -/

/-- In Normal with a pending set of session 17, and a set armed for an instant or none. -/
def withSets (armed : Option ArmedSet) : State :=
  { inState .normal [(0x4C60, 1, [1]), (0x4C60, 3, [2])] with
    cs := { CsBlock.reset with pending := some { owner := 17, role := 2, entries := [(0x300001, [0])], types := [none], base := 0 }, armed := armed } }

def armedNow : ArmedSet := { entries := [(0x300002, [0])], target := some 0, event := 0 }

theorem witness_ChangeSetCommands :
    WriteAllowed (withSets none) 17 0x2200 1 [4] ∧ WriteAllowed (withSets none) 17 0x2200 1 [6] ∧ WriteAllowed (withSets none) 17 0x2200 1 [1] ∧
    WriteAllowed (withSets none) 17 0x2200 1 [2] ∧ WriteAllowed (withSets none) 17 0x2200 1 [3] ∧ eventReady (withSets none) = true ∧
    WriteAllowed (withSets (some armedNow)) 17 0x2200 1 [5] ∧ (withSets none).jour.state ≠ 2 := by
  unfold WriteAllowed; decide +kernel

/-- A change-set file of one entry, 3000h.01 (BOOL) with 0. -/
def oneEntryFile : Bytes :=
  let front := be 4 0x4D584331 ++ be 4 0x72600001 ++ be 4 0 ++ be 2 1 ++ zeros 2 ++ be 4 44 ++ zeros 8
  let entry := be 2 0x3000 ++ [0x01, 0x01] ++ be 4 1 ++ zeros 4
  front ++ be 4 (crc32 (front ++ zeros 4 ++ entry)).toNat ++ entry

theorem witness_ChangeSetFile :
    WriteAllowed (withSets none) 17 0x2200 5 oneEntryFile ∧ (withSets none).cs.validating = none ∧
    (match (withSets none).cs.pending with | some q => decide (q.owner = 17) | none => true) = true ∧
    readFile oneEntryFile = some (0, [(0x300001, 1, [0])]) := by
  unfold WriteAllowed; decide +kernel

theorem witness_ArmedSetBarsCommands1To3 :
    WriteAllowed (withSets (some armedNow)) 17 0x2200 1 [1] ∧ WriteAllowed (withSets (some armedNow)) 17 0x2200 1 [2] ∧
    WriteAllowed (withSets (some armedNow)) 17 0x2200 1 [3] ∧
    (let s := { normal with cs := { CsBlock.reset with armed := some armedNow } };
      s.cs.pending = none ∧ rowOf (writeCheck s 17 0x3000 1 [0]) (fun x => x.apply == .s) = true ∧ inArmed s 0x3000 1 = false ∧
      inArmed s 0x3000 2 = true) := by
  unfold WriteAllowed; decide +kernel

/-- A pending set with as many entries as a set holds. -/
def fullSet : State :=
  { normal with cs := { CsBlock.reset with pending := some { owner := 17, role := 2, entries := (List.range 4096).map (fun k => (k, [])), types := List.replicate 4096 none, base := 0 } } }

theorem witness_PendingSetLimits :
    rowOf (writeCheck fullSet 17 0x3000 1 [0]) (fun x => x.apply == .s) = true ∧
    (match fullSet.cs.pending with | some p => p.entries.any (fun e => e.1 == okey 0x3000 1) == false && decide (p.entries.length = 4096) | none => false) = true ∧
    armedNow.entries.any (fun e => e.1 == okey 0x3000 2) = true := by decide +kernel

/-- A validation of the pending set is under way. -/
def validating (k : CsCommand) (values : List (Nat × Nat × Bytes)) (entry : Nat × Bytes) : State :=
  { inState .normal values with cs := { CsBlock.reset with
      pending := some { owner := 17, role := 2, entries := [entry], types := [none], base := 0 }, validating := some (k, .session 17) } }

theorem witness_ValidatedSets_pass :
    gpWorks (validating .armTime ((0x2200, 2, be 4 2000000) :: validValues) (0x300001, [0])) = true ∧
    csJudge (validating .armTime ((0x2200, 2, be 4 2000000) :: validValues) (0x300001, [0])) { owner := 17, role := 2, entries := [(0x300001, [0])], types := [none], base := 0 } none = none ∧
    (BitVec.ofNat 32 ((validating .armTime ((0x2200, 2, be 4 2000000) :: validValues) (0x300001, [0])).val 0x2200 2) -
      (validating .armTime ((0x2200, 2, be 4 2000000) :: validValues) (0x300001, [0])).now).toNat = 2000000 := by decide +kernel

theorem witness_ValidatedSets_fail :
    (csJudge (validating .applyNow validValues (0x300001, [9])) { owner := 17, role := 2, entries := [(0x300001, [9])], types := [none], base := 0 } none).isSome = true ∧
    dueT32 0 ({ withSets (some armedNow) with time := { TimeBlock.reset with t32 := 0x80000000 } } : State).now = false ∧ dueT32 0 (withSets (some armedNow)).now = true := by
  decide +kernel

theorem witness_UndefinedObjects :
    transportBar normal 17 = none ∧ isVendorObject 0x6000 = false ∧ objIndexKnown 0x6000 = false ∧ isVendorObject 0x2000 = false ∧
    objIndexKnown 0x2000 = true ∧ objRow? 0x2000 9 = none := by decide +kernel

theorem witness_StateRequestsNeedTheirRole :
    (let s := { normal with sessions := normal.sessions.set 17 { Session.closed with isOpen := true, role := 1 } };
      served s = true ∧ isOpen s 17 = true ∧ roleOf s 17 < 2) ∧ roleOf normal 17 < 3 := by decide +kernel

/-- In a state with an emergency announcement. -/
def emergency (st : OpState) : State := { inState st [] with aud := { AudioBlock.reset with emergency := true } }

theorem witness_EmergencyRefusesRequests :
    WriteAllowed (emergency .normal) 17 0x2000 2 [0] ∧ WriteAllowed (emergency .normal) 17 0x2000 2 [1] ∧
    WriteAllowed (emergency .commissioning) 3 0x2000 2 [3] ∧ roleOf (emergency .commissioning) 3 = 3 ∧
    WriteAllowed (emergency .normal) 17 0x2000 2 [4] ∧ WriteAllowed (emergency .normal) 17 0x2000 2 [7] ∧ commitDue (emergency .normal) = false ∧
    (let s := { emergency .normal with pins := { PinBlock.reset with porArmed := true } }; s.aud.emergency = true ∧ s.pins.porArmed = true) := by
  unfold WriteAllowed; decide +kernel

theorem witness_TargetsOnT32 : dueT32 0 0x80000000 = false ∧ dueT32 0 0x7FFFFFFF = true ∧ pastT32 5 5 = false ∧ dueT32 5 5 = true := by decide

theorem witness_Counters : tnat State.reset.cnt (ckey 0x2100 3 0) < 0xFFFFFFFF ∧ sortedKeys State.reset.cnt = true ∧
    0xFFFFFFFF ≤ tnat [(ckey 0x2100 3 0, 0xFFFFFFFF)] (ckey 0x2100 3 0) := by decide +kernel

/-! ### The hypotheses of the obligations are met: chapters 03 to 07 -/

/-- What Lookup gives an ordinary frame. -/
def plainVerdict : Verdict :=
  { vid := 1, fid := 1, pcp := 0, tc := 0, handle := 0xFFFF, yellow := false, tagged := false, meters := [], gate := none, lenLimit := 0, streamLimit := false,
    learn := false, recover := none, recoverInvalid := false, rseq := none, seqNo := none, prp := [], prpCut := false, set := [], lanes := [], flows := [], zone := 0, waiting := [], trap := none, dropped := false }

/-- An ordinary frame of port 6, ended good. -/
def plainFrame : Frame :=
  { id := 1, ingress := 6, bytes := zeros 60 ++ fcsOf (zeros 60), ended := true, bad := false, stamp := 0, verdict := plainVerdict, holdings := [], dests := [(0, none)], held := [], header := [] }

/-- In Normal with the links of ports 0 and 6 up, the frame under reception at port 6 and in the queue of port 0. -/
def forwarding : State :=
  let s := withLink (withLink normal 0) 6
  let t := setLink s 6 (fun l => { l with receiving := some 1 })
  { t with fab := { t.fab with frames := [plainFrame], queues := t.fab.queues.set 0 [{ frame := 1, mirror := none, cells := 1, cut := false }] } }

/-- The same with a head of 64 bytes staged at port 0. -/
def staged (e : Option FrameEnd) : State := setStaged forwarding 0 (some { bytes := zeros 64, ended := e, stamp := 0 })

theorem witness_FramesAreStagedJudgedAndEnded :
    canReceive forwarding 0 = true ∧ stagedOn (staged none) 0 = some { bytes := zeros 64, ended := none, stamp := 0 } ∧
    stagedOn (staged (some .complete)) 0 = some { bytes := zeros 64, ended := some .complete, stamp := 0 } ∧
    (reassemble (zeros 64 ++ zeros 128) []).1.length ≤ 192 ∧ forwardingState forwarding = true ∧
    stagedOn forwarding 6 = none ∧ (portLink forwarding 6).receiving = some 1 ∧ (portLink forwarding 6).suspended ≠ some 1 ∧
    frameOf forwarding 1 = some plainFrame ∧ plainFrame.ingress = (6 : Fin 38).val := by decide +kernel

/-- The frame on its way out of a port. -/
def onTheWay : Sending :=
  { frame := 1, mirror := none, cls := 0, first := zeros 64, sent := 0, since := 0, spent := 0, mark := false, cut := false, fragments := 0 }

theorem witness_FramesAreSelectedAndSent :
    (let s1 := creditsNow forwarding 0;
      let r := selectClass s1 (eligible s1 0) 0;
      portForwards forwarding 0 = true ∧ forwardingState forwarding = true ∧ (egress forwarding 0).sending = none ∧ (egress s1 0).preempted = none ∧
      r.2 = some 0 ∧ queue r.1 (queueNo 0 0) = [{ frame := 1, mirror := none, cells := 1, cut := false }] ∧ frameOf r.1 1 = some plainFrame ∧
      (frameCell r.1 plainFrame 0 0 (some { cell := [], link := [] })).2.1 = false ∧ ¬ (plainFrame.ended = true ∧ plainFrame.bad = true)) ∧
    (let s := setEgress forwarding 0 (fun y => { y with preempted := some onTheWay });
      let s1 := creditsNow s 0;
      (egress s 0).sending = none ∧ (egress s1 0).preempted = some onTheWay ∧
      (preemptActive s1 0 && (List.range 8).any (fun c => !(preemptable s1 0 c) && eligible s1 0 c)) = false ∧ (egress s1 0).hold = false ∧
      bitOf (gateStates s1 0) 0 = true) ∧
    (let s := setEgress forwarding 0 (fun y => { y with sending := some onTheWay });
      (egress s 0).sending = some onTheWay ∧ frameOf s 1 = some plainFrame ∧ onTheWay.fragments = 0) := by decide +kernel

/-- A good frame in the queue of port 42. -/
def forGateway : State :=
  { forwarding with fab := { forwarding.fab with queues := forwarding.fab.queues.set 318 [{ frame := 1, mirror := none, cells := 1, cut := false }] } }

theorem witness_FramesAreDelivered :
    (queue forGateway (queueNo 42 7)).isEmpty = true ∧ queue forGateway (queueNo 42 0) = { frame := 1, mirror := none, cells := 1, cut := false } :: [] ∧
    frameOf forGateway 1 = some plainFrame ∧ plainFrame.ended = true ∧ plainFrame.bad = false ∧ (readFrame forGateway plainFrame 42 0 []).2.1 = false ∧
    recheckFails plainFrame ((readFrame forGateway plainFrame 42 0 []).2.2.take plainFrame.bytes.length) = false ∧
    (poolRequestOne (readFrame forGateway plainFrame 42 0 []).1 (portOwner 42)
      (max 1 (sentBytes (readFrame forGateway plainFrame 42 0 []).1
        { plainFrame with bytes := (readFrame forGateway plainFrame 42 0 []).2.2.take plainFrame.bytes.length } 42 none).length) true).2.isSome = true := by
  decide +kernel

theorem witness_ColumnsAndLinks :
    (let s := setColumn normal 0 { Column.reset true with gated := false };
      (column s 0).gated = false ∧ (column s 0).inUse.getLsbD (column s 0).testPos = false) ∧
    (let s := setColumn normal 13 { Column.reset true with gated := false, inUse := 1 };
      (column s 13).gated = false ∧ (column s 13).inUse.getLsbD (column s 13).testPos = true) ∧
    (column (setColumn normal 0 { Column.reset true with draining := [(16, 0)] }) 0).draining = [(16, 0)] ∧
    (let s := setLink { inState .normal [(0x3000, 1, [1]), (0x3040, 1, [2])] with pins := { PinBlock.reset with phyReset := 0xFFF } } 0 (fun l => { l with link := 0 });
      (portLink s 0).link = 0 ∧ s.on 0x3000 1 = true ∧ portAwake s 0 = true ∧ (modeRates 0 (laneMode s 0)).contains 3 = true ∧ s.val 0x3000 3 = 0) ∧
    linkIsUp forwarding 0 = true ∧ (portLink forwarding 0).receiving = none := by decide +kernel

/-- A learned entry with its move lock on. -/
def lockedEntry : FwdEntry :=
  { fid := 1, mac := 2, static := false, discard := false, group := false, dest := 0, age := 0, port := 6, moves := [], locked := true }

theorem witness_ForwardingTable : learningState normal = true ∧ WriteAllowed normal 17 0x3510 2 [1] ∧ WriteAllowed normal 17 0x3510 2 [2] ∧
    WriteAllowed normal 17 0x3510 2 [3] ∧ tget [((16639 : Nat), lockedEntry)] 16639 = some lockedEntry ∧ lockedEntry.locked = true := by
  unfold WriteAllowed; decide +kernel

/-- A list of one entry that began at 0 and is due again at 1,000. -/
def oneEntry : TimedList := { entries := [(0x0F, 1000)], cycle := 1000, extension := 0, cycleStart := 0, entryStart := 0, index := 0 }

theorem witness_StreamGates :
    WriteAllowed normal 17 0x3630 2 [255] ∧ WriteAllowed normal 17 0x3641 7 [1] ∧
    (let g : StreamGate := { running := none, pending := some { list := oneEntry, c := 0, event := none, fixedAt := 0, image := [] }, octets := 0, closed := false };
      let s := { normal with look := { LookupBlock.reset with gates := [(255, g)] } };
      gateOf s 255 = g ∧ dueT32 0 s.now = true) ∧
    (let g : StreamGate := { running := some oneEntry, pending := none, octets := 9, closed := false };
      let s := { normal with look := { LookupBlock.reset with gates := [(0, g)] }, time := { TimeBlock.reset with t32 := 1000 } };
      (gateOf s 0).running = some oneEntry ∧ (gateOf s 0).pending = none ∧ dueT32 oneEntry.nextStart s.now = true) ∧
    (let s := { inState .normal [(0x3700, 2, be 8 (2 ^ 63))] with
        look := { LookupBlock.reset with recoveries := [(0, { takeAny := false, timed := true, recov := 0, history := [], passed := 0, dups := 0, latent := false })] } };
      bitOf (recoveryEntry s.cfg 0) 63 = true ∧ (recoveryOf s 0).timed = true ∧ sortedKeys s.look.recoveries = true) ∧
    (let s := setMeter normal (getOwn normal 17 0x3641 3) { meterOf normal (getOwn normal 17 0x3641 3) with allRed := true };
      (meterOf s (getOwn s 17 0x3641 3)).allRed = true ∧ WriteAllowed s 17 0x3641 7 [1]) ∧
    (meterOf normal (getOwn normal 17 0x3641 3)).allRed = false := by
  unfold WriteAllowed; decide +kernel

theorem witness_GateLists :
    (let s := setEgress { normal with time := { TimeBlock.reset with t32 := 1000 } } 37 (fun e => { e with oper := some oneEntry });
      (egress s 37).oper = some oneEntry ∧ dueT32 oneEntry.nextStart s.now = true ∧ heldForSwap oneEntry (egress s 37).pending = false) ∧
    (let w : PendingList := { list := oneEntry, c := 0, event := none, fixedAt := 0, image := [] };
      let s := setEgress normal 0 (fun e => { e with pending := some w });
      (egress s 0).pending = some w ∧ w.event = none ∧ dueT32 w.c s.now = true) ∧
    (let s := setEgress normal 5 (fun e => { e with preemption := 1, attempts := 2 }); (egress s 5).preemption = 1 ∧ (egress s 5).attempts < 3) ∧
    (let s := setEgress normal 5 (fun e => { e with preemption := 1, attempts := 3 }); (egress s 5).preemption = 1 ∧ 3 ≤ (egress s 5).attempts) ∧
    (let s := withLink (inState .normal [(0x3905, 1, [1])]) 5; s.on 0x3905 1 = true ∧ linkIsUp s 5 = true) := by decide +kernel

/-- A first packet of zone pair 17 that waits. -/
def waitingPacket : FirstEntry :=
  { pair := 17, canon := [], key := { kind := 0, vid := 1, ipv6 := false, proto := 17, zoneA := 1, zoneB := 1, addrA := 0, addrB := 0, portA := 0, portB := 0 },
    fields := [], head := { bytes := zeros 60, header := [], ingress := 6, stamp := 0, verdict := plainVerdict, ports := [0], handle := 0xFFFF },
    followers := [], recheck := none }

/-- A flow of generation 1 by the rule 9. -/
def someFlow : Flow :=
  { key := waitingPacket.key, state := 1, recheck := false, lane := 0, logClose := false, ruleId := 9, generation := 1, profile := 0, idle := 0, created := 0,
    frames := 1, seen := 0 }

/-- A sweep from generation 1 to 2 stands at the last position, where the flow is; the fates of the new image are these. -/
def sweeping (generation : BitVec 16) (fate : Nat) : State :=
  { inState .normal [(0x3C10, 1, zeros 16 ++ be 2 0 ++ be 2 1 ++ zeros 2060 ++ be 2 9 ++ be 1 0 ++ be 1 fate)] with
    zone := { ZoneBlock.reset with flows := [(32767, someFlow)], generation := generation, fateUsed := true, sweep := some 32767 } }

theorem witness_ZoneGate :
    (let s := { normal with zone := { ZoneBlock.reset with queue := [waitingPacket] } };
      evaluates s = true ∧ (servePair s).map (fun x => x.1) = some 17 ∧ s.zone.queue.find? (fun x => x.pair == 17) = some waitingPacket) ∧
    normal.op.state ≠ .lightSleep ∧ normal.op.state ≠ .deepSleep ∧
    (let s := { normal with zone := { ZoneBlock.reset with sweep := some 32766 } }; s.zone.sweep = some 32766 ∧ tget s.zone.flows 32766 = none ∧ 32766 + 1 < 32768) ∧
    tget (sweeping 1 0).zone.flows 32767 = some someFlow ∧ someFlow.generation = (sweeping 1 0).zone.generation ∧
    someFlow.generation ≠ (sweeping 2 0).zone.generation := by
  decide +kernel

theorem witness_ZoneGate_fates : ruleImage (sweeping 2 0).cfg ≠ [] ∧
    fateOf (sweeping 2 0) someFlow = 0 ∧ fateOf (sweeping 2 1) someFlow = 1 ∧ fateOf (sweeping 2 2) someFlow = 2 := by decide +kernel

/-- A flow's log record. -/
def logRecord : ZoneRec :=
  { typ := 3, reason := 1, key := waitingPacket.key, lane := 0, oneWay := false, stamp := 0, secs := 0, ingress := 6, seq := 0, ruleId := 9, frames := 1 }

theorem witness_ZoneLog :
    WriteAllowed normal 17 0x3D00 3 [1] ∧ WriteAllowed normal 17 0x3D00 3 [2] ∧ WriteAllowed normal 17 0x3D00 3 [3] ∧
    sortedKeys (sweeping 2 0).zone.flows = true ∧ ReadAllowed normal 17 0x3D10 2 ∧ WriteAllowed normal 17 0x3D10 1 (be 4 0) ∧
    (let s := { normal with zone := { ZoneBlock.reset with log := [logRecord], logNext := 1 } };
      let place := getOwn s 17 0x3D10 1;
      s.zone.log[(BitVec.ofNat 32 place - (s.zone.logNext - BitVec.ofNat 32 s.zone.log.length)).toNat]? = some logRecord) ∧
    normal.zone.log[(BitVec.ofNat 32 (getOwn normal 17 0x3D10 1) - (normal.zone.logNext - BitVec.ofNat 32 normal.zone.log.length)).toNat]? = none := by
  unfold WriteAllowed ReadAllowed; decide +kernel

/-- In Normal with PTP instance 0 on port 0, whose roles stand fixed: master (1) or slave (2). -/
def timed (role : Nat) : State :=
  withLink (inState .normal [(0x4030, 1, [1]), (0x4030, 4, be 8 1), (0x4030, 5, [1]), (0x4030, 6, be 1 role ++ zeros 37)]) 0

theorem witness_SyncMessages :
    timeServes (timed 2) = true ∧ ptpMember (timed 2) 0 0 = true ∧ slavePort (timed 2) 0 = some 0 ∧
    fixedRoles (withLink (inState .normal [(0x4030, 1, [1]), (0x4030, 4, be 8 1)]) 0) 0 = false ∧
    bestSource (bump { normal with time := { TimeBlock.reset with source := some 0 } } 0x4100 4) = none ∧
    slavePort { timed 2 with time := { TimeBlock.reset with source := some 1 } } 1 = none ∧ bestSource { timed 2 with time := { TimeBlock.reset with source := some 1 } } = some 0 ∧
    (timed 2).val 0x4010 8 ≠ 0 ∧ (slavePort (timed 2) ((timed 2).val 0x4010 1)).isSome = true ∧
    ({ normal with time := { TimeBlock.reset with holdoverSince := some 0, sync := 3 } } : State).time.sync = 3 ∧
    masterPort (timed 1) 0 0 = true ∧ linkIsUp (timed 1) 0 = true ∧ (timed 2).val 0x4030 2 = 0 ∧
    (let s := setInst (timed 2) 0 (fun x => { x with asked := [(0, 5)], syncDiff := some 3 });
      slavePort s 0 = some 0 ∧ askedOn s 0 0 = some 5 ∧ (ptpInst s 0).syncDiff = some 3) ∧
    (inState .normal [(0x4030, 2, [1])]).val 0x4030 2 ≠ 0 ∧ normal.time.source = none ∧ bestSource normal = none := by decide +kernel

/-- An Announce of another clock. -/
theorem witness_SyncMessages_announce : ∃ r : ClockRank, r.identity ≠ Config.unitId := by
  refine ⟨{ priority1 := 0, clockClass := 6, accuracy := 0x21, variance := 0, priority2 := 0, identity := Config.unitId + 1, steps := 0 }, fun h => ?_⟩
  have h' : Config.unitId + 1 = Config.unitId := h
  bv_omega

theorem witness_ClockAnchors :
    WriteAllowed normal 17 0x4000 0x0B (zeros 10) ∧ timeServes normal = true ∧
    ((({ normal with time := { TimeBlock.reset with triggers := TimeBlock.reset.triggers.set 15 (some { next := 0, passed := 0 }) } } : State).time.triggers[15]?).getD none) = some { next := 0, passed := 0 } ∧
    (let s := { inState .commissioning [(0x4083, 2, [1]), (0x4083, 8, [2])] with
        time := { TimeBlock.reset with tpo := TimeBlock.reset.tpo.set 3 { level := false, next := some 0, given := 0, ended := false, passed := 0 } } };
      (tpo s 3).next = some 0 ∧ dueT32 0 s.now = true ∧ programRuns s 3 = true ∧ s.time.lowPeriod = false ∧ tpoVal s 3 2 = 1 ∧ s.op.state ≠ .normal) ∧
    WriteAllowed normal 17 0x4080 2 [1] ∧ tpoWriteOk normal 0 2 [1] = true ∧ WriteAllowed normal 17 0x4083 8 [0x1B] ∧ tpoWriteOk normal 3 8 [0x1B] = true ∧
    (let s := inState .normal [(0x40A1, 1, [1]), (0x40A1, 2, [3])];
      (match s.time.tpi[1]? with | some x => decide (x.fifo.length < 16) | none => false) = true ∧ s.on 0x40A1 1 = true ∧
      bitOf (s.val 0x40A1 2) 0 = true ∧ bitOf (s.val 0x40A1 2) 1 = true ∧ s.on 0x40A1 4 = false) ∧
    ReadAllowed normal 17 0x40A1 5 ∧ (∀ i, i < 4 → slavePort normal i = none) ∧ normal.jour.state ≠ 2 := by
  unfold WriteAllowed ReadAllowed; decide +kernel

/-! ### The hypotheses of the obligations are met: chapters 08 to 11 -/

/-- A classical CAN frame of one byte. -/
def canFrame : CanFrame := { kind := .classical, ext := false, id := 0x123, brs := false, esi := false, xl := noXl, data := [1] }

/-- In Normal with CAN port 7 enabled and its controller in a state, one message queued. -/
def onCan (ctl : CanCtl) (reconfigure : Bool) : State :=
  let s := inState .normal [(0x4407, 1, [1])]
  { s with time := { TimeBlock.reset with mono := 1000000000 }, can := s.can.set 7 { CanPort.reset with
      ctl := ctl, reconfigure := reconfigure, queue := [{ frame := canFrame, attempts := 0, mgmt := false, bridge := none, order := 0 }] } }

theorem witness_CanFrames :
    busLevel (onCan .active false) ≠ .silent ∧ canRunning (canPort (onCan .active false) 7) = true ∧
    (canPort (onCan .active false) 7).since + elevenBits (onCan .active false) 7 ≤ (onCan .active false).time.mono - 0 ∧
    (canPort (onCan .active false) 7).reconfigure = false ∧ badFormat (onCan .active false) 7 canFrame = false ∧
    (onCan .active false).val 0x4407 1 = 1 ∧ pairQuiet (onCan .active false) 7 = false ∧
    canOffered (onCan .active false) 7 = some (none, { frame := canFrame, attempts := 0, mgmt := false, bridge := none, order := 0 }) ∧
    (canPort (onCan .busOff false) 7).ctl = .busOff ∧ (onCan .busOff false).val 0x4407 8 = 0 ∧ (canPort (onCan .recovering false) 7).ctl = .recovering ∧
    (canPort (onCan .heldOff false) 7).ctl = .heldOff ∧ WriteAllowed (onCan .heldOff false) 17 0x4407 0x16 [1] ∧
    WriteAllowed (onCan .busOff false) 17 0x4407 0x16 [1] ∧ (canPort (onCan .active true) 7).reconfigure = true ∧ inPause normal = false ∧
    busLevel normal = .all ∧ normal.gw.fifo.length < 1024 ∧
    (let s := setCan normal 0 (fun c => { c with fifo0 := [{ frame := canFrame, stamp := 0, buffer := none }] });
      (canPort s 0).fifo0 = { frame := canFrame, stamp := 0, buffer := none } :: []) ∧
    (let s := setSerial normal 5 (fun p => { p with ready := [(0, [1], 0)] }); (serialPort s 5).ready = (0, [1], 0) :: []) := by
  unfold WriteAllowed; decide +kernel

/-- In Normal with serial port 5 in full duplex under a protocol. -/
def onSerial (protocol : BitVec 8) (p : SerialPort) : State :=
  let s := inState .normal [(0x4505, 1, [2]), (0x4505, 4, [protocol]), (0x4505, 8, [0])]
  { s with serial := s.serial.set 5 p }

def modbusReq : ModbusReq := { address := 1, function := 3, pdu := [0, 0, 0, 1], poll := none, bridgeTag := none }

theorem witness_Serial :
    (let s := onSerial 0 SerialPort.reset;
      serialListens s 5 = true ∧ serialDrives s 5 = false ∧ inPause s = false ∧ (serialPort s 5).buffer.length < 4096) ∧
    (let s := onSerial 0 { SerialPort.reset with msg := [(0x41, 0)] };
      (serialPort s 5).msg ≠ [] ∧ serialProtocol s 5 = 0 ∧ charTenths s 5 (10 * s.val 0x4505 9) ≤ 100000000) ∧
    (let s := onSerial 1 { SerialPort.reset with msg := [(0x41, 0)], template := some 7 };
      serialProtocol s 5 = 1 ∧ (serialPort s 5).template = some 7 ∧ charTenths s 5 (10 * byteAt (templateAt s 5 7) 18) < 100000000) ∧
    (let s := onSerial 3 { SerialPort.reset with msg := [(0x41, 0)] };
      2 ≤ serialProtocol s 5 ∧ modbusGap s 5 < 1000000000000 ∧ (serialPort s 5).bad = false ∧ (msgBytes (serialPort s 5)).length < 4) ∧
    (let s := onSerial 0 { SerialPort.reset with txQueue := [(1, [0x41])] };
      serialMaySend s 5 = true ∧ mustWait s 5 = false ∧ (serialPort s 5).txQueue = [(1, [0x41])] ∧ s.on 0x4505 8 = false) ∧
    (let s := { inState .normal [(0x4505, 1, [3])] with serial := normal.serial.set 5 { SerialPort.reset with txQueue := [(1, [0x41])] } };
      serialMaySend s 5 = true ∧ mustWait s 5 = false ∧ serialMode s 5 = 3 ∧ s.on 0x4505 8 = true ∧ ([0x41] : Bytes)[0]? ≠ ([0x40] : Bytes)[0]?) ∧
    (let s := onSerial 2 { SerialPort.reset with client := some (modbusReq, 1), clientSent := true };
      serialProtocol s 5 = 2 ∧ (serialPort s 5).client = some (modbusReq, 1) ∧ (serialPort s 5).clientSent = true) := by decide +kernel

theorem witness_Modbus_check :
    let b := [0x01, 0x03] ++ le 2 (crcModbus [0x01, 0x03]);
    4 ≤ b.length ∧ b.drop (b.length - 2) = le 2 (crcModbus (b.take (b.length - 2))) := by decide +kernel

/-- In Normal with MVB on port 1: a source at address 4095 and a sink at 5 with a time limit. -/
def onMvb : State :=
  inState .normal [(0x4501, 1, [4]), (0x4601, 2, be 2 9), (0x4601, 3, be 8 (2 ^ 63 + 2 ^ 62 + 4095 * 2 ^ 47) ++ be 8 (2 ^ 63 + 5 * 2 ^ 47 + 100 * 2 ^ 31))]

theorem witness_Mvb :
    mvbRuns onMvb 1 = true ∧ mvbSegOf onMvb 1 = 1 ∧ mvbRedundant onMvb = false ∧
    mvbFind onMvb 1 4095 = some (0, { valid := true, source := true, fcode := 0, addr := 4095, limit := 0 }) ∧ mvbAnswers onMvb 1 4095 = true ∧
    mvbEntry onMvb.cfg 1 1 = { valid := true, source := false, fcode := 0, addr := 5, limit := 100 } ∧ (mvbSeg onMvb 1).stale.contains 5 = false ∧
    pairQuiet onMvb 9 = false ∧ busLevel onMvb = .all ∧ (9 : BitVec 12).toNat = onMvb.val 0x4601 2 ∧
    (let s := setMvb onMvb 1 (fun x => { x with txMsgs := [[1]] }); (mvbSeg s 1).txMsgs = [1] :: []) ∧
    (let s := inState .normal [(0x4500, 1, [4]), (0x4501, 1, [4]), (0x4600, 1, [1])]; mvbRuns s 0 = true ∧ mvbRedundant s = true) := by decide +kernel

/-- A route image of one route: CAN 0 identifier 1 to CAN 1, latest value, slot 15, source timeout 1. -/
def oneRoute : Bytes :=
  zeros 12 ++ be 2 1 ++ zeros 18 ++ be 32 (2 ^ 255 + 2 ^ 254 + 1 * 2 ^ 200 + (2 ^ 32 - 1) * 2 ^ 168 + 1 * 2 ^ 152 + 15 * 2 ^ 86 + 1 * 2 ^ 70 + 1 * 2 ^ 38)

theorem witness_Gateway :
    (let m : GwMsg := { bus := 0, ident := 5, data := [1], stamp := 0, buffer := none, xl := none };
      let s := { normal with gw := { GatewayBlock.reset with fifo := [m] } };
      routing s = true ∧ s.gw.fifo = [m] ∧ (routes (routeImage s)).filter (fun e => e.2.srcBus == m.bus && (m.ident &&& e.2.srcMask == e.2.srcId &&& e.2.srcMask)) = []) ∧
    (let o : GwOut := { entry := 0, dest := 1, ident := 2, latest := false, data := [1], stamp := 0, buffer := none, xl := none };
      let s := { normal with gw := { GatewayBlock.reset with internal := [o] } };
      inPause s = false ∧ s.gw.internal = [o] ∧ busLevel s = .all) ∧
    (let m : GwMsg := { bus := 0, ident := 1, data := [1], stamp := 0, buffer := none, xl := none };
      let s := { inState .normal [(0x4700, 1, oneRoute)] with gw := { GatewayBlock.reset with fifo := [m], next := [(0, 0)], pollNext := [(255, 0)] } };
      routing s = true ∧ (routes (routeImage s)).filter (fun e => e.2.srcBus == m.bus && (m.ident &&& e.2.srcMask == e.2.srcId &&& e.2.srcMask)) ≠ [] ∧
      tget s.gw.next 0 = some 0 ∧ 0 ≤ s.time.tx ∧ tget s.gw.pollNext 255 = some 0) ∧
    (let h : HeldValue := { value := [1], xl := none, stamp := 0, timedOut := false, reported := false };
      let s := { inState .normal [(0x4700, 1, oneRoute)] with gw := { GatewayBlock.reset with held := [(0, h)] } };
      (routeAt (routeImage s) 0).valid = true ∧ (routeAt (routeImage s) 0).latest = true ∧ (routeAt (routeImage s) 0).timeout ≠ 0 ∧
      tget s.gw.held 0 = some h ∧ slotEntry s 1 15 = some 0) ∧
    (let p := [(1 : Byte)] ++ zeros 17; byteAt p 0 = 1 ∧ 18 + beAt p 16 2 ≤ p.length) := by decide +kernel

/-- In Normal with the bridge on: page 0 an SDO page, and poll 0 of it. -/
def bridged (txs : List BridgeTx) (lock : BridgeLock) : State :=
  { inState .normal [(0x4800, 1, [1]), (0x4800, 2, be 16 (2 ^ 127 + 2 ^ 123)), (0x4800, 4, [0, 0, 0, 0, 4] ++ zeros 11)] with
    br := { BridgeBlock.reset with txs := txs, lock := lock } }

/-- A held read in a state. -/
def heldRead (st : BridgeState) : BridgeTx :=
  { tag := 255, seq := 0, page := 0, offset := 0, length := 4, data := none, state := st, use_ := .held, target := 0, locked := false }

theorem witness_BridgeAccesses :
    isOpen (bridged [] .none) 17 = true ∧ bridgeServes (bridged [] .none) = true ∧ (pageAt (bridged [] .none).cfg 0).kind ≠ 2 ∧ freeTag (bridged [] .none) = some 0 ∧
    accessCheck (bridged [] .none) 0 12 4 false = 0 ∧ accessCheck (bridged [] .none) 0 0 16 true = 0 ∧ (bridged [] .none).br.cache = [] ∧
    bridgeTx (bridged [heldRead .sent] .none) 255 = some (heldRead .sent) ∧ bridgeTx (bridged [heldRead .queued] .none) 255 = some (heldRead .queued) ∧
    bridgeTx (bridged [heldRead (.abandoned 0 true)] .none) 255 = some (heldRead (.abandoned 0 true)) ∧
    accessCheck (bridged [] .none) 0 14 4 false ≠ 0 ∧ accessCheck (bridged [] .none) 1 0 4 true ≠ 0 ∧
    (let s := { bridged [] .none with br := { BridgeBlock.reset with cache := [(0, 0, zeros 16)] } };
      s.br.cache.find? (fun e => e.1 == 0 && e.2.1 == 12 / slotSize (pageAt s.cfg 0).kind) = some (0, 0, zeros 16)) ∧
    isOpen { bridged [] .none with op := { OpBlock.reset with state := .safe } } 17 = true ∧
    bridgeServes { bridged [] .none with op := { OpBlock.reset with state := .safe } } = false := by decide +kernel

/-- In Normal with the bridge on, page 0 the MVB ports from address 4095 on, and poll 0 of it. -/
def mvbPage : State :=
  inState .normal [(0x4501, 1, [4]), (0x4601, 3, be 8 (2 ^ 63 + 2 ^ 62 + 4095 * 2 ^ 47)), (0x4800, 1, [1]),
    (0x4800, 2, be 16 (2 ^ 127 + 2 * 2 ^ 125 + 0x11 * 2 ^ 104 + 4095 * 2 ^ 80)), (0x4800, 4, [0, 0, 0, 0, 2] ++ zeros 11)]

theorem witness_BridgeMvb :
    (pageAt mvbPage.cfg 0).kind = 2 ∧ accessCheck mvbPage 0 0 2 false = 0 ∧ accessCheck mvbPage 0 0 2 true = 0 ∧
    (mvbFind mvbPage (mvbSegOf mvbPage ((pageAt mvbPage.cfg 0).bus - 0x10)) ((pageAt mvbPage.cfg 0).base + 0 / 32)).isSome = true ∧
    byteAt (slice (cfgBytes mvbPage.cfg 0x4800 4) 0 16) 4 = 2 := by decide +kernel

theorem witness_BridgeLocks :
    WriteAllowed (bridged [] .none) 17 0x4801 1 (be 2 0) ∧ WriteAllowed (bridged [] .none) 17 0x4801 1 (be 2 0xFFFF) ∧
    (bridged [] (.waiting 0 0 255 0)).br.lock = .waiting 0 0 255 0 ∧ targetBusy (bridged [] (.waiting 0 0 255 0)) 0 = false ∧
    (bridged [] (.held 0 0 255)).br.lock = .held 0 0 255 ∧ (bridged [] (.held 0 0 255)).br.txs = [] ∧
    (slice (cfgBytes (bridged [] .none).cfg 0x4800 4) 0 16).length = 16 ∧
    accessCheck (bridged [] .none) (beAt (slice (cfgBytes (bridged [] .none).cfg 0x4800 4) 0 16) 0 2) 0 (byteAt (slice (cfgBytes (bridged [] .none).cfg 0x4800 4) 0 16) 4) false = 0 ∧
    (pageAt (bridged [] .none).cfg 0).valid = true ∧ (pageAt (bridged [] .none).cfg 0).lockable = true ∧ (pageAt (bridged [] .none).cfg 0).kind ≤ 1 ∧
    (bridged [] .none).br.lock = .none ∧ (bridged [] .none).on 0x4800 1 = true ∧
    (let s := bridged [{ heldRead .sent with use_ := .poll 0 }] .none;
      s.br.txs.any (fun x => match x.use_ with | .poll n => n == 0 | _ => false) = true) ∧
    ReadAllowed normal 17 0x4820 1 ∧ ReadAllowed normal 17 0x4830 1 := by
  unfold WriteAllowed ReadAllowed; decide +kernel

/-- A call of priority 3 that alerts or waits. -/
def oneCall : Call := { ref := 7, priority := 3, caller := 1, callee := 2, connected := false, order := 0, command := 1, position := 0, callerAt := none, calleeAt := none }

theorem witness_Audio :
    audioRuns normal = true ∧ inPause normal = false ∧
    (let s := inState .normal [(0x4ADF, 1, [1]), (0x4ADF, 2, [1]), (0x4ADF, 6, be 4 1), (0x4ADF, 7, be 2 5004)];
      let f : AudioFrame := { key := .rtp 1 5004, presentation := 250000, tv := true, samples := [], mark := none };
      s.on 0x4ADF 1 = true ∧ streamMatches s 31 f.key = true ∧ isLate s.now f = false ∧ isLate s.now { f with presentation := 249999 } = true) ∧
    (let s := { setStream normal 31 (fun x => { x with state := 2 }) with time := { TimeBlock.reset with mono := 10000000 } };
      (audStream s 31).state = 2 ∧ (audStream s 31).lastAt + 10000000 ≤ s.time.mono) ∧
    normal.op.state ≠ .safe ∧ normal.val 0x4ABF 6 = 0 ∧ (inState .normal [(0x4ABF, 6, [1])]).val 0x4ABF 6 ≠ 0 := by decide +kernel

theorem witness_Calls :
    pairPassive normal = false ∧ normal.gp.halted = false ∧ ({ normal with gp := { normal.gp with halted := true } } : State).gp.halted = true ∧
    decides normal = true ∧ ([oneCall].find? (fun c => c.ref == 7 && !c.connected)) = some oneCall ∧
    ([oneCall].find? (fun c => c.ref == 7 && decide (c.priority < 7))) = some oneCall ∧
    WriteAllowed normal 17 0x4B10 5 (be 2 (256 * 7 + 63)) ∧ WriteAllowed normal 17 0x4B10 5 (be 2 (256 * 7 + 255)) := by
  unfold WriteAllowed; decide +kernel

theorem witness_Position :
    odoApplied normal = true ∧ mpRuns normal = true ∧ crossOn (inState .normal [(0x4C00, 3, [1]), (0x4C10, 1, [1]), (0x4C11, 1, [4])]) = true ∧ odoMode (inState .normal [(0x4C11, 1, [2])]) 1 = 2 ∧ crossOn normal = false ∧ served normal = true ∧
    (extendD64 normal).pos.saved ≠ some ((extendD64 normal).pos.d64, normal.pow.charge) ∧ normal.jour.state ≠ 2 ∧
    WriteAllowed normal 17 0x4C20 2 (be 8 (2 ^ 64 - 1)) ∧ WriteAllowed normal 17 0x4C40 3 (be 1 3) := by
  unfold WriteAllowed; decide +kernel

/-- In Normal with a battery of 100 Ah whose voltage is known. -/
def onBattery (mv stages : Nat) : State :=
  { inState .normal [(0x4D00, 1, be 2 1000)] with pow := { PowerBlock.reset with voltage := some mv, stages := stages } }

theorem witness_Power :
    ({ normal with pow := { PowerBlock.reset with sequences := [(4, 0)] } } : State).pow.sequences = (4, 0) :: [] ∧
    ({ normal with pow := { PowerBlock.reset with sequences := [(3, 0), (4, 0)] } } : State).pow.sequences = (3, 0) :: [(4, 0)] ∧
    (inState .recovery []).pow.sequences.any (fun e => e.1 == 4) = false ∧ (inState .recovery []).op.state = .recovery ∧
    (let s := { State.reset with time := { TimeBlock.reset with mono := 100000000 } };
      s.op.state = .start ∧ s.op.startedAt + 100000000 ≤ s.time.mono ∧ s.pow.sequences.any (fun e => e.1 == 4) = false) ∧
    batteryOn (onBattery 28200 0) = true ∧ gpWorks (onBattery 28200 0) = true ∧ served (onBattery 28200 0) = true ∧
    (onBattery 28200 0).val 0x4D00 7 ≤ 28200 ∧ -(onBattery 28200 0).pow.current ≤ ((onBattery 28200 0).val 0x4D00 8 : Int) ∧
    voltageLow (onBattery 0 0) = true ∧
    ([1, 2, 3, 4, 5].find? (fun k => stageEnabled (onBattery 0 0) k && !(stageOn (onBattery 0 0) k))).isSome = true ∧
    WriteAllowed normal 17 0x4D00 0x0B (be 4 (2 ^ 32 - 1)) := by
  unfold WriteAllowed; decide +kernel

/-! ### Chapters 12 to 16 -/

/-- Asleep, the wake source of CN4 enabled. -/
def sleeping (entering latched : Bool) : State :=
  { inState .lightSleep [(0x2420, 1, [1])] with slp := { SleepBlock.reset with entering := entering, latched := latched, phyWait := [1] } }

theorem witness_WakeSources :
    sourceWatched (sleeping false false) 0 = true ∧ WriteAllowed normal 17 0x2420 7 [0] ∧ beNat [0] = 0 ∧ normal.jour.state ≠ 2 ∧
    (sleeping false false).slp.phyWait = 1 :: [] ∧ (sleeping false false).on 0x2420 4 = true ∧ sourceWatched (sleeping true false) 0 = true ∧
    (let s := { inState .deepSleep [(0x2420, 1, [1])] with slp := SleepBlock.reset };
      sourceWatched s 0 = true ∧ s.slp.entering = false ∧ s.on 0x2420 4 = true ∧ s.op.state = .deepSleep) ∧
    (let s := inState .normal [(0x2430, 1, [1])]; sourceWatched s 16 = true ∧ s.slp.entering = false ∧ s.slp.ballot.state ≠ 3) ∧
    sourceWatched (inState .safe [(0x2430, 1, [1])]) 16 = true ∧ WriteAllowed normal 17 0x2400 0x0F (be 2 65535) := by
  unfold WriteAllowed; decide +kernel

/-- In Normal with a ballot that stands so. -/
def withBallot (b : Ballot) : State := { inState .normal [(0x2400, 1, [1])] with slp := { SleepBlock.reset with ballot := b } }

def someBallot : Ballot := { SleepBlock.reset.ballot with kind := 1, number := 1 }

theorem witness_SleepBallots :
    mayPropose (withBallot SleepBlock.reset.ballot) = true ∧ WriteAllowed (withBallot SleepBlock.reset.ballot) 17 0x2400 0x10 (be 1 2) ∧
    ballotHeard normal = true ∧ dueT32 (windowEnd (withBallot { someBallot with state := 1 })) (withBallot { someBallot with state := 1 }).now = true ∧
    (withBallot { someBallot with state := 3, resend := true, commitAt := 1000 }).slp.ballot.resend = true ∧
    beforeCommit (withBallot { someBallot with state := 3, resend := true, commitAt := 1000 }) = true ∧
    dueT32 (withBallot { someBallot with state := 2 }).slp.ballot.commitAt (withBallot { someBallot with state := 2 }).now = true := by
  unfold WriteAllowed; decide +kernel

/-- Two voters, of whom one at least is another device, and a ballot of proposer u in a state. -/
def twoVoters (u st : Nat) : State :=
  { inState .normal [(0x2401, 1, be 8 1), (0x2401, 2, be 8 2)] with
    slp := { SleepBlock.reset with ballot := { someBallot with state := st, number := 9, proposer := u, commitAt := 1000, window := 1000 } } }

/-- A ballot frame of a voter as its own proposer. -/
def ballotFrame (typ : Byte) (unit : Nat) : Bytes := [typ, 1, 0, 9] ++ be 8 unit ++ be 8 unit ++ [1, 1, 0, 0] ++ be 4 1000 ++ zeros 16

theorem twoVoters_knows (u st : Nat) (h : u = 1 ∨ u = 2) (h' : u ≠ ownId) : (voters (twoVoters u st)).contains u = true := by
  have hv : ∃ i ∈ List.range 16, (inState .normal [(0x2401, 1, be 8 1), (0x2401, 2, be 8 2)]).val 0x2401 (i + 1) = u := by
    rcases h with rfl | rfl
    · exact ⟨0, by decide, by decide +kernel⟩
    · exact ⟨1, by decide, by decide +kernel⟩
  obtain ⟨i, hi, e⟩ := hv
  rw [List.contains_iff_mem]
  refine List.mem_filter.2 ⟨List.mem_map.2 ⟨i, hi, e⟩, ?_⟩
  rcases h with rfl | rfl <;> simp [h']

theorem ballotTake_known (u st : Nat) (h : u = 1 ∨ u = 2) (h' : u ≠ ownId) (typ : Byte) (ht : typ = 0x21 ∨ typ = 0x22 ∨ typ = 0x23 ∨ typ = 0x24) :
    ballotTake (twoVoters u st) 0 (ballotFrame typ u) typ.toNat =
      (setBallot (twoVoters u st) (fun x => { x with copies := [(9, u, u, typ.toNat)] }), true) := by
  have hk := twoVoters_knows u st h h'
  have hc : (twoVoters u st).slp.ballot.copies = [] := rfl
  have hs : frSender (ballotFrame typ u) = u ∧ frProposer (ballotFrame typ u) = u ∧ frNumber (ballotFrame typ u) = 9 := by
    rcases h with rfl | rfl <;> rcases ht with rfl | rfl | rfl | rfl <;> decide +kernel
  have hb : byteAt (ballotFrame typ u) 0 = typ.toNat ∧ byteAt (ballotFrame typ u) 1 = 1 := by
    rcases h with rfl | rfl <;> rcases ht with rfl | rfl | rfl | rfl <;> decide +kernel
  unfold ballotTake
  simp only [hs.1, hs.2.1, hs.2.2, hb.1, hb.2, hk, hc]
  rcases ht with rfl | rfl | rfl | rfl <;> rfl

/-- Whatever this device's own Unit ID is, a frame of each ballot type is taken, and it is one of the ballot that stands. -/
theorem witness_SleepBallots_frames : ∃ u, ∀ st (typ : Byte), (typ = 0x21 ∨ typ = 0x22 ∨ typ = 0x23 ∨ typ = 0x24) → st < 4 →
    (ballotTake (twoVoters u st) 0 (ballotFrame typ u) typ.toNat).2 = true ∧
    (let w := (ballotTake (twoVoters u st) 0 (ballotFrame typ u) typ.toNat).1;
      w.slp.ballot.state = st ∧ sameBallot w (ballotFrame typ u) = true ∧ pastT32 (windowEnd w) w.now = false ∧ frCode (ballotFrame typ u) = 1 ∧
      beforeCommit w = true ∧ frCommit (ballotFrame typ u) = w.slp.ballot.commitAt ∧ commitDue w = false ∧ w.slp.entering = false) := by
  have pick : ∃ u, (u = 1 ∨ u = 2) ∧ u ≠ ownId := by
    by_cases h : ownId = 1
    · exact ⟨2, Or.inr rfl, by omega⟩
    · exact ⟨1, Or.inl rfl, by omega⟩
  obtain ⟨u, hu, ho⟩ := pick
  refine ⟨u, fun st typ ht hst => ?_⟩
  rw [ballotTake_known u st hu ho typ ht]
  have : st = 0 ∨ st = 1 ∨ st = 2 ∨ st = 3 := by omega
  rcases hu with rfl | rfl <;> rcases ht with rfl | rfl | rfl | rfl <;> rcases this with rfl | rfl | rfl | rfl <;> decide +kernel

theorem witness_SleepEntry_reasons (k : Nat) (h : k = 1 ∨ k = 2) : ballotReasons (withBallot { someBallot with state := 3, kind := k }) = 0 := by
  unfold ballotReasons
  split <;> rcases h with rfl | rfl <;> decide +kernel

/-- In Normal with the segments of ports 0 and 37 managed, both in a state. -/
def withSegments (st : Nat) : State :=
  setSegment (setSegment (inState .normal [(0x2440, 1, [1]), (0x2465, 1, [1])]) 37 st 0) 0 st 0

theorem witness_SleepEntry :
    dueT32 (withBallot { someBallot with state := 3 }).slp.ballot.commitAt (withBallot { someBallot with state := 3 }).now = true ∧
    (sleeping true true).slp.entering = true ∧ (sleeping true true).op.state = .lightSleep ∧
    managed (withSegments 1) 0 = true ∧ managed (withSegments 1) 37 = true ∧ segState (withSegments 1) 0 ≠ 4 ∧ segState (withSegments 1) 37 = 1 ∧
    segState (withSegments 2) 37 = 2 ∧ leaseOver (withSegments 2) 37 = true ∧ segState (withSegments 3) 0 = 3 ∧ segState (withSegments 4) 0 = 4 ∧
    WriteAllowed (withSegments 1) 17 0x2440 6 [1] ∧ WriteAllowed (withSegments 2) 17 (0x2440 + 37) 6 [2] ∧ WriteAllowed (withSegments 4) 17 0x2440 6 [3] ∧
    2 ≤ roleOf (withSegments 4) 17 := by
  unfold WriteAllowed; decide +kernel

/-- The Guard Processor in a pass. -/
def inPass (st : OpState) (pass : Nat) (halted : Bool) : State :=
  { inState st [] with gp := { GpBlock.reset with running := true, pass := pass, task := some 5, halted := halted } }

/-- A report of pass 2 in which nothing failed. -/
def noFault : PassTwoReport := { upsets := [], queue := [], hold := [], stuck := none }

/-- Pass 2 of an empty window whose signature of pass 1 is right, one output held. -/
def agreeing : State :=
  let s := inPass .normal 2 false
  { s with gp := { s.gp with sig1 := (passTwo s [] []).2, hold := [{ address := 0, data := 0, enables := 15 }] } }

theorem witness_GuardWindows :
    (gpOpen (inPass .normal 1 false)).gp.pass = 1 ∧ gpWorks (gpOpen (inPass .normal 1 false)) = true ∧ (gpOpen (inPass .normal 1 false)).gp.running = true ∧
    (gpOpen (inPass .normal 1 false)).gp.replay.length < 128 ∧ (gpOpen (inPass .normal 2 false)).gp.pass ≠ 1 ∧
    (windowFault agreeing noFault).2.2 = none ∧ (releaseHold (windowFault agreeing noFault).1 []).2 = none ∧
    (releaseHold (windowFault agreeing noFault).1 [{ entry := 0, address := 0, data := 1, enables := 0, parity := 0 }]).2 = some 0 ∧
    (windowFault (inPass .normal 2 false) noFault).2.2 = some (1, 0xFF) ∧ gpWorks agreeing = true ∧ agreeing.gp.pass = 2 ∧
    (let s := { agreeing with time := { TimeBlock.reset with mono := 24000 } }; s.gp.pass ≠ 0 ∧ gpWorks s = true ∧ s.gp.opened + 24000 ≤ s.time.mono) ∧
    cycleTriggered normal 3 = false ∧ normal.gp.waiting.contains (cycleTask 3) = false := by decide +kernel

theorem witness_GuardDebugging :
    gpDebug (gpOpen (inPass .commissioning 1 false)) = true ∧ (gpOpen (inPass .commissioning 1 false)).gp.halted = false ∧
    (gpOpen (inPass .commissioning 1 false)).gp.pass ≠ 2 ∧ gpDebug (inPass .test 1 true) = true ∧ (inPass .test 1 true).gp.halted = true ∧
    (inPass .test 1 true).gp.pass = 1 ∧ debugValue (inPass .test 1 true) (.breakpoint 3) = some 0 ∧ (inPass .test 1 true).gp.replay.length < 128 ∧
    (inPass .test 2 true).gp.pass ≠ 1 := by decide +kernel

/-- A device of a Pair in Normal: its peer's Unit ID is 7, the Pair ID 9. -/
def paired (role : PairRole) (more : List (Nat × Nat × Bytes)) : State :=
  { inState .normal ([(0x2A00, 1, [1]), (0x2A00, 6, be 4 9), (0x2A00, 7, be 8 7)] ++ more) with
    pair := { PairBlock.reset with role := role }, time := { TimeBlock.reset with sync := 2 } }

/-- A header that the peer sends. -/
def pairHeader (typ : Byte) : PairHeader := { bytes := [typ, 1, 0, 0] ++ be 8 7 ++ be 4 0 ++ be 4 9 ++ be 4 1 }

theorem witness_PairRoles :
    pairActs (paired .discovering []) = true ∧
    (let s := { paired .discovering [] with time := { TimeBlock.reset with mono := 300000000 } };
      pairActs s = true ∧ s.pair.role = .discovering ∧ s.pair.roleAt + 300000000 ≤ s.time.mono) ∧
    (let s := { paired .active [] with time := { TimeBlock.reset with tx := 1000000, mono := 3000000000 } };
      pairActs s = true ∧ s.pair.deferred = none ∧ s.time.tx / 1000000 % 100 ≠ 0 ∧ max s.pair.roleAt (s.pair.peerAt.getD 0) + 3000000000 ≤ s.time.mono) ∧
    (pairTake (paired .discovering []) { bytes := [] } 0x33 0).2 = false ∧ (paired .discovering []).pair.yielded = false ∧ (paired .discovering []).pair.role ≠ .active ∧
    pairActs (paired .active []) = true ∧ (paired .active []).pair.peerLost = false ∧ pairActs (paired .standby []) = true ∧
    (pairTake (paired .discovering []) (pairHeader 0x33) 0x33 0).2 = true ∧ (pairTake (paired .discovering []) (pairHeader 0x33) 0x33 0).1.on 0x2A00 3 = false ∧
    (pairTake (paired .discovering []) (pairHeader 0x33) 0x33 0).1.pair.role = .discovering ∧
    (pairTake (paired .standby []) (pairHeader 0x32) 0x32 255).2 = true ∧
    (let r := (pairTake (paired .standby []) (pairHeader 0x32) 0x32 255).1; r.pair.role = .standby ∧ r.pair.epoch.toNat ≤ beAt (pairHeader 0x32).bytes 12 4) ∧
    (pairTake (paired .active []) (pairHeader 0x34) 0x34 0).2 = true ∧ (pairTake (paired .active []) (pairHeader 0x34) 0x34 0).1.pair.role = .active := by
  decide +kernel

theorem witness_PairDigests :
    (pairTake (paired .syncing []) (pairHeader 0x31) 0x31 0).2 = true ∧ (pairTake (paired .syncing []) (pairHeader 0x31) 0x31 0).1.pair.role = .syncing ∧
    (let s0 := paired .standby [];
      let s := { s0 with
        time := { s0.time with t32 := BitVec.ofNat 32 (5 + pairPeriod s0 + 10000000) },
        pair := { s0.pair with ownDone := [(5, Digest.zero)], digests := [(5, 0, Digest.zero), (5, 1, Digest.zero)] } };
      pairActs s = true ∧ s.time.sync = 2 ∧
      s.pair.ownDone.find? (fun e => decide (pairPeriod s + 10000000 ≤ (s.now - e.1).toNat)) = some (5, Digest.zero) ∧ s.pair.digests.find? (fun e => e.1 == 5 && e.2.1 == 0) = some (5, 0, Digest.zero) ∧
      s.pair.digests.find? (fun e => e.1 == 5 && e.2.1 == 1) = some (5, 1, Digest.zero)) ∧
    (let b := be 2 1 ++ be 2 0 ++ be 2 2 ++ [0, 0] ++ be 4 0 ++ be 4 0 ++ zeros 1024;
      let r := pairTake (paired .standby []) (pairHeader 0x30) 0x30 (beAt b 0 4);
      r.2 = true ∧ r.1.pair.role = .standby ∧ r.1.pair.capsules = [] ∧ pastT32 (BitVec.ofNat 32 (beAt b 8 4) + 50000000) r.1.now = false ∧ 1 < beAt b 4 2) ∧
    (let c : CapsuleIn := { seq := 0, instant := 0, total := 2, check := 0, handover := false, segments := [], dead := false };
      let s0 := paired .standby [];
      let s := { s0 with time := { s0.time with t32 := 50000000, mono := 1000000000 }, pair := { s0.pair with capsules := [c] } };
      s.pair.capsules.find? (fun c => !c.dead && (!(decide (s.time.sync = 2 ∨ s.time.sync = 4)) || dueT32 (c.instant + 50000000) s.now)) = some c ∧
      pairActs s = true ∧ max s.pair.roleAt (s.pair.acceptedAt.getD 0) + 1000000000 ≤ s.time.mono) := by
  decide +kernel

theorem witness_PairDigests_whole :
    (let w := be 2 1 ++ be 2 0 ++ be 2 1 ++ [0, 0] ++ be 4 0 ++ be 4 (crc32 [7]).toNat ++ [7]; beAt w 4 2 ≤ 1 ∧ crc32 (slice w 16 1024) = BitVec.ofNat 32 (beAt w 12 4)) ∧
    (let w := be 2 1 ++ be 2 0 ++ be 2 1 ++ [0, 0] ++ be 4 0 ++ be 4 0 ++ [7]; crc32 (slice w 16 1024) ≠ BitVec.ofNat 32 (beAt w 12 4)) ∧
    (let s := paired .standby []; (s.time.sync = 2 ∨ s.time.sync = 4) ∧ pastT32 (0 - 100000000 + 50000000) s.now = true) := by decide +kernel

theorem witness_PairHandovers :
    (let s0 := paired .standby [(0x2A00, 3, [1]), (0x2A00, 4, [1])]; let s := { s0 with
        time := { s0.time with mono := s0.val 0x2A00 5 * 1000000000 }, pair := { s0.pair with standbySince := some 0 } };
      s.val 0x2A00 4 = 1 ∧ s.on 0x2A00 3 = true ∧ s.pair.claim = none ∧ s.pair.standbySince = some 0 ∧ 0 + s.val 0x2A00 5 * 1000000000 ≤ s.time.mono ∧ s.pair.role = .standby ∧ pairActs s = true) ∧
    (let s0 := paired .standby []; let s := { s0 with
        time := { s0.time with t32 := 50000005 }, pair := { s0.pair with claim := some (5, 2) } };
      s.pair.claim = some (5, 2) ∧ dueT32 (5 + 50000000) s.now = true ∧ s.pair.lastCapsule = none ∧ s.pair.role = .standby ∧ pairActs s = true) ∧
    WriteAllowed (paired .active []) 17 0x2A00 0x0E [1] ∧ standbyPresent (paired .active []) = false ∧
    standbyPresent { paired .active [] with pair := { PairBlock.reset with role := .active, peerRole := 3, healthAt := some 0 } } = true ∧
    (pairTake (paired .standby []) (pairHeader 0x35) 0x35 2).2 = true ∧ (pairTake (paired .standby []) (pairHeader 0x35) 0x35 2).1.pair.claim = none ∧
    (pairTake (paired .active []) (pairHeader 0x35) 0x35 1).2 = true ∧ (pairTake (paired .active []) (pairHeader 0x35) 0x35 1).1.pair.role = .active ∧
    dueT32 0 (paired .active []).now = true ∧ (paired .active []).aud.emergency = false ∧ (handoverOut (paired .active []) 0 1).upd.activating ≠ 1 := by
  unfold WriteAllowed; decide +kernel

/-! ### Chapters 17 to 20 -/

theorem witness_MemoryScrub :
    normal.op.state ≠ .lightSleep ∧ normal.op.state ≠ .deepSleep ∧
    tnat normal.dram.counts (servingPage normal normal.dram.position 4096) < normal.val 0x2600 2 ∧ normal.dram.position + 1 < 116480 ∧
    (let s := { normal with dram := { DramBlock.reset with position := 116479 } };
      tnat s.dram.counts (servingPage s s.dram.position 4096) < s.val 0x2600 2 ∧ 116480 ≤ s.dram.position + 1) ∧
    (1048576 : BitVec 32) ≠ 0 ∧ (1048576 : BitVec 32).toNat ≤ 1048576 ∧ ReadAllowed normal 17 0x2B61 2 := by
  unfold ReadAllowed; decide +kernel

/-- After a request of owner 1 for 64 bytes. -/
def granted : State × BitVec 32 := let r := poolRequestOne normal 1 64 false; (r.1, (r.2).getD 0)

/-- The check of a handle passes. -/
def handleStands (c : (Nat × Nat) ⊕ PoolTag) : Bool := match c with | .inr _ => true | .inl _ => false

theorem witness_PoolHandles :
    handleStands (handleCheck granted.1 1 granted.2 false) = true ∧ handleStands (handleCheck granted.1 1 granted.2 true) = true ∧
    handleStands (handleCheck granted.1 2 granted.2 false) = false ∧ handleStands (handleCheck granted.1 1 0xFFFFFFFF true) = false := by decide +kernel

/-- In Normal with a misuse record and an Inclusion held. -/
def recorded : State :=
  { normal with
    pool := { normal.pool with misuse := [zeros 16], misuseNext := 1 }, wear := { normal.wear with inclusions := [(0, zeros 48)], inclusionNo := 0 } }

theorem witness_Records :
    (BitVec.ofNat 32 (getOwn recorded 17 0x2B61 1) - BitVec.ofNat 32 (recorded.pool.misuseNext - BitVec.ofNat 32 recorded.pool.misuse.length).toNat).toNat < 1 ∧
    normal.pool.misuse.length = 0 ∧
    recorded.wear.inclusions[(BitVec.ofNat 32 (getOwn recorded 17 0x2620 1) -
      BitVec.ofNat 32 (BitVec.ofNat 32 (recorded.wear.inclusionNo + 1) - BitVec.ofNat 32 recorded.wear.inclusions.length).toNat).toNat]? = some (0, zeros 48) ∧
    normal.wear.inclusions.length = 0 ∧ testSessions[17].misuseLost = false ∧ testSessions[17].inclLost = false := by decide +kernel

theorem witness_Journal :
    journalServed normal = true ∧ (let s := { normal with jour := { normal.jour with state := 1 } }; s.jour.state = 1 ∧ checkpointSealed s = true) ∧
    normal.jour.waiting = [] ∧
    (let s := { normal with jour := { normal.jour with waiting := [(.hours 1, .nobody)] } };
      s.jour.waiting = (.hours 1, .nobody) :: [] ∧ s.jour.state ≠ 2 ∧ (placeRecord s (recordSize (.hours 1))).isSome = true) ∧
    normal.op.state ≠ .start ∧ ReadAllowed normal 17 0x2620 2 := by
  unfold ReadAllowed; decide +kernel

/-- In Normal, bank 0 in use and bank 1, the target, in a state; empty parts stand for the factory image. -/
def imaged (st0 st1 : ImageState) : State :=
  { normal with upd := { UpdateBlock.reset with target := 1, running := 0, banks := #v[{ state := st0, parts := [], actNo := 1 }, { state := st1, parts := [], actNo := 0 }] } }

theorem witness_ImageCommands :
    WriteAllowed (imaged .active .empty) 17 0x2700 1 [1] ∧ stagingBarred (imaged .active .empty) = false ∧
    WriteAllowed (imaged .active .staging) 17 0x2700 1 [2] ∧ stagingBarred (imaged .active .staging) = false ∧
    (bankOf (imaged .active .staging) 1).state = .staging ∧ WriteAllowed (imaged .active .failed) 17 0x2700 1 [5] ∧ (imaged .active .failed).upd.erasing = none ∧
    WriteAllowed (imaged .trial .previous) 17 0x2700 1 [4] ∧ bankIn (imaged .trial .previous) .trial = some 0 ∧
    activationBar (imaged .active .staged) = none ∧ WriteAllowed (imaged .active .staged) 17 0x2700 1 [3] ∧ (imaged .active .staged).pair.role ≠ .active ∧
    WriteAllowed (imaged .active .previous) 17 0x2700 1 [6] ∧ (bankOf (imaged .active .previous) (1 - (imaged .active .previous).upd.running)).state = .previous := by
  unfold WriteAllowed; decide +kernel

/-- Where the factory's image is one that verifies, a bank that holds it meets the hypotheses of VERIFY_IMAGE (its staged
parts spell the image out) and of REVERT_TO_PREVIOUS. -/
theorem witness_ImageCommands_verified (h : verifyReason normal Config.factoryImage = 0) :
    verifyReason (imaged .active .previous) (imageOf (bankOf (imaged .active .previous) 1)) = 0 ∧
    verifyReason normal (imageOf { state := .staging, parts := [(0, Config.factoryImage)], actNo := 0 }) = 0 := by
  constructor
  · exact h
  · simpa [imageOf, writtenBytes] using h

/-- The Trial bank 0 has been in Normal for a day. -/
def trialOver : State :=
  let s := imaged .trial .previous
  { s with time := { s.time with mono := 86400000000000 }, upd := { s.upd with normalSince := some 0 } }

/-- An activation in progress, one second after it began. -/
def activating (n phase : Nat) : State :=
  let s := imaged .active .staged
  { s with time := { s.time with mono := 1000000000 }, upd := { s.upd with activating := n, phase := phase } }

theorem witness_ImageEvents :
    ({ imaged .active .staging with upd := { (imaged .active .staging).upd with erasing := some .nobody } } : State).upd.erasing = some .nobody ∧
    WriteAllowed (imaged .active .staging) 17 0x2710 6 (zeros 4) ∧ WriteAllowed (imaged .active .empty) 17 0x2710 1 [] ∧
    stagingBarred (imaged .active .empty) = false ∧ (bankOf (imaged .active .empty) 1).state ≠ .staging ∧
    (activating 1 0).upd.activating = 1 ∧ (activating 1 0).upd.pauseStart + 1000000000 ≤ (activating 1 0).time.mono ∧
    (activating 2 2).upd.activating = 2 ∧ (activating 2 2).upd.phase = 2 ∧
    bankIn trialOver .trial = some 0 ∧ trialOver.upd.normalSince = some 0 ∧ trialOver.op.state = .normal ∧ trialOver.val 0x2700 8 ≠ 0 ∧
    0 + trialOver.val 0x2700 8 * 1000000000 ≤ trialOver.time.mono ∧ trialOver.upd.activating ≠ 2 ∧
    (let s := { inState .commissioning [] with sessions := vendorHost.sessions };
      WriteAllowed s 17 0x2700 0x0A (be 4 0x4C4F434B) ∧ s.op.state = .commissioning ∧ s.upd.lockFuse = false) ∧
    WriteAllowed (inState .recovery []) 17 0x2700 0x0B (be 1 1) := by
  unfold WriteAllowed; decide +kernel

theorem witness_Cvu :
    cvuReaches 3 .spi = true ∧ (cvuOf normal 3).claim = 0 ∧ 2 ≤ bitsOf (0x1F : BitVec 32).toNat 5 0 ∧ bitsOf (0x1F : BitVec 32).toNat 5 0 ≤ 31 ∧
    ¬ (2 ≤ bitsOf (0x01 : BitVec 32).toNat 5 0) ∧ ¬ (bitsOf (0x20 : BitVec 32).toNat 5 0 ≤ 31) ∧ cvuReaches 0 .firmware = true ∧
    (let s := { normal with cvu := normal.cvu.set 2 { Cvu.reset with claim := 1 } }; (cvuOf s 2).claim ≠ 0 ∧ (cvuOf s 2).claim ≠ cvuHolder .spi) ∧
    ({ Cvu.reset with cfg := 0xDF, poly := 0x04C11DB7, init := 0xFFFFFFFF, xor := 0xFFFFFFFF } : Cvu).cfg = 0xDF := by decide +kernel

/-- The host's link is up, with rings and their enables. -/
def hosted : State :=
  let ring0 : Ring := { basl := 0, bash := 0, size := 16, ctl := 1, head := 0, tail := 1, sts := 0, unsignalled := 1, since := 0 }
  { normal with host := { HostBlock.reset with link := 1, busMaster := true, ctl := 1, rings := Vector.replicate 16 ring0 } }

/-- A frame for SPI: the header and payload, and their check. -/
def spiFrame (b : Bytes) : Bytes := b ++ be 2 (crcCcitt b)

theorem witness_Mailbox :
    hostReaches hosted = true ∧ hosted.host.busy = false ∧ undocumented hosted 17 0x2000 = false ∧ served hosted = true ∧ spiFree normal = true ∧
    SpiFrameGood normal (spiFrame [1, 0x20, 0, 1, 0, 0]) 1 0 = true ∧ spiUndocumented normal (spiFrame [1, 0x20, 0, 1, 0, 0]) 1 = false ∧
    SpiFrameGood normal (spiFrame [2, 0x20, 0, 2, 0, 1, 0]) 2 1 = true ∧ spiUndocumented normal (spiFrame [2, 0x20, 0, 2, 0, 1, 0]) 2 = false ∧
    SpiFrameGood normal (spiFrame [0x10, 0, 0, 0, 0, 0]) 0x10 0 = true ∧
    (let s := { hosted with host := { hosted.host with busy := true, result := some (0, [1]) } }; s.host.busy = true ∧ s.host.result = some (0, [1]) ∧ hostReaches s = true) ∧
    (let s := { normal with spi := { normal.spi with answer := some [0, 1] } }; s.spi.answer = some [0, 1] ∧ SpiFrameGood s (spiFrame [0x10, 0, 0, 0, 0, 0]) 0x10 0 = true) ∧
    (let s := { normal with spi := { normal.spi with request := some [1], result := some (0, []) } }; s.spi.request = some [1] ∧ s.spi.result = some (0, [])) := by
  decide +kernel

theorem witness_SpiFrames :
    SpiFrameGood normal (spiFrame [0x20, 6, 0x2B, 0, 0, 4, 0, 0, 0, 0]) 0x20 4 = true ∧ spiUnit (spiIndex (spiFrame [0x20, 6, 0x2B, 0, 0, 4, 0, 0, 0, 0])) = some (2, 0x2B) ∧
    spiUnit (spiIndex (spiFrame [0x21, 6, 0x40, 0, 0, 0])) = some (3, 0) ∧ spiUnit (spiIndex (spiFrame [0x21, 6, 0x2C, 0, 0, 0])) = none ∧
    SpiFrameGood normal (spiFrame [0x21, 6, 0x2C, 0, 0, 0]) 0x21 0 = true ∧ SpiFrameGood normal (spiFrame [0x7F, 0, 0, 0, 0, 0]) 0x7F 0 = true ∧
    SpiFrameGood normal (zeros 12) 0x20 4 = false ∧ SpiFrameGood normal (zeros 8) 0x7F 0 = false := by decide +kernel

/-- After a request for 64 bytes the host's aperture stands on its buffer. -/
def withAperture : State :=
  let r := poolRequestOne hosted 8 64 false
  { r.1 with host := { r.1.host with pasel := (r.2).getD 0 } }

theorem witness_HostPool :
    poolServed hosted = true ∧ hpDone hosted = true ∧ (poolRequestOne hosted 8 0 false).2 = none ∧
    (poolRequestOne hosted 8 64 false).2.isSome = true ∧
    hostReaches withAperture = true ∧ apertureOpen withAperture = true ∧ apertureOpen hosted = false ∧ hosted.host.link ≠ 0 ∧ normal.op.state ≠ .recovery ∧ sortedKeys withAperture.host.buffers = true ∧
    linkMayTrain { normal with sessions := normal.sessions.set 17 Session.closed } = true ∧ isOpen { normal with sessions := normal.sessions.set 17 Session.closed } 17 = false := by
  decide +kernel

theorem witness_HostRings :
    hostReaches hosted = true ∧ (15 : BitVec 32).toNat < (ring hosted 15).size.toNat ∧ (ring hosted 15).size.toNat ≤ (16 : BitVec 32).toNat ∧
    ringSizeOk { ring hosted 0 with size := 4096 } = true ∧
    (ring (setRing hosted 0 (fun y => { y with ctl := 0 })) 0).ctl.getLsbD 0 = false ∧ ringRuns hosted 7 = true ∧ (ring hosted 7).head ≠ (ring hosted 7).tail ∧
    txTurn hosted = some 0 ∧ (let s := { hosted with host := { hosted.host with lastTx := 6 } }; txTurn s = some 7) ∧ 14 ≤ hosted.val 0x3026 5 - 4 ∧ bitOf (byteAt (zeros 32) 10) 2 = false ∧
    (poolRequestOne hosted (ringOwner 7) 14 true).2.isSome = true ∧
    ringRuns hosted 15 = true ∧
    (let s := { hosted with fab := { hosted.fab with frames := [plainFrame], queues := hosted.fab.queues.set 311 [{ frame := 1, mirror := none, cells := 1, cut := false }] } };
      let r := selectClass s (hostReady s) 38;
      r.2 = some 7 ∧ queue r.1 (queueNo 38 7) = { frame := 1, mirror := none, cells := 1, cut := false } :: [] ∧ frameOf r.1 1 = some plainFrame) ∧
    (let s := { hosted with time := { TimeBlock.reset with mono := 1000 * 65535 } };
      0 < (ring s 15).unsignalled ∧ (ring s 15).since + 1000 * bitsOf (ring s 15).ctl.toNat 31 16 ≤ s.time.mono) := by decide +kernel

theorem witness_TestAccessPort : debugOpen normal = true ∧ debugOpen { normal with upd := { normal.upd with lockFuse := true } } = false ∧ [0x00, 0x01, 0x02, 0x03, 0x04, 0x20, 0x21, 0x22, 0x30].contains (0xFF : BitVec 8).toNat = false := by decide

/-- Where the debug key accepts a token for a challenge, a state that holds both meets the first case; one without a
challenge meets the second. -/
theorem witness_DebugUnlock (c tk : Bytes) (h : Config.debugTokenValid (c ++ be 8 Config.unitId.toNat) tk = true) :
    tokenGood { normal with tap := { normal.tap with token := some (tk, 1), challenge := some (c, 0) } } tk 1 = true ∧
    tokenGood { normal with tap := { normal.tap with token := some (tk, 1), challenge := none } } tk 1 = false := by
  simp [tokenGood, h]

/-! ### The invariants -/

theorem witness_Invariants :
    MayChangeConfig .idcode = false ∧ MayChangeState .idcode = false ∧ (exec .idcode normal matches .next _) = true ∧ (step { normal with pending := [.idcode] } matches .next _) = true ∧
    ({ normal.upd with lockFuse := true } : UpdateBlock).lockFuse = true := by decide +kernel

theorem witness_ConfigurationStaysCanonical : CanonicalConfig State.reset.cfg ∧ CanonicalConfig normal.cfg := by
  unfold CanonicalConfig; decide +kernel

theorem witness_RecoveryActivatesByRestart :
    (let s := { inState .recovery [] with upd := (imaged .active .staged).upd };
      s.op.state = .recovery ∧ WriteAllowed s 17 0x2700 1 [3] ∧ activationBar s = none ∧ s.upd.target < 2 ∧ (bankOf s s.upd.target).state = .staged ∧
      (bankOf s (1 - s.upd.target)).state = .active) := by
  unfold WriteAllowed; decide +kernel

end Sys2Proof.Tests
end

section
/-! PROOFS. Times on T32 and the raw counts (R9 to R11): what the comparisons say about the distance to a target, and what
one more on a counter does to its table. -/

namespace Sys2Proof.Machine

/-- The distance that R9 compares is the difference of the two words. -/
theorem toNat_sub_t32 (t n : BitVec 32) : (t - n).toNat = (t.toNat + 2 ^ 32 - n.toNat) % 2 ^ 32 := by
  rw [BitVec.toNat_sub]
  have hn := n.isLt
  congr 1
  omega

theorem dueT32_iff (t n : BitVec 32) : dueT32 t n = true ↔ (t - n).toNat = 0 ∨ 2 ^ 31 < (t - n).toNat := by
  simp [dueT32]

theorem pastT32_iff (t n : BitVec 32) : pastT32 t n = true ↔ 2 ^ 31 < (t - n).toNat := by
  simp [pastT32]

/-- Settles O14: both comparisons look at the difference of the words, which is the distance of R9. -/
theorem targetsOnT32AreDueByHalfRange : Obligations.TargetsOnT32AreDueByHalfRange := by
  intro t n
  dsimp only
  rw [← toNat_sub_t32]
  exact ⟨dueT32_iff t n, pastT32_iff t n⟩

theorem rawBump_below {s : State} {idx sub sel : Nat} (h : tnat s.cnt (ckey idx sub sel) < s32Max) :
    rawBump s idx sub sel = { s with cnt := tinc s.cnt (ckey idx sub sel) 1 } := if_pos h

theorem rawBump_full {s : State} {idx sub sel : Nat} (h : s32Max ≤ tnat s.cnt (ckey idx sub sel)) :
    rawBump s idx sub sel = s := if_neg (Nat.not_lt.2 h)

/-- A raw count changes the counter table alone. -/
theorem rawBump_frame (s : State) (idx sub sel : Nat) : rawBump s idx sub sel = { s with cnt := (rawBump s idx sub sel).cnt } := by
  rcases Nat.lt_or_ge (tnat s.cnt (ckey idx sub sel)) s32Max with h | h
  · rw [rawBump_below h]
  · rw [rawBump_full h]

theorem bumpW_cnt (s : State) (idx sub sel n : Nat) :
    (bumpW s idx sub sel n).cnt = tput s.cnt (ckey idx sub sel) ((tnat s.cnt (ckey idx sub sel) + n) % 2 ^ 64) := rfl

@[simp] theorem tnat_tinc_same (t : Tbl Nat) (k n : Nat) : tnat (tinc t k n) k = tnat t k + n := tnat_tput_same _ _ _

theorem tnat_tinc_other (t : Tbl Nat) (k j n : Nat) (h : sortedKeys t = true) (hj : j ≠ k) : tnat (tinc t k n) j = tnat t j :=
  tnat_tput_other _ _ _ _ h hj

/-- Settles O15: below the largest value the count is one table write, at it the state stays. -/
theorem countersHoldAtTheirLargestValue : Obligations.CountersHoldAtTheirLargestValue := by
  intro s idx sub sel n
  refine ⟨fun hlt hs => ?_, fun hge => rawBump_full hge, rawBump_frame s idx sub sel, fun hs => ?_⟩
  · rw [rawBump_below hlt]
    exact ⟨tnat_tinc_same _ _ _, fun j hj => tnat_tinc_other _ _ _ _ hs hj⟩
  · rw [bumpW_cnt]
    exact ⟨tnat_tput_same _ _ _, fun j hj => tnat_tput_other _ _ _ _ hs hj⟩

end Sys2Proof.Machine
end

section
/-! PROOFS. Object writes that pass their checks (R42, R58, R76): what each class of object makes of a write, how the write
is answered, and the frames of OBJECT_WRITE, COUNTER_CLEAR, COUNTER_LATCH and MOS_WRITE around it. -/

namespace Sys2Proof.Machine

/-! ### The write of one object -/

section
variable {s : State} {ses : SessionNo} {dest : ReplyTo} {x : ObjRow} {idx sub : Nat} {v : Bytes}

theorem writeObject_staged (hw : writeCheck s ses.val idx sub v = .inl x) (hx : x.apply = .s) :
    writeObject s ses dest idx sub v = ((stage s ses idx sub v).1, some (stage s ses idx sub v).2) := by
  simp only [writeObject, hw, hx]

theorem writeObject_immediate (hw : writeCheck s ses.val idx sub v = .inl x) (hx : x.apply ≠ .s) (ha : inArmed s idx sub = false) :
    writeObject s ses dest idx sub v = writeImmediate s ses dest x idx sub v := by
  unfold writeObject
  rw [hw]
  dsimp only
  split
  · contradiction
  · rw [ha, if_neg Bool.false_ne_true]

/-- An ordinary write names no command register and has no action of its own. -/
theorem OrdinaryWrite.noCommand (h : OrdinaryWrite s ses idx sub v = true) :
    ¬ (idx = 0x2000 ∧ sub = 2) ∧ ¬ (idx = 0x2200 ∧ sub = 1) ∧ ¬ (idx = 0x2700 ∧ sub = 1) ∧ writeAct s ses idx sub v = none := by
  simp only [OrdinaryWrite, Bool.and_eq_true, Bool.not_eq_true', ← Bool.not_eq_true, beq_iff_eq, Option.isNone_iff_eq_none] at h
  obtain ⟨⟨⟨hstate, hcs⟩, hupd⟩, hact⟩ := h
  exact ⟨hstate, hcs, hupd, hact⟩

theorem PlainObject.parts (h : PlainObject s ses x idx sub v = true) :
    OrdinaryWrite s ses idx sub v = true ∧ x.ty ≠ .s32 ∧ ¬ (isGroup idx = true ∧ sub = 1) ∧ perSession idx sub = false ∧ x.pers ≠ .p := by
  simp only [PlainObject, Bool.and_eq_true, Bool.not_eq_true', ← Bool.not_eq_true, beq_iff_eq, bne_iff_ne] at h
  obtain ⟨⟨⟨⟨hord, hty⟩, hgroup⟩, hsession⟩, hpers⟩ := h
  exact ⟨hord, hty, hgroup, Bool.eq_false_iff.2 hsession, hpers⟩

/-- What an ordinary write does, by the kind of its object: a counter, a Latch subindex, a value of the session, a value of
the journal, or a volatile value. -/
def ordinaryEffect (s : State) (ses : SessionNo) (dest : ReplyTo) (x : ObjRow) (idx sub : Nat) (v : Bytes) : State × Option Nat :=
  if x.ty = .s32 then
    if beNat v ≠ 0 then (s, some 8)
    else if x.pers = .p then persistWrite s dest (.cleared (ckey idx sub (selector s ses.val idx))) 0
    else ({ s with cnt := tdel s.cnt (ckey idx sub (selector s ses.val idx)) }, some 0)
  else if isGroup idx ∧ sub = 1 then ((latchWrite s ses.val idx (beNat v)).1, some (latchWrite s ses.val idx (beNat v)).2)
  else if perSession idx sub then (setOwn s ses.val idx sub (beNat v), some 0)
  else if x.pers = .p then persistWrite s dest (.value (okey idx sub) v) (persistCheck s idx sub v)
  else ({ s with cfg := cfgPut s.cfg idx sub v }, some 0)

theorem writeImmediate_ordinary (h : OrdinaryWrite s ses idx sub v = true) :
    writeImmediate s ses dest x idx sub v = ordinaryEffect s ses dest x idx sub v := by
  obtain ⟨hstate, hcs, hupd, hact⟩ := OrdinaryWrite.noCommand h
  rw [writeImmediate, if_neg hstate, if_neg hcs, if_neg hupd, hact]
  rfl

theorem persistWrite_appends {body : JBody} (hj : s.jour.state ≠ 2) : persistWrite s dest body 0 = (jAppend (thaw s) body dest, none) := by
  rw [persistWrite, if_neg (not_not_intro rfl), if_neg hj]

/-- An ordinary write whose checks pass has the effect of its object's kind. -/
theorem writeObject_ordinary (hw : writeCheck s ses.val idx sub v = .inl x) (hx : x.apply ≠ .s) (ha : inArmed s idx sub = false)
    (h : OrdinaryWrite s ses idx sub v = true) : writeObject s ses dest idx sub v = ordinaryEffect s ses dest x idx sub v :=
  (writeObject_immediate hw hx ha).trans (writeImmediate_ordinary h)

theorem writeObject_plain (hw : writeCheck s ses.val idx sub v = .inl x) (hx : x.apply ≠ .s) (ha : inArmed s idx sub = false)
    (h : PlainObject s ses x idx sub v = true) :
    writeObject s ses dest idx sub v = ({ s with cfg := cfgPut s.cfg idx sub v }, some 0) := by
  obtain ⟨ho, hty, hg, hp, hpers⟩ := PlainObject.parts h
  rw [writeObject_ordinary hw hx ha ho, ordinaryEffect, if_neg hty, if_neg hg, hp, if_neg Bool.false_ne_true, if_neg hpers]

end

/-! ### The latch of a counter group -/

theorem getElem?_vmod {α : Type} {n : Nat} {t : Vector α n} {i : Nat} {a : α} (f : α → α) (h : t[i]? = some a) :
    (vmod t i f)[i]? = some (f a) := by
  have hi : i < n := (Vector.getElem?_eq_some_iff.1 h).1
  rw [vmod, h]
  exact Vector.getElem?_setIfInBounds_self_of_lt hi

theorem isOpen_session {s : State} {n : Nat} (h : isOpen s n = true) : ∃ x, s.sessions[n]? = some x := by
  unfold isOpen at h
  split at h
  · exact ⟨_, ‹_›⟩
  · cases h

/-- The snapshot that a latch takes of a group's selected counters. -/
def latchedSnapshot (s : State) (ses idx : Nat) : Snapshot :=
  { index := idx, sel := selector s ses idx, stamp := s.now,
    values := s.cnt.filter (fun e => e.1 / 65536 / 256 == idx && e.1 % 65536 == selector s ses idx) }

theorem latchWrite_result {s : State} {ses idx v : Nat} (h : v ≤ 1) : (latchWrite s ses idx v).2 = 0 := by
  obtain rfl | rfl : v = 0 ∨ v = 1 := by omega
  · rfl
  · rfl

theorem latchWrite_cnt (s : State) (ses idx v : Nat) : (latchWrite s ses idx v).1.cnt = s.cnt := by
  unfold latchWrite
  split <;> rfl

theorem snapshotOf_latched {s : State} {ses : Nat} (idx : Nat) (h : isOpen s ses = true) :
    snapshotOf (latchWrite s ses idx 1).1 ses idx = some (latchedSnapshot s ses idx) := by
  obtain ⟨a, ha⟩ := isOpen_session h
  simp [snapshotOf, latchWrite, getElem?_vmod _ ha, latchedSnapshot]

theorem snapshotOf_released {s : State} {ses : Nat} (idx : Nat) (h : isOpen s ses = true) :
    snapshotOf (latchWrite s ses idx 0).1 ses idx = none := by
  obtain ⟨a, ha⟩ := isOpen_session h
  simp [snapshotOf, latchWrite, getElem?_vmod _ ha]

/-! ### The answer of a write, and the commands of a session -/

section
variable {s : State} {ses : SessionNo} {dest : ReplyTo} {idx sub : Nat} {v : Bytes}

/-- An access answers its result where it has one; without one the answer comes later. -/
def answerResult (r : State × Option Nat) (dest : ReplyTo) : State :=
  match r with
  | (t, some c) => reply t dest (BitVec.ofNat 8 c) []
  | (t, none) => t

@[simp] theorem answerResult_some (t : State) (c : Nat) (dest : ReplyTo) : answerResult (t, some c) dest = reply t dest (BitVec.ofNat 8 c) [] := rfl

@[simp] theorem answerResult_none (t : State) (dest : ReplyTo) : answerResult (t, none) dest = t := rfl

theorem answerWrite_eq (s : State) (ses : SessionNo) (dest : ReplyTo) (idx sub : Nat) (v : Bytes) :
    answerWrite s ses dest idx sub v = answerResult (writeObject s ses dest idx sub v) dest := rfl

section
variable {x : ObjRow} (hw : writeCheck s ses.val idx sub v = .inl x) (hx : x.apply ≠ .s) (ha : inArmed s idx sub = false)
  (ho : OrdinaryWrite s ses idx sub v = true)
include hw hx ha ho

/-- A write of a class I value to the journal waits for its record, which answers it. -/
theorem answerWrite_persistent (hty : x.ty ≠ .s32) (hg : ¬ (isGroup idx = true ∧ sub = 1)) (hs : perSession idx sub = false)
    (hp : x.pers = .p) (hc : persistCheck s idx sub v = 0) (hj : s.jour.state ≠ 2) :
    answerWrite s ses dest idx sub v = jAppend (thaw s) (.value (okey idx sub) v) dest := by
  rw [answerWrite_eq, writeObject_ordinary hw hx ha ho, ordinaryEffect, if_neg hty, if_neg hg, hs, if_neg Bool.false_ne_true, if_pos hp, hc,
    persistWrite_appends hj, answerResult_none]

theorem answerWrite_clear_volatile (hty : x.ty = .s32) (hv : beNat v = 0) (hp : x.pers ≠ .p) :
    answerWrite s ses dest idx sub v = reply { s with cnt := tdel s.cnt (ckey idx sub (selector s ses.val idx)) } dest 0 [] := by
  rw [answerWrite_eq, writeObject_ordinary hw hx ha ho, ordinaryEffect, if_pos hty, if_neg (not_not_intro hv), if_neg hp, answerResult_some]
  rfl

theorem answerWrite_clear_persistent (hty : x.ty = .s32) (hv : beNat v = 0) (hp : x.pers = .p) (hj : s.jour.state ≠ 2) :
    answerWrite s ses dest idx sub v = jAppend (thaw s) (.cleared (ckey idx sub (selector s ses.val idx))) dest := by
  rw [answerWrite_eq, writeObject_ordinary hw hx ha ho, ordinaryEffect, if_pos hty, if_neg (not_not_intro hv), if_pos hp,
    persistWrite_appends hj, answerResult_none]

theorem answerWrite_latch (hty : x.ty ≠ .s32) (hg : isGroup idx = true) (h1 : sub = 1) (hv : beNat v ≤ 1) :
    answerWrite s ses dest idx sub v = reply (latchWrite s ses.val idx (beNat v)).1 dest 0 [] := by
  rw [answerWrite_eq, writeObject_ordinary hw hx ha ho, ordinaryEffect, if_neg hty, if_pos ⟨hg, h1⟩, latchWrite_result hv, answerResult_some]
  rfl

end

theorem sessionWrite_served {index subindex : BitVec 16} (hs : served s = true) (ho : isOpen s ses.val = true)
    (hu : undocumented s ses.val index.toNat = false) :
    sessionWrite s ses index subindex v = .next (answerWrite s ses (.session ses) index.toNat subindex.toNat v) := by
  simp [sessionWrite, hs, ho, hu]

section
variable {index : BitVec 16} (hs : served s = true) (ho : isOpen s ses.val = true) (hu : undocumented s ses.val index.toNat = false)
include hs ho hu

theorem exec_objectWrite_served (subindex : BitVec 8) :
    exec (.objectWrite ses index subindex v) s = .next (answerWrite s ses (.session ses) index.toNat subindex.toNat v) := by
  have h := sessionWrite_served (subindex := subindex.setWidth 16) (v := v) hs ho hu
  rwa [BitVec.toNat_setWidth_of_le (by decide)] at h

theorem exec_counterClear_served (subindex : BitVec 8) :
    exec (.counterClear ses index subindex v) s = .next (answerWrite s ses (.session ses) index.toNat subindex.toNat v) :=
  exec_objectWrite_served hs ho hu subindex

theorem exec_counterLatch_served : exec (.counterLatch ses index v) s = .next (answerWrite s ses (.session ses) index.toNat 1 v) :=
  sessionWrite_served hs ho hu

end

end

/-! ### MOS_WRITE -/

/-- A request that is taken up runs its action on the state that holds it as outstanding. -/
theorem mosRequest_fresh {s : State} {slot : Fin 8} {head : MosHead} {kind : BitVec 8} {tag index : BitVec 16} {sub : BitVec 8}
    (offset : BitVec 32) (act : State → ReplyTo → State) (h : MosFresh s slot head kind tag index sub = true) :
    mosRequest s slot head kind tag index sub offset act =
      act (mosTaken s slot kind tag index sub) (.mos slot kind tag index sub offset) := by
  unfold MosFresh at h
  split at h
  next a ha =>
    simp only [Bool.and_eq_true, beq_iff_eq, decide_eq_true_eq, Option.isNone_iff_eq_none] at h
    obtain ⟨⟨⟨⟨hs, ho⟩, hv⟩, hroom⟩, hkept⟩ := h
    simp [mosRequest, ha, hs, ho, hv, hkept, Nat.not_le.2 hroom, mosTaken]
  next => cases h

section
variable {u : State} {ses : SessionNo} {dest : ReplyTo} {idx sub offset : Nat} {last : Bool} {v : Bytes}

theorem segmentWrite_whole (h : isDomObject idx sub = false) : segmentWrite u ses dest idx sub offset last v = writeObject u ses dest idx sub v := by
  simp [segmentWrite, h]

/-- A segment that goes on where the data held end is kept, and the last one writes the whole value. -/
theorem segmentWrite_goesOn (hd : isDomObject idx sub = true) (hc : segmentCheck u ses.val idx sub = none)
    (ho : offset = (partialOf u ses.val idx sub).length) (hl : (partialOf u ses.val idx sub ++ v).length ≤ 2097152) :
    segmentWrite u ses dest idx sub offset last v =
      if last then writeObject (dropPartial u ses.val idx sub) ses dest idx sub (partialOf u ses.val idx sub ++ v)
      else (setPartial u ses.val idx sub (partialOf u ses.val idx sub ++ v), some 0) := by
  have hfits : ¬ (offset ≠ (partialOf u ses.val idx sub).length ∨ 2097152 < (partialOf u ses.val idx sub ++ v).length) := by omega
  unfold segmentWrite
  rw [hd, hc]
  exact if_neg hfits

end

section
variable {s : State} {slot : Fin 8} {head : MosHead} {tag index : BitVec 16} {sub : BitVec 8} {offset : BitVec 32} {last : Bool} {v : Bytes}
  (hf : MosFresh s slot head 2 tag index sub = true) (hu : undocumented s slot.val index.toNat = false) (hv : v.length ≤ 1200)
include hf hu hv

/-- MOS_WRITE, taken up, answers the result of its write. -/
theorem exec_mosWrite_taken :
    exec (.mosWrite slot ⟨head, tag⟩ index sub offset last v) s =
      .next (answerResult (segmentWrite (mosTaken s slot 2 tag index sub) (mosSession slot) (.mos slot 2 tag index sub offset) index.toNat sub.toNat
        offset.toNat last v) (.mos slot 2 tag index sub offset)) := by
  change execMosWrite .. = _
  rw [execMosWrite, hu, Bool.and_false, if_neg Bool.false_ne_true, mosRequest_fresh offset _ hf]
  rw [if_neg (Nat.not_lt.2 hv)]
  rfl

end

/-! ### The obligation -/

/-- Settles O8: each command is the write of its object, answered; the kind of the object says what the write does. -/
theorem objectWritesTakeEffect : Obligations.ObjectWritesTakeEffect := by
  intro s ses slot head tag index sub offset last v x
  refine ⟨fun hs ho hu => ?_, fun hs ho hu ha hw hx hord hty hg => ?_, fun hf hu hv => ?_⟩
  · rw [exec_objectWrite_served hs ho hu, exec_counterClear_served hs ho hu]
    refine ⟨rfl, fun hw hx => ?_, fun hw hx ha =>
      ⟨fun hplain => ?_, fun hord hty hg hps hp hc hj => ?_, fun hord hty hz => ⟨fun hp => ?_, fun hp hj => ?_⟩⟩⟩
    · rw [answerWrite_eq, writeObject_staged hw hx, answerResult_some, reply_session]
    · rw [answerWrite_eq, writeObject_plain hw hx ha hplain, answerResult_some, reply_session]
      rfl
    · have hg' : ¬ (isGroup index.toNat = true ∧ sub.toNat = 1) := fun h => hg ⟨h.1, BitVec.eq_of_toNat_eq h.2⟩
      rw [answerWrite_persistent hw hx ha hord hty hg' hps hp hc hj]
    · rw [answerWrite_clear_volatile hw hx ha hord hty hz hp, reply_session]
    · rw [answerWrite_clear_persistent hw hx ha hord hty hz hp hj]
  · have hlatch : beNat v ≤ 1 → exec (.counterLatch ses index v) s =
        .next (emit (latchWrite s ses.val index.toNat (beNat v)).1 (.answer (.session ses) 0 [])) := fun hle => by
      rw [exec_counterLatch_served hs ho hu, answerWrite_latch hw hx ha hord hty hg rfl hle, reply_session]
    refine ⟨fun h1 => ⟨_, hlatch (by omega), rfl, latchWrite_cnt .., ?_⟩, fun h0 => ⟨_, hlatch (by omega), rfl, latchWrite_cnt .., ?_⟩⟩
    · rw [h1]
      exact snapshotOf_latched _ ho
    · rw [h0]
      exact snapshotOf_released _ ho
  · rw [exec_mosWrite_taken hf hu hv]
    refine ⟨fun w c h => ?_, fun w h => ?_, fun hd ha hw hx hplain => ?_, fun hd hc hoff hlen => ?_⟩
    · rw [h, answerResult_some]
    · rw [h, answerResult_none]
    · rw [segmentWrite_whole hd, writeObject_plain (ses := mosSession slot) hw hx ha hplain]
      rfl
    · rw [segmentWrite_goesOn (ses := mosSession slot) hd hc hoff hlen]
      exact ⟨fun hl => by rw [hl]; rfl, fun hl => by rw [hl]; rfl⟩

end Sys2Proof.Machine
end

section
/-! PROOFS. What is recorded, counted, pooled or inspected leaves the frame path as it is: events and counters (R10, R70 to R73),
Pool Manager buffers (R487 to R492), the learning and policing of Lookup (R125 to R143), and the Zone Gate (R194 to R222). -/

namespace Sys2Proof.Machine

@[simp] theorem fab_ite (c : Prop) [Decidable c] (a b : State) : (if c then a else b).fab = if c then a.fab else b.fab := apply_ite ..

/-- A reading of the state that every step of a fold keeps is kept by the fold. -/
theorem reading_foldl {α β : Type} (π : State → β) {f : State → α → State} (h : ∀ t x, π (f t x) = π t) (l : List α) (s : State) :
    π (l.foldl f s) = π s := by
  induction l generalizing s with
  | nil => rfl
  | cons x r ih => exact (ih _).trans (h s x)

theorem fab_foldl {α : Type} (f : State → α → State) (h : ∀ t x, (f t x).fab = t.fab) (l : List α) (s : State) : (l.foldl f s).fab = s.fab :=
  reading_foldl State.fab h l s

/-! ### Events and counters -/

@[simp] theorem rawBump_fab (s : State) (idx sub sel : Nat) : (rawBump s idx sub sel).fab = s.fab := by rw [rawBump_frame]

@[simp] theorem jAppend_fab (s : State) (body : JBody) (dest : ReplyTo) : (jAppend s body dest).fab = s.fab := by simp [jAppend]

@[simp] theorem tally_fab (s : State) (idx sub sel : Nat) : (tally s idx sub sel).fab = s.fab := by simp [tally, keepCount]

@[simp] theorem bumpW_fab (s : State) (idx sub sel n : Nat) : (bumpW s idx sub sel n).fab = s.fab := rfl

@[simp] theorem wideN_fab (s : State) (base n sub amount : Nat) : (wideN s base n sub amount).fab = s.fab := rfl

@[simp] theorem noteLimit_fab (s : State) (key : Nat) : (noteLimit s key).fab = s.fab := rfl

@[simp] theorem canMgmtSend_fab (s : State) (cn : Nat) (f : CanFrame) : (canMgmtSend s cn f).fab = s.fab := by
  unfold canMgmtSend
  split <;> simp

@[simp] theorem emcyAll_fab (s : State) (data : Bytes) : (emcyAll s data).fab = s.fab := by
  refine fab_foldl _ (fun t cn => ?_) _ _
  unfold emcyOn
  repeat' split
  all_goals simp

@[simp] theorem loseRecord_fab (s : State) (gone : BitVec 32) : (loseRecord s gone).fab = s.fab :=
  fab_foldl _ (fun t _ => tally_fab t _ _ _) _ _

@[simp] theorem pushRecord_fab (s : State) (code sev src : Nat) (data : Bytes) : (pushRecord s code sev src data).fab = s.fab := by
  unfold pushRecord
  extract_lets r _ev s1
  have h1 : s1.fab = s.fab := by
    dsimp only [s1]
    split <;> simp
  split
  · exact (emcyAll_fab _ _).trans h1
  · exact h1

@[simp] theorem afterRound_fab (before s : State) : (afterRound before s).fab = s.fab := by
  unfold afterRound
  extract_lets sat s1 s2 s3
  have hsat : ∀ t k i j, (sat t k i j).fab = t.fab := fun t k i j => by simp [sat]
  have h2 : s2.fab = s.fab := (fab_foldl _ (fun t cn => hsat t _ _ _) _ _).trans (hsat _ _ _ _)
  have h3 : s3.fab = s.fab := (fab_foldl _ (fun t cn => by simp) _ _).trans h2
  split
  · simpa using h3
  · exact h3

@[simp] theorem afterRecord_fab (before s : State) : (afterRecord before s).fab = s.fab := by
  have h : ∀ (fuel : Nat) (b t : State), (afterRounds fuel b t).fab = t.fab := by
    intro fuel
    induction fuel with
    | zero => exact fun _ _ => rfl
    | succ n ih =>
      intro b t
      unfold afterRounds
      simp [ih]
  exact h 20 before s

@[simp] theorem hostEdges_fab (s : State) : (hostEdges s).fab = s.fab := by simp [hostEdges]

@[simp] theorem settle_fab (before s : State) : (settle before s).fab = s.fab := by simp [settle]

@[simp] theorem emcyCleared_fab (before after : State) : (emcyCleared before after).fab = after.fab := by simp [emcyCleared]

@[simp] theorem raise_fab (s : State) (code sev src : Nat) (data : Bytes) : (raise s code sev src data).fab = s.fab := by simp [raise]

@[simp] theorem raiseLimited_fab (s : State) (sel period code sev src : Nat) (data : Bytes) :
    (raiseLimited s sel period code sev src data).fab = s.fab := by simp [raiseLimited]

@[simp] theorem bumpAt_fab (s : State) (idx sub sel shown : Nat) : (bumpAt s idx sub sel shown).fab = s.fab := by simp [bumpAt]

@[simp] theorem bump_fab (s : State) (idx sub : Nat) : (bump s idx sub).fab = s.fab := bumpAt_fab ..

@[simp] theorem bumpN_fab (s : State) (base n sub : Nat) : (bumpN s base n sub).fab = s.fab := bumpAt_fab ..

@[simp] theorem marginEvents_fab (s : State) (cls : Nat) (wornAtZero : Bool) : (marginEvents s cls wornAtZero).fab = s.fab := by
  simp [marginEvents]

/-! ### Pool Manager buffers -/

@[simp] theorem poolFail_fab (s : State) (o c cause : Nat) : (poolFail s o c cause).fab = s.fab := by simp [poolFail]

@[simp] theorem grantFrom_fab (s : State) (o c : Nat) : (grantFrom s o c).1.fab = s.fab := rfl

@[simp] theorem poolTry_fab (s : State) (o c : Nat) (climb : Bool) (fuel : Nat) : (poolTry s o c climb fuel).1.fab = s.fab := by
  induction fuel generalizing s c with
  | zero => rfl
  | succ n ih =>
    unfold poolTry
    repeat' split
    all_goals simp [ih]

@[simp] theorem poolRequestOne_fab (s : State) (o size : Nat) (climb : Bool) : (poolRequestOne s o size climb).1.fab = s.fab := by
  unfold poolRequestOne
  split <;> simp

@[simp] theorem rejectHandle_fab (s : State) (who : Nat) (h : BitVec 32) (kind ctr : Nat) : (rejectHandle s who h kind ctr).fab = s.fab := by
  simp [rejectHandle, misuse]

@[simp] theorem cutMinima_fab (s : State) (c : Nat) : (cutMinima s c).fab = s.fab := fab_foldl _ (fun t o => by simp) _ _

@[simp] theorem remapPage_fab (s : State) (page spare : Nat) (rest : List Nat) (uncorr : Bool) :
    (remapPage s page spare rest uncorr).fab = s.fab := by simp [remapPage, touchPage]

@[simp] theorem bufferGone_fab (s : State) (c i : Nat) : (bufferGone s c i).fab = s.fab := by simp [bufferGone]

@[simp] theorem retireWaiting_fab (s : State) : (retireWaiting s).fab = s.fab := by
  refine fab_foldl _ (fun t e => ?_) _ _
  split <;> simp

@[simp] theorem withdrawFrom_fab (s : State) (c : Nat) : (withdrawFrom s c).fab = s.fab := by
  unfold withdrawFrom
  dsimp only
  repeat' split
  all_goals simp

@[simp] theorem withdrawLargest_fab (s : State) (fuel : Nat) : (withdrawLargest s fuel).fab = s.fab := by
  induction fuel generalizing s with
  | zero => rfl
  | succ n ih =>
    unfold withdrawLargest
    repeat' split
    all_goals simp [ih]

@[simp] theorem poolFreeOp_fab (s : State) (who : Nat) (h : BitVec 32) : (poolFreeOp s who h).fab = s.fab := by
  unfold poolFreeOp
  split <;> simp [returnBuffer]

/-! ### Lookup at a frame's end -/

@[simp] theorem closeGate_fab (s : State) (g cause : Nat) : (closeGate s g cause).fab = s.fab := by simp [closeGate]

@[simp] theorem countOversize_fab (s : State) (p h : Nat) (stream : Bool) : (countOversize s p h stream).fab = s.fab := by
  simp [countOversize]

@[simp] theorem learnFrame_fab (s : State) (f : Frame) (x : Parsed) : (learnFrame s f x).fab = s.fab := by
  unfold learnFrame learn
  dsimp only
  repeat' split
  all_goals simp

@[simp] theorem bumpBy_fab (s : State) (idx sub sel shown n : Nat) : (bumpBy s idx sub sel shown n).fab = s.fab :=
  fab_foldl _ (fun t _ => bumpAt_fab t _ _ _ _) _ _

@[simp] theorem recoveryDecide_fab (s : State) (f port : Nat) (seq : Option Nat) : (recoveryDecide s f port seq).1.fab = s.fab := by
  unfold recoveryDecide
  dsimp only
  repeat' split
  all_goals simp

@[simp] theorem prpReceive_fab (s : State) (f : Frame) (x : Parsed) : (prpReceive s f x).1.fab = s.fab := by
  unfold prpReceive
  dsimp only
  repeat' split
  all_goals simp

@[simp] theorem chargeEnd_fab (s : State) (f : Frame) : (chargeEnd s f).fab = s.fab := by
  unfold chargeEnd
  extract_lets len s1 s2
  have h1 : s1.fab = s.fab := by
    dsimp only [s1]
    split <;> rfl
  have h2 : s2.fab = s.fab := (fab_foldl (fun t (m : Nat × Bool) => meterCharge t m.1 m.2 len) (fun t m => rfl) _ _).trans h1
  split
  · exact h2
  · exact h2

/-! ### The Zone Gate at a frame's end -/

@[simp] theorem laneRest_fab (s : State) (f : Frame) : (laneRest s f).fab = s.fab := by
  unfold laneRest
  exact fab_foldl _ (by intros; rfl) _ _

@[simp] theorem flowSegment_fab (s : State) (x : Parsed) (hit : Nat × Bool) : (flowSegment s x hit).fab = s.fab := by
  unfold flowSegment
  repeat' split
  all_goals simp

@[simp] theorem zoneLog_fab (s : State) (typ reason : Nat) (k : FlowKey) (lane : Nat) (oneWay : Bool) (ingress ruleId frames : Nat) :
    (zoneLog s typ reason k lane oneWay ingress ruleId frames).fab = s.fab := by
  have h : (logSecondEnd s).fab = s.fab := by simp [logSecondEnd]
  unfold zoneLog
  dsimp only
  split
  · simpa using h
  · exact (fab_foldl _ (fun t _ => bump_fab t _ _) _ _).trans h

@[simp] theorem logCrossing_fab (s : State) (typ reason : Nat) (k : FlowKey) (lane ingress ruleId : Nat) :
    (logCrossing s typ reason k lane ingress ruleId).fab = s.fab := zoneLog_fab ..

@[simp] theorem queueRefusal_fab (s : State) (k : FlowKey) (lane ingress : Nat) : (queueRefusal s k lane ingress).fab = s.fab := by
  simp [queueRefusal, bumpPair]

@[simp] theorem flowRefusal_fab (s : State) (k : FlowKey) (lane ingress : Nat) : (flowRefusal s k lane ingress).fab = s.fab := by
  simp [flowRefusal, bumpPair]

@[simp] theorem enqueueFirst_fab (s0 : State) (f : Frame) (x : Parsed) (zd : Nat) (ports : List Nat) :
    (enqueueFirst s0 f x zd ports).fab = s0.fab := by
  unfold enqueueFirst
  extract_lets k0 hit k canon lane p closing s recheck g _vd same _gs _gz
  have hs : s.fab = s0.fab := by
    clear_value closing hit
    dsimp only [s]
    split
    · simp [logFlow, removeFlow]
    · rfl
  have hg : g.1.fab = s0.fab := (poolRequestOne_fab ..).trans hs
  clear_value s g
  split
  · simpa using hg
  · extract_lets pk refuse join e s1
    have hr : ∀ t, (refuse t).fab = t.fab := fun t => poolFreeOp_fab ..
    have h1 : s1.fab = s0.fab := hg
    clear_value refuse join s1
    split
    · split
      · exact hg
      · simpa [hr, bumpPair] using hg
    · repeat' split
      all_goals simp [hr, hg, h1, widePair]

@[simp] theorem afterEnd_fab (s : State) (f : Frame) (x : Parsed) : (afterEnd s f x).fab = s.fab :=
  (fab_foldl _ (fun t _ => enqueueFirst_fab t _ _ _ _) _ _).trans (fab_foldl _ (fun t _ => flowSegment_fab t _ _) _ _)

end Sys2Proof.Machine
end

section
/-! PROOFS. What moves in the fabric without the ports' receiving side: cells and frames come and go (R85 to R90), copies join and
leave their queues (R92, R154), and neither the links nor the staging buffers change; a frame's end touches its own port alone. -/

namespace Sys2Proof.Machine

/-! ### Readings that cells and frames do not enter -/

/-- A reading of the state that depends neither on the frames in the fabric nor on the cells that they hold. -/
def OffCells {α : Type} (π : State → α) : Prop :=
  ∀ (s : State) (frames : List Frame) (columns : Vector Column 14), π { s with fab := { s.fab with frames := frames, columns := columns } } = π s

section
variable {α : Type} {π : State → α} (h : OffCells π)
include h

theorem OffCells.setFrame (s : State) (f : Frame) : π (setFrame s f) = π s := h s _ s.fab.columns

theorem OffCells.setColumn (s : State) (j : Nat) (c : Column) : π (setColumn s j c) = π s := h s s.fab.frames _

theorem OffCells.returnCells (s : State) (i : Nat) (x : Holding) (keep : Nat) : π (returnCells s i x keep).1 = π s := by
  have settled : ∀ t j, π (settleDrain t j) = π t := by
    intro t j
    unfold settleDrain
    dsimp only
    split
    · rfl
    · exact h.setColumn _ _ _
  exact (settled _ _).trans (h.setColumn _ _ _)

theorem OffCells.dropIfDone (s : State) (id : Nat) : π (dropIfDone s id) = π s := by
  unfold Machine.dropIfDone
  split
  · split
    · exact (h _ _ (List.foldl _ s _).fab.columns).trans (reading_foldl π (fun t x => h.returnCells t _ x 0) _ _)
    · rfl
  · rfl

theorem OffCells.doneDest (s : State) (id port : Nat) (mirror : Option Nat) : π (doneDest s id port mirror) = π s := by
  unfold Machine.doneDest
  split
  · rfl
  · dsimp only
    split
    · exact h.setFrame _ _
    · exact (h.dropIfDone _ _).trans ((h.setFrame _ _).trans (reading_foldl π (fun t x => h.returnCells t _ x 0) _ _))

end

/-! ### The links and the staging buffers -/

/-- What the ports receive with: their links, and their staging buffers (R84, R108). -/
def FabricBlock.ports (b : FabricBlock) : Vector PortLink 43 × Vector (Option Staged) 38 := (b.links, b.staging)

theorem portLink_of_ports {s t : State} (h : t.fab.ports = s.fab.ports) (p : Nat) : portLink t p = portLink s p := by
  have hl : t.fab.links = s.fab.links := congrArg Prod.fst h
  unfold portLink
  rw [hl]

theorem stagedOn_of_ports {s t : State} (h : t.fab.ports.2 = s.fab.ports.2) (p : Nat) : stagedOn t p = stagedOn s p := by
  have hg : t.fab.staging = s.fab.staging := h
  unfold stagedOn
  rw [hg]

theorem ports_offCells : OffCells (fun s => s.fab.ports) := fun _ _ _ => rfl

@[simp] theorem ports_ite (c : Prop) [Decidable c] (a b : FabricBlock) : (if c then a else b).ports = if c then a.ports else b.ports := apply_ite ..

theorem ports_foldl {α : Type} (f : State → α → State) (h : ∀ t x, (f t x).fab.ports = t.fab.ports) (l : List α) (s : State) :
    (l.foldl f s).fab.ports = s.fab.ports := reading_foldl (fun t => t.fab.ports) h l s

@[simp] theorem setFrame_ports (s : State) (f : Frame) : (setFrame s f).fab.ports = s.fab.ports := rfl

@[simp] theorem setColumn_ports (s : State) (j : Nat) (c : Column) : (setColumn s j c).fab.ports = s.fab.ports := rfl

@[simp] theorem setEgress_ports (s : State) (p : Nat) (f : PortEgress → PortEgress) : (setEgress s p f).fab.ports = s.fab.ports := rfl

@[simp] theorem setLag_ports (s : State) (g : Nat) (t : Bytes) : (setLag s g t).fab.ports = s.fab.ports := rfl

@[simp] theorem creditsNow_ports (s : State) (port : Nat) : (creditsNow s port).fab.ports = s.fab.ports := rfl

@[simp] theorem returnCells_ports (s : State) (i : Nat) (x : Holding) (keep : Nat) : (returnCells s i x keep).1.fab.ports = s.fab.ports :=
  ports_offCells.returnCells ..

@[simp] theorem dropIfDone_ports (s : State) (id : Nat) : (dropIfDone s id).fab.ports = s.fab.ports := ports_offCells.dropIfDone ..

@[simp] theorem doneDest_ports (s : State) (id port : Nat) (mirror : Option Nat) : (doneDest s id port mirror).fab.ports = s.fab.ports :=
  ports_offCells.doneDest ..

@[simp] theorem setQueue_ports (s : State) (q : Nat) (l : List Copy) : (setQueue s q l).fab.ports = s.fab.ports := by
  unfold setQueue
  dsimp only
  split <;> rfl

@[simp] theorem unqueue_ports (s : State) (id port : Nat) (mirror : Option Nat) : (unqueue s id port mirror).fab.ports = s.fab.ports := by
  have fold : ∀ gone : Copy → Bool, ((queuesOf port).foldl (fun u q =>
      if (queue u q).any gone then setQueue u q ((queue u q).filter (fun c => !(gone c))) else u) s).fab.ports = s.fab.ports :=
    fun gone => ports_foldl _ (fun u q => by simp) _ _
  unfold unqueue
  dsimp only
  split
  · exact fold _
  · exact fold _

@[simp] theorem dropCopy_ports (s : State) (id port : Nat) (mirror : Option Nat) : (dropCopy s id port mirror).fab.ports = s.fab.ports := by
  simp [dropCopy]

@[simp] theorem discardCopy_ports (s : State) (id port : Nat) (mirror : Option Nat) : (discardCopy s id port mirror).fab.ports = s.fab.ports := by
  simp [discardCopy]

@[simp] theorem failCopy_ports (s : State) (id port : Nat) (mirror : Option Nat) : (failCopy s id port mirror).fab.ports = s.fab.ports := by
  simp [failCopy]

@[simp] theorem discardQueues_ports (s : State) (port : Nat) : (discardQueues s port).fab.ports = s.fab.ports :=
  ports_foldl _ (fun _ _ => ports_foldl _ (fun _ _ => discardCopy_ports ..) _ _) _ _

@[simp] theorem markBad_ports (s : State) (id : Nat) : (markBad s id).fab.ports = s.fab.ports := by
  unfold markBad
  split
  · rfl
  · exact ports_foldl _ (fun _ _ => failCopy_ports ..) _ _

@[simp] theorem dropCopies_ports (s : State) (id : Nat) : (dropCopies s id).fab.ports = s.fab.ports := by
  unfold dropCopies
  split
  · rfl
  · exact ports_foldl _ (fun _ _ => dropCopy_ports ..) _ _

/-! ### Admission -/

@[simp] theorem countQueueRefusal_fab (s : State) (w : Want) : (countQueueRefusal s w).fab = s.fab := by
  unfold countQueueRefusal
  dsimp only
  split <;> simp

@[simp] theorem refuseColumn_fab (s : State) (j tc : Nat) (ws : List Want) : (refuseColumn s j tc ws).fab = s.fab := by
  refine (fab_foldl _ (fun t w => ?_) _ _).trans (bumpN_fab ..)
  dsimp only
  split <;> simp

@[simp] theorem discardHost_ports (s : State) : (discardHost s).fab.ports = s.fab.ports := by
  refine ports_foldl _ (fun t c => ?_) _ _
  split
  · rfl
  · exact ports_foldl _ (fun _ _ => discardCopy_ports ..) _ _

@[simp] theorem placeCopy_ports (s : State) (id charge : Nat) (w : Want) : (placeCopy s id charge w).fab.ports = s.fab.ports := by
  unfold placeCopy
  split
  · rfl
  · simp

@[simp] theorem admitColumn_ports (s : State) (j : Nat) (a : Asking) : (admitColumn s j a).fab.ports = s.fab.ports := by
  unfold admitColumn
  split
  · extract_lets ws ok s1 tc
    have h1 : s1.fab = s.fab := fab_foldl _ (fun t w => countQueueRefusal_fab t w) _ _
    clear_value s1
    split
    · rw [h1]
    · split
      · rw [refuseColumn_fab, h1]
      · rename_i b _
        refine (ports_foldl _ (fun t w => placeCopy_ports ..) _ _).trans ?_
        rw [← h1]
        cases b <;> rfl
  · rfl

@[simp] theorem admitAll_ports (s : State) (l : List Asking) : (admitAll s l).fab.ports = s.fab.ports :=
  (discardHost_ports _).trans (ports_foldl _ (fun _ _ => ports_foldl _ (fun _ _ => admitColumn_ports ..) _ _) _ _)

/-! ### The end of a frame -/

@[simp] theorem correctCharge_ports (s : State) (id len : Nat) : (correctCharge s id len).fab.ports = s.fab.ports := by
  have fold : ∀ (g : Holding → Nat) (i : Nat) (l : List Holding) (a : State × List Holding), (l.foldl (fun (acc : State × List Holding) h =>
      let x := returnCells acc.1 i h (g h)
      (x.1, acc.2 ++ [x.2])) a).1.fab.ports = a.1.fab.ports := by
    intro g i l
    induction l with
    | nil => exact fun _ => rfl
    | cons _ _ ih => exact fun a => (ih _).trans (returnCells_ports ..)
  unfold correctCharge
  split
  · rfl
  · exact fold _ _ _ _

@[simp] theorem queueHeld_ports (s : State) (id : Nat) : (queueHeld s id).fab.ports = s.fab.ports := by
  unfold queueHeld
  split
  · rfl
  · exact (discardHost_ports _).trans (ports_foldl _ (fun _ _ => setQueue_ports ..) _ _)

@[simp] theorem goodEnd_ports (s : State) (f : Frame) (x : Parsed) : (goodEnd s f x).fab.ports = s.fab.ports := by
  unfold goodEnd
  extract_lets v r q f1 s1
  have hr : r.1.fab = s.fab := by
    dsimp only [r]
    repeat' split
    all_goals simp
  have hq : q.1.fab = s.fab := by
    dsimp only [q]
    repeat' split
    all_goals simp [hr]
  have h1 : s1.fab.ports = s.fab.ports := by simp [s1, hq]
  clear_value s1
  repeat' split
  all_goals simp [h1]

theorem setLink_ports (s : State) (p : Nat) (f : PortLink → PortLink) : (setLink s p f).fab.ports = (vmod s.fab.ports.1 p f, s.fab.ports.2) := rfl

/-- What the end of a frame does to the links and the staging buffers is that its port receives it no longer (R84, R177). -/
theorem finishFrame_ports {s : State} {id : Nat} {f : Frame} (e : FrameEnd) (hf : frameOf s id = some f) :
    (finishFrame s id e).fab.ports = (endReception s f.ingress id).fab.ports := by
  unfold finishFrame
  rw [hf]
  dsimp -zeta only
  extract_lets len p fcs good marked excess tooLong small s1 s2 s3
  have h2 : s2.fab = s.fab := by
    dsimp only [s2]
    repeat' split
    all_goals simp [s1]
  have h3 : s3.fab.ports = (endReception s f.ingress id).fab.ports := by
    simp [s3, endReception, setLink_ports, h2, p]
  clear_value s3
  split
  · exact h3
  · split <;> simp [h3]

theorem finishFrame_absent {s : State} {id : Nat} (e : FrameEnd) (hf : frameOf s id = none) : finishFrame s id e = s := by
  unfold finishFrame
  rw [hf]

theorem finishFrame_staging (s : State) (id : Nat) (e : FrameEnd) : (finishFrame s id e).fab.ports.2 = s.fab.ports.2 := by
  cases hf : frameOf s id with
  | none => rw [finishFrame_absent e hf]
  | some f => rw [finishFrame_ports e hf]; rfl

end Sys2Proof.Machine
end

section
/-! PROOFS. How a port's parts read after they are written, and what the commands of a frame's reception do (R84 to R87, R119, R177). -/

namespace Sys2Proof.Machine

/-! ### Reading what was written -/

theorem portLink_setLink_same {s : State} {p : Nat} (f : PortLink → PortLink) (h : p < 43) : portLink (setLink s p f) p = f (portLink s p) := by
  unfold portLink setLink
  rw [getElem?_vmod f (Vector.getElem?_eq_getElem h), Vector.getElem?_eq_getElem h]
  rfl

theorem stagedOn_setStaged_same {s : State} {p : Nat} (x : Option Staged) (h : p < 38) : stagedOn (setStaged s p x) p = x := by
  unfold stagedOn setStaged
  rw [Vector.getElem?_setIfInBounds_self_of_lt h]
  rfl

theorem column_setColumn_same {s : State} {j : Nat} (c : Column) (h : j < 14) : column (setColumn s j c) j = c := by
  unfold column setColumn
  rw [Vector.getElem?_setIfInBounds_self_of_lt h]
  rfl

theorem frameOf_id {s : State} {id : Nat} {f : Frame} (h : frameOf s id = some f) : f.id = id := by
  have := List.find?_some h
  simpa using this

/-- A frame written under its own number reads as written. -/
theorem frameOf_setFrame {s : State} {id : Nat} {f : Frame} (g : Frame) (h : frameOf s id = some f) (hg : g.id = id) :
    frameOf (setFrame s g) id = some g := by
  subst hg
  have hp : (fun x : Frame => x.id == g.id) ∘ (fun x => if x.id == g.id then g else x) = fun x => x.id == g.id := by
    funext x
    by_cases hx : x.id = g.id <;> simp [hx]
  unfold frameOf at h ⊢
  unfold setFrame
  rw [List.find?_map, hp, h, Option.map_some, if_pos (by simpa using List.find?_some h)]

theorem frameOf_of_fab {s t : State} (h : t.fab = s.fab) (id : Nat) : frameOf t id = frameOf s id := by
  unfold frameOf
  rw [h]

/-! ### Reception -/

theorem ingressStamp_fab (s : State) (p phase : Nat) (sfd : List SfdEdge) : (ingressStamp s p phase sfd).1.fab = s.fab := by
  unfold ingressStamp
  dsimp only
  repeat' split
  all_goals simp

theorem endReception_receiving {s : State} {p id : Nat} (hp : p < 43) (h : (portLink s p).receiving = some id) :
    (portLink (endReception s p id) p).receiving = (portLink s p).suspended := by
  rw [endReception, portLink_setLink_same _ hp, if_pos h]

/-- After a verdict only the end of the frame, if it came with it, touches what the ports receive with. -/
theorem settleJudged_open_ports {s : State} {j : Judged} (h : j.ended = none) : (settleJudged s j).fab.ports = s.fab.ports := by
  unfold settleJudged
  rw [h]
  split
  · rfl
  · split
    · rfl
    · simp

theorem settleJudged_staging (s : State) (j : Judged) : (settleJudged s j).fab.ports.2 = s.fab.ports.2 := by
  unfold settleJudged
  split
  · rfl
  · split
    · split
      · exact finishFrame_staging ..
      · rfl
    · simp

theorem settleAll_one (s : State) (j : Judged) : settleAll (s, [j]) = settleJudged (admitAll s [j.ask]) j := by
  simp [settleAll]

/-- The verdict of one staged frame takes it out of the staging buffer, and its port receives it. -/
theorem judgePort_staged {s : State} {p : Nat} {st : Staged} (h : stagedOn s p = some st) (hp : p < 38) :
    ∃ j, (judgePort s p).2 = some j ∧ j.ended = st.ended ∧ stagedOn (judgePort s p).1 p = none ∧
      (portLink (judgePort s p).1 p).receiving = some (verdictOn s p [] st.bytes (decide (st.ended = some .complete)) st.stamp).1.s.fab.nextId := by
  rw [judgePort, h]
  dsimp only
  generalize verdictOn s p [] st.bytes (decide (st.ended = some .complete)) st.stamp = r
  refine ⟨_, rfl, rfl, stagedOn_setStaged_same none hp, ?_⟩
  rw [portLink_setLink_same _ (by omega)]

theorem execLookupVerdict_one (src : VerdictSource) (s : State) :
    execLookupVerdict [src] s = .next (settleAll ((judge s src).1, (judge s src).2.toList)) := rfl

theorem frameHead_staged {s : State} {port : Fin 38} (head : Bytes) (whole : Bool) (mark : RxMark) (h : canReceive s port.val = true) :
    ∃ t, execFrameHeadReceived port head whole mark s = .next t ∧
      stagedOn t port.val = some { bytes := head, ended := if whole then some .complete else none, stamp := (ingressStamp s port.val mark.phase.val mark.sfd).2 } ∧
      t = { (ingressStamp s port.val mark.phase.val mark.sfd).1 with
        fab := { (ingressStamp s port.val mark.phase.val mark.sfd).1.fab with staging := t.fab.staging, links := t.fab.links } } := by
  unfold execFrameHeadReceived
  rw [if_pos h]
  exact ⟨_, rfl, stagedOn_setStaged_same _ port.isLt, rfl⟩

/-- LOOKUP_VERDICT of one staged frame: the staging buffer is free for the next, and until its end has come the port receives the frame
under the number it was given. -/
theorem lookupVerdict_staged {s : State} {p : Nat} {st : Staged} (h : stagedOn s p = some st) (hp : p < 38) :
    let t := settleAll ((judgePort s p).1, (judgePort s p).2.toList)
    stagedOn t p = none ∧ (st.ended = none → (portLink t p).receiving =
      some (verdictOn s p [] st.bytes (decide (st.ended = some .complete)) st.stamp).1.s.fab.nextId) := by
  obtain ⟨j, hj, hend, hst, hrx⟩ := judgePort_staged h hp
  dsimp only
  rw [hj, Option.toList_some, settleAll_one]
  constructor
  · rw [stagedOn_of_ports ((settleJudged_staging _ _).trans (congrArg Prod.snd (admitAll_ports _ _))), hst]
  · intro ho
    rw [portLink_of_ports ((settleJudged_open_ports (hend.trans ho)).trans (admitAll_ports _ _)), hrx]

/-- The fragments that a frame came in are counted, where preemption cut it (R177). -/
def countFragments (s : State) (p : Nat) (parts : List MPacket) : State := if parts.isEmpty then s else wideN s 0x38C0 p 0x16 (1 + parts.length)

theorem countFragments_fab (s : State) (p : Nat) (parts : List MPacket) : (countFragments s p parts).fab = s.fab := by simp [countFragments]

/-- How a frame ended, by the abort of its reception and the check of its parts (R177). -/
def endOf (aborted ok : Bool) : FrameEnd := if aborted then .aborted else if ok then .complete else .torn

section
variable {s : State} {port : Fin 38} {rest : Bytes} {parts : List MPacket} {aborted : Bool}

theorem frameEnd_staged {st : Staged} (h : stagedOn s port.val = some st) (ho : st.ended = none)
    (hl : (reassemble (st.bytes ++ rest) parts).1.length ≤ 192) :
    execFrameEndReceived port ⟨rest, parts⟩ aborted s = .next (setStaged (countFragments s port.val parts) port.val
      (some { st with bytes := (reassemble (st.bytes ++ rest) parts).1, ended := some (endOf aborted (reassemble (st.bytes ++ rest) parts).2) })) := by
  have hroom : ¬ (st.ended.isSome = true ∨ 192 < (reassemble (st.bytes ++ rest) parts).1.length) := by
    rw [ho]
    simpa using hl
  unfold execFrameEndReceived
  dsimp only
  rw [h]
  exact if_neg hroom

theorem frameEnd_judged {id : Nat} {f : Frame} (h : stagedOn s port.val = none) (hr : (portLink s port.val).receiving = some id)
    (hf : frameOf s id = some f) :
    execFrameEndReceived port ⟨rest, parts⟩ aborted s = .next (finishFrame
      (setFrame (countFragments s port.val parts) { f with bytes := (reassemble (f.bytes ++ rest) parts).1 }) id
      (endOf aborted (reassemble (f.bytes ++ rest) parts).2)) := by
  unfold execFrameEndReceived
  dsimp only
  rw [h]
  dsimp only
  rw [hr]
  dsimp only
  rw [hf]
  rfl

/-- A frame that ends is no longer received by its port: one that it interrupted goes on. -/
theorem finishFrame_receiving {t : State} {p id : Nat} {f : Frame} (e : FrameEnd) (hp : p < 43) (hf : frameOf t id = some f) (hi : f.ingress = p)
    (hr : (portLink t p).receiving = some id) : (portLink (finishFrame t id e) p).receiving = (portLink t p).suspended := by
  rw [portLink_of_ports (finishFrame_ports e hf), hi]
  exact endReception_receiving hp hr

end

/-- Settles O17: each command is one write of the staging buffer or the link, and what admission and a frame's end do leaves both alone. -/
theorem framesAreStagedJudgedAndEnded : Obligations.FramesAreStagedJudgedAndEnded := by
  intro s port head rest whole aborted phase sfd parts p frame id f st
  have hp : port.val < 38 := port.isLt
  refine ⟨frameHead_staged head whole ⟨phase, sfd⟩, fun h => ⟨_, execLookupVerdict_one _ _, rfl, lookupVerdict_staged h hp⟩, fun hw => ?_,
    frameEnd_staged, fun h hr _ hf hi => ⟨_, frameEnd_judged h hr hf, rfl, ?_⟩⟩
  · change execLookupVerdict [.inner p frame] s = _
    rw [execLookupVerdict_one, judge, if_pos hw]
    rfl
  · have hports : ∀ g, (setFrame (countFragments s port.val parts) g).fab.ports = s.fab.ports := fun g => by
      rw [setFrame_ports, countFragments_fab]
    have hk := portLink_of_ports (hports { f with bytes := (reassemble (f.bytes ++ rest) parts).1 }) port.val
    have hg := frameOf_setFrame { f with bytes := (reassemble (f.bytes ++ rest) parts).1 }
      ((frameOf_of_fab (countFragments_fab s port.val parts) id).trans hf) (frameOf_id (f := f) hf)
    exact (finishFrame_receiving _ (by omega) hg hi (hk ▸ hr)).trans (congrArg _ hk)

end Sys2Proof.Machine
end

section
/-! PROOFS. The test of column cells, drained banks, and links taken up and dropped (R99 to R102, R108, R115, R176). -/

namespace Sys2Proof.Machine

/-! ### Links -/

@[simp] theorem setPreemption_ports (s : State) (p : Nat) (status : BitVec 8) (attempts : Nat) :
    (setPreemption s p status attempts).fab.ports = s.fab.ports := by simp [setPreemption]

@[simp] theorem preemptStart_ports (s : State) (p : Nat) : (preemptStart s p).fab.ports = s.fab.ports := by simp [preemptStart]

@[simp] theorem lagChange_ports (s : State) (p : Nat) (up : Bool) : (lagChange s p up).fab.ports = s.fab.ports := by
  unfold lagChange
  split
  · rfl
  · simp

theorem portLink_linkChanged {s : State} {p : Nat} (state rate : BitVec 8) (hp : p < 43) :
    portLink (linkChanged s p state rate) p = { portLink s p with link := state, rate := rate, changedAt := s.time.tx } := by
  have h : (linkChanged s p state rate).fab.ports = (setLink s p (fun l => { l with link := state, rate := rate, changedAt := s.time.tx })).fab.ports := by
    simp [linkChanged]
  rw [portLink_of_ports h, portLink_setLink_same _ hp]

/-- Taking a link into use changes its port's link as its change says, and no other. -/
theorem takeLink_ports (s : State) (p rate : Nat) : (takeLink s p rate).fab.ports = (linkChanged s p 1 (BitVec.ofNat 8 rate)).fab.ports := by
  simp [takeLink]

theorem dropLink_ports (s : State) (p : Nat) : (dropLink s p).fab.ports = (linkChanged (cutReception s p) p (restState s p) 0).fab.ports := by
  simp [dropLink]

/-- A switch port without a link is never up. -/
theorem restState_ne_up {s : State} {p : Nat} (hp : p < 38) : restState s p ≠ 1 := by
  unfold restState
  dsimp only
  rw [if_neg (by omega), if_neg (by omega)]
  repeat' split
  all_goals decide

/-! ### Columns -/

theorem jAppend_column (s : State) (body : JBody) (dest : ReplyTo) (j : Nat) : column (jAppend s body dest) j = column s j := by
  unfold column
  rw [jAppend_fab]

theorem drainTimeout_retires {s : State} {j bank : Nat} (hj : j < 14) (hb : bank < 17) :
    (column (drainTimeout s j bank) j).banks[bank]? = some .retired := by
  rw [drainTimeout, journalBanks, jAppend_column, column_setColumn_same _ hj]
  exact Vector.getElem?_setIfInBounds_self_of_lt hb

section
variable {s : State} {col : Fin 14} {probe : CellProbe}
  (hw : s.op.state = .commissioning ∨ s.op.state = .normal ∨ s.op.state = .test ∨ s.op.state = .safe) (hg : (column s col.val).gated = false)
include hw hg

/-- CELL_TEST of an ungated column goes one position on, and reads the cell that it stood at unless a frame holds it. -/
theorem cellTest_working :
    let c := column s col.val
    let on := setColumn s col.val { c with testPos := (c.testPos + 1) % 8704 }
    let once := (cellResult on col.val (c.testPos / 512) 0xFFFF (readWord testPattern probe.pattern)).1
    execCellTest col probe s = if c.inUse.getLsbD c.testPos then .next on
      else .next (cellResult once col.val (c.testPos / 512) 0xFFFF (readWord (testPattern.map (~~~ ·)) probe.complement)).1 := by
  unfold execCellTest
  dsimp only
  rcases hw with h | h | h | h <;> rw [h] <;> exact if_neg (by simp [hg])

end

/-- Settles O19: the columns' commands write one column, and what follows a link's change leaves the links as they are. -/
theorem columnsAndLinks : Obligations.ColumnsAndLinks := by
  intro s col a b port rate e rest
  have hp : port.val < 43 := by omega
  refine ⟨fun hw hg => ⟨fun hi => ?_, fun hi => ?_⟩, fun hd he => ⟨_, ?_, rfl, drainTimeout_retires col.isLt he⟩,
    fun hl hon haw hr hc => ⟨_, ?_, rfl, ?_⟩, fun hup => ⟨_, if_pos hup, rfl, ?_⟩⟩
  · exact (cellTest_working hw hg).trans (if_pos hi)
  · exact (cellTest_working hw hg).trans (if_neg (by simp [hi]))
  · change execBankDrainTimeout col s = _
    rw [execBankDrainTimeout, hd]
  · exact (if_pos ⟨hl, hon, haw⟩).trans (if_pos ⟨hr, hc⟩)
  · have hk : portLink (emcyCleared s (takeLink s port.val rate.val)) port.val = _ :=
      (portLink_of_ports (by rw [emcyCleared_fab, takeLink_ports]) _).trans (portLink_linkChanged 1 (BitVec.ofNat 8 rate.val) hp)
    rw [hk]
    exact ⟨rfl, rfl⟩
  · rw [linkIsUp, portLink_of_ports (dropLink_ports s port.val), portLink_linkChanged _ _ hp]
    exact beq_eq_false_iff_ne.2 (restState_ne_up port.isLt)

end Sys2Proof.Machine
end

section
/-! PROOFS. The selection of frames on MAC ports, the end of a transmission, and the frames that processors take (R155 to R160, R176,
R177). -/

namespace Sys2Proof.Machine

/-! ### The egress of a port -/

theorem egress_setEgress_same {s : State} {p : Nat} (f : PortEgress → PortEgress) (h : p < 43) : egress (setEgress s p f) p = f (egress s p) := by
  unfold egress setEgress
  rw [getElem?_vmod f (Vector.getElem?_eq_getElem h), Vector.getElem?_eq_getElem h]
  rfl

theorem egress_setEgress_other {s : State} {p q : Nat} (f : PortEgress → PortEgress) (h : q ≠ p) : egress (setEgress s q f) p = egress s p := by
  unfold egress setEgress vmod
  split
  · rw [Vector.getElem?_setIfInBounds_ne h]
  · rfl

/-- The credits of a port that are brought up to now leave what it sends, up to the time charged for. -/
theorem creditsNow_sending {s : State} {p : Nat} (hp : p < 43) : (egress (creditsNow s p) p).sending =
    (egress s p).sending.map (fun x => { x with spent := x.spent + (s.time.mono - (((egress s p).creditAt[x.cls]?).getD 0)).toNat }) := by
  unfold creditsNow
  dsimp only
  rw [egress_setEgress_same _ hp]

/-- A change of one port's egress that starts nothing leaves a port that sends nothing so. -/
theorem setEgress_silent {s : State} {p q : Nat} {f : PortEgress → PortEgress} (hp : p < 43) (hf : ∀ e, e.sending = none → (f e).sending = none)
    (h : (egress s p).sending = none) : (egress (setEgress s q f) p).sending = none := by
  by_cases hq : q = p
  · subst hq
    rw [egress_setEgress_same _ hp]
    exact hf _ h
  · rw [egress_setEgress_other _ hq, h]

theorem setQueue_silent {s : State} {p : Nat} (q : Nat) (l : List Copy) (hp : p < 43) (h : (egress s p).sending = none) :
    (egress (setQueue s q l) p).sending = none := by
  have hc : (egress (creditsNow s (q / 8)) p).sending = none := setEgress_silent hp (fun e he => by simp [he]) h
  unfold setQueue
  dsimp only
  split
  · exact setEgress_silent hp (fun _ he => he) hc
  · exact hc

theorem egress_offCells (p : Nat) : OffCells (fun s => egress s p) := fun _ _ _ => rfl

theorem out_offCells : OffCells State.out := fun _ _ _ => rfl

/-! ### TRANSMISSION_SELECTION -/

theorem exec_transmissionSelection_forwards {s : State} {port : Fin 38} (read : CellRead) (hf : portForwards s port.val = true)
    (hs : forwardingState s = true) :
    exec (.transmissionSelection (port.castLE (by decide)) read) s = .next (transmissionSelect s port.val read) := if_pos ⟨port.isLt, hf, hs⟩

section
variable {s : State} {p : Nat} {read : CellRead} (hs : (egress (creditsNow s p) p).sending = none)
include hs

theorem transmissionSelect_starts (hn : (egress (creditsNow s p) p).preempted = none) :
    transmissionSelect s p read = transmissionSelect.startSelected (creditsNow s p) p read := by
  unfold transmissionSelect
  dsimp only
  rw [hs]
  dsimp only
  rw [hs, hn]

/-- Without an express class to serve or a hold, and with its gate open, a preempted frame goes on. -/
theorem transmissionSelect_resumes {x : Sending} (hx : (egress (creditsNow s p) p).preempted = some x)
    (he : (preemptActive (creditsNow s p) p &&
      (List.range 8).any (fun c => !(preemptable (creditsNow s p) p c) && eligible (creditsNow s p) p c)) = false)
    (hh : (egress (creditsNow s p) p).hold = false) (hg : bitOf (gateStates (creditsNow s p) p) x.cls = true) :
    transmissionSelect s p read = setEgress (creditsNow s p) p (fun y => { y with
      sending := some { x with since := (creditsNow s p).time.mono }, preempted := none }) := by
  have hgo : ¬ ((egress (creditsNow s p) p).hold = true ∨ (!(bitOf (gateStates (creditsNow s p) p) x.cls)) = true) := by simp [hh, hg]
  unfold transmissionSelect
  dsimp only
  rw [hs]
  dsimp only
  rw [hs, hx]
  dsimp only
  rw [he, if_neg Bool.false_ne_true, if_neg hgo]

end

/-- The head of the selected queue starts where its first cell reads well and it has not ended bad. -/
theorem startSelected_good {s : State} {p c : Nat} {read : CellRead} {k : Copy} {rest : List Copy} {f : Frame}
    (hc : (selectClass s (eligible s p) p).2 = some c) (hq : queue (selectClass s (eligible s p) p).1 (queueNo p c) = k :: rest)
    (hf : frameOf (selectClass s (eligible s p) p).1 k.frame = some f)
    (hr : (frameCell (selectClass s (eligible s p) p).1 f p 0 (some read)).2.1 = false) (hb : ¬ (f.ended = true ∧ f.bad = true)) :
    let rd := frameCell (selectClass s (eligible s p) p).1 f p 0 (some read)
    transmissionSelect.startSelected s p read = setEgress rd.1 p (fun y => { y with
      sending := some {
        frame := k.frame, mirror := k.mirror, cls := c, first := rd.2.2, sent := 0, since := rd.1.time.mono, spent := 0, mark := false,
        cut := k.cut && !f.ended, fragments := 0 } }) := by
  unfold transmissionSelect.startSelected
  dsimp only
  rw [hc]
  dsimp only
  rw [hq]
  dsimp only
  rw [hf]
  dsimp only
  rw [hr, if_neg Bool.false_ne_true, if_neg hb]

/-! ### FRAME_TRANSMIT_END -/

theorem chargeSent_silent {s : State} {p : Nat} (c len spent : Nat) (hp : p < 43) (h : (egress s p).sending = none) :
    (egress (chargeSent s p c len spent) p).sending = none := setEgress_silent hp (fun _ he => he) h

/-- A frame that has been sent to its end is sent no longer, and one sent in one piece has left the port. -/
theorem transmitEnd_sent {s : State} {p : Nat} {x : Sending} {f : Frame} (reads : List CellRead) (hp : p < 43) (h : (egress s p).sending = some x)
    (hf : frameOf s x.frame = some f) :
    (egress (transmitEnd s p reads) p).sending = none ∧ (x.fragments = 0 → ∃ data mark, .frame p data mark ∈ (transmitEnd s p reads).out) := by
  have hf' : frameOf (creditsNow s p) x.frame = some f := hf
  unfold transmitEnd
  extract_lets u
  rw [creditsNow_sending hp, h]
  dsimp -zeta only [Option.map_some]
  rw [hf']
  dsimp -zeta only
  extract_lets rd got fault mark lim b0 b1 b len s1 s2 s3 s4 s5 s6 s7 s8
  clear_value s6 b mark
  have h7 : (egress s7 p).sending = none := chargeSent_silent _ _ _ hp (by rw [egress_setEgress_same _ hp])
  constructor
  · rw [(egress_offCells p).doneDest s8]
    exact setQueue_silent _ _ hp h7
  · intro h0
    rw [out_offCells.doneDest]
    exact ⟨b, mark, by simp [s8, h0]⟩

section
variable {s : State} {p q : Nat} {k : Copy} {rest : List Copy} {f : Frame} {reads : List CellRead} {h : BitVec 32}
  (hc : q = if (queue s (queueNo p 7)).isEmpty then 0 else 7) (hq : queue s (queueNo p q) = k :: rest) (hf : frameOf s k.frame = some f)
  (he : f.ended = true) (hb : f.bad = false) (hr : (readFrame s f p 0 reads).2.1 = false)
  (hk : recheckFails f ((readFrame s f p 0 reads).2.2.take f.bytes.length) = false)
include hc hq hf he hb hr hk

/-- A processor's next frame, complete and good, that finds a buffer is delivered in it. -/
theorem processorTake_delivers :
    let got := (readFrame s f p 0 reads).2.2.take f.bytes.length
    let data := sentBytes (readFrame s f p 0 reads).1 { f with bytes := got } p k.mirror
    (poolRequestOne (readFrame s f p 0 reads).1 (portOwner p) (max 1 data.length) true).2 = some h →
    ∃ l, (processorTake s p reads).out = .deliver p data :: .pool (portOwner p) (some h) :: l := by
  have hended : ¬ (!f.ended) = true := by simp [he]
  have hread : ¬ ((readFrame s f p 0 reads).2.1 = true ∨ recheckFails f ((readFrame s f p 0 reads).2.2.take f.bytes.length) = true) := by
    simp [hr, hk]
  intro got data hp
  unfold processorTake
  extract_lets c
  have hcq : c = q := hc.symm
  clear_value c
  subst hcq
  rw [hq]
  dsimp -zeta only
  rw [hf]
  dsimp -zeta only
  rw [if_neg hended]
  extract_lets rd _got b taken s1 s2
  rw [if_neg hread, if_neg (Bool.not_eq_true _ ▸ hb)]
  rw [show taken.2 = some h from hp]
  dsimp -zeta only
  extract_lets s3 _gw s4
  have h4 : s4.out = .deliver p data :: .pool (portOwner p) (some h) :: s2.out := by
    dsimp only [s4]
    split <;> rfl
  rw [out_offCells.doneDest, dequeue, setQueue_out, h4]
  exact ⟨_, rfl⟩

end

/-- Settles O18: each case is one branch of its command; what follows the sending or the delivery leaves the outputs, and starts nothing. -/
theorem framesAreSelectedAndSent : Obligations.FramesAreSelectedAndSent := by
  intro s port out_ read reads c k rest f x h
  have hp : port.val < 43 := by omega
  refine ⟨fun hf hs hn => ⟨fun hpre hc hq hk hr hb => ?_, fun hpre he hh hg => ?_⟩, fun hx hf => ⟨_, if_pos port.isLt, rfl, transmitEnd_sent reads hp hx hf⟩,
    fun ho hs hq hf he hb hr hk hpool => ⟨processorTake s out_.val reads, ?_, ?_⟩, rfl, rfl⟩
  · refine (exec_transmissionSelection_forwards read hf hs).trans (congrArg Host.Outcome.next ?_)
    exact (transmissionSelect_starts hn hpre).trans (startSelected_good hc hq hk hr hb)
  · exact (exec_transmissionSelection_forwards read hf hs).trans (congrArg Host.Outcome.next (transmissionSelect_resumes hn hpre he hh hg))
  · exact (if_neg (by omega)).trans ((if_neg (by omega)).trans (if_pos hs))
  · obtain ⟨l, hl⟩ := processorTake_delivers rfl hq hf he hb hr hk hpool
    rw [hl]
    simp

end Sys2Proof.Machine
end

section
/-! PROOFS. The forwarding table (R125, R128, R148): what a flush leaves of it and what a scan counts, and the commands that reach it. -/

namespace Sys2Proof.Machine

/-- A flush leaves an entry that was there exactly when it is static or not of the flush's kind. -/
theorem mem_flushLearned {s : State} {hit : FwdEntry → Bool} {k : Nat} {e : FwdEntry} :
    (k, e) ∈ (flushLearned s hit).look.fwd ↔ (k, e) ∈ s.look.fwd ∧ (e.static = true ∨ hit e = false) := by
  change (k, e) ∈ s.look.fwd.filter _ ↔ _
  rw [List.mem_filter, Bool.or_eq_true, Bool.not_eq_true']

/-- A flush command that is carried out leaves what `flushLearned` leaves, and is answered 0. -/
theorem flush_allowed {s : State} {ses : SessionNo} {v : Bytes} {c : Instr} (hit : State → FwdEntry → Bool)
    (hc : exec c s = .next (command s ses 0x3510 2 v (fun t => (flushLearned t (hit t), 0)))) (h : WriteAllowed s ses 0x3510 2 v) :
    ∃ t, exec c s = .next t ∧ t = emit (flushLearned s (hit s)) (.answer (.session ses) 0 []) ∧
      ∀ k e, (k, e) ∈ t.look.fwd ↔ (k, e) ∈ s.look.fwd ∧ (e.static = true ∨ hit s e = false) :=
  ⟨_, hc.trans (congrArg Host.Outcome.next (command_allowed _ h)), rfl, fun _ _ => mem_flushLearned⟩

theorem tnat_bumpW_same (s : State) (idx sub sel n : Nat) :
    tnat (bumpW s idx sub sel n).cnt (ckey idx sub sel) = (tnat s.cnt (ckey idx sub sel) + n) % 2 ^ 64 := by
  rw [bumpW_cnt, tnat_tput_same]

theorem exec_moveLockExpiry_locked {s : State} {pos : Nat} {e : FwdEntry} (h : tget s.look.fwd pos = some e) (hl : e.locked = true) :
    exec (.moveLockExpiry pos) s = .next (setFwd s (tput s.look.fwd pos { e with locked := false, moves := [] })) := by
  change execMoveLockExpiry pos s = _
  rw [execMoveLockExpiry, h]
  exact if_pos hl

/-- Settles O20: the scan is one write of the table and one count, a flush filters the table, and a lock's end writes one entry. -/
theorem forwardingTableAgesFlushesAndUnlocks : Obligations.ForwardingTableAgesFlushesAndUnlocks := by
  intro s ses pos e
  refine ⟨fun hl => ⟨_, if_pos hl, rfl, rfl, fun _ => tnat_bumpW_same (setFwd s _) 0x3520 6 0 _⟩, ⟨?_, ?_, ?_⟩, exec_moveLockExpiry_locked⟩
  · exact flush_allowed (fun _ _ => true) rfl
  · exact flush_allowed (fun t e => e.port == t.val 0x3510 3) rfl
  · exact flush_allowed (fun t e => e.fid == t.val 0x3510 4) rfl

end Sys2Proof.Machine
end

section
/-! PROOFS. What raising an event leaves alone (R10, R70 to R73): it reaches the counters, the sessions, the event block, the CAN queues,
the journal, the host's conditions and the outputs, and nothing else. -/

namespace Sys2Proof.Machine

/-- A reading of the state that none of the blocks that an event reaches enters. -/
def OffEvents {α : Type} (π : State → α) : Prop :=
  ∀ (s : State) (cnt : Tbl Nat) (sessions : Vector Session 18) (ev : EventBlock) (can : Vector CanPort 8) (jour : JournalBlock)
    (host : HostBlock) (out : List Out),
    π { s with cnt := cnt, sessions := sessions, ev := ev, can := can, jour := jour, host := host, out := out } = π s

section
variable {α : Type} {π : State → α} (h : OffEvents π)
include h

theorem OffEvents.jAppend (s : State) (body : JBody) (dest : ReplyTo) : π (jAppend s body dest) = π s := by
  unfold Machine.jAppend
  split
  · rfl
  · exact h s _ _ _ _ _ _ _

theorem OffEvents.rawBump (s : State) (idx sub sel : Nat) : π (rawBump s idx sub sel) = π s := by
  rw [rawBump_frame]
  exact h s _ _ _ _ _ _ _

theorem OffEvents.tally (s : State) (idx sub sel : Nat) : π (tally s idx sub sel) = π s := by
  unfold Machine.tally keepCount
  split
  · split
    · exact (h.jAppend _ _ _).trans (h.rawBump s idx sub sel)
    · exact h.rawBump s idx sub sel
  · rfl

theorem OffEvents.canMgmtSend (s : State) (cn : Nat) (f : CanFrame) : π (canMgmtSend s cn f) = π s := by
  unfold Machine.canMgmtSend
  split
  · rfl
  · split
    · split
      · exact h s _ _ _ _ _ _ _
      · exact h.rawBump ..
    · rfl

theorem OffEvents.emcyOn (s : State) (data : Bytes) (cn : Nat) : π (emcyOn s data cn) = π s := by
  unfold Machine.emcyOn
  split
  · split
    · exact h s _ _ _ _ _ _ _
    · dsimp only
      split
      · exact h.canMgmtSend ..
      · exact (h (Machine.canMgmtSend s cn _) _ _ _ _ _ _ _).trans (h.canMgmtSend ..)
  · rfl

theorem OffEvents.emcyAll (s : State) (data : Bytes) : π (emcyAll s data) = π s := reading_foldl π (fun t cn => h.emcyOn t data cn) _ s

theorem OffEvents.loseRecord (s : State) (gone : BitVec 32) : π (loseRecord s gone) = π s :=
  (reading_foldl π (fun t _ => h.tally t _ _ _) _ _).trans (h s _ _ _ _ _ _ _)

theorem OffEvents.pushRecord (s : State) (code sev src : Nat) (data : Bytes) : π (pushRecord s code sev src data) = π s := by
  unfold Machine.pushRecord
  extract_lets _rec0 _ev s1
  have h1 : π s1 = π s := by
    dsimp only [s1]
    split
    · exact h s _ _ _ _ _ _ _
    · split
      · exact h s _ _ _ _ _ _ _
      · exact (h.loseRecord _ _).trans (h s _ _ _ _ _ _ _)
  split
  · exact (h.emcyAll _ _).trans h1
  · exact h1

theorem OffEvents.noteLimit (s : State) (key : Nat) : π (noteLimit s key) = π s := h s _ _ _ _ _ _ _

theorem OffEvents.afterRound (before s : State) : π (afterRound before s) = π s := by
  unfold Machine.afterRound
  extract_lets sat s1 s2 s3
  have hsat : ∀ t k i j, π (sat t k i j) = π t := by
    intro t k i j
    dsimp only [sat]
    split
    · exact h.pushRecord ..
    · rfl
  have h2 : π s2 = π s := (reading_foldl π (fun t cn => hsat t _ _ _) _ _).trans (hsat _ _ _ _)
  have h3 : π s3 = π s := by
    refine (reading_foldl π (fun t cn => ?_) _ _).trans h2
    split
    · exact (h.noteLimit _ _).trans (h.pushRecord ..)
    · rfl
  clear_value s3
  split
  · exact (h.noteLimit _ _).trans ((h.pushRecord ..).trans ((h s3 _ _ _ _ _ _ _).trans h3))
  · exact h3

theorem OffEvents.afterRounds (fuel : Nat) (before s : State) : π (afterRounds fuel before s) = π s := by
  induction fuel generalizing before s with
  | zero => rfl
  | succ n ih =>
    unfold Machine.afterRounds
    dsimp only
    split
    · exact h.afterRound ..
    · exact (ih _ _).trans (h.afterRound ..)

theorem OffEvents.hostEdges (s : State) : π (hostEdges s) = π s := by
  unfold Machine.hostEdges
  dsimp only
  split
  · exact h s _ _ _ _ _ _ _
  · exact h s _ _ _ _ _ _ _

theorem OffEvents.raise (s : State) (code sev src : Nat) (data : Bytes) : π (raise s code sev src data) = π s :=
  (h.hostEdges _).trans ((h.afterRounds 20 s _).trans (h.pushRecord ..))

end

theorem look_offEvents : OffEvents State.look := fun _ _ _ _ _ _ _ _ => rfl

@[simp] theorem raise_look (s : State) (code sev src : Nat) (data : Bytes) : (raise s code sev src data).look = s.look :=
  look_offEvents.raise ..

end Sys2Proof.Machine
end

section
/-! PROOFS. Stream gates, meters, recovery functions and the PRP table (R132, R133, R138 to R140). -/

namespace Sys2Proof.Machine

/-! ### Meters -/

theorem clearAllRed_red {s : State} {ses : Nat} (h : (meterOf s (getOwn s ses 0x3641 3)).allRed = true) :
    clearAllRed s ses 1 = (raise (setMeter s (getOwn s ses 0x3641 3) { meterOf s (getOwn s ses 0x3641 3) with allRed := false })
      0x3602 2 0xFF (be 2 (getOwn s ses 0x3641 3) ++ be 1 0), 0) := by
  rw [clearAllRed, if_neg (not_not_intro rfl), if_pos h]

theorem clearAllRed_notRed {s : State} {ses : Nat} (h : (meterOf s (getOwn s ses 0x3641 3)).allRed = false) :
    clearAllRed s ses 1 = (s, 0) := by
  rw [clearAllRed, if_neg (not_not_intro rfl), h, if_neg Bool.false_ne_true]

theorem exec_clearAllRed_allowed {s : State} {ses : SessionNo} (h : WriteAllowed s ses 0x3641 7 [1]) :
    exec (.clearAllRed ses 1) s =
      .next (emit (clearAllRed s ses.val 1).1 (.answer (.session ses) (BitVec.ofNat 8 (clearAllRed s ses.val 1).2) [])) :=
  congrArg Host.Outcome.next (command_allowed (fun t => clearAllRed t ses.val 1) h)

/-! ### Stream gates -/

section
variable {s : State} {g : Fin 256}

theorem streamGateEntryStart_swaps {p : PendingList} (hp : (gateOf s g.val).pending = some p) (hd : dueT32 p.c s.now = true) :
    execStreamGateEntryStart g s =
      .next (setGate s g.val { gateOf s g.val with running := some (p.list.startAt p.c), pending := none, octets := 0 }) := by
  unfold execStreamGateEntryStart
  dsimp only
  rw [hp]
  exact if_pos hd

/-- Without a waiting list that is due, the next entry that is due and not held takes effect. -/
theorem streamGateEntryStart_advances {l : TimedList} (hp : ∀ p, (gateOf s g.val).pending = some p → dueT32 p.c s.now = false)
    (hl : (gateOf s g.val).running = some l) (hd : dueT32 l.nextStart s.now = true) (hh : heldForSwap l (gateOf s g.val).pending = false) :
    execStreamGateEntryStart g s = .next (setGate s g.val { gateOf s g.val with running := some l.advance, octets := 0 }) := by
  unfold execStreamGateEntryStart
  dsimp only
  rw [hl]
  cases hw : (gateOf s g.val).pending with
  | none => exact if_pos hd
  | some p =>
    rw [hw] at hh
    dsimp only
    rw [hp p hw, if_neg Bool.false_ne_true, if_pos ⟨hd, by rw [hh]; rfl⟩]

end

/-! ### The keys of a sorted table -/

theorem tget_of_mem {α : Type} {t : Tbl α} {k : Nat} {v : α} (hs : sortedKeys t = true) (h : (k, v) ∈ t) : tget t k = some v := by
  induction t with
  | nil => cases h
  | cons e r ih =>
    obtain ⟨habove, hr⟩ := (sortedKeys_cons _ _).1 hs
    rcases List.mem_cons.1 h with rfl | hm
    · exact if_pos rfl
    · have hlt : e.1 < k := habove _ hm
      rw [tget, if_neg (by omega), if_neg (by omega), ih hr hm]

theorem keys_nodup {α : Type} {t : Tbl α} (hs : sortedKeys t = true) : (t.map (fun e => e.1)).Nodup := by
  induction t with
  | nil => exact List.nodup_nil
  | cons e r ih =>
    obtain ⟨habove, hr⟩ := (sortedKeys_cons _ _).1 hs
    refine List.nodup_cons.2 ⟨fun hm => ?_, ih hr⟩
    obtain ⟨f, hf, hk⟩ := List.mem_map.1 hm
    exact Nat.ne_of_gt (habove f hf) hk

/-! ### The latent error check -/

theorem val_of_kept {s t : State} (h : kept t = kept s) (idx sub : Nat) : t.val idx sub = s.val idx sub := by
  have hc : t.cfg = s.cfg := congrArg (fun k => k.2.1) h
  rw [State.val, State.val, hc]

theorem recoveryOf_of_look {s t : State} (h : t.look = s.look) (n : Nat) : recoveryOf t n = recoveryOf s n := by
  rw [recoveryOf, recoveryOf, h]

theorem recoveryOf_setRecovery_same (s : State) (n : Nat) (x : Recovery) : recoveryOf (setRecovery s n x) n = x := by
  simp [recoveryOf, setRecovery]

theorem recoveryOf_setRecovery_other {s : State} {n k : Nat} (x : Recovery) (hs : sortedKeys s.look.recoveries = true) (hk : k ≠ n) :
    recoveryOf (setRecovery s n x) k = recoveryOf s k := by
  simp [recoveryOf, setRecovery, tget_tput_other _ _ _ _ hs hk]

/-- A recovery function judged by the limit of 3700h.03, its counts started again (R139). -/
def latentJudged (limit : Nat) (x : Recovery) : Recovery :=
  { x with passed := 0, dups := 0, latent := decide (limit < (x.passed - x.dups) + (x.dups - x.passed)) }

/-- In Lookup the check of one function writes its judgement, and nothing else. -/
theorem latentCheck_look (s : State) (n : Nat) :
    (latentCheck s n).look = (setRecovery s n (latentJudged (s.val 0x3700 3) (recoveryOf s n))).look := by
  unfold latentCheck
  dsimp only
  split
  · exact raise_look ..
  · rfl

theorem latentCheck_sorted {s : State} (n : Nat) (hs : sortedKeys s.look.recoveries = true) :
    sortedKeys (latentCheck s n).look.recoveries = true := by
  rw [latentCheck_look]
  exact sortedKeys_tput _ _ _ hs

theorem recoveryOf_latentCheck_same (s : State) (n : Nat) :
    recoveryOf (latentCheck s n) n = latentJudged (s.val 0x3700 3) (recoveryOf s n) :=
  (recoveryOf_of_look (latentCheck_look s n) n).trans (recoveryOf_setRecovery_same ..)

theorem recoveryOf_latentCheck_other {s : State} {n k : Nat} (hs : sortedKeys s.look.recoveries = true) (hk : k ≠ n) :
    recoveryOf (latentCheck s n) k = recoveryOf s k :=
  (recoveryOf_of_look (latentCheck_look s n) k).trans (recoveryOf_setRecovery_other _ hs hk)

theorem recoveryOf_latentChecks_absent {l : List Nat} {s : State} {n : Nat} (hs : sortedKeys s.look.recoveries = true) (hn : n ∉ l) :
    recoveryOf (l.foldl latentCheck s) n = recoveryOf s n := by
  induction l generalizing s with
  | nil => rfl
  | cons k r ih =>
    obtain ⟨hk, hr⟩ := not_or.1 (mt List.mem_cons.2 hn)
    exact (ih (latentCheck_sorted k hs) hr).trans (recoveryOf_latentCheck_other hs hk)

/-- Checks of functions named once each judge every one of them as it stood before all of them. -/
theorem recoveryOf_latentChecks_mem {l : List Nat} {s : State} {n : Nat} (hs : sortedKeys s.look.recoveries = true) (hl : l.Nodup) (hn : n ∈ l) :
    recoveryOf (l.foldl latentCheck s) n = latentJudged (s.val 0x3700 3) (recoveryOf s n) := by
  induction l generalizing s with
  | nil => cases hn
  | cons k r ih =>
    obtain ⟨hk, hr⟩ := List.nodup_cons.1 hl
    have hs' := latentCheck_sorted k hs
    by_cases he : n = k
    · subst he
      exact (recoveryOf_latentChecks_absent hs' hk).trans (recoveryOf_latentCheck_same s n)
    · refine (ih hs' hr (List.mem_of_ne_of_mem he hn)).trans ?_
      rw [recoveryOf_latentCheck_other hs he, val_of_kept (latentCheck_kept s k)]

theorem recoveryOf_of_mem {s : State} {n : Nat} {r : Recovery} (hs : sortedKeys s.look.recoveries = true) (h : (n, r) ∈ s.look.recoveries) :
    recoveryOf s n = r := by
  rw [recoveryOf, tget_of_mem hs h, Option.getD_some]

/-- LATENT_ERROR_CHECK judges every function of the table as it stood. -/
theorem latentErrorCheck_judges {s : State} {n : Nat} {r : Recovery} (hs : sortedKeys s.look.recoveries = true) (h : (n, r) ∈ s.look.recoveries) :
    recoveryOf ((s.look.recoveries.map (fun e => e.1)).foldl latentCheck s) n = latentJudged (s.val 0x3700 3) r := by
  rw [recoveryOf_latentChecks_mem hs (keys_nodup hs) (List.mem_map_of_mem h), recoveryOf_of_mem hs h]

/-- Settles O21: each command is one write of its table; the latent error check is one such write per function, each named once. -/
theorem streamGatesMetersAndRecovery : Obligations.StreamGatesMetersAndRecovery := by
  intro s ses gate g fn mac seq
  refine ⟨fun h => congrArg Host.Outcome.next (command_allowed _ h), fun h => ⟨fun hred => ?_, fun hred => ?_⟩,
    fun p => streamGateEntryStart_swaps, fun l => streamGateEntryStart_advances, fun hv ht => if_pos ⟨hv, ht⟩,
    ⟨_, rfl, rfl, fun hs n r hr => ?_⟩, rfl⟩
  · rw [exec_clearAllRed_allowed h, clearAllRed_red hred]
    rfl
  · rw [exec_clearAllRed_allowed h, clearAllRed_notRed hred]
    rfl
  · rw [latentErrorCheck_judges hs hr]
    exact ⟨rfl, rfl, rfl⟩

end Sys2Proof.Machine
end

section
/-! PROOFS. The Guard Processor's evaluation, the rule sweep and the flushes of the flow table (R199, R213, R232), and the read position
of a session in a ring of records (R71, R222). -/

namespace Sys2Proof.Machine

/-! ### FIRST_PACKET_EVALUATION -/

theorem gpStore_zone (s : State) (second : Bool) (w : Nat) (enables : BitVec 4) (v : BitVec 32) : (gpStore s second w enables v).zone = s.zone := by
  cases second <;> rfl

theorem copyBlock_zone (s : State) (w : Nat) (data : List (BitVec 32)) : (copyBlock s w data).zone = s.zone := by
  refine reading_foldl State.zone (fun t k => ?_) _ s
  split
  · exact (gpStore_zone ..).trans (gpStore_zone ..)
  · rfl

/-- The copy of a first packet's header reaches the Guard Processor alone. -/
theorem copyHeader_zone (s : State) (e : FirstEntry) : (copyHeader s e).zone = s.zone := by
  unfold copyHeader
  dsimp only
  split <;> exact copyBlock_zone ..

/-- The Zone Gate with a first packet taken out of its queue for evaluation, and its pair as the one served last. -/
def zoneServed (z : ZoneBlock) (p credit : Nat) (e : FirstEntry) : ZoneBlock :=
  { z with
    lastPair := p, credit := if (z.queue.erase e).any (fun y => y.pair == p) then credit else 0, queue := z.queue.erase e }

/-- While the Guard Processor evaluates, the head first packet of the pair served is evaluated, or is lost with its data. -/
theorem exec_firstPacketEvaluation_serves {s : State} {p credit : Nat} {e : FirstEntry} (dataLost : Bool) (he : evaluates s = true)
    (hp : servePair s = some (p, credit)) (hq : s.zone.queue.find? (fun x => x.pair == p) = some e) :
    exec (.firstPacketEvaluation dataLost) s =
      if dataLost then .next (firstPacketLost { s with zone := zoneServed s.zone p credit e } e)
      else .next (copyHeader { s with zone := { zoneServed s.zone p credit e with
        verdicts := s.zone.verdicts ++ [evaluateEntry s e] } } e) := by
  change execFirstPacketEvaluation dataLost s = _
  rw [execFirstPacketEvaluation, if_pos he, hp]
  dsimp only
  rw [hq]
  rfl

/-! ### FLOW_AGEING_SCAN and RULE_SWEEP_STEP -/

/-- Outside sleep the scan visits every flow, after a second with suppressed records has ended. -/
theorem exec_flowAgeingScan_awake {s : State} (hl : s.op.state ≠ .lightSleep) (hd : s.op.state ≠ .deepSleep) :
    exec .flowAgeingScan s = .next (s.zone.flows.foldl (fun t e =>
      if flowTimeout s e.2 ≤ e.2.idle then
        (if e.2.logClose then logFlow (removeFlow t e.1) 3 (if e.2.state = 2 then 2 else 1) e.2 0xFF else removeFlow t e.1)
      else setFlow t e.1 { e.2 with idle := min 65535 (e.2.idle + 1) }) (logSecondEnd s)) := by
  change execFlowAgeingScan s = _
  unfold execFlowAgeingScan
  split
  · exact absurd ‹_› hl
  · exact absurd ‹_› hd
  · rfl

/-- The sweep goes from a position on, or ends after the last (R213). -/
def sweepOnward (pos : Nat) (u : State) : State :=
  if pos + 1 < 32768 then { u with zone := { u.zone with sweep := some (pos + 1) } } else sweepEnd u

/-- A flow of an older generation that is marked for a recheck (R213). -/
def sweepMarked (s : State) (pos : Nat) (w : Flow) : State :=
  let t := setFlow s pos { w with generation := s.zone.generation, recheck := true }
  { t with zone := { t.zone with marked := t.zone.marked + 1 } }

/-- What the sweep does at a position: nothing without a flow of an older generation, else what the fate of the flow's rule says (R213). -/
def sweepVisit (s : State) (pos : Nat) : State :=
  match tget s.zone.flows pos with
  | none => s
  | some w =>
    if w.generation = s.zone.generation then s
    else match fateOf s w with
    | 0 => setFlow s pos { w with generation := s.zone.generation }
    | 1 => revokeFlow s pos w 0xFF
    | _ => sweepMarked s pos w

theorem exec_ruleSweepStep_sweeping {s : State} {pos : Nat} (hs : s.zone.sweep = some pos) :
    exec .ruleSweepStep s = .next (sweepOnward pos (sweepVisit s pos)) := by
  change execRuleSweepStep s = _
  rw [execRuleSweepStep, hs]
  exact (apply_ite Host.Outcome.next ..).symm

section
variable {s : State} {pos : Nat} {w : Flow}

theorem sweepVisit_empty (hw : tget s.zone.flows pos = none) : sweepVisit s pos = s := by
  rw [sweepVisit, hw]

theorem sweepVisit_present (hw : tget s.zone.flows pos = some w) (hg : w.generation = s.zone.generation) : sweepVisit s pos = s := by
  rw [sweepVisit, hw]
  exact if_pos hg

variable (hw : tget s.zone.flows pos = some w) (hg : w.generation ≠ s.zone.generation)
include hw hg

theorem sweepVisit_keeps (hf : fateOf s w = 0) : sweepVisit s pos = setFlow s pos { w with generation := s.zone.generation } := by
  simp only [sweepVisit, hw, if_neg hg, hf]

theorem sweepVisit_revokes (hf : fateOf s w = 1) : sweepVisit s pos = revokeFlow s pos w 0xFF := by
  simp only [sweepVisit, hw, if_neg hg, hf]

theorem sweepVisit_marks (hf : 1 < fateOf s w) : sweepVisit s pos = sweepMarked s pos w := by
  rw [sweepVisit, hw]
  dsimp only
  rw [if_neg hg]
  split
  · omega
  · omega
  · rfl

end

/-! ### Flushes -/

theorem mem_tdel_of_ne {α : Type} {t : Tbl α} {k : Nat} {e : Nat × α} (hk : e.1 ≠ k) (h : e ∈ t) : e ∈ tdel t k := by
  induction t with
  | nil => exact h
  | cons f r ih =>
    unfold tdel
    split
    · exact (List.mem_cons.1 h).resolve_left (fun he => hk (he ▸ ‹_›))
    · split
      · exact h
      · exact List.mem_cons.2 ((List.mem_cons.1 h).imp_right ih)

/-- A key taken out of a sorted table takes its entry with it, and no other. -/
theorem mem_tdel {α : Type} {t : Tbl α} {k : Nat} {e : Nat × α} (hs : sortedKeys t = true) : e ∈ tdel t k ↔ e ∈ t ∧ e.1 ≠ k := by
  refine ⟨fun h => ⟨tdel_mem t k e h, fun hk => ?_⟩, fun ⟨h, hk⟩ => mem_tdel_of_ne hk h⟩
  have hget : tget (tdel t k) e.1 = some e.2 := tget_of_mem (sortedKeys_tdel t k hs) h
  rw [hk, tget_tdel_same t k hs] at hget
  cases hget

/-- Flows taken out one after another leave the entries at the other positions. -/
theorem mem_removeFlows {l : Tbl Flow} {s : State} {e : Nat × Flow} (hs : sortedKeys s.zone.flows = true) :
    e ∈ (l.foldl (fun t f => removeFlow t f.1) s).zone.flows ↔ e ∈ s.zone.flows ∧ ∀ f ∈ l, e.1 ≠ f.1 := by
  induction l generalizing s with
  | nil => simp
  | cons f r ih =>
    have hs' : sortedKeys (removeFlow s f.1).zone.flows = true := sortedKeys_tdel _ _ hs
    rw [List.foldl_cons, ih hs', List.forall_mem_cons, ← and_assoc]
    exact and_congr_left' (mem_tdel hs)

/-- A flush takes out exactly the flows for which its test holds. -/
theorem mem_flushFlows {s : State} {hit : Flow → Bool} {k : Nat} {w : Flow} (hs : sortedKeys s.zone.flows = true) :
    (k, w) ∈ (flushFlows s hit).zone.flows ↔ (k, w) ∈ s.zone.flows ∧ hit w = false := by
  rw [flushFlows, mem_removeFlows hs]
  refine and_congr_right fun hm => ⟨fun h => ?_, fun hw f hf hk => ?_⟩
  · rw [← Bool.not_eq_true]
    exact fun hw => h (k, w) (List.mem_filter.2 ⟨hm, hw⟩) rfl
  · obtain ⟨hfm, hfw⟩ := List.mem_filter.1 hf
    have hsame : some f.2 = some w := (tget_of_mem hs hfm).symm.trans (hk ▸ tget_of_mem hs hm)
    rw [Option.some.inj hsame, hw] at hfw
    cases hfw

theorem flushFlows_log (s : State) (hit : Flow → Bool) : (flushFlows s hit).zone.log = s.zone.log :=
  reading_foldl (f := fun t (e : Nat × Flow) => removeFlow t e.1) (fun t => t.zone.log) (fun _ _ => rfl) _ s

/-- A flush command that is carried out leaves what `flushFlows` leaves, and is answered 0. -/
theorem flowFlush_allowed {s : State} {ses : SessionNo} {v : Bytes} {c : Instr} (hit : State → Flow → Bool)
    (hc : exec c s = .next (command s ses 0x3D00 3 v (fun t => (flushFlows t (hit t), 0)))) (h : WriteAllowed s ses 0x3D00 3 v) :
    ∃ t, exec c s = .next t ∧ Answered t ses 0 [] ∧ t.zone.log = s.zone.log ∧
      (sortedKeys s.zone.flows = true → ∀ k w, (k, w) ∈ t.zone.flows ↔ (k, w) ∈ s.zone.flows ∧ hit s w = false) :=
  ⟨_, hc.trans (congrArg Host.Outcome.next (command_allowed _ h)), rfl, flushFlows_log s (hit s), fun hs _ _ => mem_flushFlows hs⟩

/-! ### The read position of a session in a ring -/

theorem getOwn_setOwn_same {s : State} {n idx sub v : Nat} {x : Session} (h : s.sessions[n]? = some x) :
    getOwn (setOwn s n idx sub v) n idx sub = v := by
  have hx : (setOwn s n idx sub v).sessions[n]? = some _ := getElem?_vmod _ h
  rw [getOwn, hx]
  simp [ownNat]

/-- A change of a session that keeps its own values leaves them to be read. -/
theorem getOwn_vmod {s : State} {f : Session → Session} (hf : ∀ x, (f x).own = x.own) (n idx sub : Nat) :
    getOwn { s with sessions := vmod s.sessions n f } n idx sub = getOwn s n idx sub := by
  unfold getOwn
  cases h : s.sessions[n]? with
  | none => simp [vmod, h]
  | some x => rw [getElem?_vmod f h]; simp [ownNat, hf]

/-- How far a session's read position stands from the oldest record held. -/
def ringPlace (s : State) (ses idx sub held : Nat) (next : BitVec 32) : Nat :=
  (BitVec.ofNat 32 (getOwn s ses idx sub) - (next - BitVec.ofNat 32 held)).toNat

section
variable {s : State} {ses idx sub len flagByte flagBit held : Nat} {next pos : BitVec 32} {recAt : Nat → Bytes} {lost : Session → Bool}
  {clear mark : Session → Session} {x : Session}

theorem ringRead_unheld (h : held ≤ ringPlace s ses idx sub held next) :
    ringRead s ses idx sub len flagByte flagBit held next recAt lost clear = (s, zeros len) := by
  unfold ringRead
  simp only [BitVec.ofNat_toNat, BitVec.setWidth_eq]
  exact if_neg (Nat.not_lt.2 h)

theorem ringRead_held (h : ringPlace s ses idx sub held next < held) (hx : s.sessions[ses]? = some x) :
    let d := ringPlace s ses idx sub held next
    let on := setOwn s ses idx sub ((getOwn s ses idx sub + 1) % 2 ^ 32)
    ringRead s ses idx sub len flagByte flagBit held next recAt lost clear =
      ({ on with sessions := vmod on.sessions ses clear },
        if lost x then (recAt d).set flagByte (BitVec.ofNat 8 (byteAt (recAt d) flagByte ||| 2 ^ flagBit)) else recAt d) := by
  unfold ringRead
  simp only [BitVec.ofNat_toNat, BitVec.setWidth_eq, hx]
  exact if_pos h

/-- A read of a held record moves the session's position on by one. -/
theorem getOwn_ringRead (hc : ∀ x, (clear x).own = x.own) (h : ringPlace s ses idx sub held next < held) (hx : s.sessions[ses]? = some x) :
    getOwn (ringRead s ses idx sub len flagByte flagBit held next recAt lost clear).1 ses idx sub =
      (getOwn s ses idx sub + 1) % 2 ^ 32 := by
  rw [ringRead_held h hx]
  exact (getOwn_vmod hc ..).trans (getOwn_setOwn_same hx)

theorem ringRead_zone : (ringRead s ses idx sub len flagByte flagBit held next recAt lost clear).1.zone = s.zone := by
  unfold ringRead
  dsimp only
  split <;> rfl

/-- A position written is held as it is where it lies in the ring, and else the oldest record's. -/
theorem getOwn_ringSeek (hm : ∀ x, (mark x).own = x.own) (hx : s.sessions[ses]? = some x) :
    getOwn (ringSeek s ses idx sub held next pos mark) ses idx sub =
      if (pos - (next - BitVec.ofNat 32 held)).toNat ≤ held then pos.toNat else (next - BitVec.ofNat 32 held).toNat := by
  unfold ringSeek
  dsimp only
  split
  · exact getOwn_setOwn_same hx
  · exact (getOwn_vmod hm ..).trans (getOwn_setOwn_same hx)

theorem ringSeek_zone : (ringSeek s ses idx sub held next pos mark).zone = s.zone := by
  unfold ringSeek
  dsimp only
  split <;> rfl

end

/-! ### The log of the Zone Gate -/

/-- How far a session's read position of the log stands from its oldest record. -/
def logPlace (s : State) (ses : Nat) : Nat := ringPlace s ses 0x3D10 1 s.zone.log.length s.zone.logNext

theorem zoneLogRead_none {s : State} {ses : Nat} (h : s.zone.log[logPlace s ses]? = none) : zoneLogRead s ses = (s, zeros 64) :=
  ringRead_unheld (List.getElem?_eq_none_iff.1 h)

/-- A record's bytes as a session reads them: its lost flag is bit 0 of byte 3 (R222). -/
def zoneRecRead (r : ZoneRec) (lost : Bool) : Bytes :=
  if lost then (zoneRecBytes r).set 3 (BitVec.ofNat 8 (byteAt (zoneRecBytes r) 3 ||| 1)) else zoneRecBytes r

theorem zoneLogRead_some {s : State} {ses : Nat} {r : ZoneRec} {x : Session} (h : s.zone.log[logPlace s ses]? = some r)
    (hx : s.sessions[ses]? = some x) :
    (zoneLogRead s ses).2 = zoneRecRead r x.logLost ∧ getOwn (zoneLogRead s ses).1 ses 0x3D10 1 = (getOwn s ses 0x3D10 1 + 1) % 2 ^ 32 ∧
      (zoneLogRead s ses).1.zone = s.zone := by
  have hlt : logPlace s ses < s.zone.log.length := (List.getElem?_eq_some_iff.1 h).1
  have hrec : s.zone.log[ringPlace s ses 0x3D10 1 s.zone.log.length s.zone.logNext]? = some r := h
  refine ⟨?_, getOwn_ringRead (fun _ => rfl) hlt hx, ringRead_zone⟩
  rw [zoneLogRead, ringRead_held hlt hx]
  simp only [hrec, Nat.pow_zero, zoneRecRead]

theorem exec_zoneLogRecordRead_allowed {s : State} {ses : SessionNo} (h : ReadAllowed s ses 0x3D10 2) :
    exec (.zoneLogRecordRead ses) s = .next (emit (zoneLogRead s ses.val).1 (.answer (.session ses) 0 (zoneLogRead s ses.val).2)) :=
  congrArg Host.Outcome.next (readCommand_allowed (fun t => zoneLogRead t ses.val) h)

theorem exec_zoneLogPositionWrite_allowed {s : State} {ses : SessionNo} {pos : BitVec 32} (h : WriteAllowed s ses 0x3D10 1 (be 4 pos.toNat)) :
    exec (.zoneLogPositionWrite ses pos) s = .next (emit (zoneLogSeek s ses.val pos) (.answer (.session ses) 0 [])) :=
  congrArg Host.Outcome.next (command_allowed (fun t => (zoneLogSeek t ses.val pos, 0)) h)

/-- Settles O23: evaluation, scan and sweep are one branch each of their command; a flush filters the table, and the log is one of the rings. -/
theorem zoneGateEvaluatesAgesAndSweeps : Obligations.ZoneGateEvaluatesAgesAndSweeps := by
  refine ⟨fun s p credit pos e w key => ⟨fun he hp hq => ?_, exec_flowAgeingScan_awake, fun hs => ?_, rfl⟩,
    fun s ses pos x => ⟨⟨?_, ?_, ?_⟩, fun h hx => ⟨fun r hr => ?_, fun hr => ?_⟩, fun h => ?_⟩⟩
  · exact ⟨⟨_, exec_firstPacketEvaluation_serves false he hp hq, rfl, copyHeader_zone ..⟩, exec_firstPacketEvaluation_serves true he hp hq⟩
  · have onward : ∀ {u}, sweepVisit s pos = u → exec .ruleSweepStep s = .next (sweepOnward pos u) :=
      fun hu => hu ▸ exec_ruleSweepStep_sweeping hs
    exact ⟨fun hw => onward (sweepVisit_empty hw), fun hw => ⟨fun hg => onward (sweepVisit_present hw hg), fun hg =>
      ⟨fun hf => onward (sweepVisit_keeps hw hg hf), fun hf => onward (sweepVisit_revokes hw hg hf), fun hf =>
        ⟨_, onward (sweepVisit_marks hw hg hf), rfl, rfl⟩⟩⟩⟩
  · exact flowFlush_allowed (fun _ _ => true) rfl
  · exact flowFlush_allowed (fun t w => pairOf w.key == t.val 0x3D00 4) rfl
  · exact flowFlush_allowed (fun _ w => w.state == 5) rfl
  · obtain ⟨hb, hplace, hzone⟩ := zoneLogRead_some hr hx
    refine ⟨_, _, exec_zoneLogRecordRead_allowed h, rfl, fun hl => ?_, fun hl => ?_, hplace, hzone⟩
    · rw [hb, zoneRecRead, hl, if_neg Bool.false_ne_true]
    · rw [hb, zoneRecRead, hl, if_pos rfl]
  · rw [exec_zoneLogRecordRead_allowed h, zoneLogRead_none hr]
  · have ⟨_, ho, _⟩ := h
    obtain ⟨x, hx⟩ := isOpen_session ho
    exact ⟨_, exec_zoneLogPositionWrite_allowed h, rfl, ringSeek_zone, getOwn_ringSeek (fun _ => rfl) hx⟩

end Sys2Proof.Machine
end

section
/-! PROOFS. A tick of the Time Unit (R234, R236): it moves the counts of the time block, and what the tick ends on the ports, the lines and
the ballot leaves that block, the operating block and the change sets alone. -/

namespace Sys2Proof.Machine

/-! ### Counts, the end of a condition, and frames of the device itself reach no more than an event does -/

section
variable {α : Type} {π : State → α} (h : OffEvents π)
include h

theorem OffEvents.emit (s : State) (o : Out) : π (emit s o) = π s := h s _ _ _ _ _ _ _

theorem OffEvents.bump (s : State) (idx sub : Nat) : π (bump s idx sub) = π s := by
  unfold Machine.bump bumpAt
  dsimp only
  split
  · exact (h.raise ..).trans (h.tally ..)
  · exact h.tally ..

theorem OffEvents.settle (before s : State) : π (settle before s) = π s := by
  unfold Machine.settle
  split
  · rfl
  · exact (h.hostEdges _).trans (h.afterRounds 20 before s)

theorem OffEvents.emcyCleared (before s : State) : π (emcyCleared before s) = π s := by
  unfold Machine.emcyCleared
  dsimp only
  split
  · exact (h.settle ..).trans ((h.emcyAll ..).trans (h s _ _ _ _ _ _ _))
  · split
    · rfl
    · exact h s _ _ _ _ _ _ _

theorem OffEvents.ownFrame (s : State) (p kind : Nat) (tagged : Bool) (len : Nat) (data : Bytes) : π (ownFrame s p kind tagged len data) = π s :=
  h s _ _ _ _ _ _ _

theorem OffEvents.sendBallot (s : State) (typ number proposer kind code reasons : Nat) (c : T32) :
    π (sendBallot s typ number proposer kind code reasons c) = π s :=
  reading_foldl π (fun t _ => h.ownFrame t ..) _ s

end

/-! ### What a tick leaves alone -/

/-- The operating block, the change sets and the time. -/
def opCsTime (s : State) : OpBlock × CsBlock × TimeBlock := (s.op, s.cs, s.time)

theorem opCsTime_offEvents : OffEvents opCsTime := fun _ _ _ _ _ _ _ _ => rfl

theorem canIntegrate_opCsTime (s : State) : opCsTime (canIntegrate s) = opCsTime s := by
  refine reading_foldl opCsTime (fun t cn => ?_) _ s
  dsimp only
  split <;> rfl

theorem refreshDe_opCsTime (s : State) : opCsTime (refreshDe s) = opCsTime s := by
  refine reading_foldl opCsTime (fun t sp => ?_) _ s
  split <;> rfl

theorem endBallot_opCsTime (s : State) (cause sender : Nat) : opCsTime (endBallot s cause sender) = opCsTime s :=
  (opCsTime_offEvents.raise ..).trans (opCsTime_offEvents.bump (setBallot s _) _ _)

theorem ballotCheck_opCsTime (s : State) : opCsTime (ballotCheck s) = opCsTime s := by
  unfold ballotCheck abortBallot
  split
  · refine (endBallot_opCsTime ..).trans ?_
    split
    · rfl
    · exact opCsTime_offEvents.sendBallot ..
  · rfl

/-- Of the operating block, the change sets and the time, a tick moves what the counter moves. -/
theorem tick_opCsTime (s : State) : opCsTime (tick s) = opCsTime (clockTick s) :=
  calc opCsTime (tick s)
    _ = opCsTime (ballotCheck (refreshDe (canIntegrate (advanceGrids (clockTick s))))) := opCsTime_offEvents.emcyCleared ..
    _ = opCsTime (refreshDe (canIntegrate (advanceGrids (clockTick s)))) := ballotCheck_opCsTime _
    _ = opCsTime (canIntegrate (advanceGrids (clockTick s))) := refreshDe_opCsTime _
    _ = opCsTime (advanceGrids (clockTick s)) := canIntegrate_opCsTime _
    _ = opCsTime (clockTick s) := rfl

theorem clockTick_op (s : State) : (clockTick s).op = s.op := by
  unfold clockTick
  split <;> rfl

theorem clockTick_cs (s : State) : (clockTick s).cs = s.cs := by
  unfold clockTick
  split <;> rfl

theorem clockTick_time_asleep {s : State} (h : s.op.state = .deepSleep) : (clockTick s).time = { s.time with mono := s.time.mono + 4 } := by
  unfold clockTick
  rw [h]

/-- Outside DeepSleep the integer part of ACC + INC is counted, and its fraction stays in ACC (R234). -/
theorem clockTick_time_awake {s : State} (h : s.op.state ≠ .deepSleep) :
    let n := (s.time.acc.toNat + s.time.inc.toNat) / 2 ^ 32
    (clockTick s).time = { s.time with
      t32 := s.time.t32 + BitVec.ofNat 32 n, acc := BitVec.ofNat 32 ((s.time.acc.toNat + s.time.inc.toNat) % 2 ^ 32),
      tx := s.time.tx + n, mono := s.time.mono + n } := by
  have hacc : BitVec.ofNat 32 ((s.time.acc.toNat + s.time.inc.toNat) % 2 ^ 32) = BitVec.ofNat 32 (s.time.acc.toNat + s.time.inc.toNat) :=
    BitVec.eq_of_toNat_eq (by simp)
  rw [hacc]
  unfold clockTick
  split
  · contradiction
  · rfl

/-- A tick moves the time as the counter does, and neither the operating block nor the change sets. -/
theorem tick_op_cs_time (s : State) : (tick s).op = s.op ∧ (tick s).cs = s.cs ∧ (tick s).time = (clockTick s).time := by
  have h := tick_opCsTime s
  simp only [opCsTime, Prod.mk.injEq, clockTick_op, clockTick_cs] at h
  exact h

theorem tick_pending_cfg (s : State) : (tick s).pending = s.pending ∧ (tick s).cfg = s.cfg := by
  have h := tick_kept s
  simp only [kept, Prod.mk.injEq] at h
  obtain ⟨hpending, hcfg, -⟩ := h
  exact ⟨hpending, hcfg⟩

theorem step_empty {s : State} (h : s.pending = []) : step s = .next (tick s) := by
  unfold step
  rw [h]

/-- Settles O2: a step on an empty queue is the tick, and the tick moves the time as the counter does. -/
theorem emptyQueueTicks : Obligations.EmptyQueueTicks := by
  intro s h
  obtain ⟨hop, hcs, htime⟩ := tick_op_cs_time s
  obtain ⟨hpending, hcfg⟩ := tick_pending_cfg s
  exact ⟨tick s, step_empty h, hop, hcfg, hcs, hpending.trans h,
    fun ha => htime.trans (clockTick_time_awake ha), fun hd => htime.trans (clockTick_time_asleep hd)⟩

end Sys2Proof.Machine
end

section
/-! PROOFS. PTP, the source of the time and the loss of it (R242, R243, R245 to R248, R261): what each PTP command does where the time is
served, and what an event that it raises leaves of the time block. -/

namespace Sys2Proof.Machine

/-! ### Messages and intervals of a member port -/

/-- The sequence number goes on after a message that is sent without being asked for. -/
def nextSequence (s : State) (i : Nat) : State := setInst s i (fun x => { x with sequence := x.sequence + 1 })

/-- The departure of a delay request is noted on its port. -/
def noteAsked (s : State) (i : Nat) (p : Fin 38) (stamp : Int) : State :=
  setInst s i (fun x => { x with asked := x.asked.filter (fun e => e.1 != p) ++ [(p, stamp)] })

section
variable {s : State} {inst : Fin 4} {port : Fin 38} (ht : timeServes s = true) (hm : ptpMember s inst.val port.val = true)
include ht hm

/-- A Sync on the slave port notes the offset, and the source's runs the servo (R243). -/
theorem ptpSyncReceived_onSlave (origin : Int) (stamp : T32) (hs : slavePort s inst.val = some port.val) :
    let diff := stampTx s stamp * 1000 - origin
    let offset := (diff - (ptpInst s inst.val).delay - s.ival (0x40C0 + port.val) 5) / 1000
    let s1 := firstSource (setInst s inst.val (fun x => { x with offset := offset, syncDiff := some diff }))
    execPtpSyncReceived inst port origin stamp s = .next (if s1.time.source = some inst then servo s1 offset else s1) := by
  intro diff offset s1
  unfold execPtpSyncReceived
  dsimp only
  rw [if_neg (by simp [ht, hm, hs])]
  exact (apply_ite Host.Outcome.next _ _ _).symm

theorem ptpMessageReceived_announce {r : ClockRank} (hr : fixedRoles s inst.val = false) (ho : r.identity ≠ Config.unitId) :
    execPtpMessageReceived inst port (.announce r) s = .next (judgeClocks s inst.val port (some r)) := by
  simp [execPtpMessageReceived, ht, hm, hr, ho]

theorem ptpMessageReceived_announceTimeout (hr : fixedRoles s inst.val = false) :
    execPtpMessageReceived inst port .announceTimeout s = .next (judgeClocks s inst.val port none) := by
  simp [execPtpMessageReceived, ht, hm, hr]

theorem ptpMessageReceived_pdelayReq (t : T32) (hp : s.val (0x4030 + inst.val) 2 = 0) :
    execPtpMessageReceived inst port (.pdelayReq t) s =
      .next (sendPtp (sendPtp s inst.val port.val 3 (ptpStamp (stampTx s t * 1000))) inst.val port.val 0x0A (ptpStamp (egressStamp s port.val 0))) := by
  simp [execPtpMessageReceived, ht, hm, hp]

theorem ptpMessageReceived_delayReq (t : T32) (hp : s.val (0x4030 + inst.val) 2 ≠ 0) (hr : masterPort s inst.val port.val = true) :
    execPtpMessageReceived inst port (.delayReq t) s = .next (sendPtp s inst.val port.val 9 (ptpStamp (stampTx s t * 1000))) := by
  simp [execPtpMessageReceived, ht, hm, hp, hr]

theorem ptpMessageReceived_pdelayResp (t : T32) (held : Int) {t1 : Int} (hp : s.val (0x4030 + inst.val) 2 = 0)
    (hs : slavePort s inst.val = some port.val) (ha : askedOn s inst.val port = some t1) :
    execPtpMessageReceived inst port (.pdelayResp t held) s = .next (setDelay s inst.val (stampTx s t * 1000 - t1 - held)) := by
  simp [execPtpMessageReceived, ht, hm, hp, hs, ha]

theorem ptpMessageReceived_delayResp (got : Int) {t3 d : Int} (hp : s.val (0x4030 + inst.val) 2 ≠ 0)
    (hs : slavePort s inst.val = some port.val) (ha : askedOn s inst.val port = some t3) (hd : (ptpInst s inst.val).syncDiff = some d) :
    execPtpMessageReceived inst port (.delayResp got) s = .next (setDelay s inst.val (d + (got - t3))) := by
  simp [execPtpMessageReceived, ht, hm, hp, hs, ha, hd]

theorem ptpMessageReceived_management : execPtpMessageReceived inst port .management s = .next s := by
  simp [execPtpMessageReceived, ht, hm]

section
variable (ph : Fin 8) (hl : linkIsUp s port.val = true)
include hl

theorem ptpMessageInterval_announce (hr : masterPort s inst.val port.val = true) :
    execPtpMessageInterval inst port ⟨.announce, ph⟩ s = .next (nextSequence (sendPtp s inst.val port.val 0x0B []) inst.val) := by
  simp [execPtpMessageInterval, nextSequence, ht, hm, hl, hr]

theorem ptpMessageInterval_sync (hr : masterPort s inst.val port.val = true) :
    execPtpMessageInterval inst port ⟨.sync, ph⟩ s = .next (nextSequence
      (sendPtp (sendPtp s inst.val port.val 0 []) inst.val port.val 8 (ptpStamp (egressStamp s port.val ph.val))) inst.val) := by
  simp [execPtpMessageInterval, nextSequence, ht, hm, hl, hr]

theorem ptpMessageInterval_peerDelay (hp : s.val (0x4030 + inst.val) 2 = 0) :
    execPtpMessageInterval inst port ⟨.delay, ph⟩ s = .next (nextSequence
      (noteAsked (sendPtp s inst.val port.val 2 []) inst.val port (egressStamp s port.val ph.val)) inst.val) := by
  simp [execPtpMessageInterval, nextSequence, noteAsked, ht, hm, hl, hp]

theorem ptpMessageInterval_delay (hp : s.val (0x4030 + inst.val) 2 ≠ 0) (hs : slavePort s inst.val = some port.val) :
    execPtpMessageInterval inst port ⟨.delay, ph⟩ s = .next (nextSequence
      (noteAsked (sendPtp s inst.val port.val 1 []) inst.val port (egressStamp s port.val ph.val)) inst.val) := by
  simp [execPtpMessageInterval, nextSequence, noteAsked, ht, hm, hl, hp, hs]

end

end

/-! ### The sync state -/

theorem time_offEvents : OffEvents State.time := fun _ _ _ _ _ _ _ _ => rfl

theorem bestSource_offEvents : OffEvents bestSource := fun _ _ _ _ _ _ _ _ => rfl

/-- A change of the sync state sets it and leaves the rate as it is (R242). -/
theorem setSync_time {s : State} {st : BitVec 8} (offset : Int) (h : s.time.sync ≠ st) :
    (setSync s st offset).time.sync = st ∧ (setSync s st offset).time.inc = s.time.inc := by
  unfold setSync
  rw [if_neg h]
  dsimp only
  rw [time_offEvents.raise]
  exact ⟨rfl, rfl⟩

/-- Holdover runs on with the last locked rate (R242). -/
theorem loseSync_holdover {s : State} (h : s.time.sync = 2 ∨ (s.time.sync = 1 ∧ s.time.lockedOnce = true)) :
    (loseSync s).time.sync = 3 ∧ (loseSync s).time.inc = s.time.lastLockedInc := by
  have hne : s.time.sync ≠ 3 := by rcases h with h | ⟨h, -⟩ <;> simp [h]
  unfold loseSync
  rw [if_pos h]
  exact setSync_time _ hne

/-- A device that never locked falls to Free-run at the nominal rate (R242). -/
theorem loseSync_freeRun {s : State} (h : s.time.sync = 1) (hl : s.time.lockedOnce = false) :
    (loseSync s).time.sync = 0 ∧ (loseSync s).time.inc = nominalInc := by
  have hne : s.time.sync ≠ 0 := by simp [h]
  unfold loseSync
  rw [if_neg (by simp [h, hl]), if_pos h]
  exact setSync_time _ hne

theorem syncReceiptTimeout_locked {s : State} (ht : timeServes s = true) (h : s.time.sync = 2) :
    execSyncReceiptTimeout s = .next (loseSync (bump s 0x4100 4)) := by
  have hb : (bump s 0x4100 4).time.sync ≠ 1 := by simp [time_offEvents.bump, h]
  unfold execSyncReceiptTimeout
  dsimp only
  rw [if_neg (by simp [ht, h]), if_neg (fun hc => hb hc.1)]

theorem syncReceiptTimeout_acquiring {s : State} (ht : timeServes s = true) (h : s.time.sync = 1) (hn : bestSource s = none) :
    execSyncReceiptTimeout s = .next (loseSync (bump s 0x4100 4)) := by
  unfold execSyncReceiptTimeout
  dsimp only
  rw [if_neg (by simp [ht, h]), bestSource_offEvents.bump, hn]
  exact if_neg (by simp)

theorem loseSource_source (s : State) : (loseSource s).time.source = none := by
  unfold loseSource
  split
  · assumption
  · rw [time_offEvents.raise, time_offEvents.bump]

/-- The holdover limit ends in Free-run at the nominal rate, told by event 4004h (R242, R245). -/
theorem holdoverLimitExpiry_freeRun {s : State} {t0 : Nat} (h0 : s.time.holdoverSince = some t0) (h : s.time.sync = 3) :
    ∃ t, execHoldoverLimitExpiry s = .next t ∧ t.time.sync = 0 ∧ t.time.inc = nominalInc ∧
      t = raise (setSync { s with time := { s.time with inc := nominalInc } } 0 s.time.offset) 0x4004 3 0xFF
        (be 4 ((s.time.mono - t0) / 1000000000)) := by
  have hne : s.time.sync ≠ 0 := by simp [h]
  obtain ⟨hsync, hinc⟩ := setSync_time (s := { s with time := { s.time with inc := nominalInc } }) s.time.offset hne
  refine ⟨_, ?_, ?_, ?_, rfl⟩
  · unfold execHoldoverLimitExpiry
    rw [h0]
    exact if_pos h
  · rw [time_offEvents.raise]
    exact hsync
  · rw [time_offEvents.raise]
    exact hinc

/-! ### The source -/

section
variable {s : State} {src : Fin 4} (ht : timeServes s = true) (hs : s.time.source = some src)
include ht hs

/-- A source without a slave port makes way for the best other one (R245). -/
theorem sourceInstanceChange_selects {k : Nat} (hl : slavePort s src.val = none) (hb : bestSource s = some k) :
    execSourceInstanceChange s = .next (selectSource s k) := by
  simp [execSourceInstanceChange, ht, hs, hl, hb]

theorem sourceInstanceChange_loses (hl : slavePort s src.val = none) (hb : bestSource s = none) :
    execSourceInstanceChange s = .next (loseSource s) := by
  simp [execSourceInstanceChange, ht, hs, hl, hb]

theorem primaryRevert_selects (h8 : s.val 0x4010 8 ≠ 0) (hp : (slavePort s (s.val 0x4010 1)).isSome = true) :
    execPrimaryRevert s = .next (selectSource s (s.val 0x4010 1)) := by
  unfold execPrimaryRevert
  exact if_pos ⟨h8, hp, ht, by rw [hs]; rfl⟩

end

theorem sourceInstanceChange_first {s : State} (hs : s.time.source = none) : execSourceInstanceChange s = .next (firstSource s) := by
  unfold execSourceInstanceChange
  rw [hs]

/-- Settles O24: each command is one branch where the time is served, and the events of a change leave the time block as it was set. -/
theorem syncMessagesSteerTheClock : Obligations.SyncMessagesSteerTheClock := by
  intro s inst port origin stamp t0 msg src ph
  refine ⟨fun ⟨ht, hm⟩ hs => ptpSyncReceived_onSlave ht hm origin stamp hs, fun ⟨ht, hm⟩ => ⟨?_, ?_, ?_, ?_, ?_, ?_, ?_⟩,
    fun ht => ⟨fun h => ?_, fun h hn => ⟨fun hl => ?_, fun hl => ?_⟩, fun hs hl => ⟨fun k hb => ?_, fun hb => ?_⟩, fun h8 hp hs => ?_⟩,
    sourceInstanceChange_first, holdoverLimitExpiry_freeRun, fun ⟨ht, hm⟩ hl => ⟨fun hr => ⟨?_, ?_⟩, fun hp => ?_, fun hp hs => ?_⟩⟩
  · rintro r rfl hr ho
    exact ptpMessageReceived_announce ht hm hr ho
  · rintro rfl hr
    exact ptpMessageReceived_announceTimeout ht hm hr
  · rintro t rfl hp
    exact ptpMessageReceived_pdelayReq ht hm t hp
  · rintro t rfl hp hr
    exact ptpMessageReceived_delayReq ht hm t hp hr
  · rintro t held t1 rfl hp hs ha
    exact ptpMessageReceived_pdelayResp ht hm t held hp hs ha
  · rintro got t3 d rfl hp hs ha hd
    exact ptpMessageReceived_delayResp ht hm got hp hs ha hd
  · rintro rfl
    exact ptpMessageReceived_management ht hm
  · refine ⟨_, syncReceiptTimeout_locked ht h, ?_⟩
    rw [← time_offEvents.bump s 0x4100 4] at h ⊢
    exact loseSync_holdover (.inl h)
  · refine ⟨_, syncReceiptTimeout_acquiring ht h hn, ?_⟩
    rw [← time_offEvents.bump s 0x4100 4] at h hl ⊢
    exact loseSync_holdover (.inr ⟨h, hl⟩)
  · refine ⟨_, syncReceiptTimeout_acquiring ht h hn, ?_⟩
    rw [← time_offEvents.bump s 0x4100 4] at h hl
    exact loseSync_freeRun h hl
  · exact sourceInstanceChange_selects ht hs hl hb
  · exact ⟨_, sourceInstanceChange_loses ht hs hl hb, loseSource_source s⟩
  · exact primaryRevert_selects ht hs h8 hp
  · exact ptpMessageInterval_announce ht hm ph hl hr
  · exact ptpMessageInterval_sync ht hm ph hl hr
  · exact ptpMessageInterval_peerDelay ht hm ph hl hp
  · exact ptpMessageInterval_delay ht hm ph hl hp hs

end Sys2Proof.Machine
end

section
/-! PROOFS. The gateway (R300 to R313): what routes a message, delivers an internal frame, sends a held value on its grid, takes a
datagram and offers a poll. -/

namespace Sys2Proof.Machine

/-! ### GATEWAY_ROUTE_MESSAGE -/

/-- The valid entries of the routing image that a message matches by its bus and its masked identifier (R300). -/
def matchingRoutes (s : State) (m : GwMsg) : List (Nat × Route) :=
  (routes (routeImage s)).filter (fun e => e.2.srcBus == m.bus && (m.ident &&& e.2.srcMask == e.2.srcId &&& e.2.srcMask))

/-- The hand-over FIFO holds these messages. -/
def setFifoRest (s : State) (rest : List GwMsg) : State := { s with gw := { s.gw with fifo := rest } }

/-- The Pool Manager buffer that a routed message held is freed (R303). -/
def freeRouted (m : GwMsg) (t : State) : State := match m.buffer with | some h => poolFreeOp t (3 + m.bus / 4) h | none => t

section
variable {s : State} {m : GwMsg} {rest : List GwMsg} (hr : routing s = true) (hf : s.gw.fifo = m :: rest)
include hr hf

/-- The head of the FIFO is counted as unrouted or goes by its first 16 routes, the further ones are counted, and its buffer is freed. -/
theorem gatewayRouteMessage_head : execGatewayRouteMessage s = .next (freeRouted m
    ((List.range ((matchingRoutes s m).length - 16)).foldl (fun t _ => bump t 0x4710 5)
      (if (matchingRoutes s m).isEmpty then bumpW (setFifoRest s rest) 0x4710 4 0 1
       else ((matchingRoutes s m).take 16).foldl (fun t e => routeOne t m e) (setFifoRest s rest)))) := by
  unfold execGatewayRouteMessage
  rw [if_neg (by simp [hr]), hf]
  rfl

theorem gatewayRouteMessage_unrouted (h : matchingRoutes s m = []) :
    execGatewayRouteMessage s = .next (freeRouted m (bumpW (setFifoRest s rest) 0x4710 4 0 1)) := by
  rw [gatewayRouteMessage_head hr hf, h]
  rfl

theorem gatewayRouteMessage_routed (h : matchingRoutes s m ≠ []) : execGatewayRouteMessage s = .next (freeRouted m
    ((List.range ((matchingRoutes s m).length - 16)).foldl (fun t _ => bump t 0x4710 5)
      (((matchingRoutes s m).take 16).foldl (fun t e => routeOne t m e) (setFifoRest s rest)))) := by
  rw [gatewayRouteMessage_head hr hf, if_neg (by simpa using h)]

end

/-! ### GATEWAY_DESTINATION_DELIVERY -/

/-- The head of the internal deliveries has left them, and its Pool Manager buffer is freed (R304). -/
def takeInternal (s : State) (o : GwOut) (os : List GwOut) : State :=
  let t := { s with gw := { s.gw with internal := os } }
  match o.buffer with | some h => poolFreeOp t 6 h | none => t

section
variable {s : State} {o : GwOut} {os : List GwOut} (hp : inPause s = false) (hi : s.gw.internal = o :: os) (hb : busLevel s = .all)
include hp hi hb

/-- A delivery by event is written where its bus master collects it, and else sent (R306). -/
theorem gatewayDestinationDelivery_event (hl : o.latest = false) :
    let t := takeInternal s o os
    execGatewayDestinationDelivery s =
      .next (if collected t o.dest then writeCollected t o.dest o.ident o.data else legacySend t o.dest o.ident o.data o.xl) := by
  intro t
  unfold execGatewayDestinationDelivery
  rw [if_neg (by simp [hp]), hi]
  dsimp only
  rw [if_neg (not_not_intro hb), hl, if_neg Bool.false_ne_true, if_neg Bool.false_ne_true]
  exact (apply_ite Host.Outcome.next ..).symm

/-- A delivery of latest-value mode replaces the held value of its entry, and is written where its bus master collects it (R306). -/
theorem gatewayDestinationDelivery_latest (hl : o.latest = true) :
    let t := setHeld (takeInternal s o os) o.entry o.data o.xl o.stamp
    execGatewayDestinationDelivery s = .next (if collected t o.dest then writeCollected t o.dest o.ident o.data else t) := by
  intro t
  unfold execGatewayDestinationDelivery
  rw [if_neg (by simp [hp]), hi]
  dsimp only
  rw [if_neg (not_not_intro hb), hl, if_pos rfl, if_pos rfl]
  exact (apply_ite Host.Outcome.next ..).symm

end

/-! ### Grid points, timeouts, datagrams and polls -/

/-- A grid point that is due sends its entry, where the state lets it, and is next due a period later (R307). -/
theorem gridSend_due {s : State} {n at_ : Nat} (hn : tget s.gw.next n = some at_) (hd : at_ ≤ s.time.tx) :
    let r := routeAt (routeImage s) n
    let t := { s with gw := { s.gw with next := tput s.gw.next n (at_ + 1000000 * r.period) } }
    gridSend s n = if busLevel s = .all ∧ (!(inPause s) ∨ r.dstBus < 8) then latestSend t n r else t := by
  intro r t
  unfold gridSend
  rw [hn]
  exact if_pos hd

/-- A CAN slot's grid point is that of the entry that fills the slot. -/
theorem canSlotGridPoint_entry {s : State} {cn : Fin 8} {slot : Fin 16} {n : Nat} (h : slotEntry s cn.val slot.val = some n) :
    execCanSlotGridPoint cn slot s = .next (gridSend s n) := by
  unfold execCanSlotGridPoint
  rw [h]

/-- The source of a latest-value entry is silent for its timeout: the held value is marked (R308). -/
theorem sourceTimeoutExpiry_marks {s : State} {entry : Fin 4096} {h : HeldValue} (hh : tget s.gw.held entry.val = some h)
    (hb : busLevel s = .all) (hv : (routeAt (routeImage s) entry.val).valid = true) (hl : (routeAt (routeImage s) entry.val).latest = true)
    (ht : (routeAt (routeImage s) entry.val).timeout ≠ 0) :
    execSourceTimeoutExpiry entry s = .next { s with gw := { s.gw with held := tput s.gw.held entry.val { h with timedOut := true } } } := by
  unfold execSourceTimeoutExpiry
  dsimp only
  rw [hh]
  exact if_pos ⟨hb, hv, hl, ht⟩

theorem handOver_room {s : State} (m : GwMsg) (h : s.gw.fifo.length < 1024) :
    handOver s m = ({ s with gw := { s.gw with fifo := s.gw.fifo ++ [m] } }, true) := if_pos h

section
variable {s : State} (port : Fin 38) {payload : Bytes} (stamp : T32) (hr : routing s = true)
include hr

/-- A datagram that is whole is handed over as a message of its port (R309, R311). -/
theorem gatewayDatagramReceived_whole (hv : byteAt payload 0 = 1) (hl : 18 + beAt payload 16 2 ≤ payload.length)
    (hroom : s.gw.fifo.length < 1024) :
    execGatewayDatagramReceived port ⟨payload, stamp⟩ s = .next { s with gw := { s.gw with
      fifo := s.gw.fifo ++ [{ bus := 0x0100 + port.val, ident := beAt payload 2 2, data := slice payload 18 (beAt payload 16 2), stamp := stamp, buffer := none, xl := none }] } } := by
  have hwhole : ¬ (byteAt payload 0 ≠ 1 ∨ payload.length < 18 + beAt payload 16 2) := by omega
  unfold execGatewayDatagramReceived
  dsimp only
  rw [if_neg (by simp [hr]), if_neg hwhole, handOver_room _ hroom]

theorem gatewayDatagramReceived_broken (h : byteAt payload 0 ≠ 1 ∨ payload.length < 18 + beAt payload 16 2) :
    execGatewayDatagramReceived port ⟨payload, stamp⟩ s = .next (bump s 0x4710 9) := by
  unfold execGatewayDatagramReceived
  dsimp only
  rw [if_neg (by simp [hr]), if_pos h]

end

/-- A poll that is due is offered, and is next due a period later (R312). -/
theorem modbusPollGridPoint_due {s : State} {poll : Fin 256} {at_ : Nat} (hn : tget s.gw.pollNext poll.val = some at_) (hd : at_ ≤ s.time.tx) :
    execModbusPollGridPoint poll s = .next (pollOffer { s with gw := { s.gw with
      pollNext := tput s.gw.pollNext poll.val (at_ + 1000000 * beAt (pollAt (routeImage s) poll.val) 6 2) } } poll.val) := by
  unfold execModbusPollGridPoint
  rw [hn]
  exact if_pos hd

/-- Settles O28: each command of the gateway is one branch of its meaning where its message, entry or poll is due. -/
theorem gatewayRoutesAndDelivers : Obligations.GatewayRoutesAndDelivers := by
  intro s entry cn slot port payload stamp poll m rest n h at_
  refine ⟨fun hr hf => ⟨gatewayRouteMessage_unrouted hr hf, gatewayRouteMessage_routed hr hf⟩,
    fun o os hp hi hb => ⟨gatewayDestinationDelivery_event hp hi hb, gatewayDestinationDelivery_latest hp hi hb⟩,
    ⟨fun at_ hn hd => congrArg Host.Outcome.next (gridSend_due hn hd), fun he at_ hn hd => ?_⟩,
    sourceTimeoutExpiry_marks, fun hr => ⟨gatewayDatagramReceived_whole port stamp hr, gatewayDatagramReceived_broken port stamp hr⟩,
    modbusPollGridPoint_due⟩
  exact (canSlotGridPoint_entry he).trans (congrArg Host.Outcome.next (gridSend_due hn hd))

end Sys2Proof.Machine
end

section
/-! PROOFS. The accesses of the bridge (R314 to R320): what a held read and a posted write do by the page they name, and what ends a
transaction. -/

namespace Sys2Proof.Machine

/-! ### BRIDGE_HELD_READ and BRIDGE_POSTED_WRITE -/

/-- The access has its sequence number, and the next one the number after it (R320). -/
def nextAccess (s : State) : State := { s with br := { s.br with seq := s.br.seq + 1 } }

/-- A held read that needs no tag, as it completes at once. -/
def untaggedRead (s : State) (page off length : Nat) : BridgeTx :=
  { tag := 0, seq := s.br.seq, page := page, offset := off, length := length, data := none, state := .queued, use_ := .held, target := 0, locked := false }

/-- The MVB value that an offset of a page names (R317). -/
def pageMvb (s : State) (page off : Nat) : Option (Nat × MvbEntry) :=
  let p := pageAt s.cfg page
  mvbFind s (mvbSegOf s (p.bus - 0x10)) (p.base + off / 32)

/-- What the cache holds of the slot that an offset of a page lies in (R319). -/
def cachedSlot (s : State) (page off : Nat) : Option (Nat × Nat × Bytes) :=
  s.br.cache.find? (fun e => e.1 == page && e.2.1 == off / slotSize (pageAt s.cfg page).kind)

section
variable {s : State} {offset : BitVec 24} (ho : isOpen s 17 = true)
include ho

section
variable {length : Nat}

/-- Where the state does not serve the bridge a held read is all ones with result 5 (R324). -/
theorem bridgeHeldRead_unserved (hs : bridgeServes s = false) : execBridgeHeldRead offset length s =
    .next (nextAccess (completeRead (bumpW s 0x4810 3 0 1) (untaggedRead s (offset.toNat / 4096) (offset.toNat % 4096) length) (allOnes length) 5)) := by
  unfold execBridgeHeldRead
  dsimp only
  rw [if_neg (by simp [ho]), if_pos (by simp [hs])]
  rfl

section
variable (hs : bridgeServes s = true)
include hs

/-- A refused held read is all ones with result 4, and a fault (R317, R321). -/
theorem bridgeHeldRead_refused (hc : accessCheck s (offset.toNat / 4096) (offset.toNat % 4096) length false ≠ 0) :
    let u := refuseAccess (bumpW s 0x4810 3 0 1) (offset.toNat / 4096) (offset.toNat % 4096) length
      (accessCheck s (offset.toNat / 4096) (offset.toNat % 4096) length false)
    execBridgeHeldRead offset length s = .next (completeRead u.1 u.2 (allOnes length) 4) := by
  unfold execBridgeHeldRead
  dsimp only
  rw [if_neg (by simp [ho]), if_neg (by simp [hs]), if_pos hc]

variable (hc : accessCheck s (offset.toNat / 4096) (offset.toNat % 4096) length false = 0)
include hc

/-- A held read of an MVB page has the value of its port at once (R317). -/
theorem bridgeHeldRead_mvb {k : Nat} {e : MvbEntry} (hk : (pageAt s.cfg (offset.toNat / 4096)).kind = 2)
    (hm : pageMvb s (offset.toNat / 4096) (offset.toNat % 4096) = some (k, e)) : execBridgeHeldRead offset length s =
    .next (nextAccess (completeRead (bumpW s 0x4810 3 0 1) (untaggedRead s (offset.toNat / 4096) (offset.toNat % 4096) length)
      (accessBytes (mvbValue s (mvbSegOf s ((pageAt s.cfg (offset.toNat / 4096)).bus - 0x10)) e) (offset.toNat % 4096 % 32) length) 0)) := by
  unfold pageMvb at hm
  unfold execBridgeHeldRead
  dsimp only
  rw [if_neg (by simp [ho]), if_neg (by simp [hs]), if_neg (not_not_intro hc), if_pos hk, hm]
  rfl

variable (hk : (pageAt s.cfg (offset.toNat / 4096)).kind ≠ 2)
include hk

/-- A held read of a slot that the cache holds has its bytes at once, and is counted as one (R319). -/
theorem bridgeHeldRead_cached {c : Nat × Nat × Bytes} (hf : cachedSlot s (offset.toNat / 4096) (offset.toNat % 4096) = some c) :
    execBridgeHeldRead offset length s = .next (nextAccess (completeRead (bumpW (bumpW s 0x4810 3 0 1) 0x4810 5 0 1)
      (untaggedRead s (offset.toNat / 4096) (offset.toNat % 4096) length)
      (accessBytes c.2.2 (offset.toNat % 4096 % slotSize (pageAt s.cfg (offset.toNat / 4096)).kind) length) 0)) := by
  unfold cachedSlot at hf
  unfold execBridgeHeldRead
  dsimp only
  rw [if_neg (by simp [ho]), if_neg (by simp [hs]), if_neg (not_not_intro hc), if_neg hk, hf]
  rfl

/-- A held read of any other slot is accepted under a free tag, and the slots behind it are fetched too (R318, R319). -/
theorem bridgeHeldRead_far {tag : Nat} (hf : cachedSlot s (offset.toNat / 4096) (offset.toNat % 4096) = none) (ht : freeTag s = some tag) :
    execBridgeHeldRead offset length s = .next (prefetchAll
      (acceptTx (bumpW s 0x4810 3 0 1) tag (offset.toNat / 4096) (offset.toNat % 4096) length none .held) (offset.toNat / 4096) (offset.toNat % 4096)) := by
  unfold cachedSlot at hf
  unfold execBridgeHeldRead
  dsimp only
  rw [if_neg (by simp [ho]), if_neg (by simp [hs]), if_neg (not_not_intro hc), if_neg hk, hf, ht]

end

end

section
variable {data : Bytes}

theorem bridgePostedWrite_unserved (hs : bridgeServes s = false) : execBridgePostedWrite offset data s =
    .next (refuseAccess (bumpW s 0x4810 4 0 1) (offset.toNat / 4096) (offset.toNat % 4096) data.length 6).1 := by
  unfold execBridgePostedWrite
  dsimp only
  rw [if_neg (by simp [ho]), if_pos (by simp [hs])]

section
variable (hs : bridgeServes s = true)
include hs

theorem bridgePostedWrite_refused (hc : accessCheck s (offset.toNat / 4096) (offset.toNat % 4096) data.length true ≠ 0) :
    execBridgePostedWrite offset data s = .next (refuseAccess (bumpW s 0x4810 4 0 1) (offset.toNat / 4096) (offset.toNat % 4096) data.length
      (accessCheck s (offset.toNat / 4096) (offset.toNat % 4096) data.length true)).1 := by
  unfold execBridgePostedWrite
  dsimp only
  rw [if_neg (by simp [ho]), if_neg (by simp [hs]), if_pos hc]

variable (hc : accessCheck s (offset.toNat / 4096) (offset.toNat % 4096) data.length true = 0)
include hc

/-- A posted write to an MVB page goes into the value of its port (R317). -/
theorem bridgePostedWrite_mvb {k : Nat} {e : MvbEntry} (hk : (pageAt s.cfg (offset.toNat / 4096)).kind = 2)
    (hm : pageMvb s (offset.toNat / 4096) (offset.toNat % 4096) = some (k, e)) :
    let seg := mvbSegOf s ((pageAt s.cfg (offset.toNat / 4096)).bus - 0x10)
    execBridgePostedWrite offset data s =
      .next (nextAccess (mvbWrite (bumpW s 0x4810 4 0 1) seg e.addr (putAt (mvbValue s seg e) (offset.toNat % 4096 % 32) data) true)) := by
  unfold pageMvb at hm
  unfold execBridgePostedWrite
  dsimp only
  rw [if_neg (by simp [ho]), if_neg (by simp [hs]), if_neg (not_not_intro hc), if_pos hk, hm]
  rfl

/-- A posted write to a far page discards the kept slots that it touches and is accepted (R318, R319). -/
theorem bridgePostedWrite_far {tag : Nat} (hk : (pageAt s.cfg (offset.toNat / 4096)).kind ≠ 2) (ht : freeTag s = some tag) :
    execBridgePostedWrite offset data s = .next (acceptTx (dropWritten (bumpW s 0x4810 4 0 1) (offset.toNat / 4096) (offset.toNat % 4096) data.length)
      tag (offset.toNat / 4096) (offset.toNat % 4096) data.length (some data) .write) := by
  unfold execBridgePostedWrite
  dsimp only
  rw [if_neg (by simp [ho]), if_neg (by simp [hs]), if_neg (not_not_intro hc), if_neg hk, ht]

end

end

end

/-! ### The end of a transaction -/

/-- What a far result makes of a transaction whose request has been sent: its data, or a fault (R320, R321). -/
def farEnd (s : State) (x : BridgeTx) : FarResult → State
  | .data d => farValue s x d
  | .done => farValue s x []
  | .failed code => farFailure s x (farCause s x) code.toNat
  | .timeout => farFailure s x 1 0

section
variable {s : State} {tag : Fin 256} {x : BridgeTx} (hx : bridgeTx s tag.val = some x)
include hx

/-- A far completion ends the transaction under way as its result says. -/
theorem bridgeFarCompletion_sent (r : FarResult) (hq : x.state ≠ .queued) (hi : x.state ≠ .issued) :
    execBridgeFarCompletion tag r s = .next (farEnd s x r) := by
  unfold execBridgeFarCompletion farCompletion
  rw [hx]
  dsimp only
  rw [if_neg (not_or.2 ⟨hq, hi⟩)]
  rfl

/-- The bound of a read that has been sent: result 3, and the transaction is abandoned (R320). -/
theorem bridgeReadBoundExpiry_sent (hu : x.use_ = .held) (hs : x.state = .sent) : execBridgeReadBoundExpiry tag s =
    .next (setTx (completeRead (bump s 0x4810 6) x (allOnes x.length) 3) tag.val (fun y => { y with state := .abandoned s.now (!(inPause s)) })) := by
  unfold execBridgeReadBoundExpiry
  rw [hx]
  dsimp only
  rw [hu, hs]

/-- The bound of a read that has not been sent: result 2, and its request is withdrawn (R320). -/
theorem bridgeReadBoundExpiry_unsent (hu : x.use_ = .held) (hs : x.state = .queued ∨ x.state = .issued) : execBridgeReadBoundExpiry tag s =
    .next (endTx (withdrawRequest (completeRead (bump s 0x4810 6) x (allOnes x.length) 2) x) x) := by
  unfold execBridgeReadBoundExpiry
  rw [hx]
  dsimp only
  rcases hs with hs | hs <;> rw [hu, hs]

theorem bridgeAbandonedTimeout_fails {a : T32} {late : Bool} (hs : x.state = .abandoned a late) :
    execBridgeAbandonedTimeout tag s = .next (farFailure s x 1 0) := by
  unfold execBridgeAbandonedTimeout
  rw [hx]
  dsimp only
  rw [hs]

end

/-- Settles O29: an access is one branch by the state, the check, the page's kind and the cache; a transaction ends by its use and state. -/
theorem bridgeAccessesRunAndEnd : Obligations.BridgeAccessesRunAndEnd := by
  intro s offset length data tag ftag x a late code k e
  refine ⟨fun ho => ⟨fun hs => ⟨fun hc => ⟨?mvbRead, ?cachedRead, ?farRead⟩, ?refusedRead, fun hc => ⟨?mvbWrite, ?farWrite⟩, ?refusedWrite⟩,
    fun hs => ⟨bridgeHeldRead_unserved ho hs, bridgePostedWrite_unserved ho hs⟩⟩, fun hx hq hi => ?completion,
    fun hx hu => ⟨bridgeReadBoundExpiry_sent hx hu, bridgeReadBoundExpiry_unsent hx hu⟩, fun hx hs => bridgeAbandonedTimeout_fails hx hs⟩
  case mvbRead => exact bridgeHeldRead_mvb ho hs hc
  case cachedRead => exact fun c hk => bridgeHeldRead_cached ho hs hc hk
  case farRead => exact fun hk hf ht => bridgeHeldRead_far ho hs hc hk hf ht
  case refusedRead => exact fun hc => ⟨_, bridgeHeldRead_refused ho hs hc, rfl⟩
  case mvbWrite => exact bridgePostedWrite_mvb ho hs hc
  case farWrite => exact fun hk ht => bridgePostedWrite_far ho hs hc hk ht
  case refusedWrite => exact bridgePostedWrite_refused ho hs
  case completion =>
    have hend (r : FarResult) := bridgeFarCompletion_sent hx r hq hi
    exact ⟨hend (.data data), hend .done, hend (.failed code), hend .timeout⟩

end Sys2Proof.Machine
end

section
/-! PROOFS. The lock of the bridge, its status polls and its records (R321 to R326). -/

namespace Sys2Proof.Machine

/-! ### The lock -/

theorem lockRequest_release (s : State) : lockRequest s 0xFFFF = (releaseLock s, 0) := if_pos rfl

/-- A lock on a lockable page is granted at once where its target is idle, and else waits (R322). -/
theorem lockRequest_lockable {s : State} {page tag : Nat} (hp : page < 4096) (hb : s.on 0x4800 1 = true) (hv : (pageAt s.cfg page).valid = true)
    (hl : (pageAt s.cfg page).lockable = true) (hk : (pageAt s.cfg page).kind ≤ 1) (hn : s.br.lock = .none) (ht : freeTag s = some tag) :
    let target := targetOf (pageAt s.cfg page)
    lockRequest s page = (if targetBusy s target then { s with br := { s.br with lock := .waiting page target tag s.time.mono } }
      else grantLock s page target tag, 0) := by
  unfold lockRequest
  rw [if_neg (by omega), if_neg (by omega)]
  dsimp only
  rw [ht, hn]
  exact if_pos ⟨hb, hv, hl, hk, rfl⟩

/-- A waiting lock is granted when its target is idle, or 100 ms after the request (R322). -/
theorem bridgeLockGrant_granted {s : State} {page target tag since : Nat} (hw : s.br.lock = .waiting page target tag since)
    (h : targetBusy s target = false ∨ since + 100000000 ≤ s.time.mono) : execBridgeLockGrant s = .next (grantLock s page target tag) := by
  unfold execBridgeLockGrant
  rw [hw]
  exact if_pos (by simpa using h)

/-- The transactions accepted under the lock of a target whose requests have not been sent. -/
def unsentUnderLock (s : State) (target : Nat) : List BridgeTx :=
  s.br.txs.filter (fun x => x.locked && x.target == target && (x.state == .queued || x.state == .issued))

/-- A transaction under an expired lock ends as a fault of cause 5; a held read also completes, with result 1 (R322). -/
def failUnderLock (s : State) (x : BridgeTx) : State :=
  if x.use_ = .held then lateFault (completeRead (withdrawRequest s x) x (allOnes x.length) 1) x 5 0
  else lateFault (withdrawRequest s x) x 5 0

/-- A held lock that expires is released, what it kept from being sent fails, and the event tells how many (R322). -/
theorem bridgeLockExpiry_held {s : State} {page target tag : Nat} (hl : s.br.lock = .held page target tag) :
    let under := unsentUnderLock s target
    let released := releaseLock { s with br := { s.br with txs := s.br.txs.filter (fun x => !(under.contains x)) } }
    execBridgeLockExpiry s = .next (raise (bump (lockFault (under.foldl failUnderLock released) page tag) 0x4810 0x0B) 0x4803 3 0xFF
      (be 2 page ++ be 4 under.length)) := by
  intro under released
  have hstep : (fun (t : State) (x : BridgeTx) => match x.use_ with
      | .held => lateFault (completeRead (withdrawRequest t x) x (allOnes x.length) 1) x 5 0
      | _ => lateFault (withdrawRequest t x) x 5 0) = failUnderLock := by
    funext t x
    unfold failUnderLock
    cases x.use_ <;> rfl
  unfold execBridgeLockExpiry
  rw [hl, ← hstep]
  rfl

/-! ### BRIDGE_STATUS_POLL -/

/-- The entry of a status poll in the poll list (R323). -/
def pollEntry (s : State) (n : Nat) : Bytes := slice (cfgBytes s.cfg 0x4800 4) (16 * n) 16

/-- The last access of a status poll still runs. -/
def pollRuns (s : State) (n : Nat) : Bool := s.br.txs.any (fun x => match x.use_ with | .poll k => k == n | _ => false)

section
variable {s : State} {poll : Fin 32} (hr : (pollEntry s poll.val).length = 16) (hs : bridgeServes s = true) (hp : inPause s = false)
include hr hs hp

/-- A configured poll outside the pause goes on to its access. -/
theorem statusPoll_taken : ¬ ((pollEntry s poll.val).length < 16 ∨ !(bridgeServes s) ∨ inPause s) := by simp [hr, hs, hp]

theorem bridgeStatusPoll_running (h : pollRuns s poll.val = true) : execBridgeStatusPoll poll s = .next (bump s 0x4810 0x0A) :=
  (if_neg (statusPoll_taken hr hs hp)).trans (if_pos h)

variable (hn : pollRuns s poll.val = false)
  (hc : accessCheck s (beAt (pollEntry s poll.val) 0 2) (beAt (pollEntry s poll.val) 2 2) (byteAt (pollEntry s poll.val) 4) false = 0)
include hn hc

/-- A poll of a far page is accepted as that poll's transaction (R323). -/
theorem bridgeStatusPoll_far {tag : Nat} (hk : (pageAt s.cfg (beAt (pollEntry s poll.val) 0 2)).kind ≠ 2) (ht : freeTag s = some tag) :
    execBridgeStatusPoll poll s = .next (acceptTx s tag (beAt (pollEntry s poll.val) 0 2) (beAt (pollEntry s poll.val) 2 2)
      (byteAt (pollEntry s poll.val) 4) none (.poll poll.val)) := by
  refine (if_neg (statusPoll_taken hr hs hp)).trans ((if_neg (ne_true_of_eq_false hn)).trans ((if_neg (not_not_intro hc)).trans ((if_neg hk).trans ?_)))
  rw [ht]
  rfl

/-- A poll of an MVB page reads the value of its port at once (R323). -/
theorem bridgeStatusPoll_mvb {k : Nat} {e : MvbEntry} (hk : (pageAt s.cfg (beAt (pollEntry s poll.val) 0 2)).kind = 2)
    (hm : pageMvb s (beAt (pollEntry s poll.val) 0 2) (beAt (pollEntry s poll.val) 2 2) = some (k, e)) :
    execBridgeStatusPoll poll s = .next (pollRead s poll.val (beAt (pollEntry s poll.val) 0 2)
      (accessBytes (mvbValue s (mvbSegOf s ((pageAt s.cfg (beAt (pollEntry s poll.val) 0 2)).bus - 0x10)) e) (beAt (pollEntry s poll.val) 2 2 % 32)
        (byteAt (pollEntry s poll.val) 4))) := by
  unfold pageMvb pollEntry at hm
  refine (if_neg (statusPoll_taken hr hs hp)).trans ((if_neg (ne_true_of_eq_false hn)).trans ((if_neg (not_not_intro hc)).trans ((if_pos hk).trans ?_)))
  dsimp only at hm ⊢
  rw [hm]
  rfl

end

/-! ### The records -/

section
variable {s : State} {b : Bytes} {rest : List Bytes}

theorem takeLateFault_oldest (h : s.br.lateFaults = b :: rest) :
    takeLateFault s = ({ s with br := { s.br with lateFaults := rest, lateLost := false } }, flagRecord b s.br.lateLost) := by
  unfold takeLateFault
  rw [h]

theorem takeLateFault_none (h : s.br.lateFaults = []) : takeLateFault s = (s, zeros 32) := by
  unfold takeLateFault
  rw [h]

theorem takeStranded_oldest (h : s.br.stranded = b :: rest) :
    takeStranded s = ({ s with br := { s.br with stranded := rest, strandedLost := false } }, flagRecord b s.br.strandedLost) := by
  unfold takeStranded
  rw [h]

theorem takeStranded_none (h : s.br.stranded = []) : takeStranded s = (s, zeros 40) := by
  unfold takeStranded
  rw [h]

end

section
variable {s : State} {ses : SessionNo}

/-- LATE_FAULT_READ, carried out, is answered with what the queue gave. -/
theorem lateFaultRead_allowed (h : ReadAllowed s ses 0x4820 1) :
    execLateFaultRead ses s = .next (emit (takeLateFault s).1 (.answer (.session ses) 0 (takeLateFault s).2)) :=
  congrArg Host.Outcome.next (readCommand_allowed takeLateFault h)

/-- STRANDED_READ_READ, carried out, is answered with what the queue gave. -/
theorem strandedReadRead_allowed (h : ReadAllowed s ses 0x4830 1) :
    execStrandedReadRead ses s = .next (emit (takeStranded s).1 (.answer (.session ses) 0 (takeStranded s).2)) :=
  congrArg Host.Outcome.next (readCommand_allowed takeStranded h)

/-- BRIDGE_LOCK_REQUEST, carried out, is answered with the result of the request. -/
theorem bridgeLockRequest_allowed {page : BitVec 16} (h : WriteAllowed s ses 0x4801 1 (be 2 page.toNat)) : execBridgeLockRequest ses page s =
    .next (emit (lockRequest s page.toNat).1 (.answer (.session ses) (BitVec.ofNat 8 (lockRequest s page.toNat).2) [])) :=
  congrArg Host.Outcome.next (command_allowed (fun t => lockRequest t page.toNat) h)

/-- BRIDGE_LOCK_RELEASE, carried out, releases the lock and is answered 0. -/
theorem bridgeLockRelease_allowed (h : WriteAllowed s ses 0x4801 1 (be 2 0xFFFF)) :
    execBridgeLockRelease ses s = .next (emit (releaseLock s) (.answer (.session ses) 0 [])) :=
  congrArg Host.Outcome.next (command_allowed (fun t => lockRequest t 0xFFFF) h)

end

/-- Settles O30: each command is one branch where the lock, the poll or the queue stands as its clause says. -/
theorem bridgeLocksPollsAndFaults : Obligations.BridgeLocksPollsAndFaults := by
  intro s ses page pg tg tag since slot k poll p e b rest
  refine ⟨fun hw hp hb hv hl hk hn ht => ?lockRequest, bridgeLockRelease_allowed, bridgeLockGrant_granted, bridgeLockExpiry_held,
    fun hr hs hp => ⟨bridgeStatusPoll_running hr hs hp, fun hn hc => ⟨bridgeStatusPoll_far hr hs hp hn hc, bridgeStatusPoll_mvb hr hs hp hn hc⟩⟩,
    rfl, fun hr => ⟨fun h => ?lateFault, fun h => ?noLateFault⟩, fun hr => ⟨fun h => ?stranded, fun h => ?noStranded⟩⟩
  case lockRequest => exact (bridgeLockRequest_allowed hw).trans (by rw [lockRequest_lockable hp hb hv hl hk hn ht]; rfl)
  case lateFault => exact (lateFaultRead_allowed hr).trans (by rw [takeLateFault_oldest h])
  case noLateFault => exact (lateFaultRead_allowed hr).trans (by rw [takeLateFault_none h])
  case stranded => exact (strandedReadRead_allowed hr).trans (by rw [takeStranded_oldest h])
  case noStranded => exact (strandedReadRead_allowed hr).trans (by rw [takeStranded_none h])

end Sys2Proof.Machine
end

section
/-! PROOFS. Audio (R327 to R351): blocks, input streams, ambient gain, calls and players. -/

namespace Sys2Proof.Machine

/-! ### Blocks and streams -/

/-- A block is mixed while audio runs, and gives silence in the pause (R331, R347). -/
theorem audioBlock_runs {s : State} (tdmIn : List (BitVec 24)) (hr : audioRuns s = true) :
    execAudioBlock tdmIn s = .next (if inPause s then pauseBlock s else runBlock s tdmIn) := by
  unfold execAudioBlock
  rw [if_neg (by simp [hr])]
  exact (apply_ite Host.Outcome.next ..).symm

section
variable {s : State} {stream : Fin 32} {f : AudioFrame} (hr : audioRuns s = true) (he : s.on (0x4AC0 + stream.val) 1 = true)
  (hp : inPause s = false) (hm : streamMatches s stream.val f.key = true)
include hr he hp hm

/-- A frame of an enabled stream is judged by its presentation time: counted when late, else stored, and the stream is received (R336). -/
theorem inputStreamFrame_matched : execInputStreamFrame stream f s = .next (if isLate s.now f then bump s 0x4B20 4 else
    setStream s stream.val (fun x => { x with frames := x.frames ++ [withOutput s.now f], state := 2, lastAt := s.time.mono })) := by
  unfold execInputStreamFrame
  rw [if_neg (by simp [hr, he, hp, hm])]
  exact (apply_ite Host.Outcome.next ..).symm

theorem inputStreamFrame_inTime (hl : isLate s.now f = false) : execInputStreamFrame stream f s =
    .next (setStream s stream.val (fun x => { x with frames := x.frames ++ [withOutput s.now f], state := 2, lastAt := s.time.mono })) := by
  rw [inputStreamFrame_matched hr he hp hm, hl, if_neg Bool.false_ne_true]

theorem inputStreamFrame_late (hl : isLate s.now f = true) : execInputStreamFrame stream f s = .next (bump s 0x4B20 4) := by
  rw [inputStreamFrame_matched hr he hp hm, if_pos hl]

end

/-- A stream received that stays silent for 10 ms is lost (R336). -/
theorem streamLossTimeout_silent {s : State} {stream : Fin 32} (h2 : (audStream s stream.val).state = 2)
    (hl : (audStream s stream.val).lastAt + 10000000 ≤ s.time.mono) : execStreamLossTimeout stream s =
    .next (raise (bump (setStream s stream.val (fun x => { x with state := 3, frames := [] })) 0x4B20 0x0A) 0x4A02 2 0xFF (be 1 stream.val)) :=
  if_pos ⟨h2, hl⟩

/-! ### The ambient gain -/

/-- An output carries more than calls, so that its noise is not measured (R344). -/
def carriesMore (s : State) (o : Nat) : Bool := (contributions s o (outputPriority s o)).any (fun c => !c.2.2)

/-- The noise of an output after a window: as it was while the output carries more than calls, else measured anew (R344). -/
def measureNoise (s : State) (o : Nat) : State :=
  let r := drawNat s 47
  if carriesMore s o then s else { r.1 with aud := { r.1.aud with noise := r.1.aud.noise.setIfInBounds o (some (signed 2 (r.2 % 65536))) } }

/-- The ambient gain that the measured noise of an output calls for (R344). -/
def ambientTarget (s : State) (o : Nat) : Int :=
  match (s.aud.noise[o]?).getD none with
  | some n => max 0 (min 120 ((n - s.ival (0x4A80 + o) 7) * (s.val (0x4A80 + o) 8 : Int) / 10))
  | none => 0

/-- A gain after a step of at most the slew towards its target (R344). -/
def slewed (was target slew : Int) : Int := if was < target then min target (was + slew) else max target (was - slew)

/-- The ambient gain of an output takes its step (R344). -/
def moveAmbient (s : State) (o : Nat) : State :=
  let gain := slewed ((s.aud.ambient[o]?).getD 0) (ambientTarget s o) (s.val 0x4A00 7 : Int)
  { s with aud := { s.aud with ambient := s.aud.ambient.setIfInBounds o gain } }

theorem measureNoise_carriesMore {s : State} {o : Nat} (h : carriesMore s o = true) : measureNoise s o = s := if_pos h

theorem measureNoise_cfg (s : State) (o : Nat) : (measureNoise s o).cfg = s.cfg := by
  unfold measureNoise
  split <;> rfl

theorem measureNoise_ambient (s : State) (o : Nat) : (measureNoise s o).aud.ambient = s.aud.ambient := by
  unfold measureNoise
  split <;> rfl

theorem moveAmbient_gain (s : State) {o : Nat} (h : o < 64) :
    ((moveAmbient s o).aud.ambient[o]?).getD 0 = slewed ((s.aud.ambient[o]?).getD 0) (ambientTarget s o) (s.val 0x4A00 7 : Int) := by
  unfold moveAmbient
  rw [Vector.getElem?_setIfInBounds_self_of_lt h]
  rfl

section
variable {s : State} {output : Fin 64} (hr : audioRuns s = true) (hs : s.op.state ≠ .safe) (hp : inPause s = false)
include hr hs hp

/-- An output without an ambient microphone has no ambient gain and no noise (R344). -/
theorem ambientMeasureWindow_noMicrophone (hz : s.val (0x4A80 + output.val) 6 = 0) : execAmbientMeasureWindow output s = .next { s with aud := { s.aud with
    ambient := s.aud.ambient.setIfInBounds output.val 0, noise := s.aud.noise.setIfInBounds output.val none } } := by
  unfold execAmbientMeasureWindow
  dsimp only
  rw [if_neg (by simp [hr, hs, hp]), if_pos hz]

/-- With one the noise is measured and the gain moves (R344). -/
theorem ambientMeasureWindow_measures (hz : s.val (0x4A80 + output.val) 6 ≠ 0) :
    execAmbientMeasureWindow output s = .next (moveAmbient (measureNoise s output.val) output.val) := by
  unfold execAmbientMeasureWindow
  dsimp only
  rw [if_neg (by simp [hr, hs, hp]), if_neg hz]
  rfl

end

/-! ### Calls -/

section
variable {s : State} (hr : audioRuns s = true) (hp : inPause s = false) (hq : pairPassive s = false)
include hr hp hq

/-- A request reaches the Guard Processor while audio runs, outside the pause and the passive roles; it waits for one that is halted
(R345, R440). -/
theorem callCommand_reaches (r : CallRequest) : callCommand s r =
    if s.gp.halted then { s with aud := { s.aud with mailbox := s.aud.mailbox ++ [r] } } else callAct s r := by
  unfold callCommand
  rw [if_neg (by simp [hr, hp, hq])]

theorem callCommand_acts (r : CallRequest) (hh : s.gp.halted = false) : callCommand s r = callAct s r := by
  rw [callCommand_reaches hr hp hq, hh, if_neg Bool.false_ne_true]

theorem callCommand_waits (r : CallRequest) (hh : s.gp.halted = true) :
    callCommand s r = { s with aud := { s.aud with mailbox := s.aud.mailbox ++ [r] } } := by
  rw [callCommand_reaches hr hp hq, if_pos hh]

end

theorem callAct_new (s : State) {r : CallRequest} (h : r.kind = 1) : callAct s r = newCall s r := if_pos h

theorem callAct_answer (s : State) {r : CallRequest} (h : r.kind = 2) : callAct s r = answerCall s r.reference r.sender := by
  unfold callAct
  rw [if_neg (by simp [h]), if_pos h]

theorem callAct_end (s : State) {r : CallRequest} (h : r.kind = 3) : callAct s r = hangUp s r.reference := by
  unfold callAct
  rw [if_neg (by simp [h]), if_neg (by simp [h]), if_pos h]

section
variable {s : State} {ref : BitVec 16} {c : Call} (hd : decides s = true)
include hd

/-- An alerting call that is not answered in time ends with reason 2 (R346). -/
theorem alertingTimeout_ends (hc : s.aud.calls.find? (fun c => c.ref == ref && !c.connected) = some c) :
    execAlertingTimeout ref s = .next (endCall s c 2) := by
  unfold execAlertingTimeout
  rw [hc]
  exact if_pos hd

/-- A call below priority 7 that waits too long leaves the queue with reason 5 (R346). -/
theorem callQueueTimeout_leaves (hc : s.aud.callQueue.find? (fun c => c.ref == ref && decide (c.priority < 7)) = some c) :
    execCallQueueTimeout ref s = .next (tellPositions
      (tellCall { s with aud := { s.aud with callQueue := s.aud.callQueue.filter (fun x => x.ref != ref) } } c 3 5)) := by
  unfold execCallQueueTimeout
  rw [if_pos hd, hc]

end

/-! ### Players -/

/-- What a player runs: a clip and its position, or nothing. -/
def setPlayer (s : State) (p : Nat) (v : Option (Nat × Nat)) : State :=
  { s with aud := { s.aud with players := s.aud.players.setIfInBounds p v } }

/-- A player command that names a player and a clip number, or 0xFF, acts and has the result 0 (R338, R349). -/
theorem playerCommand_named (s : State) {p c : Nat} (hp : p < 8) (hc : c ≤ 63 ∨ c = 255) : playerCommand s (256 * p + c) = (startClip s p c, 0) := by
  have hdiv : (256 * p + c) / 256 = p := by omega
  have hmod : (256 * p + c) % 256 = c := by omega
  unfold playerCommand
  rw [hdiv, hmod, if_neg (by omega)]

theorem startClip_clip (s : State) (p : Nat) {c : Nat} (h : c ≤ 63) : startClip s p c =
    if (clipAt s c).2.1 = 0 then raise s 0x4A06 2 0xFF (be 1 p ++ be 1 c) else setPlayer s p (some (c, 0)) := by
  unfold startClip
  rw [if_neg (by omega)]
  exact ite_congr (propext (or_iff_right (by omega))) (fun _ => rfl) (fun _ => rfl)

section
variable {s : State} {ses : SessionNo} {player : Fin 8}

/-- PLAYER_START_CLIP, carried out, starts the clip and is answered 0. -/
theorem playerStartClip_allowed {clip : BitVec 8} (hc : clip.toNat ≤ 63) (h : WriteAllowed s ses 0x4B10 5 (be 2 (256 * player.val + clip.toNat))) :
    execPlayerStartClip ses player clip s = .next (emit (startClip s player.val clip.toNat) (.answer (.session ses) 0 [])) := by
  have ha := command_allowed (fun t => playerCommand t (256 * player.val + clip.toNat)) h
  rw [playerCommand_named s player.isLt (.inl hc)] at ha
  exact congrArg Host.Outcome.next ha

/-- PLAYER_STOP, carried out, stops the player and is answered 0. -/
theorem playerStop_allowed (h : WriteAllowed s ses 0x4B10 5 (be 2 (256 * player.val + 255))) :
    execPlayerStop ses player s = .next (emit (setPlayer s player.val none) (.answer (.session ses) 0 [])) := by
  have ha := command_allowed (fun t => playerCommand t (256 * player.val + 255)) h
  rw [playerCommand_named s player.isLt (.inr rfl)] at ha
  exact congrArg Host.Outcome.next ha

end

/-- Settles O31: each command is one branch while audio runs; the gain is what its one step towards the target makes of it. -/
theorem audioBlocksStreamsAndAmbient : Obligations.AudioBlocksStreamsAndAmbient := by
  refine ⟨fun s tdmIn stream f out_ => ⟨audioBlock_runs tdmIn,
      fun hr he hp hm => ⟨inputStreamFrame_inTime hr he hp hm, inputStreamFrame_late hr he hp hm⟩, streamLossTimeout_silent,
      fun hr hs hp => ⟨ambientMeasureWindow_noMicrophone hr hs hp, fun hz => ?ambient⟩⟩,
    fun s req ref sender ses player clip c => ⟨fun hr hp hq => ⟨fun hh => ?calls, fun hh => ?waits⟩, alertingTimeout_ends, callQueueTimeout_leaves,
      fun hc hw => ?player, playerStop_allowed⟩⟩
  case ambient =>
    refine ⟨_, ambientMeasureWindow_measures hr hs hp hz, fun hb => ?_, ?_⟩
    · rw [measureNoise_carriesMore hb]
      exact ⟨rfl, rfl⟩
    · have hgain := moveAmbient_gain (measureNoise s out_.val) out_.isLt
      unfold ambientTarget State.ival State.val at hgain
      rw [measureNoise_cfg, measureNoise_ambient] at hgain
      exact hgain
  case calls =>
    have hact {r : CallRequest} {t : State} (h : callAct s r = t) := (callCommand_acts hr hp hq r hh).trans h
    exact ⟨fun h => congrArg Host.Outcome.next (hact (callAct_new s h)), fun h => congrArg Host.Outcome.next (hact (callAct_answer s h)),
      fun h => congrArg Host.Outcome.next (hact (callAct_end s h)), congrArg Host.Outcome.next (hact (callAct_answer s rfl)),
      congrArg Host.Outcome.next (hact (callAct_end s rfl))⟩
  case waits => exact congrArg Host.Outcome.next (callCommand_waits hr hp hq req hh)
  case player => exact (playerStartClip_allowed hc hw).trans (by rw [startClip_clip s player.val hc]; rfl)

end Sys2Proof.Machine
end

section
/-! PROOFS. Measurement, the housekeeping sequence, the energy budget and the charge (R367 to R375). -/

namespace Sys2Proof.Machine

section
variable {s : State}

/-! ### The sequences of the ADC -/

/-- The raw codes of a sequence's channels, in the order of their conversion (R369, R370). -/
def convertedCodes (s : State) (n : Nat) (codes : List (BitVec 16)) : List (Nat × Int) :=
  ((sequenceCodes s n).zip codes).map (fun e => (e.1, rawCode e.1 e.2))

/-- The converting sequence leaves the list and the next one starts now (R370). -/
def dropFirstSequence (s : State) (rest : List (Nat × T32)) : State :=
  { s with pow := { s.pow with sequences := rest.map (fun e => (e.1, if rest.head? = some e then s.now else e.2)) } }

/-- The results and the start of a configured sequence, as its object shows them (R370). -/
def showSequence (s : State) (n : Nat) (pairs : List (Nat × Int)) (start : T32) : State :=
  putStore (putStore s (0x4CA0 + n) 3 0 (padTo 16 (pairs.flatMap (fun e => beInt 2 e.2)))) (0x4CA0 + n) 4 0 (be 4 start.toNat)

/-- Each channel of a sequence is converted in turn (R369). -/
def convertAll (s : State) (pairs : List (Nat × Int)) : State := pairs.foldl (fun t e => convert t e.1 e.2) s

/-- The first sequence of the list ends: only a configured one shows its results, and every one converts its codes (R370). -/
theorem adcSequenceComplete_first (codes : List (BitVec 16)) {n : Nat} {start : T32} {rest : List (Nat × T32)} (h : s.pow.sequences = (n, start) :: rest) :
    execAdcSequenceComplete codes s = .next (convertAll
      (if n < 4 then showSequence (dropFirstSequence s rest) n (convertedCodes s n codes) start else dropFirstSequence s rest) (convertedCodes s n codes)) := by
  unfold execAdcSequenceComplete
  rw [h]
  rfl

/-- A sequence that is not under way joins the list with the time of its request (R370). -/
theorem startSequence_fresh {n : Nat} (h : s.pow.sequences.any (fun e => e.1 == n) = false) :
    startSequence s n = ({ s with pow := { s.pow with sequences := s.pow.sequences ++ [(n, s.now)] } }, true) :=
  if_neg (ne_true_of_eq_false h)

/-- The states in which housekeeping starts its own sequence: awake, not in Normal, in Start from 100 ms on (R371). -/
def HousekeepingRuns (s : State) : Prop :=
  s.op.state = .commissioning ∨ s.op.state = .test ∨ s.op.state = .safe ∨ s.op.state = .recovery ∨
    (s.op.state = .start ∧ s.op.startedAt + 100000000 ≤ s.time.mono)

theorem housekeepingSequence_runs (h : HousekeepingRuns s) : execHousekeepingSequence s = .next (startSequence s 4).1 := by
  unfold execHousekeepingSequence
  obtain h | h | h | h | ⟨h, hlate⟩ := h
  case inr.inr.inr.inr =>
    rw [h]
    exact if_pos hlate
  all_goals rw [h]

/-! ### The energy budget -/

section
variable (hn : s.op.state = .normal) (hb : batteryOn s = true) (hg : gpWorks s = true)
include hn hb hg

theorem energyBudgetEvaluation_normal : execEnergyBudgetEvaluation s = .next (emcyCleared s (evaluateBudget s)) :=
  if_pos ⟨hn, hb, hg⟩

/-- The lowest enabled stage that is not engaged engages at a low voltage (R374). -/
theorem lowVoltageTimer_engages {k : Nat} (hv : voltageLow s = true)
    (hk : [1, 2, 3, 4, 5].find? (fun k => stageEnabled s k && !(stageOn s k)) = some k) : execLowVoltageTimer s = .next (engage s k true) := by
  refine (if_pos ⟨hn, hb, hv, hg⟩).trans ?_
  rw [hk]

end

/-! ### The charge -/

/-- The charge set to a value that is taken as certain: confidence 2 (R373). -/
def setChargeTo (s : State) (q : Int) : State := { s with pow := { s.pow with charge := q, confidence := 2 } }

/-- At the full voltage and no more than the tail current the charge is the capacity, and event 4D04h tells it (R373). -/
theorem chargeRecalibration_full {mv : Nat} (hb : batteryOn s = true) (hm : mpRuns s = true) (hv : s.pow.voltage = some mv) (hfull : s.val 0x4D00 7 ≤ mv)
    (htail : -s.pow.current ≤ (s.val 0x4D00 8 : Int)) :
    execChargeRecalibration s = .next (raise (bump (setChargeTo s (capacity s)) 0x4D60 6) 0x4D04 1 0xFF
      (beInt 4 (chargeMah (setChargeTo s (capacity s))))) := by
  unfold execChargeRecalibration
  rw [hv]
  exact if_pos ⟨hb, by simp [hfull, htail], hm⟩

/-- SET_CHARGE, carried out, sets the charge in mAh and is answered 0 (R373). -/
theorem setCharge_allowed {ses : SessionNo} {v : Bytes} (h : WriteAllowed s ses 0x4D00 0x0B v) :
    execSetCharge ses v s = .next (emit (setChargeTo s (signed 4 (beNat v) * mAhUnits)) (.answer (.session ses) 0 [])) :=
  congrArg Host.Outcome.next (command_allowed (fun t => setChargeWrite t v) h)

end

/-- Settles O33: each command is one branch of its meaning under the clause's conditions; a sequence's end differs only in whether its results are shown. -/
theorem powerIsMeasuredAndBudgeted : Obligations.PowerIsMeasuredAndBudgeted := by
  intro s codes ses v n k mv start rest
  refine ⟨fun hseq => ⟨fun hn => ?housekeepingEnds, fun hn => ?configuredEnds⟩, fun hruns hfresh => ?housekeepingStarts,
    fun hn hb hg => ⟨energyBudgetEvaluation_normal hn hb hg, lowVoltageTimer_engages hn hb hg⟩, chargeRecalibration_full, setCharge_allowed⟩
  case housekeepingEnds => exact (adcSequenceComplete_first codes hseq).trans (by rw [if_neg (Nat.not_lt.mpr hn)]; rfl)
  case configuredEnds => exact (adcSequenceComplete_first codes hseq).trans (by rw [if_pos hn]; rfl)
  case housekeepingStarts => exact (housekeepingSequence_runs hruns).trans (by rw [startSequence_fresh hfresh])

end Sys2Proof.Machine
end

section
/-! PROOFS. What almost every operation leaves alone of the device's state and of its sleep: no event, frame, buffer, bus, clock or pin reaches the
operating block (R33) or the sleep block (R385 to R408). -/

namespace Sys2Proof.Machine

/-- The operating block and the sleep block. -/
def opSlp (s : State) : OpBlock × SleepBlock := (s.op, s.slp)

@[simp] theorem opSlp_mk (op cfg cnt store sessions cs ev time can serial mvb jour wear fab look zone gw br aud pos pow slp gp pair dram pool cvu upd
    host spi pins tap out drawn pending) :
    opSlp (State.mk op cfg cnt store sessions cs ev time can serial mvb jour wear fab look zone gw br aud pos pow slp gp pair dram pool cvu upd
      host spi pins tap out drawn pending) = (op, slp) := id rfl

@[simp] theorem opSlp_eta (s : State) : (s.op, s.slp) = opSlp s := rfl

@[simp] theorem opSlp_ite (c : Prop) [Decidable c] (a b : State) : opSlp (if c then a else b) = if c then opSlp a else opSlp b := apply_ite ..

@[simp] theorem opSlp_ite_fst {α : Type} (c : Prop) [Decidable c] (a b : State × α) :
    opSlp (if c then a else b).1 = if c then opSlp a.1 else opSlp b.1 := by
  split <;> rfl

@[simp] theorem opSlp_foldl {α : Type} (f : State → α → State) (h : ∀ t x, opSlp (f t x) = opSlp t) (l : List α) (s : State) :
    opSlp (l.foldl f s) = opSlp s :=
  reading_foldl opSlp h l s

@[simp] theorem opSlp_foldl_pair {α β : Type} (f : State × β → α → State × β) (h : ∀ p x, opSlp (f p x).1 = opSlp p.1)
    (l : List α) (p : State × β) :
    opSlp (l.foldl f p).1 = opSlp p.1 := by
  induction l generalizing p with
  | nil => rfl
  | cons x r ih => exact (ih _).trans (h p x)

theorem opSlp_offEvents : OffEvents opSlp := fun _ _ _ _ _ _ _ _ => rfl

theorem opSlp_offCells : OffCells opSlp := fun _ _ _ => rfl

/-! ### Events, counters, journal records and answers -/

@[simp] theorem jAppend_opSlp (s : State) (body : JBody) (dest : ReplyTo) : opSlp (jAppend s body dest) = opSlp s := opSlp_offEvents.jAppend ..

@[simp] theorem rawBump_opSlp (s : State) (idx sub sel : Nat) : opSlp (rawBump s idx sub sel) = opSlp s := opSlp_offEvents.rawBump ..

@[simp] theorem tally_opSlp (s : State) (idx sub sel : Nat) : opSlp (tally s idx sub sel) = opSlp s := opSlp_offEvents.tally ..

@[simp] theorem bumpW_opSlp (s : State) (idx sub sel n : Nat) : opSlp (bumpW s idx sub sel n) = opSlp s := by simp [bumpW]

@[simp] theorem wideN_opSlp (s : State) (base n sub amount : Nat) : opSlp (wideN s base n sub amount) = opSlp s := by simp [wideN]

@[simp] theorem canMgmtSend_opSlp (s : State) (cn : Nat) (f : CanFrame) : opSlp (canMgmtSend s cn f) = opSlp s := opSlp_offEvents.canMgmtSend ..

@[simp] theorem emcyAll_opSlp (s : State) (data : Bytes) : opSlp (emcyAll s data) = opSlp s := opSlp_offEvents.emcyAll ..

@[simp] theorem noteLimit_opSlp (s : State) (key : Nat) : opSlp (noteLimit s key) = opSlp s := opSlp_offEvents.noteLimit ..

@[simp] theorem hostEdges_opSlp (s : State) : opSlp (hostEdges s) = opSlp s := opSlp_offEvents.hostEdges ..

@[simp] theorem raise_opSlp (s : State) (code sev src : Nat) (data : Bytes) : opSlp (raise s code sev src data) = opSlp s := opSlp_offEvents.raise ..

@[simp] theorem settle_opSlp (before s : State) : opSlp (settle before s) = opSlp s := opSlp_offEvents.settle ..

@[simp] theorem emcyCleared_opSlp (before s : State) : opSlp (emcyCleared before s) = opSlp s := opSlp_offEvents.emcyCleared ..

@[simp] theorem emit_opSlp (s : State) (o : Out) : opSlp (emit s o) = opSlp s := opSlp_offEvents.emit ..

@[simp] theorem bumpAt_opSlp (s : State) (idx sub sel shown : Nat) : opSlp (bumpAt s idx sub sel shown) = opSlp s := by simp [bumpAt]

@[simp] theorem bump_opSlp (s : State) (idx sub : Nat) : opSlp (bump s idx sub) = opSlp s := bumpAt_opSlp ..

@[simp] theorem bumpN_opSlp (s : State) (base n sub : Nat) : opSlp (bumpN s base n sub) = opSlp s := bumpAt_opSlp ..

@[simp] theorem bumpPair_opSlp (s : State) (p sub : Nat) : opSlp (bumpPair s p sub) = opSlp s := by simp [bumpPair]

@[simp] theorem widePair_opSlp (s : State) (p sub n : Nat) : opSlp (widePair s p sub n) = opSlp s := by simp [widePair]

@[simp] theorem bumpBy_opSlp (s : State) (idx sub sel shown n : Nat) : opSlp (bumpBy s idx sub sel shown n) = opSlp s := by simp [bumpBy]

@[simp] theorem raiseLimited_opSlp (s : State) (sel period code sev src : Nat) (data : Bytes) :
    opSlp (raiseLimited s sel period code sev src data) = opSlp s := by
  simp [raiseLimited]

@[simp] theorem hostSignal_opSlp (s : State) (bit : Nat) : opSlp (hostSignal s bit) = opSlp s := by simp [hostSignal]

@[simp] theorem canMgmt_opSlp (s : State) (cn : Nat) (f : CanFrame) : opSlp (canMgmt s cn f) = opSlp s := by simp [canMgmt]

@[simp] theorem sdoSend_opSlp (s : State) (cn : Nat) (data : Bytes) : opSlp (sdoSend s cn data) = opSlp s := by simp [sdoSend]

@[simp] theorem sdoPump_opSlp (s : State) (cn fuel : Nat) : opSlp (sdoPump s cn fuel) = opSlp s := by
  induction fuel generalizing s with
  | zero => rfl
  | succ n ih =>
    unfold sdoPump
    repeat' split
    all_goals simp [ih]

@[simp] theorem sdoFrame_opSlp (s : State) (cn : Nat) (data : Bytes) : opSlp (sdoFrame s cn data) = opSlp s := by simp [sdoFrame]

@[simp] theorem setSdo_opSlp (s : State) (cn : Nat) (x : SdoTransfer) : opSlp (setSdo s cn x) = opSlp s := by simp [setSdo]

@[simp] theorem sdoAbort_opSlp (s : State) (cn idx sub code : Nat) : opSlp (sdoAbort s cn idx sub code) = opSlp s := by simp [sdoAbort]

@[simp] theorem sdoReply_opSlp (s : State) (cn idx sub code : Nat) : opSlp (sdoReply s cn idx sub code) = opSlp s := by
  unfold sdoReply
  repeat' split
  all_goals simp

@[simp] theorem reply_opSlp (s : State) (dest : ReplyTo) (code : Byte) (data : Bytes) : opSlp (reply s dest code data) = opSlp s := by
  unfold reply
  repeat' split
  all_goals simp

@[simp] theorem forgetReplies_opSlp (s : State) (gone : ReplyTo → Bool) : opSlp (forgetReplies s gone) = opSlp s := by simp [forgetReplies]

@[simp] theorem dropReplies_opSlp (s : State) : opSlp (dropReplies s) = opSlp s := by simp [dropReplies]

@[simp] theorem drawNat_opSlp (s : State) (kind : Nat) : opSlp (drawNat s kind).1 = opSlp s := by simp [drawNat]

/-! ### Change sets -/

@[simp] theorem abandonValidation_opSlp (s : State) : opSlp (abandonValidation s) = opSlp s := by
  unfold abandonValidation
  repeat' split
  all_goals simp

@[simp] theorem discardPending_opSlp (s : State) (cause : Nat) : opSlp (discardPending s cause) = opSlp s := by
  unfold discardPending
  repeat' split
  all_goals simp

@[simp] theorem cancelArmed_opSlp (s : State) (cause : Nat) : opSlp (cancelArmed s cause) = opSlp s := by
  unfold cancelArmed
  repeat' split
  all_goals simp

@[simp] theorem cancelSets_opSlp (s : State) (cause : Nat) : opSlp (cancelSets s cause) = opSlp s := by simp [cancelSets]

/-! ### Pool Manager buffers -/

@[simp] theorem setClass_opSlp (s : State) (c : Nat) (x : PoolClass) : opSlp (setClass s c x) = opSlp s := by simp [setClass]

@[simp] theorem grantFrom_opSlp (s : State) (o c : Nat) : opSlp (grantFrom s o c).1 = opSlp s := by simp [grantFrom]

@[simp] theorem poolFail_opSlp (s : State) (o c cause : Nat) : opSlp (poolFail s o c cause) = opSlp s := by simp [poolFail]

@[simp] theorem poolTry_opSlp (s : State) (o c : Nat) (climb : Bool) (fuel : Nat) : opSlp (poolTry s o c climb fuel).1 = opSlp s := by
  induction fuel generalizing s c with
  | zero => rfl
  | succ n ih =>
    unfold poolTry
    repeat' split
    all_goals simp [ih]

@[simp] theorem poolRequestOne_opSlp (s : State) (o size : Nat) (climb : Bool) : opSlp (poolRequestOne s o size climb).1 = opSlp s := by
  simp [poolRequestOne]

@[simp] theorem misuse_opSlp (s : State) (kind who : Nat) (owner state : Nat) (h : BitVec 32) :
    opSlp (misuse s kind who owner state h) = opSlp s := by
  simp [misuse]

@[simp] theorem rejectHandle_opSlp (s : State) (who : Nat) (h : BitVec 32) (kind ctr : Nat) : opSlp (rejectHandle s who h kind ctr) = opSlp s := by
  simp [rejectHandle]

@[simp] theorem touchPage_opSlp (s : State) (page : Nat) : opSlp (touchPage s page) = opSlp s := by simp [touchPage]

@[simp] theorem marginEvents_opSlp (s : State) (cls : Nat) (wornAtZero : Bool) : opSlp (marginEvents s cls wornAtZero) = opSlp s := by
  simp [marginEvents]

@[simp] theorem remapPage_opSlp (s : State) (page spare : Nat) (rest : List Nat) (uncorr : Bool) :
    opSlp (remapPage s page spare rest uncorr) = opSlp s := by
  simp [remapPage]

@[simp] theorem cutMinima_opSlp (s : State) (c : Nat) : opSlp (cutMinima s c) = opSlp s := by
  refine opSlp_foldl _ (fun t o => ?_) _ s
  dsimp only
  repeat' split
  all_goals simp

@[simp] theorem bufferGone_opSlp (s : State) (c i : Nat) : opSlp (bufferGone s c i) = opSlp s := by simp [bufferGone]

@[simp] theorem retireWaiting_opSlp (s : State) : opSlp (retireWaiting s) = opSlp s := by
  refine opSlp_foldl _ (fun t e => ?_) _ s
  repeat' split
  all_goals simp

@[simp] theorem withdrawFrom_opSlp (s : State) (c : Nat) : opSlp (withdrawFrom s c) = opSlp s := by
  unfold withdrawFrom
  dsimp only
  repeat' split
  all_goals simp

@[simp] theorem withdrawLargest_opSlp (s : State) (fuel : Nat) : opSlp (withdrawLargest s fuel) = opSlp s := by
  induction fuel generalizing s with
  | zero => rfl
  | succ n ih =>
    unfold withdrawLargest
    split
    · rfl
    · split <;> simp [ih]

@[simp] theorem returnBuffer_opSlp (s : State) (c i : Nat) (t : PoolTag) : opSlp (returnBuffer s c i t) = opSlp s := by simp [returnBuffer]

@[simp] theorem poolFreeOp_opSlp (s : State) (who : Nat) (h : BitVec 32) : opSlp (poolFreeOp s who h) = opSlp s := by
  unfold poolFreeOp
  repeat' split
  all_goals simp

/-! ### Lookup and the Zone Gate -/

@[simp] theorem setGate_opSlp (s : State) (g : Nat) (x : StreamGate) : opSlp (setGate s g x) = opSlp s := by simp [setGate]

@[simp] theorem closeGate_opSlp (s : State) (g cause : Nat) : opSlp (closeGate s g cause) = opSlp s := by simp [closeGate]

@[simp] theorem countOversize_opSlp (s : State) (p h : Nat) (stream : Bool) : opSlp (countOversize s p h stream) = opSlp s := by simp [countOversize]

@[simp] theorem trapRefill_opSlp (s : State) (b : Nat) : opSlp (trapRefill s b) = opSlp s := by simp [trapRefill]

@[simp] theorem setMeter_opSlp (s : State) (m : Nat) (x : Meter) : opSlp (setMeter s m x) = opSlp s := by simp [setMeter]

@[simp] theorem meterCharge_opSlp (s : State) (m : Nat) (green : Bool) (len : Nat) : opSlp (meterCharge s m green len) = opSlp s := by
  simp [meterCharge]

@[simp] theorem chargeEnd_opSlp (s : State) (f : Frame) : opSlp (chargeEnd s f) = opSlp s := by
  unfold chargeEnd
  repeat' split
  all_goals simp

@[simp] theorem laneRest_opSlp (s : State) (f : Frame) : opSlp (laneRest s f) = opSlp s := by simp [laneRest]

@[simp] theorem setFwd_opSlp (s : State) (t : Tbl FwdEntry) : opSlp (setFwd s t) = opSlp s := by simp [setFwd]

@[simp] theorem learn_opSlp (s : State) (port fid mac : Nat) : opSlp (learn s port fid mac) = opSlp s := by
  unfold learn
  repeat' split
  all_goals simp

@[simp] theorem learnFrame_opSlp (s : State) (f : Frame) (x : Parsed) : opSlp (learnFrame s f x) = opSlp s := by simp [learnFrame]

@[simp] theorem setRecovery_opSlp (s : State) (f : Nat) (x : Recovery) : opSlp (setRecovery s f x) = opSlp s := by simp [setRecovery]

@[simp] theorem recoveryDecide_opSlp (s : State) (f port : Nat) (seq : Option Nat) : opSlp (recoveryDecide s f port seq).1 = opSlp s := by
  unfold recoveryDecide
  repeat' split
  all_goals simp

@[simp] theorem prpReceive_opSlp (s : State) (f : Frame) (x : Parsed) : opSlp (prpReceive s f x).1 = opSlp s := by
  unfold prpReceive
  repeat' split
  all_goals simp

@[simp] theorem setFlow_opSlp (s : State) (pos : Nat) (w : Flow) : opSlp (setFlow s pos w) = opSlp s := by simp [setFlow]

@[simp] theorem removeFlow_opSlp (s : State) (pos : Nat) : opSlp (removeFlow s pos) = opSlp s := by simp [removeFlow]

@[simp] theorem logSecondEnd_opSlp (s : State) : opSlp (logSecondEnd s) = opSlp s := by simp [logSecondEnd]

@[simp] theorem zoneLog_opSlp (s : State) (typ reason : Nat) (k : FlowKey) (lane : Nat) (oneWay : Bool) (ingress ruleId frames : Nat) :
    opSlp (zoneLog s typ reason k lane oneWay ingress ruleId frames) = opSlp s := by
  simp [zoneLog]

@[simp] theorem logFlow_opSlp (s : State) (typ reason : Nat) (w : Flow) (ingress : Nat) : opSlp (logFlow s typ reason w ingress) = opSlp s := by
  simp [logFlow]

@[simp] theorem logCrossing_opSlp (s : State) (typ reason : Nat) (k : FlowKey) (lane ingress ruleId : Nat) :
    opSlp (logCrossing s typ reason k lane ingress ruleId) = opSlp s := by
  simp [logCrossing]

@[simp] theorem queueRefusal_opSlp (s : State) (k : FlowKey) (lane ingress : Nat) : opSlp (queueRefusal s k lane ingress) = opSlp s := by
  simp [queueRefusal]

@[simp] theorem flowRefusal_opSlp (s : State) (k : FlowKey) (lane ingress : Nat) : opSlp (flowRefusal s k lane ingress) = opSlp s := by
  simp [flowRefusal]

@[simp] theorem flowSegment_opSlp (s : State) (x : Parsed) (hit : Nat × Bool) : opSlp (flowSegment s x hit) = opSlp s := by
  unfold flowSegment
  repeat' split
  all_goals simp

@[simp] theorem freeFirst_opSlp (s : State) (p : FirstFrame) : opSlp (freeFirst s p) = opSlp s := by simp [freeFirst]

@[simp] theorem enqueueFirst_opSlp (s0 : State) (f : Frame) (x : Parsed) (zd : Nat) (ports : List Nat) :
    opSlp (enqueueFirst s0 f x zd ports) = opSlp s0 := by
  unfold enqueueFirst
  extract_lets k0 hit k canon lane p closing s recheck g _vd same _gs _gz
  have hs : opSlp s = opSlp s0 := by
    clear_value closing hit
    dsimp only [s]
    repeat' split
    all_goals simp
  have hg : opSlp g.1 = opSlp s0 := (poolRequestOne_opSlp ..).trans hs
  clear_value s g
  split
  · simpa using hg
  · extract_lets pk refuse join e s1
    have hr : ∀ t, opSlp (refuse t) = opSlp t := fun t => freeFirst_opSlp ..
    have h1 : opSlp s1 = opSlp s0 := hg
    clear_value refuse join s1
    split
    · split
      · exact hg
      · simpa [hr] using hg
    · repeat' split
      all_goals simp [hr, hg, h1]

@[simp] theorem afterEnd_opSlp (s : State) (f : Frame) (x : Parsed) : opSlp (afterEnd s f x) = opSlp s :=
  (opSlp_foldl _ (fun t _ => enqueueFirst_opSlp t _ _ _ _) _ _).trans (opSlp_foldl _ (fun t _ => flowSegment_opSlp t _ _) _ _)

@[simp] theorem discardQueue_opSlp (s : State) : opSlp (discardQueue s) = opSlp s := by simp [discardQueue]

@[simp] theorem clearZone_opSlp (s : State) : opSlp (clearZone s) = opSlp s := by simp [clearZone]

/-! ### Frames in the fabric, queues and links -/

@[simp] theorem setLink_opSlp (s : State) (p : Nat) (f : PortLink → PortLink) : opSlp (setLink s p f) = opSlp s := by simp [setLink]

@[simp] theorem linkChanged_opSlp (s : State) (p : Nat) (state rate : BitVec 8) : opSlp (linkChanged s p state rate) = opSlp s := by
  simp [linkChanged]

@[simp] theorem setStaged_opSlp (s : State) (p : Nat) (x : Option Staged) : opSlp (setStaged s p x) = opSlp s := by simp [setStaged]

@[simp] theorem endReception_opSlp (s : State) (p id : Nat) : opSlp (endReception s p id) = opSlp s := by simp [endReception]

@[simp] theorem setFrame_opSlp (s : State) (f : Frame) : opSlp (setFrame s f) = opSlp s := rfl

@[simp] theorem setColumn_opSlp (s : State) (j : Nat) (c : Column) : opSlp (setColumn s j c) = opSlp s := rfl

@[simp] theorem returnCells_opSlp (s : State) (i : Nat) (x : Holding) (keep : Nat) : opSlp (returnCells s i x keep).1 = opSlp s :=
  opSlp_offCells.returnCells ..

@[simp] theorem dropIfDone_opSlp (s : State) (id : Nat) : opSlp (dropIfDone s id) = opSlp s := opSlp_offCells.dropIfDone ..

@[simp] theorem doneDest_opSlp (s : State) (id port : Nat) (mirror : Option Nat) : opSlp (doneDest s id port mirror) = opSlp s :=
  opSlp_offCells.doneDest ..

@[simp] theorem correctCharge_opSlp (s : State) (id len : Nat) : opSlp (correctCharge s id len) = opSlp s := by
  unfold correctCharge
  repeat' split
  all_goals simp

@[simp] theorem setEgress_opSlp (s : State) (p : Nat) (f : PortEgress → PortEgress) : opSlp (setEgress s p f) = opSlp s := by simp [setEgress]

@[simp] theorem creditsNow_opSlp (s : State) (port : Nat) : opSlp (creditsNow s port) = opSlp s := by simp [creditsNow]

@[simp] theorem setQueue_opSlp (s : State) (q : Nat) (l : List Copy) : opSlp (setQueue s q l) = opSlp s := by simp [setQueue]

@[simp] theorem unqueue_opSlp (s : State) (id port : Nat) (mirror : Option Nat) : opSlp (unqueue s id port mirror) = opSlp s := by
  unfold unqueue
  dsimp only
  repeat' split
  all_goals simp

@[simp] theorem dropCopy_opSlp (s : State) (id port : Nat) (mirror : Option Nat) : opSlp (dropCopy s id port mirror) = opSlp s := by simp [dropCopy]

@[simp] theorem discardCopy_opSlp (s : State) (id port : Nat) (mirror : Option Nat) : opSlp (discardCopy s id port mirror) = opSlp s := by
  simp [discardCopy]

@[simp] theorem failCopy_opSlp (s : State) (id port : Nat) (mirror : Option Nat) : opSlp (failCopy s id port mirror) = opSlp s := by simp [failCopy]

@[simp] theorem markBad_opSlp (s : State) (id : Nat) : opSlp (markBad s id) = opSlp s := by
  unfold markBad
  repeat' split
  all_goals simp

@[simp] theorem dropCopies_opSlp (s : State) (id : Nat) : opSlp (dropCopies s id) = opSlp s := by
  unfold dropCopies
  repeat' split
  all_goals simp

@[simp] theorem discardHost_opSlp (s : State) : opSlp (discardHost s) = opSlp s := by simp [discardHost]

@[simp] theorem queueHeld_opSlp (s : State) (id : Nat) : opSlp (queueHeld s id) = opSlp s := by
  unfold queueHeld
  repeat' split
  all_goals simp

@[simp] theorem goodEnd_opSlp (s : State) (f : Frame) (x : Parsed) : opSlp (goodEnd s f x) = opSlp s := by
  unfold goodEnd
  dsimp only
  repeat' split
  all_goals simp

@[simp] theorem finishFrame_opSlp (s : State) (id : Nat) (e : FrameEnd) : opSlp (finishFrame s id e) = opSlp s := by
  unfold finishFrame
  dsimp only
  repeat' split
  all_goals simp

@[simp] theorem cutReception_opSlp (s : State) (p : Nat) : opSlp (cutReception s p) = opSlp s := by
  unfold cutReception
  dsimp only
  refine (opSlp_foldl _ (fun t id => finishFrame_opSlp t id _) _ _).trans ?_
  repeat' split
  all_goals simp

@[simp] theorem setLag_opSlp (s : State) (g : Nat) (t : Bytes) : opSlp (setLag s g t) = opSlp s := by simp [setLag]

@[simp] theorem lagChange_opSlp (s : State) (p : Nat) (up : Bool) : opSlp (lagChange s p up) = opSlp s := by
  unfold lagChange
  repeat' split
  all_goals simp

@[simp] theorem discardQueues_opSlp (s : State) (port : Nat) : opSlp (discardQueues s port) = opSlp s := by simp [discardQueues]

@[simp] theorem setPreemption_opSlp (s : State) (p : Nat) (status : BitVec 8) (attempts : Nat) :
    opSlp (setPreemption s p status attempts) = opSlp s := by
  simp [setPreemption]

@[simp] theorem dropLink_opSlp (s : State) (p : Nat) : opSlp (dropLink s p) = opSlp s := by simp [dropLink]

@[simp] theorem settleLink_opSlp (s : State) (p : Nat) : opSlp (settleLink s p) = opSlp s := by simp [settleLink]

@[simp] theorem segUnlink_opSlp (s : State) (p : Nat) : opSlp (segUnlink s p) = opSlp s := by simp [segUnlink]

@[simp] theorem restLinks_opSlp (s : State) : opSlp (restLinks s) = opSlp s := by simp [restLinks]

@[simp] theorem portsOff_opSlp (s : State) (keep : Nat) : opSlp (portsOff s keep) = opSlp s := by simp [portsOff]

@[simp] theorem portsEnter_opSlp (s : State) : opSlp (portsEnter s) = opSlp s := by
  unfold portsEnter
  repeat' split
  all_goals simp

@[simp] theorem preempt_opSlp (s : State) (port : Nat) : opSlp (preempt s port) = opSlp s := by
  unfold preempt
  dsimp only
  repeat' split
  all_goals simp

@[simp] theorem judgeGates_opSlp (before : Nat) (s : State) (port : Nat) : opSlp (judgeGates before s port) = opSlp s := by
  unfold judgeGates
  repeat' split
  all_goals simp

@[simp] theorem dropSwap_opSlp (s : State) (port cause : Nat) : opSlp (dropSwap s port cause) = opSlp s := by
  unfold dropSwap
  repeat' split
  all_goals simp

@[simp] theorem applyGateList_opSlp (s : State) (port : Nat) (atStart : Bool) : opSlp (applyGateList s port atStart) = opSlp s := by
  simp [applyGateList]

@[simp] theorem startGateLists_opSlp (s : State) : opSlp (startGateLists s) = opSlp s := by simp [startGateLists]

/-! ### Legacy buses, bridge and gateway -/

@[simp] theorem setCan_opSlp (s : State) (cn : Nat) (f : CanPort → CanPort) : opSlp (setCan s cn f) = opSlp s := by simp [setCan]

@[simp] theorem setSerial_opSlp (s : State) (sp : Nat) (f : SerialPort → SerialPort) : opSlp (setSerial s sp f) = opSlp s := by simp [setSerial]

@[simp] theorem setMvb_opSlp (s : State) (seg : Nat) (f : MvbSeg → MvbSeg) : opSlp (setMvb s seg f) = opSlp s := by simp [setMvb]

@[simp] theorem refreshDe_opSlp (s : State) : opSlp (refreshDe s) = opSlp s := by simp [refreshDe]

@[simp] theorem serialOffer_opSlp (s : State) (sp ident : Nat) (data : Bytes) : opSlp (serialOffer s sp ident data) = opSlp s := by simp [serialOffer]

@[simp] theorem modbusSend_opSlp (s : State) (sp : Nat) (r : ModbusReq) : opSlp (modbusSend s sp r) = opSlp s := by simp [modbusSend]

@[simp] theorem modbusNext_opSlp (s : State) (sp : Nat) : opSlp (modbusNext s sp) = opSlp s := by
  unfold modbusNext
  repeat' split
  all_goals simp

@[simp] theorem withdrawRequest_opSlp (s : State) (x : BridgeTx) : opSlp (withdrawRequest s x) = opSlp s := by
  unfold withdrawRequest
  dsimp only
  repeat' split
  all_goals simp

@[simp] theorem lateFault_opSlp (s : State) (x : BridgeTx) (cause code : Nat) : opSlp (lateFault s x cause code) = opSlp s := by simp [lateFault]

@[simp] theorem completeRead_opSlp (s : State) (x : BridgeTx) (data : Bytes) (result : BitVec 8) :
    opSlp (completeRead s x data result) = opSlp s := by
  simp [completeRead]

@[simp] theorem bridgeStop_opSlp (s : State) : opSlp (bridgeStop s) = opSlp s := by
  unfold bridgeStop
  dsimp only
  refine (opSlp_foldl _ ?_ _ _).trans ((opSlp_foldl _ (fun t x => withdrawRequest_opSlp t x) _ _).trans rfl)
  intro t x
  repeat' split
  all_goals simp

@[simp] theorem freeRx_opSlp (s : State) (cn : Nat) (m : CanRx) : opSlp (freeRx s cn m) = opSlp s := by
  unfold freeRx
  repeat' split
  all_goals simp

@[simp] theorem canClear_opSlp (s : State) (cn : Nat) : opSlp (canClear s cn) = opSlp s := by simp [canClear]

@[simp] theorem busSilence_opSlp (s : State) : opSlp (busSilence s) = opSlp s := by
  unfold busSilence
  refine Eq.trans (opSlp_mk ..) ?_
  exact opSlp_foldl _ (fun t x => by simp) _ _

@[simp] theorem serialDrop_opSlp (s : State) : opSlp (serialDrop s) = opSlp s := by simp [serialDrop]

@[simp] theorem busStart_opSlp (s : State) (lvl : BusLevel) : opSlp (busStart s lvl) = opSlp s := by simp [busStart]

@[simp] theorem serialLimit_opSlp (s : State) : opSlp (serialLimit s) = opSlp s := by
  refine opSlp_foldl _ (fun t sp => ?_) _ s
  dsimp only
  repeat' split
  all_goals simp

@[simp] theorem busEnter_opSlp (s : State) : opSlp (busEnter s) = opSlp s := by
  unfold busEnter
  repeat' split
  all_goals simp

@[simp] theorem setGrids_opSlp (s : State) : opSlp (setGrids s) = opSlp s := by simp [setGrids]

@[simp] theorem gatewayEnter_opSlp (s : State) : opSlp (gatewayEnter s) = opSlp s := by simp [gatewayEnter]

@[simp] theorem queueFull_opSlp (s : State) (cn : Nat) : opSlp (queueFull s cn) = opSlp s := by simp [queueFull]

@[simp] theorem canOffer_opSlp (s : State) (cn : Nat) (f : CanFrame) (bridge : Option Nat) : opSlp (canOffer s cn f bridge).1 = opSlp s := by
  simp [canOffer]

@[simp] theorem canBegin_opSlp (s : State) (cn : Nat) : opSlp (canBegin s cn) = opSlp s := by simp [canBegin]

@[simp] theorem canWake_opSlp (s : State) : opSlp (canWake s) = opSlp s := by simp [canWake]

@[simp] theorem busWake_opSlp (s : State) : opSlp (busWake s) = opSlp s := by simp [busWake]

/-! ### Audio, position, power, clock, Pair and pins -/

@[simp] theorem noteEmergency_opSlp (s : State) (ref : Nat) : opSlp (noteEmergency s ref) = opSlp s := by simp [noteEmergency]

@[simp] theorem startClip_opSlp (s : State) (p c : Nat) : opSlp (startClip s p c) = opSlp s := by simp [startClip]

@[simp] theorem extendD64_opSlp (s : State) : opSlp (extendD64 s) = opSlp s := by simp [extendD64]

@[simp] theorem journalDistance_opSlp (s : State) : opSlp (journalDistance s) = opSlp s := by simp [journalDistance]

@[simp] theorem positionEnter_opSlp (s : State) : opSlp (positionEnter s) = opSlp s := by simp [positionEnter]

@[simp] theorem setPosEvent_opSlp (s : State) (n : Nat) (f : PosEvent → PosEvent) : opSlp (setPosEvent s n f) = opSlp s := by simp [setPosEvent]

@[simp] theorem fixSwaps_opSlp (s : State) (event : Nat) : opSlp (fixSwaps s event) = opSlp s := by
  refine opSlp_foldl _ (fun t port => ?_) _ s
  repeat' split
  all_goals simp

@[simp] theorem setDoors_opSlp (s : State) (v : Nat) : opSlp (setDoors s v) = opSlp s := by simp [setDoors]

@[simp] theorem sequencesEnter_opSlp (s : State) : opSlp (sequencesEnter s) = opSlp s := by simp [sequencesEnter]

@[simp] theorem budgetOutputs_opSlp (s : State) : opSlp (budgetOutputs s) = opSlp s := by simp [budgetOutputs]

@[simp] theorem stageChanged_opSlp (s : State) : opSlp (stageChanged s) = opSlp s := by simp [stageChanged]

@[simp] theorem release_opSlp (s : State) (k : Nat) : opSlp (release s k) = opSlp s := by simp [release]

@[simp] theorem dropDisabled_opSlp (s : State) : opSlp (dropDisabled s) = opSlp s := by simp [dropDisabled]

@[simp] theorem powerEnter_opSlp (s : State) : opSlp (powerEnter s) = opSlp s := by
  unfold powerEnter
  repeat' split
  all_goals simp

@[simp] theorem sleepCharge_opSlp (s : State) (ms : Nat) : opSlp (sleepCharge s ms) = opSlp s := by simp [sleepCharge]

@[simp] theorem setTpo_opSlp (s : State) (pin : Nat) (f : TpoPin → TpoPin) : opSlp (setTpo s pin f) = opSlp s := by simp [setTpo]

@[simp] theorem setTpoLevel_opSlp (s : State) (pin : Nat) (b : Bool) : opSlp (setTpoLevel s pin b) = opSlp s := by simp [setTpoLevel]

@[simp] theorem startProgram_opSlp (s : State) (pin : Nat) (fresh : Bool) : opSlp (startProgram s pin fresh) = opSlp s := by simp [startProgram]

@[simp] theorem startPrograms_opSlp (s : State) : opSlp (startPrograms s) = opSlp s := by simp [startPrograms]

@[simp] theorem startTrigger_opSlp (s : State) (k : Nat) : opSlp (startTrigger s k) = opSlp s := by simp [startTrigger]

@[simp] theorem clockEnter_opSlp (s : State) (fromStart : Bool) : opSlp (clockEnter s fromStart) = opSlp s := by
  unfold clockEnter
  repeat' split
  all_goals simp

@[simp] theorem clockRestart_opSlp (s : State) : opSlp (clockRestart s) = opSlp s := by simp [clockRestart]

@[simp] theorem writeTemplate_opSlp (s : State) : opSlp (writeTemplate s) = opSlp s := by simp [writeTemplate]

@[simp] theorem quietShared_opSlp (s : State) : opSlp (quietShared s) = opSlp s := by simp [quietShared]

@[simp] theorem driveShared_opSlp (s : State) : opSlp (driveShared s) = opSlp s := by simp [driveShared]

@[simp] theorem setRole_opSlp (s : State) (r : PairRole) (code : Nat) : opSlp (setRole s r code) = opSlp s := by simp [setRole]

@[simp] theorem pairEnter_opSlp (s : State) : opSlp (pairEnter s) = opSlp s := by simp [pairEnter]

@[simp] theorem gpEnter_opSlp (s : State) : opSlp (gpEnter s) = opSlp s := by
  unfold gpEnter
  repeat' split
  all_goals simp

@[simp] theorem zoneEnter_opSlp (s : State) : opSlp (zoneEnter s) = opSlp s := by
  unfold zoneEnter
  repeat' split
  all_goals simp

@[simp] theorem refreshPhy_opSlp (s : State) : opSlp (refreshPhy s) = opSlp s := by simp [refreshPhy]

@[simp] theorem refreshStb_opSlp (s : State) (asleep : Bool) : opSlp (refreshStb s asleep) = opSlp s := by simp [refreshStb]

@[simp] theorem dropPartials_opSlp (s : State) (ses : Nat) : opSlp (dropPartials s ses) = opSlp s := by simp [dropPartials]

@[simp] theorem cvuRelease_opSlp (s : State) (src : CvuSource) : opSlp (cvuRelease s src) = opSlp s := by simp [cvuRelease]

@[simp] theorem spiReset_opSlp (s : State) : opSlp (spiReset s) = opSlp s := by simp [spiReset]

@[simp] theorem wakeEvent_opSlp (s : State) : opSlp (wakeEvent s) = opSlp s := by simp [wakeEvent]

/-! ### The two blocks one by one -/

theorem op_of_opSlp {s t : State} (h : opSlp t = opSlp s) : t.op = s.op := congrArg Prod.fst h

theorem slp_of_opSlp {s t : State} (h : opSlp t = opSlp s) : t.slp = s.slp := congrArg Prod.snd h

@[simp] theorem raise_op (s : State) (code sev src : Nat) (data : Bytes) : (raise s code sev src data).op = s.op := op_of_opSlp (raise_opSlp ..)

@[simp] theorem raise_slp (s : State) (code sev src : Nat) (data : Bytes) : (raise s code sev src data).slp = s.slp := slp_of_opSlp (raise_opSlp ..)

@[simp] theorem bump_op (s : State) (idx sub : Nat) : (bump s idx sub).op = s.op := op_of_opSlp (bump_opSlp ..)

@[simp] theorem bump_slp (s : State) (idx sub : Nat) : (bump s idx sub).slp = s.slp := slp_of_opSlp (bump_opSlp ..)

end Sys2Proof.Machine
end

section
/-! PROOFS. The entry of a state (R23, R24, R33): the blocks follow it, segments, PHYs and missed position events among them, and the operating block
keeps what the entry noted; a restart is in Start with its cause. -/

namespace Sys2Proof.Machine

/-! ### Segments and PHYs: the operating block stays -/

@[simp] theorem setSegment_op (s : State) (p st lease : Nat) : (setSegment s p st lease).op = s.op := by
  unfold setSegment
  dsimp only
  split
  · rfl
  · exact raise_op ..

@[simp] theorem segUnlink_op (s : State) (p : Nat) : (segUnlink s p).op = s.op := op_of_opSlp (segUnlink_opSlp s p)

@[simp] theorem refreshPhy_op (s : State) : (refreshPhy s).op = s.op := rfl

@[simp] theorem segWake_op (s : State) (p : Nat) : (segWake s p).op = s.op := by
  unfold segWake
  split <;> simp

@[simp] theorem segSleep_op (s : State) (p : Nat) : (segSleep s p).op = s.op := by
  unfold segSleep
  split
  · exact (op_of_opSlp (discardQueues_opSlp _ p)).trans (setSegment_op ..)
  · rfl

@[simp] theorem segmentsEnter_op (s : State) (fromSleep : Bool) (wakeSet : Nat) : (segmentsEnter s fromSleep wakeSet).op = s.op := by
  unfold segmentsEnter
  dsimp only
  split
  case h_6 | h_7 | h_8 => rfl
  all_goals
    refine reading_foldl State.op (fun t p => ?_) _ s
    repeat' split
    all_goals simp

@[simp] theorem releasePhy_op (s : State) : (releasePhy s).op = s.op := by
  unfold releasePhy
  split <;> rfl

@[simp] theorem staggerPhy_op (s : State) : (staggerPhy s).op = s.op := by
  unfold staggerPhy
  dsimp only
  split
  · rfl
  · exact releasePhy_op _

/-! ### Position events that fire at the entry of a state -/

section
variable {applySet : State → Nat → State} (h : ∀ t k, (applySet t k).op = t.op)
include h

theorem fireEvent_op (s : State) (n : Nat) (stamp : T32) : (fireEvent applySet s n stamp).op = s.op := by
  unfold fireEvent
  extract_lets idx rep s1 s2 par
  have h2 : s2.op = s.op := op_of_opSlp (by simp [s2, s1])
  clear_value s2
  split
  · split
    · exact (op_of_opSlp (startClip_opSlp ..)).trans h2
    · exact h2
  · exact (h ..).trans h2
  · exact (segWake_op ..).trans h2
  · exact (segSleep_op ..).trans h2
  · exact (op_of_opSlp (setDoors_opSlp ..)).trans h2
  · exact (raise_op ..).trans h2
  · exact h2

theorem missEvent_op (s : State) (n : Nat) (stamp : T32) : (missEvent applySet s n stamp).op = s.op := by
  unfold missEvent
  dsimp only
  split
  · exact (fireEvent_op h ..).trans (by simp)
  · simp

end

theorem missedAtEntry_op (s : State) : (missedAtEntry s).op = s.op := by
  unfold missedAtEntry
  split
  · rfl
  · exact reading_foldl State.op (fun t n => missEvent_op (fun u k => raise_op ..) t n s.now) _ s

/-! ### The entry of a state, and a restart -/

theorem audioEnter_opSlp {s : State} (h : s.op.state ≠ .safe) : opSlp (audioEnter s) = opSlp s := by
  simp [audioEnter, h]

/-- Outside Safe, where the calls are ended, the blocks at the entry of a state leave the operating block alone. -/
theorem enterBlocks_op (before : State) {s : State} (h : s.op.state ≠ .safe) : (enterBlocks before s).op = s.op := by
  unfold enterBlocks
  extract_lets fromStart awake woken s1 s2 s3 s4 s5 s6
  have h1 : opSlp s1 = opSlp s := by
    dsimp only [s1]
    split <;> simp
  have haudio : opSlp (audioEnter s1) = opSlp s1 := audioEnter_opSlp (op_of_opSlp h1 ▸ h)
  have h3 : opSlp s3 = opSlp s := by simp [s3, s2, haudio, h1]
  have h4 : s4.op = s.op := by simp [s4, op_of_opSlp (portsEnter_opSlp s3), op_of_opSlp h3]
  have h5 : s5.op = s.op := by
    dsimp only [s5]
    split <;> simp [h4]
  have h6 : s6.op = s.op := by
    dsimp only [s6]
    split
    · exact (op_of_opSlp (startGateLists_opSlp s5)).trans h5
    · exact h5
  have hlast : opSlp (refreshStb (pairEnter (clockEnter s6 fromStart)) false) = opSlp s6 := by simp
  exact (missedAtEntry_op _).trans ((op_of_opSlp hlast).trans h6)

theorem noteState_op (s : State) (new : OpState) (cause : Nat) : (noteState s new cause).op =
    { s.op with
      state := new, previous := BitVec.ofNat 8 s.op.state.code, cause := BitVec.ofNat 16 cause, enteredAt := s.time.tx, phase := 0,
      autoRestart := false } := by
  unfold noteState
  exact (raise_op ..).trans (op_of_opSlp (hostSignal_opSlp ..))

/-- The entry of a state other than Safe shows the state and its cause (R33). -/
theorem enterState_state_cause (s : State) {new : OpState} (cause : Nat) (h : new ≠ .safe) :
    (enterState s new cause).op.state = new ∧ (enterState s new cause).op.cause = BitVec.ofNat 16 cause := by
  unfold enterState
  extract_lets s1 s2
  have h2 : s2.op = s1.op := by
    dsimp only [s2]
    split
    · rfl
    · exact op_of_opSlp (dropReplies_opSlp s1)
  have h1 : s1.op = _ := noteState_op ..
  have hblocks : (emcyCleared s (enterBlocks s s2)).op = s1.op := by
    refine (op_of_opSlp (emcyCleared_opSlp ..)).trans ((enterBlocks_op s ?_).trans h2)
    rw [h2, h1]
    exact h
  rw [hblocks, h1]
  exact ⟨rfl, rfl⟩

/-- A restart is in Start and shows its cause (R24, R33). -/
theorem restart_state_cause (s : State) (cause : Nat) (straps : Straps) (recovery : Bool) :
    (restart s cause straps recovery).op.state = .start ∧ (restart s cause straps recovery).op.cause = BitVec.ofNat 16 cause := by
  unfold restart
  extract_lets s0 _src _cs c _time t _op op t0 t1 t2 t3 lost
  have h3 : t3.op = op := by
    have h2 : t2.op = op := (raise_op ..).trans (op_of_opSlp (hostSignal_opSlp t0 6))
    dsimp only [t3]
    split
    · exact (raise_op ..).trans h2
    · exact h2
  clear_value t3
  have hop : op.state = .start ∧ op.cause = BitVec.ofNat 16 cause := ⟨rfl, rfl⟩
  split
  · rwa [raise_op, h3]
  · rwa [h3]

end Sys2Proof.Machine
end

section
/-! PROOFS. Wake sources, quarantine, PHY release and the holds (R385 to R393, R399). -/

namespace Sys2Proof.Machine

/-! ### The states in which a source is accepted -/

/-- C is not reached while no ballot is committed in Normal (R397). -/
theorem reachCommit_uncommitted {s : State} (h : s.op.state ≠ .normal ∨ s.slp.ballot.state ≠ 3) : reachCommit s = s :=
  if_neg (fun ⟨hn, hb, _⟩ => h.elim (· hn) (· hb))

theorem reachCommit_asleep {s : State} (h : s.op.state = .lightSleep ∨ s.op.state = .deepSleep) : reachCommit s = s :=
  reachCommit_uncommitted (.inl (by rcases h with h | h <;> simp [h]))

/-- The operating block, and the sleep block but for its sources. -/
def besideSources (s : State) : OpBlock × SleepBlock := (s.op, { s.slp with sources := SleepBlock.reset.sources })

theorem besideSources_of_opSlp {s t : State} (h : opSlp t = opSlp s) : besideSources t = besideSources s := by
  rw [besideSources, besideSources, op_of_opSlp h, slp_of_opSlp h]

theorem setSrc_besideSources (s : State) (n : Nat) (f : WakeSource → WakeSource) : besideSources (setSrc s n f) = besideSources s := rfl

/-- The count of an acceptance reaches nothing in the operating block, and of the sleep block the sources alone. -/
theorem countSource_besideSources (s : State) (n : Nat) : besideSources (countSource s n) = besideSources s := by
  unfold countSource
  extract_lets l level s1 lim
  have h1 : besideSources s1 = besideSources s := (setSrc_besideSources ..).trans (besideSources_of_opSlp (bumpN_opSlp ..))
  split
  · refine (besideSources_of_opSlp (raise_opSlp ..)).trans ((besideSources_of_opSlp (bump_opSlp ..)).trans ?_)
    exact (setSrc_besideSources ..).trans h1
  · exact h1

theorem countSource_op (s : State) (n : Nat) : (countSource s n).op = s.op := congrArg Prod.fst (countSource_besideSources s n)

theorem countSource_entering (s : State) (n : Nat) : (countSource s n).slp.entering = s.slp.entering :=
  congrArg (fun x => x.2.entering) (countSource_besideSources s n)

theorem latchWake_latched (s : State) (n : Nat) : (latchWake s n).slp.latched = true := by
  unfold latchWake
  split
  · assumption
  · simp

theorem latchWake_op (s : State) (n : Nat) : (latchWake s n).op = s.op := by
  unfold latchWake
  split <;> simp

/-- The state in which a source wakes the device: it is noted as seen, and as the cause (R391). -/
def causedBy (s : State) (n : Nat) : State :=
  let s1 := seeSource s n
  { s1 with slp := { s1.slp with cause := { s1.slp.cause with source := BitVec.ofNat 8 n, at_ := acceptedAt s, latched := false } } }

section
variable {s : State} {n : Nat}

theorem acceptSource_entering (hs : s.op.state = .lightSleep ∨ s.op.state = .deepSleep) (he : s.slp.entering = true) :
    acceptSource s n = latchWake (seeSource (countSource s n) n) n := by
  unfold acceptSource
  rw [reachCommit_asleep hs]
  exact if_pos ((countSource_entering s n).trans he)

section
variable (he : s.slp.entering = false)
include he

theorem acceptSource_wakes (hs : s.op.state = .lightSleep ∨ s.op.state = .deepSleep) (hw : s.on (0x2420 + n) 4 = true) :
    acceptSource s n = wakeUp (causedBy (countSource s n) n) := by
  have hon : (countSource s n).on (0x2420 + n) 4 = true := by
    rw [← hw, State.on, State.on, val_of_kept (countSource_kept s n)]
  unfold acceptSource
  rw [reachCommit_asleep hs]
  rcases hs with h | h
  all_goals simp [countSource_entering, he, countSource_op, h, hon, causedBy]

theorem acceptSource_normal (hs : s.op.state = .normal) (hb : s.slp.ballot.state ≠ 3) :
    acceptSource s n = acceptNormal (countSource s n) n := by
  unfold acceptSource
  rw [reachCommit_uncommitted (.inr hb)]
  simp [countSource_entering, he, countSource_op, hs]

theorem acceptSource_reported (hs : s.op.state = .commissioning ∨ s.op.state = .test ∨ s.op.state = .safe) :
    acceptSource s n = raise (countSource s n) 0x2404 1 0xFF (be 1 n ++ be 1 0 ++ be 1 s.op.state.code) := by
  have hr : reachCommit s = s := reachCommit_uncommitted (.inl (by rcases hs with h | h | h <;> simp [h]))
  unfold acceptSource
  rw [hr]
  rcases hs with h | h | h
  all_goals simp [countSource_entering, he, countSource_op, h]

end

end

/-! ### The wake -/

/-- A wake from LightSleep enters Normal with cause 0x31 (R390). -/
theorem wakeUp_lightSleep {s : State} (h : s.op.state = .lightSleep) : (wakeUp s).op.state = .normal ∧ (wakeUp s).op.cause = 0x31 := by
  have ho : ∀ t, (canWake (wakeEvent (busWake t))).op = t.op := fun t => op_of_opSlp (by simp)
  unfold wakeUp
  rw [h]
  dsimp only
  rw [ho]
  exact enterState_state_cause _ 0x31 (by decide)

/-- A wake from DeepSleep is a warm start with cause 0x31 (R390, R529). -/
theorem wakeUp_deepSleep {s : State} (h : s.op.state = .deepSleep) :
    (wakeUp s).op.state = .start ∧ (wakeUp s).op.warm = true ∧ (wakeUp s).op.cause = 0x31 := by
  obtain ⟨hstate, hcause⟩ := restart_state_cause (noteWake s) 0x31 (noteWake s).op.straps false
  unfold wakeUp
  rw [h]
  exact ⟨hstate, rfl, hcause⟩

/-! ### Levels, quarantine and the holds -/

theorem wakeSrc_setSrc_same (s : State) {n : Nat} (f : WakeSource → WakeSource) (h : n < 20) : wakeSrc (setSrc s n f) n = f (wakeSrc s n) := by
  have hget : s.slp.sources[n]? = some s.slp.sources[n] := Vector.getElem?_eq_getElem h
  simp [wakeSrc, setSrc, getElem?_vmod f hget, hget]

/-- A write of class I to an object of the journal, carried out, waits for its record, which answers it (R42). -/
theorem persistCommand_allowed {s : State} {ses : SessionNo} {idx sub : Nat} {v : Bytes} {own : State → Nat} (h : WriteAllowed s ses idx sub v)
    (ho : own s = 0) (hj : s.jour.state ≠ 2) :
    persistCommand s ses idx sub v own = jAppend (thaw s) (.value (okey idx sub) v) (.session ses) := by
  obtain ⟨x, hx⟩ := h.row
  obtain ⟨hs, hopen, ha, -⟩ := h
  simpa [persistCommand, hs, hopen, ha, hx, ho] using fun hfailed => absurd hfailed hj

theorem releasePhy_cons {s : State} {k : Nat} {rest : List Nat} (h : s.slp.phyWait = k :: rest) :
    releasePhy s = refreshPhy { s with slp := { s.slp with phyWait := rest } } := by
  unfold releasePhy
  rw [h]

/-- Settles O34: an accepted source is counted without a change of the state or of an entry in progress, so the state it is accepted in chooses
what it does; the other commands change one field of the sleep block each. -/
theorem wakeSourcesAndHolds : Obligations.WakeSourcesAndHolds := by
  intro s n l ses v secs
  refine ⟨fun hw => ?accepted, ⟨_, rfl, ?levelEnd, rfl⟩, ⟨_, rfl, ?quarantineEnd, rfl, ?forgotten⟩, fun h hv hj => ?cleared,
    fun k rest h => ?released, fun h => ?heldAwake, rfl, rfl⟩
  case accepted =>
    have hexec : exec (.wakeSourceAccepted n) s = .next (acceptSource s n.val) := if_pos hw
    refine ⟨⟨_, hexec, rfl⟩, fun he hs => ⟨_, hexec, ?_⟩, fun he hon => ⟨fun hs => ⟨_, hexec, ?_⟩, fun hs => ⟨_, hexec, ?_⟩⟩,
      fun he hs hb => hexec.trans ?_, fun he hs => hexec.trans ?_⟩
    · rw [acceptSource_entering hs he]
      exact ⟨latchWake_latched .., congrArg OpBlock.state ((latchWake_op ..).trans (countSource_op s n.val))⟩
    · rw [acceptSource_wakes he (.inl hs) hon]
      exact wakeUp_lightSleep ((congrArg OpBlock.state (countSource_op s n.val)).trans hs)
    · rw [acceptSource_wakes he (.inr hs) hon]
      exact wakeUp_deepSleep ((congrArg OpBlock.state (countSource_op s n.val)).trans hs)
    · rw [acceptSource_normal he hs hb]
    · rw [acceptSource_reported he hs]
  case levelEnd => rw [wakeSrc_setSrc_same s _ (by omega)]
  case quarantineEnd | forgotten => rw [wakeSrc_setSrc_same s _ n.isLt]
  case cleared => exact congrArg Host.Outcome.next (persistCommand_allowed h (if_pos hv) hj)
  case released => exact congrArg Host.Outcome.next (releasePhy_cons h)
  case heldAwake => exact congrArg Host.Outcome.next (command_allowed _ h)

end Sys2Proof.Machine
end

section
/-! PROOFS. The sleep entry (R384, R397) and managed segments (R400 to R403). -/

namespace Sys2Proof.Machine

theorem segState_of_opSlp {s t : State} (h : opSlp t = opSlp s) (p : Nat) : segState t p = segState s p := by
  unfold segState
  rw [slp_of_opSlp h]

theorem segState_setSegment_same (s : State) {p : Nat} (st lease : Nat) (h : p < 38) : segState (setSegment s p st lease) p = st := by
  have hget : s.slp.segments[p]? = some s.slp.segments[p] := Vector.getElem?_eq_getElem h
  have hset : segState { s with slp := { s.slp with
      segments := vmod s.slp.segments p (fun g => { g with state := st, lease := lease }) } } p = st := by
    simp [segState, getElem?_vmod _ hget]
  unfold setSegment
  dsimp only
  split
  · exact hset
  · exact (segState_of_opSlp (raise_opSlp ..) p).trans hset

/-! ### Sleep is entered and completed -/

/-- At C of a committed ballot without a reason against it the device enters its sleep state (R384, R397). -/
theorem reachCommit_enters {s : State} (hn : s.op.state = .normal) (hb : s.slp.ballot.state = 3) (hd : dueT32 s.slp.ballot.commitAt s.now = true)
    (hr : ballotReasons s = 0) : reachCommit s = enterSleep s :=
  (if_pos ⟨hn, hb, hd⟩).trans (if_neg (not_not_intro hr))

/-- The sleep state of the ballot's kind is entered with cause 0x30 (R384). -/
theorem enterSleep_state_cause (s : State) :
    (enterSleep s).op.state = (if s.slp.ballot.kind = 2 then .deepSleep else .lightSleep) ∧ (enterSleep s).op.cause = 0x30 := by
  by_cases hk : s.slp.ballot.kind = 2
  · have hop : (enterSleep s).op = (enterState s .deepSleep 0x30).op := by simp [enterSleep, hk, op_of_opSlp (jAppend_opSlp ..)]
    rw [hop, if_pos hk]
    exact enterState_state_cause s 0x30 (by decide)
  · have hop : (enterSleep s).op = (enterState s .lightSleep 0x30).op := by simp [enterSleep, hk]
    rw [hop, if_neg hk]
    exact enterState_state_cause s 0x30 (by decide)

theorem sleepEntryComplete_entering {s : State} (he : s.slp.entering = true) (hs : s.op.state = .lightSleep ∨ s.op.state = .deepSleep) :
    execSleepEntryComplete s = .next (if s.slp.latched then wakeUp (entryDone s) else entryDone s) := if_pos ⟨he, hs⟩

/-! ### Managed segments in Normal -/

section
variable {s : State} {p : Nat} (hn : s.op.state = .normal) (hm : managed s p = true)
include hn hm

theorem segWake_free (h : segState s p ≠ 4) : segWake s p = refreshPhy (setSegment s p 2 (freshLease s p)) := if_pos ⟨hm, hn, h⟩

theorem segSleep_awake (h : segState s p = 2) : segSleep s p = discardQueues (setSegment s p 3 0) p := if_pos ⟨hm, hn, h⟩

theorem segRequest_wake : segRequest s p 1 = (segWake s p, 0) := by simp [segRequest, hn, hm]

theorem segRequest_sleep : segRequest s p 2 = (segSleep s p, 0) := by simp [segRequest, hn, hm]

theorem segRequest_endIsolation (h : segState s p = 4) : segRequest s p 3 = (segAsleep s p, 0) := by simp [segRequest, hn, hm, h, segAsleep]

end

/-- A session's segment request whose checks pass, that of its role among them, is answered with its result (R400 to R402, R407). -/
theorem segCommand_allowed {s t : State} {ses : SessionNo} {p v c : Nat} (h : WriteAllowed s ses (0x2440 + p) 6 (be 1 v))
    (hrole : segRole s ses.val v = true) (hreq : segRequest s p v = (t, c)) :
    segCommand s ses p v = emit t (.answer (.session ses) (BitVec.ofNat 8 c) []) := by
  rw [segCommand, command_allowed _ h, if_pos hrole, hreq]

section
variable (s : State) {p : Nat} (hp : p < 38)
include hp

theorem segState_wakes (lease : Nat) : segState (refreshPhy (setSegment s p 2 lease)) p = 2 := segState_setSegment_same s 2 lease hp

theorem segState_drains : segState (discardQueues (setSegment s p 3 0) p) p = 3 :=
  (segState_of_opSlp (discardQueues_opSlp ..) p).trans (segState_setSegment_same s 3 0 hp)

theorem segState_unlinked (st : Nat) : segState (segUnlink (setSegment s p st 0) p) p = st :=
  (segState_of_opSlp (segUnlink_opSlp ..) p).trans (segState_setSegment_same s st 0 hp)

theorem segState_segAsleep : segState (segAsleep s p) p = 1 := segState_unlinked s hp 1

end

/-- Settles O36: each command is one branch of its meaning under the clause's conditions, and what follows the change of a segment or the
entry of a state leaves the operating block and the sleep block alone. -/
theorem sleepEntryAndSegments : Obligations.SleepEntryAndSegments := by
  intro s ses p ts
  have hts : 30 + ts.val < 38 := by omega
  refine ⟨fun hn hb hd hr => ?entry, sleepEntryComplete_entering,
    fun hn hm => ⟨fun hw hs => ?wakes, fun hw hs => ?sleeps, fun hw hrole hs => ?ends, fun hs hl => ?lease⟩, fun hn hm hs => ?energy,
    fun hs hn => ⟨⟨_, if_pos ⟨hs, hn⟩, rfl, segState_segAsleep s p.isLt⟩, ⟨_, if_pos ⟨hs, hn⟩, ?isolated, rfl⟩⟩⟩
  case entry =>
    obtain ⟨hstate, hcause⟩ := enterSleep_state_cause s
    exact ⟨_, congrArg Host.Outcome.next (reachCommit_enters hn hb hd hr), rfl, rfl, hcause, hstate⟩
  case wakes =>
    have hreq := (segRequest_wake hn hm).trans (congrArg (·, 0) (segWake_free hn hm hs))
    exact ⟨_, congrArg Host.Outcome.next (segCommand_allowed hw rfl hreq), rfl, rfl, segState_wakes s p.isLt _⟩
  case sleeps =>
    have hreq := (segRequest_sleep hn hm).trans (congrArg (·, 0) (segSleep_awake hn hm hs))
    exact ⟨_, congrArg Host.Outcome.next (segCommand_allowed hw rfl hreq), rfl, rfl, segState_drains s p.isLt⟩
  case ends =>
    have hallowed : segRole s ses.val 3 = true := by simp [segRole, hrole]
    exact ⟨_, congrArg Host.Outcome.next (segCommand_allowed hw hallowed (segRequest_endIsolation hn hm hs)), rfl, rfl, segState_segAsleep s p.isLt⟩
  case lease =>
    exact ⟨_, (if_pos hl).trans (congrArg Host.Outcome.next (segSleep_awake hn hm hs)), rfl, segState_drains s p.isLt⟩
  case energy =>
    have hfree : segState s (30 + ts.val) ≠ 4 := by omega
    exact ⟨_, (if_pos hs).trans (congrArg Host.Outcome.next (segWake_free hn hm hfree)), rfl, segState_wakes s hts _⟩
  case isolated =>
    have hcounts : ∀ t code data, opSlp (raise (bump (bumpN t 0x2440 p.val 7) 0x2470 0x0C) code 3 p.val data) = opSlp t := by simp
    exact (segState_of_opSlp (hcounts ..) p.val).trans (segState_unlinked s p.isLt 4)

end Sys2Proof.Machine
end

section
/-! PROOFS. The reset that is armed again (R570), and the phases of a start that leave little behind: training, the load of the processor
images and the self-test (R417, R528, R529), each with its line on DTX (R603). -/

namespace Sys2Proof.Machine

section
variable {s : State}

/-! ### The work of a phase -/

theorem coldPhase_trained (h : s.op.phase = 1) : coldPhase s .done = { s with op := { s.op with phase := 2 } } := by
  unfold coldPhase
  simp only [h]

theorem coldPhase_loaded (h : s.op.phase = 3) : coldPhase s .done = loadRunning { s with op := { s.op with phase := 4 } } := by
  unfold coldPhase
  simp only [h]

theorem coldPhase_tested (h : s.op.phase = 4) : coldPhase s .done = selfTested s := by
  unfold coldPhase
  simp only [h]

/-- Training, the load and the self-test are the same work in a start from DeepSleep (R529). -/
theorem warmPhase_eq_coldPhase (h : s.op.phase = 1 ∨ s.op.phase = 3 ∨ s.op.phase = 4) : warmPhase s .done = coldPhase s .done := by
  unfold warmPhase
  rcases h with h | h | h
  · simp only [h, coldPhase_trained]
  · simp only [h, coldPhase_loaded]
  · simp only [h, coldPhase_tested]

/-! ### The report of a phase done -/

theorem logPhase_onward {t : State} (h : s.op.phase < t.op.phase) : logPhase s t = emit t (.console s.op.phase s.op.cause) := if_pos (.inl h)

/-- A phase of the work that both starts share, reported done by the command of the start that runs, goes on with its line on DTX. -/
theorem exec_phaseDone {t : State} (hs : s.op.state = .start) (hp : s.op.phase = 1 ∨ s.op.phase = 3 ∨ s.op.phase = 4)
    (hwork : coldPhase s .done = t) (hon : s.op.phase < t.op.phase) :
    exec (if s.op.warm then Instr.deepSleepStartPhaseComplete .done else Instr.startPhaseComplete .done) s =
      .next (emit t (.console s.op.phase s.op.cause)) := by
  have hlog : logPhase s (coldPhase s .done) = emit t (.console s.op.phase s.op.cause) := by rw [hwork, logPhase_onward hon]
  cases hw : s.op.warm with
  | true =>
    rw [← hlog, ← warmPhase_eq_coldPhase hp]
    exact if_pos ⟨hs, hw⟩
  | false =>
    rw [← hlog]
    exact if_pos ⟨hs, by rw [hw]; rfl⟩

end

/-- Settles O5: the three phases do one work in both starts, and each counts the phase up, which gives its line. -/
theorem resetLinesAndStartPhases : Obligations.ResetLinesAndStartPhases := by
  intro s
  refine ⟨rfl, fun hs => ⟨fun h => ?trained, fun h => ?loaded, fun h => ?tested⟩⟩
  case trained => exact exec_phaseDone hs (.inl h) (coldPhase_trained h) (h ▸ Nat.lt_succ_self 1)
  case loaded => exact exec_phaseDone hs (.inr (.inl h)) (coldPhase_loaded h) (h ▸ Nat.lt_succ_self 3)
  case tested => exact exec_phaseDone hs (.inr (.inr h)) (coldPhase_tested h) (h ▸ Nat.lt_succ_self 4)

end Sys2Proof.Machine
end

section
/-! PROOFS. The Guard Processor (R411 to R440): the inputs that its replay queue takes, the end of a window and its faults, cycles, and the
debugger's actions. -/

namespace Sys2Proof.Machine

/-! ### Inputs from outside a window's work (R419, R420) -/

/-- An entry put into a replay queue behind all that stand at its point or before it. -/
def insertByPoint (l : List ReplayEntry) (e : ReplayEntry) : List ReplayEntry :=
  l.takeWhile (fun x => decide (x.point ≤ e.point)) ++ [e] ++ l.dropWhile (fun x => decide (x.point ≤ e.point))

theorem mem_insertByPoint (l : List ReplayEntry) (e : ReplayEntry) : e ∈ insertByPoint l e := by simp [insertByPoint]

theorem length_insertByPoint (l : List ReplayEntry) (e : ReplayEntry) : (insertByPoint l e).length = l.length + 1 := by
  have hparts := congrArg List.length (List.takeWhile_append_dropWhile (p := fun x : ReplayEntry => decide (x.point ≤ e.point)) (l := l))
  simp only [List.length_append] at hparts
  simp only [insertByPoint, List.length_append, List.length_singleton]
  omega

section
variable {s : State} {kind : Nat} {value : BitVec 32} {target : Option DebugTarget}

/-- Pass 1 with room takes an input at a drawn point of 20 bits. -/
theorem recordInput_taken (hp : s.gp.pass = 1) (hr : s.gp.replay.length < 128) : ∃ point, point < 2 ^ 20 ∧
    recordInput s kind value target = { s with
      drawn := s.drawn + 1
      gp := { s.gp with replay := insertByPoint s.gp.replay { kind := kind, point := point, value := value, target := target } } } :=
  ⟨_, Nat.mod_lt _ (by decide), if_pos ⟨hp, hr⟩⟩

/-- Outside pass 1 an input waits for the next window. -/
theorem recordInput_waits (hp : s.gp.pass ≠ 1) : recordInput s kind value target =
    { s with gp := { s.gp with later := s.gp.later ++ [{ kind := kind, point := 0, value := value, target := target }] } } :=
  if_neg fun h => hp h.1

end

/-! ### The end of a window and the faults (R412, R423 to R435) -/

theorem gpFault_state (s : State) (cause entry : Nat) (sig1 sig2 : BitVec 64) : (gpFault s cause entry sig1 sig2).op.state = .safe :=
  congrArg (fun k : Kept => k.2.2.1) (gpFault_kept s cause entry sig1 sig2)

section
variable {s : State} {r : PassTwoReport} {c e : Nat} (hp : s.gp.pass = 2) (hw : gpWorks s = true)
include hp hw

/-- A window that pass 2 or its signature shows faulty ends in a fault. -/
theorem execGpWindowCompare_faulty (h : (windowFault s r).2.2 = some (c, e)) :
    execGpWindowCompare r s = .next (gpFault (windowFault s r).1 c e s.gp.sig1 (windowFault s r).2.1) := by
  rw [execGpWindowCompare, if_pos ⟨hp, hw⟩]
  simp only [h]

section
variable (hequal : (windowFault s r).2.2 = none)
include hequal

/-- An equal window releases its output hold; a bad parity there is a fault of cause 6. -/
theorem execGpWindowCompare_badHold (h : (releaseHold (windowFault s r).1 r.hold).2 = some e) :
    execGpWindowCompare r s = .next (gpFault (releaseHold (windowFault s r).1 r.hold).1 6 e s.gp.sig1 (windowFault s r).2.1) := by
  rw [execGpWindowCompare, if_pos ⟨hp, hw⟩]
  simp only [hequal, h]

theorem execGpWindowCompare_equal (h : (releaseHold (windowFault s r).1 r.hold).2 = none) :
    execGpWindowCompare r s = .next (windowEqual (releaseHold (windowFault s r).1 r.hold).1) := by
  rw [execGpWindowCompare, if_pos ⟨hp, hw⟩]
  simp only [hequal, h]

end

end

/-- A pass open for 24 microseconds is a fault of cause 2, in pass 1 with no signature that has ended (R412). -/
theorem execGpPassTimeout_faults {s : State} (hp : s.gp.pass ≠ 0) (hw : gpWorks s = true) (ht : s.gp.opened + 24000 ≤ s.time.mono) :
    ∃ a b, execGpPassTimeout s = .next (gpFault s 2 0xFF a b) := by
  rw [execGpPassTimeout, if_pos ⟨hp, hw, ht⟩]
  by_cases h1 : s.gp.pass = 1
  · exact ⟨_, _, congrArg Host.Outcome.next (if_pos h1)⟩
  · exact ⟨_, _, congrArg Host.Outcome.next (if_neg h1)⟩

/-- A cycle whose task does not wait already adds it (R431). -/
theorem startGpCycle_adds {s : State} {c : Nat} (h : s.gp.waiting.contains (cycleTask c) = false) :
    (startGpCycle s c).1 = gpOpen { s with gp := { s.gp with waiting := s.gp.waiting ++ [cycleTask c] } } := by
  simp only [startGpCycle, h, Bool.false_eq_true, if_false]

/-! ### The debugger (R440) -/

section
variable {s : State} (hd : gpDebug s = true)
include hd

theorem execDebugRead_shows {target : DebugTarget} {v : BitVec 32} (h : debugValue s target = some v) :
    execDebugRead target s = .next (emit s (.debug v)) := by
  rw [execDebugRead, if_pos hd, h]

theorem execDebugWrite_breakpoint (n : Fin 4) (value : BitVec 32) : execDebugWrite (.breakpoint n) value s =
    .next { s with gp := { s.gp with breakpoints := tput s.gp.breakpoints n.val value.toNat } } :=
  if_neg (by simp [hd])

/-- A write of a register or of region 1 acts and is an input, but for a pass 1 whose queue is full. -/
theorem execDebugWrite_acts {target : DebugTarget} (value : BitVec 32) (ht : (∃ k, target = .register k) ∨ (∃ k, target = .memory 0 k))
    (hroom : ¬ (s.gp.pass = 1 ∧ 128 ≤ s.gp.replay.length)) : execDebugWrite target value s =
      .next (recordInput (debugApply s false { kind := 6, point := 0, value := value, target := some target }) 6 value (some target)) := by
  have hopen : ¬ ((!gpDebug s) = true) := by simp [hd]
  rcases ht with ⟨k, rfl⟩ | ⟨k, rfl⟩ <;> exact (if_neg hopen).trans (if_neg (by simpa using hroom))

end

/-- A debugger's action in pass 1 leaves the pass and its replay queue as they are. -/
theorem debugApply_pass_replay (s : State) (e : ReplayEntry) :
    (debugApply s false e).gp.pass = s.gp.pass ∧ (debugApply s false e).gp.replay = s.gp.replay := by
  unfold debugApply
  split <;> exact ⟨rfl, rfl⟩

/-! ### The obligation -/

/-- Settles O37: each command is one branch of its meaning, an input is one insertion into the replay queue, and every fault enters Safe. -/
theorem guardWindowsAndCycles : Obligations.GuardWindowsAndCycles := by
  refine ⟨fun s cause retired pc work upsets vec r cycle c e => ⟨fun hp hw => ?closes, fun hrun => ⟨fun hp hr => ?taken, fun hp => ?waits⟩,
    fun hp hw => ⟨execGpWindowCompare_equal hp hw, fun h => ?faulty, fun h hold => ?badHold⟩, fun hp hw ht => ?timeout,
    fun hw => ⟨?probed, ?missed, fun htrig hwait => ?cycle⟩⟩,
    fun s target value v n bp => ⟨fun hd hh hp hbp => ?halts, fun hd hh => ⟨fun hp => ?steps, ?resumes⟩,
      fun hd => ⟨execDebugRead_shows hd, execDebugWrite_breakpoint hd n value, fun ht => ⟨fun hp hr => ?writes, fun hp => ?later⟩⟩⟩⟩
  case closes => exact if_pos ⟨hp, hw⟩
  case taken =>
    obtain ⟨point, hpoint, htaken⟩ := recordInput_taken (kind := 0) (value := vec) (target := none) hp hr
    exact ⟨_, point, (if_pos hrun).trans (congrArg Host.Outcome.next htaken), hpoint, mem_insertByPoint .., length_insertByPoint ..⟩
  case waits => exact (if_pos hrun).trans (congrArg Host.Outcome.next (recordInput_waits hp))
  case faulty => exact ⟨_, execGpWindowCompare_faulty hp hw h, rfl, gpFault_state ..⟩
  case badHold => exact ⟨_, execGpWindowCompare_badHold hp hw h hold, rfl, gpFault_state ..⟩
  case timeout =>
    obtain ⟨a, b, hfault⟩ := execGpPassTimeout_faults hp hw ht
    exact ⟨_, a, b, hfault, rfl, gpFault_state ..⟩
  case probed => exact if_pos hw
  case missed => exact ⟨_, if_pos hw, rfl, gpFault_state ..⟩
  case cycle => exact (if_pos ⟨hw, by rw [htrig]; rfl⟩).trans (congrArg Host.Outcome.next (startGpCycle_adds hwait))
  case halts =>
    have hplace : (!bp) = true ∨ (!(gpOpen s).gp.breakpoints.isEmpty) = true := by
      cases bp with
      | false => exact .inl rfl
      | true => exact .inr (by simpa using hbp rfl)
    exact if_pos ⟨hd, by rw [hh]; rfl, hp, hplace⟩
  case steps => exact if_pos ⟨hd, hh, hp⟩
  case resumes => exact if_pos ⟨hd, hh⟩
  case writes =>
    obtain ⟨hpass, hreplay⟩ := debugApply_pass_replay s { kind := 6, point := 0, value := value, target := some target }
    obtain ⟨point, hpoint, htaken⟩ := recordInput_taken (kind := 6) (value := value) (target := some target) (hpass.trans hp) (hreplay ▸ hr)
    have hacts := execDebugWrite_acts hd value ht (fun h => Nat.not_lt.2 h.2 hr)
    exact ⟨_, point, hacts.trans (congrArg Host.Outcome.next htaken), hpoint, mem_insertByPoint .., rfl, rfl⟩
  case later =>
    obtain ⟨hpass, _⟩ := debugApply_pass_replay s { kind := 6, point := 0, value := value, target := some target }
    have hacts := execDebugWrite_acts hd value ht (fun h => hp h.1)
    exact hacts.trans (congrArg Host.Outcome.next (recordInput_waits fun h => hp (hpass.symm.trans h)))

end Sys2Proof.Machine
end

section
/-! PROOFS. What every command keeps (R537, R538, R540): the queue of waiting commands, the fuses, and the form of the values in force. Each
command is its operations, and each operation has its law; here the laws are put together along the branches of the commands. -/

namespace Sys2Proof.Machine

/-- Where an outcome is a next state, the queue is the same in it, no fuse is taken back and the values in force stay canonical. -/
def Soundly (s : State) : Host.Outcome State Fault Refusal → Prop
  | .next t => Sound (kept s) (kept t)
  | _ => True

@[simp] theorem soundly_next (s t : State) : Soundly s (.next t) ↔ Sound (kept s) (kept t) := Iff.rfl

@[simp] theorem soundly_refused (s : State) (r : Refusal) : Soundly s (.refused r) := trivial

@[simp] theorem soundly_ite (s : State) (c : Prop) [Decidable c] (a b : Host.Outcome State Fault Refusal) :
    Soundly s (if c then a else b) ↔ (c → Soundly s a) ∧ (¬ c → Soundly s b) := by split <;> simp_all

theorem command_sound {s : State} {ses : SessionNo} {idx sub : Nat} {v : Bytes} {act : State → State × Nat} (h : Sound (kept s) (kept (act s).1)) :
    Sound (kept s) (kept (command s ses idx sub v act)) := command_keeps (Sound (kept s)) _ _ _ _ _ _ (Sound.refl _) h

theorem request_sound {s : State} {ses : SessionNo} {code : Nat} {act : State → State} (h : ∀ t, Sound (kept t) (kept (act t))) :
    Sound (kept s) (kept (request s ses code act)) := request_keeps (Sound (kept s)) _ _ _ _ (Sound.refl _) (fun t ht => ht ▸ h t)

theorem sessionWrite_sound (s : State) (ses : SessionNo) (idx sub : BitVec 16) (v : Bytes) : Soundly s (sessionWrite s ses idx sub v) := by
  simp [sessionWrite, answerWrite_sound]

@[simp] theorem failUnderLock_kept (s : State) (x : BridgeTx) : kept (failUnderLock s x) = kept s := by
  unfold failUnderLock
  split <;> simp

/-! ### States, sessions and change sets (chapters 01, 02 and 17) -/

@[simp] theorem execStartPhaseComplete_sound (report) (s : State) : Soundly s (execStartPhaseComplete report s) := by
  simp [execStartPhaseComplete, coldPhase_sound]

@[simp] theorem execDeepSleepStartPhaseComplete_sound (report) (s : State) : Soundly s (execDeepSleepStartPhaseComplete report s) := by
  simp [execDeepSleepStartPhaseComplete, warmPhase_sound]

@[simp] theorem execRequestRestart_sound (ses straps) (s : State) : Soundly s (execRequestRestart ses straps s) :=
  request_sound (by simp)

@[simp] theorem execRequestCommissioning_sound (ses) (s : State) : Soundly s (execRequestCommissioning ses s) :=
  request_sound (by simp)

@[simp] theorem execRequestNormal_sound (ses) (s : State) : Soundly s (execRequestNormal ses s) := by
  simp only [execRequestNormal]
  repeat' split
  case h_2 => simpa using requestWrite_keeps (Sound (kept s)) _ _ _ _ (Sound.refl _) (requestNormal_sound s)
  all_goals simp

@[simp] theorem execRequestTest_sound (ses) (s : State) : Soundly s (execRequestTest ses s) :=
  request_sound (by simp)

@[simp] theorem execRequestRecovery_sound (ses straps) (s : State) : Soundly s (execRequestRecovery ses straps s) :=
  request_sound (by simp)

@[simp] theorem execRequestSafe_sound (ses) (s : State) : Soundly s (execRequestSafe ses s) :=
  request_sound (by simp)

@[simp] theorem execObjectWrite_sound (ses index sub value) (s : State) : Soundly s (execObjectWrite ses index sub value s) :=
  sessionWrite_sound ..

@[simp] theorem execCounterClear_sound (ses index sub value) (s : State) : Soundly s (execCounterClear ses index sub value s) :=
  sessionWrite_sound ..

@[simp] theorem execCounterLatch_sound (ses index value) (s : State) : Soundly s (execCounterLatch ses index value s) :=
  sessionWrite_sound ..

@[simp] theorem execDtlsHandshakeComplete_sound (cred) (s : State) : Soundly s (execDtlsHandshakeComplete cred s) := by
  simp only [execDtlsHandshakeComplete]
  repeat' split
  all_goals simp

@[simp] theorem execMosWrite_sound (slot msg index sub offset last data) (s : State) : Soundly s (execMosWrite slot msg index sub offset last data s) := by
  simp only [execMosWrite, soundly_ite, soundly_refused, soundly_next, implies_true, true_and]
  refine fun _ => mosRequest_keeps (Sound (kept s)) _ _ _ _ _ _ _ _ _ (Sound.refl _) fun t dest ht => ?_
  have hw := segmentWrite_sound t (mosSession slot) dest index.toNat sub.toNat offset.toNat last data
  rw [← ht]
  repeat' split
  all_goals simp_all

@[simp] theorem execMosEventAck_sound (slot ack) (s : State) : Soundly s (execMosEventAck slot ack s) := by
  simp only [execMosEventAck]
  repeat' split
  all_goals simp

@[simp] theorem execMosEventDelivery_sound (slot) (s : State) : Soundly s (execMosEventDelivery slot s) := by
  simp only [execMosEventDelivery]
  repeat' split
  all_goals simp

@[simp] theorem execMosEventResend_sound (slot) (s : State) : Soundly s (execMosEventResend slot s) := by
  simp only [execMosEventResend]
  repeat' split
  all_goals simp

@[simp] theorem execSdoRequest_sound (cn req) (s : State) : Soundly s (execSdoRequest cn req s) := by
  simp only [execSdoRequest]
  repeat' split
  all_goals simp [sdoServe_sound]

@[simp] theorem execSdoSegmentTimeout_sound (cn) (s : State) : Soundly s (execSdoSegmentTimeout cn s) := by
  simp only [execSdoSegmentTimeout]
  repeat' split
  all_goals simp

@[simp] theorem execCsValidationComplete_sound (lost) (s : State) : Soundly s (execCsValidationComplete lost s) := by
  simp only [execCsValidationComplete]
  repeat' split
  case h_2 => exact .trans (.same (by simp)) (csPassed_config _ _ _ _).sound
  all_goals simp

@[simp] theorem execCsApplyTimeDue_sound (s : State) : Soundly s (execCsApplyTimeDue s) := by
  simp only [execCsApplyTimeDue]
  repeat' split
  all_goals simp [(armedDue_config s).sound]

@[simp] theorem execEmcyInhibitExpiry_sound (cn) (s : State) : Soundly s (execEmcyInhibitExpiry cn s) := by
  simp only [execEmcyInhibitExpiry]
  repeat' split
  all_goals simp

@[simp] theorem execHeartbeatTimer_sound (s : State) : Soundly s (execHeartbeatTimer s) := by
  simp only [execHeartbeatTimer]
  repeat' split
  all_goals simp

/-! ### Frames (chapters 03 to 06) -/

@[simp] theorem execFrameEndReceived_sound (port rest aborted) (s : State) : Soundly s (execFrameEndReceived port rest aborted s) := by
  simp only [execFrameEndReceived]
  repeat' split
  all_goals simp

@[simp] theorem execCellTest_sound (col probe) (s : State) : Soundly s (execCellTest col probe s) := by
  simp only [execCellTest]
  repeat' split
  all_goals simp

@[simp] theorem execBankDrainTimeout_sound (col) (s : State) : Soundly s (execBankDrainTimeout col s) := by
  simp only [execBankDrainTimeout]
  repeat' split
  all_goals simp

@[simp] theorem execMoveLockExpiry_sound (pos) (s : State) : Soundly s (execMoveLockExpiry pos s) := by
  simp only [execMoveLockExpiry]
  repeat' split
  all_goals simp

@[simp] theorem execStreamGateEntryStart_sound (gate) (s : State) : Soundly s (execStreamGateEntryStart gate s) := by
  simp only [execStreamGateEntryStart]
  repeat' split
  all_goals simp

@[simp] theorem execGateListEntryStart_sound (port) (s : State) : Soundly s (execGateListEntryStart port s) := by
  simp only [execGateListEntryStart]
  repeat' split
  all_goals simp

@[simp] theorem execGateListSwap_sound (port) (s : State) : Soundly s (execGateListSwap port s) := by
  simp only [execGateListSwap]
  repeat' split
  all_goals simp

@[simp] theorem execFirstPacketEvaluation_sound (dataLost) (s : State) : Soundly s (execFirstPacketEvaluation dataLost s) := by
  simp only [execFirstPacketEvaluation]
  repeat' split
  all_goals simp

@[simp] theorem execFlowAgeingScan_sound (s : State) : Soundly s (execFlowAgeingScan s) := by
  simp only [execFlowAgeingScan]
  repeat' split
  all_goals simp

@[simp] theorem execRuleSweepStep_sound (s : State) : Soundly s (execRuleSweepStep s) := by
  simp only [execRuleSweepStep]
  repeat' split
  all_goals simp

/-! ### Time and the legacy buses (chapters 07 and 08) -/

@[simp] theorem execPtpSyncReceived_sound (inst port origin stamp) (s : State) : Soundly s (execPtpSyncReceived inst port origin stamp s) := by
  simp only [execPtpSyncReceived]
  repeat' split
  case isFalse.isTrue => exact .trans (.same (by simp)) (servo_config _ _).sound
  all_goals simp

@[simp] theorem execPtpMessageReceived_sound (inst port msg) (s : State) : Soundly s (execPtpMessageReceived inst port msg s) := by
  simp only [execPtpMessageReceived]
  repeat' split
  all_goals simp

@[simp] theorem execPtpMessageInterval_sound (inst port due) (s : State) : Soundly s (execPtpMessageInterval inst port due s) := by
  simp only [execPtpMessageInterval]
  repeat' split
  all_goals simp

@[simp] theorem execSourceInstanceChange_sound (s : State) : Soundly s (execSourceInstanceChange s) := by
  simp only [execSourceInstanceChange]
  repeat' split
  all_goals simp

@[simp] theorem execHoldoverLimitExpiry_sound (s : State) : Soundly s (execHoldoverLimitExpiry s) := by
  simp only [execHoldoverLimitExpiry]
  repeat' split
  all_goals simp

@[simp] theorem execSetTime_sound (ses value) (s : State) : Soundly s (execSetTime ses value s) :=
  command_sound (setTimeWrite_config s value).sound

@[simp] theorem execTriggerOccurrence_sound (hit) (s : State) : Soundly s (execTriggerOccurrence hit s) := by
  simp only [execTriggerOccurrence]
  repeat' split
  all_goals simp

@[simp] theorem execTpoProgramPulse_sound (pin) (s : State) : Soundly s (execTpoProgramPulse pin s) := by
  simp only [execTpoProgramPulse]
  repeat' split
  all_goals simp

@[simp] theorem execEngineHandover_sound (bus) (s : State) : Soundly s (execEngineHandover bus s) := by
  simp only [execEngineHandover]
  repeat' split
  all_goals simp

@[simp] theorem execCanSlotGridPoint_sound (cn slot) (s : State) : Soundly s (execCanSlotGridPoint cn slot s) := by
  simp only [execCanSlotGridPoint]
  repeat' split
  all_goals simp

@[simp] theorem execSerialIdleGap_sound (sp gap) (s : State) : Soundly s (execSerialIdleGap sp gap s) := by
  simp only [execSerialIdleGap]
  repeat' split
  all_goals simp

@[simp] theorem execSerialTransmit_sound (sp echo) (s : State) : Soundly s (execSerialTransmit sp echo s) := by
  simp only [execSerialTransmit]
  repeat' split
  all_goals simp

@[simp] theorem execModbusFrameEnd_sound (sp) (s : State) : Soundly s (execModbusFrameEnd sp s) := by
  simp only [execModbusFrameEnd]
  repeat' split
  all_goals simp

@[simp] theorem execModbusResponseTimeout_sound (sp) (s : State) : Soundly s (execModbusResponseTimeout sp s) := by
  simp only [execModbusResponseTimeout]
  repeat' split
  all_goals simp

@[simp] theorem execMvbMasterFrame_sound (sp fcode address collision) (s : State) : Soundly s (execMvbMasterFrame sp fcode address collision s) := by
  simp only [execMvbMasterFrame]
  repeat' split
  all_goals simp

/-! ### Gateway, bridge and audio (chapters 09 and 10) -/

@[simp] theorem execGatewayRouteMessage_sound (s : State) : Soundly s (execGatewayRouteMessage s) := by
  simp only [execGatewayRouteMessage]
  repeat' split
  all_goals simp

@[simp] theorem execGatewayDestinationDelivery_sound (s : State) : Soundly s (execGatewayDestinationDelivery s) := by
  simp only [execGatewayDestinationDelivery]
  repeat' split
  all_goals simp

@[simp] theorem execSourceTimeoutExpiry_sound (entry) (s : State) : Soundly s (execSourceTimeoutExpiry entry s) := by
  simp only [execSourceTimeoutExpiry]
  repeat' split
  all_goals simp

@[simp] theorem execModbusPollGridPoint_sound (poll) (s : State) : Soundly s (execModbusPollGridPoint poll s) := by
  simp only [execModbusPollGridPoint]
  repeat' split
  all_goals simp

@[simp] theorem execBridgeHeldRead_sound (offset length) (s : State) : Soundly s (execBridgeHeldRead offset length s) := by
  simp only [execBridgeHeldRead]
  repeat' split
  all_goals simp

@[simp] theorem execBridgePostedWrite_sound (offset data) (s : State) : Soundly s (execBridgePostedWrite offset data s) := by
  simp only [execBridgePostedWrite]
  repeat' split
  all_goals simp

@[simp] theorem execBridgeReadBoundExpiry_sound (tag) (s : State) : Soundly s (execBridgeReadBoundExpiry tag s) := by
  simp only [execBridgeReadBoundExpiry]
  repeat' split
  all_goals simp

@[simp] theorem execBridgeAbandonedTimeout_sound (tag) (s : State) : Soundly s (execBridgeAbandonedTimeout tag s) := by
  simp only [execBridgeAbandonedTimeout]
  repeat' split
  all_goals simp

@[simp] theorem execBridgeLockGrant_sound (s : State) : Soundly s (execBridgeLockGrant s) := by
  simp only [execBridgeLockGrant]
  repeat' split
  all_goals simp

@[simp] theorem execBridgeLockExpiry_sound (s : State) : Soundly s (execBridgeLockExpiry s) := by
  cases hl : s.br.lock with
  | held page target tag => simp [bridgeLockExpiry_held hl]
  | _ => simp [execBridgeLockExpiry, hl]

@[simp] theorem execBridgeStatusPoll_sound (poll) (s : State) : Soundly s (execBridgeStatusPoll poll s) := by
  simp only [execBridgeStatusPoll]
  repeat' split
  all_goals simp

@[simp] theorem execAlertingTimeout_sound (ref) (s : State) : Soundly s (execAlertingTimeout ref s) := by
  simp only [execAlertingTimeout]
  repeat' split
  all_goals simp

@[simp] theorem execCallQueueTimeout_sound (ref) (s : State) : Soundly s (execCallQueueTimeout ref s) := by
  simp only [execCallQueueTimeout]
  repeat' split
  all_goals simp

/-! ### Position, battery and sleep (chapters 11 and 12) -/

@[simp] theorem execOdometryEdge_sound (channel edge) (s : State) : Soundly s (execOdometryEdge channel edge s) := by
  have hcount := compareTargets_config applyAtEvent (countEdge s channel.val edge).1 (s.now - BitVec.ofNat 32 (100 * s.val (0x4C10 + channel.val) 3)) []
    applyAtEvent_config
  rw [countEdge_kept] at hcount
  simp only [execOdometryEdge, soundly_ite, soundly_next, kept_ite, countEdge_kept]
  refine ⟨fun _ => Sound.refl _, fun _ => ?_⟩
  split
  · exact hcount.sound
  · exact Sound.refl _

@[simp] theorem execCrossCheckWindowEnd_sound (s : State) : Soundly s (execCrossCheckWindowEnd s) := by
  simp only [execCrossCheckWindowEnd, soundly_ite, soundly_next, kept_ite, raise_kept, ite_self]
  refine ⟨fun _ => Sound.refl _, fun _ => ⟨fun _ => by simp, fun _ => ?_⟩⟩
  split <;> simp

@[simp] theorem execSetDistance_sound (ses value) (s : State) : Soundly s (execSetDistance ses value s) :=
  command_sound (setDistanceWrite_config s value).sound

@[simp] theorem execAdcSequenceComplete_sound (codes) (s : State) : Soundly s (execAdcSequenceComplete codes s) := by
  simp only [execAdcSequenceComplete]
  repeat' split
  all_goals simp

@[simp] theorem execHousekeepingSequence_sound (s : State) : Soundly s (execHousekeepingSequence s) := by
  simp only [execHousekeepingSequence]
  repeat' split
  all_goals simp

@[simp] theorem execLowVoltageTimer_sound (s : State) : Soundly s (execLowVoltageTimer s) := by
  simp only [execLowVoltageTimer]
  repeat' split
  all_goals simp

@[simp] theorem execWakeSourceAccepted_sound (source) (s : State) : Soundly s (execWakeSourceAccepted source s) := by
  simp [execWakeSourceAccepted, acceptSource_sound]

@[simp] theorem execAbortReceived_sound (port frame) (s : State) : Soundly s (execAbortReceived port frame s) := by
  have habort (t : State) : Sound (kept t) (kept (onAbort (reachCommit t) frame.bytes)) := by simpa using reachCommit_sound t
  have htake := ballotTake_kept s port.val frame.bytes 0x24
  simp only [execAbortReceived, soundly_ite, soundly_next, kept_ite, ← htake]
  refine ⟨fun _ => ?_, fun _ => by simp⟩
  split
  · exact habort _
  · exact Sound.refl _

@[simp] theorem execSleepEntry_sound (s : State) : Soundly s (execSleepEntry s) :=
  reachCommit_sound s

@[simp] theorem execSleepEntryComplete_sound (s : State) : Soundly s (execSleepEntryComplete s) := by
  simp only [execSleepEntryComplete, soundly_ite, soundly_next, kept_ite]
  refine ⟨fun _ => ?_, fun _ => Sound.refl _⟩
  split
  · exact (entryDone_config s).sound.trans (wakeUp_sound _)
  · exact (entryDone_config s).sound

/-! ### Guard Processor and Pair (chapters 13 and 14) -/

@[simp] theorem execGpPass1Close_sound (cause count work) (s : State) : Soundly s (execGpPass1Close cause count work s) := by
  simp only [execGpPass1Close]
  repeat' split
  all_goals simp

@[simp] theorem execGpWindowCompare_sound (pass2) (s : State) : Soundly s (execGpWindowCompare pass2 s) := by
  simp only [execGpWindowCompare]
  repeat' split
  all_goals simp

@[simp] theorem execDebugRead_sound (target) (s : State) : Soundly s (execDebugRead target s) := by
  simp only [execDebugRead]
  repeat' split
  all_goals simp

@[simp] theorem execDebugWrite_sound (target value) (s : State) : Soundly s (execDebugWrite target value s) := by
  simp only [execDebugWrite]
  repeat' split
  all_goals simp

@[simp] theorem execPresenceFrameReceived_sound (port hdr preferred) (s : State) : Soundly s (execPresenceFrameReceived port hdr preferred s) := by
  simp only [execPresenceFrameReceived]
  repeat' split
  all_goals simp

@[simp] theorem execPairCycleStart_sound (s : State) : Soundly s (execPairCycleStart s) := by
  simp only [execPairCycleStart]
  repeat' split
  all_goals simp

@[simp] theorem execDigestFrameReceived_sound (port hdr digest) (s : State) : Soundly s (execDigestFrameReceived port hdr digest s) := by
  simp only [execDigestFrameReceived]
  repeat' split
  all_goals simp

@[simp] theorem execCycleJudgement_sound (s : State) : Soundly s (execCycleJudgement s) := by
  simp only [execCycleJudgement]
  repeat' split
  all_goals simp

@[simp] theorem execCapsuleSegmentReceived_sound (port hdr seg) (s : State) : Soundly s (execCapsuleSegmentReceived port hdr seg s) := by
  simp only [execCapsuleSegmentReceived]
  repeat' split
  all_goals simp

@[simp] theorem execCapsuleAcceptTimeout_sound (s : State) : Soundly s (execCapsuleAcceptTimeout s) := by
  simp only [execCapsuleAcceptTimeout]
  repeat' split
  all_goals simp

@[simp] theorem execHandoverInstant_sound (s : State) : Soundly s (execHandoverInstant s) := by
  simp only [execHandoverInstant]
  repeat' split
  all_goals simp

@[simp] theorem execHandoverCapsuleTimeout_sound (s : State) : Soundly s (execHandoverCapsuleTimeout s) := by
  simp only [execHandoverCapsuleTimeout]
  repeat' split
  all_goals simp

/-! ### Memory, wear, update, host and package (chapters 15 to 20) -/

@[simp] theorem execScrubStep_sound (errors) (s : State) : Soundly s (execScrubStep errors s) := by
  simp only [execScrubStep]
  repeat' split
  all_goals simp

@[simp] theorem execJournalRecordWrite_sound (readBackOk) (s : State) : Soundly s (execJournalRecordWrite readBackOk s) := by
  simp [execJournalRecordWrite, (writeRecord_config s readBackOk).sound]

@[simp] theorem execHealthReportUpdate_sound (s : State) : Soundly s (execHealthReportUpdate s) := by
  simp only [execHealthReportUpdate]
  repeat' split
  all_goals simp

@[simp] theorem execBeginStaging_sound (ses) (s : State) : Soundly s (execBeginStaging ses s) :=
  updCommand_sound ..

@[simp] theorem execStagingEraseComplete_sound (failed) (s : State) : Soundly s (execStagingEraseComplete failed s) := by
  simp only [execStagingEraseComplete]
  repeat' split
  all_goals simp

@[simp] theorem execVerifyImage_sound (ses) (s : State) : Soundly s (execVerifyImage ses s) :=
  updCommand_sound ..

@[simp] theorem execActivateImage_sound (ses) (s : State) : Soundly s (execActivateImage ses s) :=
  updCommand_sound ..

@[simp] theorem execConfirmImage_sound (ses) (s : State) : Soundly s (execConfirmImage ses s) :=
  updCommand_sound ..

@[simp] theorem execDiscardBank_sound (ses) (s : State) : Soundly s (execDiscardBank ses s) :=
  updCommand_sound ..

@[simp] theorem execRevertToPrevious_sound (ses) (s : State) : Soundly s (execRevertToPrevious ses s) :=
  updCommand_sound ..

@[simp] theorem execActivationPausePhaseComplete_sound (report) (s : State) : Soundly s (execActivationPausePhaseComplete report s) := by
  simp [execActivationPausePhaseComplete, pausePhase_sound]

@[simp] theorem execTrialTimeExpiry_sound (s : State) : Soundly s (execTrialTimeExpiry s) := by
  simp only [execTrialTimeExpiry]
  repeat' split
  all_goals simp [confirm_sound]

@[simp] theorem execFieldLockRequest_sound (ses value) (s : State) : Soundly s (execFieldLockRequest ses value s) :=
  command_sound (fieldLockWrite_sound s value.toNat)

@[simp] theorem execMailboxDoorbell_sound (value header window) (s : State) : Soundly s (execMailboxDoorbell value header window s) := by
  simp only [execMailboxDoorbell]
  repeat' split
  case isFalse =>
    rw [soundly_next, hostEdges_kept]
    exact .trans (.same (by simp)) (mailboxRun_sound _)
  all_goals simp

@[simp] theorem execMailboxAnswerReady_sound (s : State) : Soundly s (execMailboxAnswerReady s) := by
  simp only [execMailboxAnswerReady]
  repeat' split
  all_goals simp

@[simp] theorem execHpreqWrite_sound (value) (s : State) : Soundly s (execHpreqWrite value s) := by
  simp only [execHpreqWrite]
  repeat' split
  all_goals simp

@[simp] theorem execRingEnable_sound (change) (s : State) : Soundly s (execRingEnable change s) := by
  simp only [execRingEnable]
  repeat' split
  all_goals simp

@[simp] theorem execRxFrameDelivery_sound (ring buffer reads) (s : State) : Soundly s (execRxFrameDelivery ring buffer reads s) := by
  simp only [execRxFrameDelivery]
  repeat' split
  all_goals simp

@[simp] theorem execSpiWrite_sound (frame) (s : State) : Soundly s (execSpiWrite frame s) := by
  simp only [execSpiWrite, soundly_ite, soundly_refused, soundly_next, implies_true, true_and]
  exact fun _ => spiFrame_keeps (Sound (kept s)) _ _ _ _ _ _ (Sound.refl _) fun t ht => ht ▸ spiWriteAct_sound frame t

@[simp] theorem execSpiRegisterWrite_sound (frame) (s : State) : Soundly s (execSpiRegisterWrite frame s) := by
  simp only [execSpiRegisterWrite]
  repeat' split
  all_goals simp

@[simp] theorem execSpiAnswerReady_sound (s : State) : Soundly s (execSpiAnswerReady s) := by
  simp only [execSpiAnswerReady]
  repeat' split
  all_goals simp

@[simp] theorem execSamplePreload_sound (load pins) (s : State) : Soundly s (execSamplePreload load pins s) := by
  simp only [execSamplePreload]
  repeat' split
  all_goals simp

@[simp] theorem execDebugTokenCheckComplete_sound (s : State) : Soundly s (execDebugTokenCheckComplete s) := by
  simp only [execDebugTokenCheckComplete]
  repeat' split
  all_goals simp

/-! ### Every command -/

/-- A command that looks at data has its lemma above; every other one is a single operation, or one of several by a condition. -/
theorem exec_sound (c : Instr) (s : State) : Soundly s (exec c s) := by
  cases c
  all_goals simp [exec,
    execPowerOnResetRelease, execPowerOnResetRearm, execResetNPulse, execWatchdogExpiry, execRequestSleepState, execSafeAutoRestart,
    execResignFrameRepeat, execObjectRead, execDtlsClose, execMosIdleTimeout, execMosRead, execMosSubscribe, execMosKeepalive,
    execDomPartialTimeout, execVendorChallengeRead, execVendorResponseWrite, execCsApplyNow, execCsArmTime, execCsArmPosition,
    execCsDiscardPending, execCsCancelArmed, execCsValidateOnly, execChangeSetFileWrite, execEventRecordRead, execEventReadPositionWrite,
    execFrameHeadReceived, execLookupVerdict, execTransmissionSelection, execFrameTransmitEnd, execLinkUp, execLinkDown,
    execForwardingAgeingScan, execFlushAllLearned, execFlushPortLearned, execFlushFidLearned, execReopenGate, execClearAllRed,
    execRecoveryResetTimeout, execLatentErrorCheck, execPrpEntryForget, execPreemptionVerifyTimer, execRespondMpacketReceived,
    execVerifyMpacketReceived, execFragmentEntryExpiry, execFlowFlushAll, execFlowFlushPair, execFlowFlushDenied, execZoneLogRecordRead,
    execZoneLogPositionWrite, execSyncReceiptTimeout, execPrimaryRevert, execEpochAnchorWrite, execPreviousAnchorClear, execConverterPulseEnd,
    execTpoPulseEnd, execTpoProgramWrite, execTpoLowPeriodEnd, execTpiEdgeCapture, execCaptureRead, execCanFrameReceived, execCanFrameSent,
    execBusOffHoldoffExpiry, execBusOffRecoveryComplete, execCanRecoverCommand, execCanPortReconfigure, execSerialCharacterReceived,
    execMvbSlaveFrame, execSinkTimeLimitExpiry, execLatestValueGridPoint, execGatewayDatagramReceived, execBridgeFarCompletion,
    execBridgeLockRequest, execBridgeLockRelease, execBridgeCacheExpiry, execLateFaultRead, execStrandedReadRead, execAudioBlock,
    execInputStreamFrame, execStreamLossTimeout, execAmbientMeasureWindow, execCallRequest, execCallAnswer, execCallEnd, execPlayerStartClip,
    execPlayerStop, execQuadratureError, execD64Extension, execDistanceChargeJournal, execSetDoorSide, execEnergyBudgetEvaluation,
    execChargeRecalibration, execSetCharge, execWakeLevelEnd, execQuarantineEnd, execQuarantineClear, execPhyReleaseStagger,
    execIdleTimeProposal, execPropose, execProposalReceived, execVoteReceived, execCommitReceived, execVoteWindowExpiry, execCommitResend,
    execCommitMissing, execKeepAwake, execKeepAwakeExpiry, execWakeHoldExpiry, execSegmentWakeRequest, execSegmentSleepRequest,
    execSegmentEndIsolation, execTsSegmentEnergy, execLeaseExpiry, execDrainQuietComplete, execSegmentOverrun, execGpInterrupt,
    execGpPassTimeout, execComparatorProbe, execGpCycle, execDebugHalt, execDebugSingleStep, execDebugResume, execDiscoveryTimeout,
    execPairCycleEnd, execNoCapsuleAccepted, execResignFrameReceived, execHealthFrameSend, execHealthFrameReceived, execPeerLostTimeout,
    execReturnHoldOffExpiry, execSwap, execClaimRequestReceived, execClaimFrameReceived, execPageCountsDailyAppend, execPoolRequest,
    execPoolFree, execPoolGive, execMisuseRecordRead, execCvuConfigWrite, execCvuStart, execCvuClaim, execCvuRelease, execCvuFeedByte,
    execCvuFeedHalfWord, execCvuFeedWord, execJournalCompactionComplete, execHoursPoweredAppend, execInclusionRead, execImagePartWrite,
    execActivationHandoverTimeout, execRecoveryTargetWrite, execHstsClear, execInterfaceReset, execHpfreeWrite, execHpgiveWrite, execHpadatRead,
    execHpadatWrite, execRtailWrite, execRingReset, execTxDescriptorProcess, execInterruptModerationExpiry, execPcieLinkUp, execPcieLinkDown,
    execPciePowerStateChange, execSpiStatus, execSpiRead, execSpiFetchAnswer, execSpiRegisterRead, execSpiTargetReset, execExtest, execIdcode,
    execClamp, execHighz, execDbgchal, execDbgtoken, execDbgstat, execDbgacc, execBypass]

theorem Sound.of_exec {c : Instr} {s t : State} (h : exec c s = .next t) : Sound (kept s) (kept t) := by
  have hs := exec_sound c s
  rwa [h] at hs

/-- Settles O50: the queue is the first thing that every command keeps. -/
theorem commandsLeaveTheQueue : Obligations.CommandsLeaveTheQueue := by
  intro c s t h
  obtain ⟨hqueue, -, -, -⟩ := Sound.of_exec h
  exact hqueue

/-- Settles O54: no command takes a fuse back. -/
theorem fusesAreNeverTakenBack : Obligations.FusesAreNeverTakenBack := by
  intro c s t h
  obtain ⟨-, -, hcounter, hlock⟩ := Sound.of_exec h
  exact ⟨hlock, hcounter⟩

end Sys2Proof.Machine
end

section
/-! PROOFS. The step of the queue, and the Gateway Pair (R450 to R469): roles, cycles, digests, capsules and handovers. A command whose frame
is checked first (R450) is one branch on what the check says and on the role. -/

namespace Sys2Proof.Machine

/-- Settles O1: the front of the queue is the branch of the step that takes it. -/
theorem stepRunsFrontCommand : Obligations.StepRunsFrontCommand := by
  intro c rest s h
  simp only [step, h]

/-! ### Roles and cycles -/

section
variable {s : State}

theorem discoveryTimeout_due (ha : pairActs s = true) (hr : s.pair.role = .discovering) (ht : s.pair.roleAt + 300000000 ≤ s.time.mono) :
    execDiscoveryTimeout s = if s.pair.yielded = true then .next { s with pair := { s.pair with yielded := false, roleAt := s.time.mono } }
      else .next (setRole s .active 4) := if_pos ⟨ha, hr, ht⟩

/-- The state with a new cycle begun (R458): its point noted, its digest empty where the last one's has been taken. -/
def beginCycle (s : State) : State :=
  { s with pair := { s.pair with
    cycleStart := cyclePoint s, own := if s.pair.ownDone.any (fun e => e.1 == s.pair.cycleStart) then s.pair.own else Digest.zero } }

theorem pairCycleStart_passive (ha : pairActs s = true) (hr : s.pair.role ≠ .active) :
    execPairCycleStart s = .next (sendPair (beginCycle s) 0 0x33 (be 1 ((beginCycle s).val 0x2A00 3))) := by
  cases hc : s.pair.role with
  | active => exact absurd hc hr
  | _ => simp [execPairCycleStart, ha, hc, beginCycle]

theorem pairCycleStart_active (ha : pairActs s = true) (hr : s.pair.role = .active) (hd : s.pair.deferred = none)
    (hi : s.time.tx / 1000000 % 100 ≠ 0) : execPairCycleStart s = .next (beginCycle s) := by
  simp [execPairCycleStart, ha, hr, hd, hi, beginCycle]

/-- The state with the cycle's digest kept among the last four (R460). -/
def endCycle (s : State) : State :=
  let done := s.pair.ownDone.filter (fun e => e.1 != s.pair.cycleStart) ++ [(s.pair.cycleStart, s.pair.own)]
  { s with pair := { s.pair with ownDone := done.drop (done.length - 4), own := Digest.zero } }

/-- The body of a digest frame on a plane (R460). -/
def digestBody (s : State) (plane : Nat) : Bytes :=
  be 4 s.pair.cycleStart.toNat ++ be 4 s.pair.own.count.toNat ++ be 4 s.pair.own.sum.toNat ++ be 4 s.pair.own.xor.toNat ++
    be 2 s.pair.capsuleSeq.toNat ++ be 1 plane ++ zeros 1

theorem pairCycleEnd_acts (ha : pairActs s = true) : execPairCycleEnd s = if s.pair.role = .active then
      .next (sendPair (sendPair (endCycle s) 1 0x31 (digestBody s 0)) 2 0x31 (digestBody s 1)) else .next (endCycle s) := by
  simp only [execPairCycleEnd, ha]
  rfl

theorem healthFrameSend_standby (ha : pairActs s = true) (hr : s.pair.role = .standby) :
    execHealthFrameSend s = .next (sendPair s 0 0x34 (be 4 (healthFlags s) ++ be 1 (lowestMargin s) ++ zeros 3)) := if_pos ⟨ha, hr⟩

theorem peerLostTimeout_silent (ha : pairActs s = true) (hr : s.pair.role = .active) (hl : s.pair.peerLost = false)
    (ht : max s.pair.roleAt (s.pair.peerAt.getD 0) + 3000000000 ≤ s.time.mono) : execPeerLostTimeout s =
      .next (raise { s with pair := { s.pair with peerLost := true } } 0x2A05 3 0xFF (be 1 s.pair.peerRole)) :=
  if_pos ⟨ha, hr, by rw [hl]; rfl, ht⟩

end

/-! ### Received frames -/

section
variable {s : State} (port : Fin 38) (h : PairHeader)

/-- Between Discovering devices, this one takes Active (R452): it alone is preferred, or both are alike and its unit ID is the lower. -/
def Precedes (t : State) (h : PairHeader) (preferred : Bool) : Prop :=
  (t.on 0x2A00 3 = true ∧ preferred = false) ∨ (t.on 0x2A00 3 = preferred ∧ Config.unitId.toNat < beAt h.bytes 4 8)

theorem presence_ignored (preferred : Bool) (hf : (pairTake s h 0x33 0).2 = false) :
    execPresenceFrameReceived port h preferred s = .next (pairTake s h 0x33 0).1 := by
  simp [execPresenceFrameReceived, hf]

theorem presence_discovering (preferred : Bool) (ht : (pairTake s h 0x33 0).2 = true) (hr : (pairTake s h 0x33 0).1.pair.role = .discovering) :
    let t := (pairTake s h 0x33 0).1
    (Precedes t h preferred → execPresenceFrameReceived port h preferred s = .next (setRole t .active 4)) ∧
    (¬ Precedes t h preferred → execPresenceFrameReceived port h preferred s = .next { t with pair := { t.pair with yielded := true } }) := by
  intro t
  have hcond : ((t.on 0x2A00 3 && !preferred) || (t.on 0x2A00 3 == preferred && decide (Config.unitId.toNat < beAt h.bytes 4 8))) = true ↔
      Precedes t h preferred := by
    rw [Precedes, Bool.or_eq_true, Bool.and_eq_true, Bool.and_eq_true, Bool.not_eq_true', beq_iff_eq, decide_eq_true_iff]
  simp only [execPresenceFrameReceived, ht, hr, Bool.not_true, Bool.false_eq_true, if_false]
  exact ⟨fun hp => if_pos (hcond.2 hp), fun hp => (if_neg (mt hcond.1 hp)).trans (by simp only [t, hr])⟩

theorem presence_active (preferred : Bool) (ht : (pairTake s h 0x33 0).2 = true) (hr : (pairTake s h 0x33 0).1.pair.role = .active) :
    let t := (pairTake s h 0x33 0).1
    execPresenceFrameReceived port h preferred s =
      .next (emcyCleared t { t with pair := { t.pair with peerLost := false, peerAt := some t.time.mono, peerRole := max 2 t.pair.peerRole } }) := by
  simp [execPresenceFrameReceived, ht, hr]

theorem resign_ignored (cause : BitVec 8) (hf : (pairTake s h 0x32 cause.toNat).2 = false) :
    execResignFrameReceived port h cause s = .next (pairTake s h 0x32 cause.toNat).1 := if_neg (by simp [hf])

theorem resign_standby (cause : BitVec 8) (ht : (pairTake s h 0x32 cause.toNat).2 = true)
    (hr : (pairTake s h 0x32 cause.toNat).1.pair.role = .standby)
    (he : (pairTake s h 0x32 cause.toNat).1.pair.epoch.toNat ≤ beAt h.bytes 12 4) :
    execResignFrameReceived port h cause s = .next (takeover (pairTake s h 0x32 cause.toNat).1 1) := if_pos ⟨ht, hr, he⟩

theorem health_ignored (flags : BitVec 32) (margin : BitVec 8) (hf : (pairTake s h 0x34 0).2 = false) :
    execHealthFrameReceived port h flags margin s = .next (pairTake s h 0x34 0).1 := if_neg (by simp [hf])

theorem health_active (flags : BitVec 32) (margin : BitVec 8) (ht : (pairTake s h 0x34 0).2 = true)
    (hr : (pairTake s h 0x34 0).1.pair.role = .active) :
    let t := (pairTake s h 0x34 0).1
    execHealthFrameReceived port h flags margin s = .next (emcyCleared t { t with pair := { t.pair with
      peerHealth := flags, peerMargin := margin, healthAt := some t.time.mono, peerAt := some t.time.mono, peerRole := 3, peerLost := false } }) :=
  if_pos ⟨ht, hr⟩

end

/-- Settles O38: each command is one branch by the role, of a received frame after its check. -/
theorem pairRolesAndPresence : Obligations.PairRolesAndPresence := by
  intro s port h preferred flags margin cause
  refine ⟨fun ha => ⟨fun hr ht => ⟨fun hy => ?listens, fun hy => ?again⟩, ⟨pairCycleStart_passive ha, pairCycleStart_active ha⟩,
      ⟨fun hr => ?ends, fun hr => ⟨digestBody s, ?sends, fun _ => rfl⟩⟩, healthFrameSend_standby ha, peerLostTimeout_silent ha⟩,
    ⟨presence_ignored port h preferred, fun ht hr => presence_discovering port h preferred ht hr, presence_active port h preferred⟩,
    ⟨resign_ignored port h cause, resign_standby port h cause⟩, health_ignored port h flags margin, health_active port h flags margin⟩
  case listens => exact (discoveryTimeout_due ha hr ht).trans (if_neg (by simp [hy]))
  case again => exact (discoveryTimeout_due ha hr ht).trans (if_pos hy)
  case ends => exact (pairCycleEnd_acts ha).trans (if_neg hr)
  case sends => exact (pairCycleEnd_acts ha).trans (if_pos hr)

/-! ### Digests -/

section
variable {s : State} (port : Fin 38) (h : PairHeader) (d : DigestBody)

/-- The plane that a digest frame came on: its port's, or the one its body names (R460). -/
def digestPlane (s : State) (port : Fin 38) (d : DigestBody) : Nat :=
  if planeOf s port.val = 0 then byteAt d.bytes 18 else planeOf s port.val - 1

/-- What a digest frame carries: the cycle, the plane and the digest (R460). -/
def digestEntry (plane : Nat) (d : DigestBody) : BitVec 32 × Nat × Digest :=
  (BitVec.ofNat 32 (beAt d.bytes 0 4), plane,
    { count := BitVec.ofNat 32 (beAt d.bytes 4 4), sum := BitVec.ofNat 32 (beAt d.bytes 8 4), xor := BitVec.ofNat 32 (beAt d.bytes 12 4) })

/-- A digest is kept as the newest of at most 32 (R461). -/
def keepDigest (t : State) (e : BitVec 32 × Nat × Digest) : State :=
  { t with pair := { t.pair with digests := (t.pair.digests ++ [e]).drop (t.pair.digests.length + 1 - 32), heard := true } }

theorem digest_ignored {t : State} (hp : pairTake s h 0x31 (digestPlane s port d) = (t, false)) :
    execDigestFrameReceived port h d s = .next t := by
  unfold digestPlane at hp
  simp [execDigestFrameReceived, hp]

theorem digest_active {t : State} (hp : pairTake s h 0x31 (digestPlane s port d) = (t, true)) (hr : t.pair.role = .active) :
    execDigestFrameReceived port h d s = .next (roleConflict t h) := by
  unfold digestPlane at hp
  simp [execDigestFrameReceived, hp, hr]

theorem digest_kept {t : State} (hp : pairTake s h 0x31 (digestPlane s port d) = (t, true)) (hr : t.pair.role ≠ .active) :
    let kept := keepDigest t (digestEntry (digestPlane s port d) d)
    execDigestFrameReceived port h d s = .next (if t.pair.role = .discovering then setRole kept .syncing 2 else kept) := by
  unfold digestPlane at hp ⊢
  simp only [execDigestFrameReceived, hp, keepDigest, digestEntry, List.length_append, List.length_singleton]
  split
  · contradiction
  · split <;> rfl

theorem digest_discovering {t : State} (hp : pairTake s h 0x31 (digestPlane s port d) = (t, true)) (hr : t.pair.role = .discovering) :
    execDigestFrameReceived port h d s = .next (setRole (keepDigest t (digestEntry (digestPlane s port d) d)) .syncing 2) :=
  (digest_kept port h d hp (by simp [hr])).trans (congrArg _ (if_pos hr))

theorem digest_following {t : State} (hp : pairTake s h 0x31 (digestPlane s port d) = (t, true)) (hr : t.pair.role = .syncing ∨ t.pair.role = .standby) :
    execDigestFrameReceived port h d s = .next (keepDigest t (digestEntry (digestPlane s port d) d)) := by
  obtain ⟨ha, hd⟩ : t.pair.role ≠ .active ∧ t.pair.role ≠ .discovering := by rcases hr with hr | hr <;> simp [hr]
  exact (digest_kept port h d hp ha).trans (congrArg _ (if_neg hd))

end

/-! ### The judgement of a cycle -/

section
variable {s : State} {g : T32} {own : Digest}

/-- The digest of a cycle that has come on a plane (R461). -/
def digestOf (s : State) (g : T32) (plane : Nat) : Option Digest :=
  (s.pair.digests.find? (fun e => e.1 == g && e.2.1 == plane)).map (fun e => e.2.2)

/-- A cycle leaves the record with what was heard of it (R461). -/
def closeCycle (s : State) (g : T32) : State :=
  { s with pair := { s.pair with
    ownDone := s.pair.ownDone.filter (fun e => e.1 != g), heard := false, digests := s.pair.digests.filter (fun e => e.1 != g) } }

/-- No failed cycle stands (R461). -/
def goodCycle (s : State) : State := { s with pair := { s.pair with failed := 0 } }

/-- A plane's digest is missing: counted and told (R461). -/
def missingDigest (s : State) (g : T32) (plane sub : Nat) : State := raise (bump s 0x2A10 sub) 0x2A04 2 0xFF (be 1 plane ++ be 4 g.toNat)

/-- What a synchronised Standby makes of its own digest and those of the two planes (R461). -/
def judgement (u : State) (g : T32) (own : Digest) : Option Digest → Option Digest → State
  | some a, some b => if a = own ∧ b = own then goodCycle u else failedCycle u 3
  | none, some b => if b = own then missingDigest (goodCycle u) g 0 6 else failedCycle (missingDigest u g 0 6) 3
  | some a, none => if a = own then missingDigest (goodCycle u) g 1 7 else failedCycle (missingDigest u g 1 7) 3
  | none, none => if own.count = 0 then failedCycle u 2 else raise (goodCycle u) 0x2A08 2 0xFF (be 4 g.toNat)

theorem cycleJudgement_synced (ha : pairActs s = true) (hr : s.pair.role = .standby) (hs : s.time.sync = 2 ∨ s.time.sync = 4)
    (hf : s.pair.ownDone.find? (fun e => decide (pairPeriod s + 10000000 ≤ (s.now - e.1).toNat)) = some (g, own)) :
    execCycleJudgement s = .next (judgement (closeCycle s g) g own (digestOf s g 0) (digestOf s g 1)) := by
  have hacts : ¬ (!(pairActs s) ∨ s.pair.role ≠ .standby) := by simp [ha, hr]
  unfold execCycleJudgement
  rw [if_neg hacts, hf]
  cases h0 : digestOf s g 0 <;> cases h1 : digestOf s g 1
  all_goals
    unfold digestOf at h0 h1
    simp only [h0, h1, hs, judgement]
    simp [closeCycle, goodCycle, missingDigest]
  all_goals split <;> rfl

end

/-! ### Capsules -/

section
variable {s : State} (port : Fin 38) (h : PairHeader) (seg : CapsuleSegment)

/-- The capsule that a first segment begins (R457). -/
def firstSegment (seg : CapsuleSegment) : CapsuleIn :=
  let w := seg.bytes
  { seq := BitVec.ofNat 16 (beAt w 0 2), instant := BitVec.ofNat 32 (beAt w 8 4), total := beAt w 4 2, check := BitVec.ofNat 32 (beAt w 12 4),
    handover := byteAt w 6 % 2 == 1, segments := [(beAt w 2 2, slice w 16 1024)], dead := false }

theorem capsuleSegment_ignored {t : State} (hp : pairTake s h 0x30 (beAt seg.bytes 0 4) = (t, false)) :
    execCapsuleSegmentReceived port h seg s = .next t := by
  simp [execCapsuleSegmentReceived, hp]

theorem capsuleSegment_active {t : State} (hp : pairTake s h 0x30 (beAt seg.bytes 0 4) = (t, true)) (hr : t.pair.role = .active) :
    execCapsuleSegmentReceived port h seg s = .next (roleConflict t h) := by
  simp [execCapsuleSegmentReceived, hp, hr]

/-- The device with a capsule's first segment alone. -/
def beginCapsule (t : State) (c : CapsuleIn) : State := { t with pair := { t.pair with capsules := [c] } }

theorem capsuleSegment_first {t : State} (hp : pairTake s h 0x30 (beAt seg.bytes 0 4) = (t, true))
    (hr : t.pair.role = .syncing ∨ t.pair.role = .standby) (hc : t.pair.capsules = []) :
    let c := firstSegment seg
    execCapsuleSegmentReceived port h seg s = if (t.time.sync = 2 ∨ t.time.sync = 4) ∧ pastT32 (c.instant + 50000000) t.now = true then
        .next (rejectCapsule (beginCapsule t c) c 1)
      else if 1 < c.total then .next (beginCapsule t c)
      else if crc32 (slice seg.bytes 16 1024) = c.check then .next (acceptCapsule (beginCapsule t c) c (slice seg.bytes 16 1024))
      else .next (rejectCapsule (beginCapsule t c) c 2) := by
  rcases hr with hr | hr <;> simp [execCapsuleSegmentReceived, hp, hr, hc, tput, firstSegment, beginCapsule]

end

theorem capsuleAcceptTimeout_incomplete {s : State} {c : CapsuleIn} (ha : pairActs s = true)
    (hf : s.pair.capsules.find? (fun c => !c.dead && (!(decide (s.time.sync = 2 ∨ s.time.sync = 4)) || dueT32 (c.instant + 50000000) s.now)) = some c) :
    execCapsuleAcceptTimeout s = .next (rejectCapsule s c 1) := by
  unfold execCapsuleAcceptTimeout
  simp only [hf]
  exact if_pos ha

theorem noCapsuleAccepted_late {s : State} (ha : pairActs s = true) (hr : s.pair.role = .syncing ∨ s.pair.role = .standby)
    (ht : max s.pair.roleAt (s.pair.acceptedAt.getD 0) + 1000000000 ≤ s.time.mono) :
    execNoCapsuleAccepted s = .next { s with pair := { s.pair with noCapsule := true, standbySince := none } } := if_pos ⟨ha, hr, ht⟩

/-- Settles O39: a digest or segment that is taken is one branch by the role, and a judgement looks at what each plane has brought. -/
theorem pairDigestsAndCapsules : Obligations.PairDigestsAndCapsules := by
  intro s port h d seg c g own a b
  refine ⟨⟨fun hf => digest_ignored port h d (Prod.ext rfl hf), fun ht => ?digests⟩, fun ha hr hs hf => ?judged,
    ⟨fun hf => capsuleSegment_ignored port h seg (Prod.ext rfl hf), fun ht hr => capsuleSegment_active port h seg (Prod.ext rfl ht) hr,
      fun ht hr hc => ?capsules⟩, fun hf ha => capsuleAcceptTimeout_incomplete ha hf, noCapsuleAccepted_late⟩
  case digests =>
    have hp : pairTake s h 0x31 (digestPlane s port d) = (_, true) := Prod.ext rfl ht
    exact ⟨digest_active port h d hp, digest_discovering port h d hp, digest_following port h d hp⟩
  case judged =>
    have hjudge := cycleJudgement_synced ha hr hs hf
    have heard {p : Nat} {x : Digest} (hx : s.pair.digests.find? (fun e => e.1 == g && e.2.1 == p) = some (g, p, x)) : digestOf s g p = some x := by
      simp [digestOf, hx]
    have silent {p : Nat} (hx : s.pair.digests.find? (fun e => e.1 == g && e.2.1 == p) = none) : digestOf s g p = none := by
      simp [digestOf, hx]
    refine ⟨fun h0 h1 => ?both, fun h0 h1 => ?onlyB, fun h0 h1 => ?onlyA, fun h0 h1 => ?none⟩
    case both =>
      rw [heard h0, heard h1] at hjudge
      exact ⟨fun hea heb => hjudge.trans (congrArg _ (if_pos ⟨hea, heb⟩)), fun hn => hjudge.trans (congrArg _ (if_neg hn))⟩
    case onlyB =>
      rw [silent h0, heard h1] at hjudge
      exact ⟨fun he => hjudge.trans (congrArg _ (if_pos he)), fun hn => hjudge.trans (congrArg _ (if_neg hn))⟩
    case onlyA =>
      rw [heard h0, silent h1] at hjudge
      exact ⟨fun he => hjudge.trans (congrArg _ (if_pos he)), fun hn => hjudge.trans (congrArg _ (if_neg hn))⟩
    case none =>
      rw [silent h0, silent h1] at hjudge
      exact ⟨fun he => hjudge.trans (congrArg _ (if_pos he)), fun hn => hjudge.trans (congrArg _ (if_neg hn))⟩
  case capsules =>
    have hfirst := capsuleSegment_first port h seg (Prod.ext rfl ht) hr hc
    exact ⟨fun hl => hfirst.trans (if_pos hl), fun hl hm => hfirst.trans ((if_neg hl).trans (if_pos hm)),
      fun hl hm he => hfirst.trans ((if_neg hl).trans ((if_neg (Nat.not_lt.2 hm)).trans (if_pos he))),
      fun hl hm he => hfirst.trans ((if_neg hl).trans ((if_neg (Nat.not_lt.2 hm)).trans (if_neg he)))⟩

/-! ### Handovers -/

section
variable {s : State} {H : T32} {k : Nat}

theorem returnHoldOffExpiry_passed {t0 : Nat} (ha : pairActs s = true) (hr : s.pair.role = .standby) (hm : s.val 0x2A00 4 = 1)
    (hp : s.on 0x2A00 3 = true) (hc : s.pair.claim = none) (hs : s.pair.standbySince = some t0)
    (ht : t0 + s.val 0x2A00 5 * 1000000000 ≤ s.time.mono) : execReturnHoldOffExpiry s = .next (sendClaim s 1) := by
  simp [execReturnHoldOffExpiry, ha, hr, hm, hp, hc, hs, ht]

/-- Whether the last capsule says that the peer defers (R466; log entry 55). -/
def peerDefers (s : State) : Bool := match s.pair.lastCapsule with | some c => byteAt (sectionAt c.body 1) 13 == 1 | none => false

theorem handoverCapsuleTimeout_due (ha : pairActs s = true) (hr : s.pair.role = .standby) (hc : s.pair.claim = some (H, k))
    (hd : dueT32 (H + 50000000) s.now = true) : execHandoverCapsuleTimeout s =
      if peerDefers s = true then .next { s with pair := { s.pair with claim := none } } else .next (handoverIn s H k) := by
  unfold execHandoverCapsuleTimeout
  simp only [hc]
  exact if_neg (by simpa [ha, hr] using hd)

theorem swapWrite_sends (ha : pairActs s = true) (hr : s.pair.role = .active) (hp : standbyPresent s = true) :
    swapWrite s 1 = (sendPair s 0 0x35 (be 1 2), 0) := by simp [swapWrite, ha, hr, hp]

theorem swapWrite_refused (h : pairActs s = false ∨ s.pair.role ≠ .active ∨ standbyPresent s = false) : swapWrite s 1 = (s, 0x0F) := by
  simp only [swapWrite, ne_eq, not_true_eq_false, if_false]
  exact if_pos (by simpa using h)

theorem swap_allowed {ses : SessionNo} (hw : WriteAllowed s ses 0x2A00 0x0E [1]) :
    execSwap ses 1 s = .next (emit (swapWrite s 1).1 (.answer (.session ses) (BitVec.ofNat 8 (swapWrite s 1).2) [])) :=
  congrArg _ (command_allowed _ hw)

variable (h : PairHeader) (cause : Nat)

theorem claimArrives_ignored {t : State} (hp : pairTake s h 0x35 cause = (t, false)) : claimArrives s h cause = t := by
  simp [claimArrives, hp]

theorem claimArrives_active {t : State} (hp : pairTake s h 0x35 cause = (t, true)) (hr : t.pair.role = .active) :
    claimArrives s h cause = claimed t cause := by simp [claimArrives, hp, hr]

theorem claimArrives_standby {t : State} (hp : pairTake s h 0x35 2 = (t, true)) (hr : t.pair.role = .standby) (hc : t.pair.claim = none) :
    claimArrives s h 2 = sendClaim t 2 := by simp [claimArrives, hp, hr, hc]

theorem handoverInstant_due (hh : s.pair.handover = some (H, k)) (ha : pairActs s = true) (hr : s.pair.role = .active)
    (hd : dueT32 H s.now = true) : execHandoverInstant s =
      if s.aud.emergency = true then .next { s with pair := { s.pair with handover := none, deferred := some k } }
      else .next (if (handoverOut s H k).upd.activating = 1 then startPause (handoverOut s H k) else handoverOut s H k) := by
  unfold execHandoverInstant
  simp only [hh]
  exact if_pos ⟨ha, hr, hd⟩

end

/-- Settles O40: each command is one branch by the role and by what is due; a frame of type 0x35 is one after its check. -/
theorem pairHandovers : Obligations.PairHandovers := by
  intro s port h cause ses H k cap
  refine ⟨fun ha hr => ⟨fun t0 hm hp hc hs ht => returnHoldOffExpiry_passed ha hr hm hp hc hs ht, fun hc hd => ?timeout⟩,
    fun hw => ⟨fun ha hr hp => ?swaps, fun hn => ?refuses⟩,
    ⟨fun hf => congrArg _ (claimArrives_ignored h 2 (Prod.ext rfl hf)), fun ht hr => congrArg _ (claimArrives_active h 2 (Prod.ext rfl ht) hr),
      fun ht hr hc => congrArg _ (claimArrives_standby h (Prod.ext rfl ht) hr hc)⟩,
    ⟨fun hf => congrArg _ (claimArrives_ignored h _ (Prod.ext rfl hf)), fun ht hr => congrArg _ (claimArrives_active h _ (Prod.ext rfl ht) hr)⟩,
    fun hh ha hr hd => ?instant⟩
  case timeout =>
    have hdue := handoverCapsuleTimeout_due ha hr hc hd
    refine ⟨fun hl => hdue.trans (if_neg ?_), fun hl hb => hdue.trans (if_pos ?_), fun hl hb => hdue.trans (if_neg ?_)⟩
    all_goals simp_all [peerDefers]
  case swaps => rw [show exec (.swap ses 1) s = _ from swap_allowed hw, swapWrite_sends ha hr hp]; rfl
  case refuses => rw [show exec (.swap ses 1) s = _ from swap_allowed hw, swapWrite_refused hn]; rfl
  case instant =>
    have hdue := handoverInstant_due hh ha hr hd
    refine ⟨fun he => hdue.trans (if_pos he), fun he hn => ?_, fun he h1 => ?_⟩
    all_goals refine hdue.trans ((if_neg (by simp [he])).trans (congrArg _ ?_))
    · exact if_neg hn
    · exact if_pos h1

end Sys2Proof.Machine
end

section
/-! PROOFS. The test access port and the debug port (R439, R600 to R602): the registers that the instructions select, and the token check. -/

namespace Sys2Proof.Machine

/-! ### The instructions -/

section
variable (s : State)

theorem execExtest_held (pins : BitVec 139) : execExtest true pins s = .next (tapLoad (tapHeld s true) 0x00 (pins.setWidth 192)) := rfl

theorem execExtest_free (pins : BitVec 139) : execExtest false pins s = .next (tapBypass (tapHeld s false) 0x00) := rfl

theorem execSamplePreload_captures (pins : BitVec 139) : execSamplePreload none pins s = .next (tapLoad s 0x01 (pins.setWidth 192)) := rfl

theorem execSamplePreload_holds (load pins : BitVec 139) : execSamplePreload (some load) pins s = .next
    { tapLoad s 0x01 (pins.setWidth 192) with tap := { (tapLoad s 0x01 (pins.setWidth 192)).tap with bsr := load } } := rfl

variable {s}

theorem execDbgacc_open (h : debugOpen s = true) : execDbgacc s = .next { s with tap := { s.tap with ir := 0x30 } } :=
  congrArg Host.Outcome.next (if_pos h)

theorem execDbgacc_closed (h : debugOpen s = false) : execDbgacc s = .next (tapBypass s 0x30) := congrArg Host.Outcome.next (if_neg (by simp [h]))

theorem execBypass_unknown {code : BitVec 8} (h : [0x00, 0x01, 0x02, 0x03, 0x04, 0x20, 0x21, 0x22, 0x30].contains code.toNat = false) :
    execBypass code s = .next (tapBypass s code) := congrArg Host.Outcome.next (if_neg (by rw [h]; decide))

end

/-- Settles O48: each instruction is one load of its register. -/
theorem testAccessPort : Obligations.TestAccessPort := by
  intro s held pins load code
  refine ⟨fun h => ?held, fun h => ?free, execSamplePreload_captures s pins, ⟨_, execSamplePreload_holds s load pins, rfl, rfl, rfl, rfl⟩,
    rfl, rfl, rfl, rfl, execDbgacc_open, execDbgacc_closed, execBypass_unknown⟩
  case held =>
    subst h
    exact execExtest_held s pins
  case free =>
    subst h
    exact execExtest_free s pins

/-! ### The debug token -/

theorem tap_offEvents : OffEvents State.tap := fun _ _ _ _ _ _ _ _ => rfl

section
variable {s : State} {token : Bytes} {at_ : Nat}

theorem tokenGood_iff : tokenGood s token at_ = true ↔ ∃ c t0, s.tap.challenge = some (c, t0) ∧ at_ < t0 + 60000000000 ∧
    Config.debugTokenValid (c ++ be 8 Config.unitId.toNat) token = true := by
  unfold tokenGood
  cases s.tap.challenge with
  | none => simp
  | some e =>
    obtain ⟨c, t0⟩ := e
    constructor
    · intro h
      exact ⟨c, t0, rfl, by simpa using h⟩
    · rintro ⟨_, _, ⟨⟩, h⟩
      simpa using h

/-- The state in which an answered token is judged: it waits no more. -/
def tokenTaken (s : State) : State := { s with tap := { s.tap with token := none } }

/-- Debug opens (R602). -/
def debugOpened (s : State) : State := { tokenTaken s with tap := { (tokenTaken s).tap with isOpen := true, invalid := false } }

/-- A token that is not valid is counted, and the fourth blocks (R602). -/
def tokenRefused (s : State) : State :=
  { tokenTaken s with tap := { (tokenTaken s).tap with
    invalid := true, failures := s.tap.failures + 1, blocked := decide (4 ≤ s.tap.failures + 1) } }

theorem debugTokenCheckComplete_judges (h : s.tap.token = some (token, at_)) : execDebugTokenCheckComplete s =
    if tokenGood s token at_ = true then .next (raise (jAppend (debugOpened s) (.note 2 []) .nobody) 0x2708 2 0xFF [])
    else .next (bump (tokenRefused s) 0x2100 3) := by
  unfold execDebugTokenCheckComplete
  simp only [h]
  rfl

end

/-- Settles O49: a challenge and a token are kept as they come, and the check is one branch, whose events leave the port as it was set. -/
theorem debugUnlock : Obligations.DebugUnlock := by
  intro s tok tk at_
  refine ⟨⟨_, rfl, rfl, rfl, rfl, rfl⟩, ?token, fun h => ⟨fun hgood => ?opens, fun hbad => ?refuses⟩⟩
  case token =>
    by_cases hb : s.tap.blocked = true
    · exact ⟨_, if_pos hb, rfl, rfl, by simp [hb]⟩
    · exact ⟨_, if_neg hb, rfl, rfl, by simp [hb]⟩
  case opens =>
    have htap : (raise (jAppend (debugOpened s) (.note 2 []) .nobody) 0x2708 2 0xFF []).tap = (debugOpened s).tap :=
      (tap_offEvents.raise ..).trans (tap_offEvents.jAppend ..)
    refine ⟨_, (debugTokenCheckComplete_judges h).trans (if_pos (tokenGood_iff.2 hgood)), ?_, ?_, ?_, ?_, _, rfl⟩
    all_goals rw [htap]; rfl
  case refuses =>
    have htap : (bump (tokenRefused s) 0x2100 3).tap = (tokenRefused s).tap := tap_offEvents.bump ..
    refine ⟨_, (debugTokenCheckComplete_judges h).trans (if_neg fun hg => hbad (tokenGood_iff.1 hg)), ?_, ?_, ?_, ?_, ?_⟩
    all_goals rw [htap]
    all_goals simp [tokenRefused, tokenTaken]

end Sys2Proof.Machine
end

section
/-! PROOFS. The scrubber (R479, R480): a step that finds no error reads its page and leaves the record of written pages as it is. -/

namespace Sys2Proof.Machine

theorem execScrubStep_clean {s : State} (hs : s.op.state = .normal) (hc : tnat s.dram.counts (servingPage s s.dram.position 4096) < s.val 0x2600 2)
    (hp : s.dram.position + 1 < 116480) : execScrubStep [] s = .next { s with dram := { s.dram with position := s.dram.position + 1 } } := by
  simp [execScrubStep, hs, Nat.not_le.2 hc, hp]

/-- In Normal, the scrubber before page 0, of which nothing has been written. -/
def beforeFirstScrub : State := { State.reset with op := { State.reset.op with state := .normal } }

/-- Refutes O41: a step without errors does not mark its page known; before and after the scrub of page 0 no page is. -/
theorem not_memoryScrubAndPool : ¬ Obligations.MemoryScrubAndPool := by
  intro h
  obtain ⟨hscrub, -⟩ := h beforeFirstScrub 0 0 0 0 false 0
  have hbelow : tnat beforeFirstScrub.dram.counts (servingPage beforeFirstScrub beforeFirstScrub.dram.position 4096) < beforeFirstScrub.val 0x2600 2 := by
    decide +kernel
  obtain ⟨hclaim, -⟩ := hscrub (by decide) (by decide) hbelow
  have hstep := (execScrubStep_clean rfl hbelow (by decide)).symm.trans (hclaim (by decide))
  have htouched : ([] : List Nat) = [0] := congrArg (fun o => match o with | .next t => t.dram.touched | _ => []) hstep
  cases htouched

end Sys2Proof.Machine
end

section
/-! PROOFS. The journal, the health report and the Inclusions (R507 to R519). -/

namespace Sys2Proof.Machine

/-! ### The journal -/

section
variable {s : State} {b : JBody} {dest : ReplyTo} {rest : List (JBody × ReplyTo)}

theorem writeRecord_none (ok : Bool) (hw : s.jour.waiting = []) : writeRecord s ok = s := by
  simp only [writeRecord, hw]

theorem writeRecord_failed (ok : Bool) (hw : s.jour.waiting = (b, dest) :: rest) (hj : s.jour.state = 2) :
    writeRecord s ok = reply { s with jour := { s.jour with waiting := rest } } dest 0x0F [] := by
  simp only [writeRecord, hw]
  exact if_pos hj

/-- The record of a body that goes to a block (R511). -/
def nextRecord (s : State) (b : JBody) (blk : Nat) (ok : Bool) : JRec :=
  { seq := s.jour.seq, body := b, block := (s.jour.blocks[blk]?).getD 0, sealed := ok }

/-- The journal with a record placed (R512). -/
def placed (s : State) (r : JRec) (used fill : Nat) : JournalBlock :=
  { s.jour with recs := s.jour.recs ++ [r], seq := s.jour.seq + 1, inUse := used, fill := fill }

theorem writeRecord_placed {blk used fill : Nat} (ok : Bool) (hw : s.jour.waiting = (b, dest) :: rest) (hj : s.jour.state ≠ 2)
    (hp : placeRecord s (recordSize b) = some (blk, used, fill)) :
    let j := placed s (nextRecord s b blk ok) used fill
    writeRecord s ok = if ok = true then
      compactIfLow (recordSealed (bumpW { s with jour := { j with waiting := rest } } 0x2660 3 0 1) b dest)
    else compactIfLow (flashWorn { s with jour := j } ((s.jour.blocks[blk]?).getD 0) 2 1 []) := by
  simp only [writeRecord, hw, if_neg hj, hp, placed, nextRecord]

theorem execJournalRecordWrite_served (ok : Bool) (h : journalServed s = true) : execJournalRecordWrite ok s = .next (writeRecord s ok) := if_pos h

theorem execJournalCompactionComplete_sealed (h : journalServed s = true) (h1 : s.jour.state = 1) (hc : checkpointSealed s = true) :
    execJournalCompactionComplete s = .next (endCompaction s) := if_pos ⟨h1, hc, h⟩

theorem execHoursPoweredAppend_served (h : journalServed s = true) : execHoursPoweredAppend s =
    .next (jAppend { s with wear := { s.wear with hours := s.wear.hours + 1 } } (.hours (s.wear.hours + 1)) .nobody) := if_pos h

end

/-! ### The health report -/

theorem execHealthReportUpdate_awake {s : State} (h0 : s.op.state ≠ .start) (h1 : s.op.state ≠ .lightSleep) (h2 : s.op.state ≠ .deepSleep) :
    let u := (List.range 3).foldl (fun t c => marginEvents t c false) s
    execHealthReportUpdate s = .next { u with wear := { u.wear with
      report := BitVec.ofNat 32 (reportFlags u), reportAt := u.now, uncertainty := BitVec.ofNat 32 (timeUncertainty u) } } := by
  unfold execHealthReportUpdate
  split
  · contradiction
  · contradiction
  · contradiction
  · rfl

/-! ### Inclusions -/

section
variable {s : State} {ses : Nat}

/-- The place of a session's next Inclusion among those held (R519). -/
def inclusionPlace (s : State) (ses : Nat) : Nat :=
  ringPlace s ses 0x2620 1 s.wear.inclusions.length (BitVec.ofNat 32 (s.wear.inclusionNo + 1))

theorem inclusionRead_unheld (h : s.wear.inclusions.length ≤ inclusionPlace s ses) : inclusionRead s ses = (s, zeros 48) := ringRead_unheld h

theorem inclusionRead_held {e : Nat × Bytes} {x : Session} (he : s.wear.inclusions[inclusionPlace s ses]? = some e) (hx : s.sessions[ses]? = some x)
    (hl : x.inclLost = false) :
    let on := setOwn s ses 0x2620 1 ((getOwn s ses 0x2620 1 + 1) % 2 ^ 32)
    inclusionRead s ses = ({ on with sessions := vmod on.sessions ses (fun x => { x with inclLost := false }) }, e.2) := by
  have hlt : inclusionPlace s ses < s.wear.inclusions.length := (List.getElem?_eq_some_iff.1 he).1
  rw [inclusionRead, ringRead_held hlt hx]
  simp only [hl]
  unfold inclusionPlace at he
  simp only [he]
  rfl

theorem execInclusionRead_allowed {ses : SessionNo} (h : ReadAllowed s ses 0x2620 2) :
    execInclusionRead ses s = .next (emit (inclusionRead s ses.val).1 (.answer (.session ses) 0 (inclusionRead s ses.val).2)) :=
  congrArg Host.Outcome.next (readCommand_allowed _ h)

end

/-- Settles O42: each command is one branch of its meaning while the journal is served, and a read goes by the place in the ring. -/
theorem journalWearAndHealth : Obligations.JournalWearAndHealth := by
  intro s ok ses b dest rest blk used fill
  refine ⟨fun h => ⟨fun hw => ?none, fun hw => ⟨fun hj => ?failed, fun hj hp => ⟨fun hok => ?good, fun hok => ?bad⟩⟩,
    execJournalCompactionComplete_sealed h, execHoursPoweredAppend_served h⟩, execHealthReportUpdate_awake, fun hr => ?inclusion⟩
  case none => exact (execJournalRecordWrite_served ok h).trans (congrArg _ (writeRecord_none ok hw))
  case failed => exact (execJournalRecordWrite_served ok h).trans (congrArg _ (writeRecord_failed ok hw hj))
  case good =>
    subst hok
    exact (execJournalRecordWrite_served _ h).trans (congrArg _ (writeRecord_placed _ hw hj hp))
  case bad =>
    subst hok
    exact (execJournalRecordWrite_served _ h).trans (congrArg _ (writeRecord_placed _ hw hj hp))
  case inclusion =>
    have hplace : (BitVec.ofNat 32 (getOwn s ses.val 0x2620 1) - BitVec.ofNat 32
        (BitVec.ofNat 32 (s.wear.inclusionNo + 1) - BitVec.ofNat 32 s.wear.inclusions.length).toNat).toNat = inclusionPlace s ses.val := by
      rw [BitVec.ofNat_toNat, BitVec.setWidth_eq]
      rfl
    have hread := execInclusionRead_allowed hr
    intro pos next at_
    have hat : at_ = inclusionPlace s ses.val := hplace
    refine ⟨fun hle => ?_, fun e x he hx hl => ?_⟩
    · rw [inclusionRead_unheld (hat ▸ hle)] at hread
      exact hread
    · rw [inclusionRead_held (hat ▸ he) hx hl] at hread
      exact ⟨_, hread, rfl⟩

end Sys2Proof.Machine
end

section
/-! PROOFS. The mailbox of the PCIe window and the SPI target (R549, R550, R559 to R562): what a frame does that is good, and what none does
that is not. -/

namespace Sys2Proof.Machine

/-! ### SPI frames -/

section
variable {s : State} {frame : Bytes} {cmd len : Nat} {act : State → State}

theorem SpiFrameGood.parts (h : SpiFrameGood s frame cmd len = true) :
    served s = true ∧ spiCrcOk frame = true ∧ byteAt frame 0 = cmd ∧ frame.length = 8 + len := by
  simpa [SpiFrameGood, and_assoc] using h

theorem spiFrame_good (h : SpiFrameGood s frame cmd len = true) : spiFrame s frame cmd len true act = act (spiTaken s) := by
  obtain ⟨hs, hcrc, hcmd, hlen⟩ := SpiFrameGood.parts h
  simp [spiFrame, hs, hcrc, hcmd, hlen, spiTaken]

/-- The units, the request and the answer that the SPI target holds. -/
def spiHeld (s : State) : Vector Cvu 4 × Option Bytes × Option Bytes := (s.cvu, s.spi.request, s.spi.answer)

theorem spiHeld_offEvents : OffEvents spiHeld := fun _ _ _ _ _ _ _ _ => rfl

theorem spiCrcError_spiHeld (s : State) : spiHeld (spiCrcError s) = spiHeld s := by
  unfold spiCrcError raiseLimited
  dsimp only
  split
  · exact (spiHeld_offEvents.noteLimit ..).trans ((spiHeld_offEvents.raise ..).trans (spiHeld_offEvents.bump ..))
  · exact spiHeld_offEvents.bump ..

theorem spiRefuse_spiHeld (s : State) : spiHeld (spiRefuse s) = spiHeld s := spiHeld_offEvents.bump ..

/-- A frame that is not good is answered with an error at most (R560). -/
theorem spiFrame_bad (fits : Bool) (h : SpiFrameGood s frame cmd len = false) : spiHeld (spiFrame s frame cmd len fits act) = spiHeld s := by
  unfold spiFrame
  dsimp only
  split
  · rfl
  · split
    · exact spiCrcError_spiHeld _
    · split
      · exact spiRefuse_spiHeld _
      · simp_all [SpiFrameGood]

end

/-! ### SPI commands -/

section
variable {s : State} {frame : Bytes}

theorem execSpiStatus_served (h : served s = true) : execSpiStatus s = .next (spiTaken s) := if_pos h

theorem execSpiRead_good (hf : spiFree s = true) (hu : spiUndocumented s frame 1 = false) (hl : beAt frame 4 2 = 0 ∨ beAt frame 4 2 = 6)
    (hg : SpiFrameGood s frame 1 (beAt frame 4 2) = true) : execSpiRead frame s = .next (spiReadAct frame (spiTaken s)) := by
  have hfits : (spiFree s && (beAt frame 4 2 == 0 || beAt frame 4 2 == 6)) = true := by simpa [hf] using hl
  simp [execSpiRead, hu, hfits, spiFrame_good hg]

theorem execSpiWrite_good (hf : spiFree s = true) (hu : spiUndocumented s frame 2 = false) (hl : beAt frame 4 2 ≤ 1200)
    (hg : SpiFrameGood s frame 2 (beAt frame 4 2) = true) : execSpiWrite frame s = .next (spiWriteAct frame (spiTaken s)) := by
  have hfits : (spiFree s && decide (beAt frame 4 2 ≤ 1200)) = true := by simp [hf, hl]
  simp only [execSpiWrite, hu, hfits, spiFrame_good hg]
  rfl

theorem execSpiFetchAnswer_good (clocked : Nat) (hg : SpiFrameGood s frame 0x10 0 = true) :
    execSpiFetchAnswer frame clocked s = .next (spiFetch (min clocked (beAt frame 4 2)) (spiTaken s)) :=
  congrArg Host.Outcome.next (spiFrame_good hg)

theorem spiFetch_waiting {a : Bytes} (n : Nat) (h : s.spi.answer = some a) : spiFetch n s = if a.length ≤ n then
      { emit s (.spi (0xFF :: a.take n)) with spi := { s.spi with answer := none } } else emit s (.spi (0xFF :: a.take n)) := by
  simp only [spiFetch, h]
  rfl

theorem execSpiAnswerReady_finished {f data : Bytes} {code : Byte} (hr : s.spi.request = some f) (ha : s.spi.result = some (code, data)) :
    let b := [code] ++ slice f 1 3 ++ be 2 data.length ++ data
    execSpiAnswerReady s = .next { s with spi := { s.spi with request := none, result := none, answer := some (b ++ be 2 (crcCcitt b)) } } := by
  simp only [execSpiAnswerReady, hr, ha]

end

/-! ### The mailbox -/

section
variable {s : State} (hdr win : Bytes)

/-- The mailbox is busy with the request that the host has written (R550). -/
def mailboxTaken (s : State) (hdr win : Bytes) : State :=
  bumpW { s with host := { s.host with
    mailbox := padTo 16 hdr, window := padTo 1200 win, sts := s.host.sts &&& 0xFFFFFFFE, busy := true, result := none } } 0x2810 3 0 1

theorem execMailboxDoorbell_free (hr : hostReaches s = true) (hb : s.host.busy = false)
    (hu : undocumented (mailboxTaken s hdr win) 17 (beAt (padTo 16 hdr) 4 2) = false) :
    execMailboxDoorbell 1 hdr win s = .next (hostEdges (mailboxRun (mailboxTaken s hdr win))) := by
  have hreach : ¬ (!(hostReaches s) ∨ (1 : BitVec 32) ≠ 1) := by simp [hr]
  unfold execMailboxDoorbell
  rw [if_neg hreach, hb, if_neg Bool.false_ne_true]
  exact if_neg (ne_true_of_eq_false hu)

theorem execMailboxDoorbell_busy (hr : hostReaches s = true) (hb : s.host.busy = true) :
    execMailboxDoorbell 1 hdr win s = .next (hostSignal (bump s 0x2810 4) 7) := by
  have hreach : ¬ (!(hostReaches s) ∨ (1 : BitVec 32) ≠ 1) := by simp [hr]
  exact (if_neg hreach).trans (if_pos hb)

/-- The mailbox's answer with its data (R550). -/
def mailboxAnswered (s : State) (code : Byte) (data : Bytes) : State :=
  { s with host := { s.host with
    answer := [1] ++ be 1 (byteAt s.host.mailbox 1 ||| 0x80) ++ slice s.host.mailbox 2 5 ++ [code] ++ slice s.host.mailbox 8 4 ++
      be 2 data.length ++ zeros 2,
    window := data ++ s.host.window.drop data.length, busy := false, result := none } }

theorem execMailboxAnswerReady_finished {code : Byte} {data : Bytes} (hb : s.host.busy = true) (hr : s.host.result = some (code, data)) :
    execMailboxAnswerReady s = .next (hostEdges (hostSignal (mailboxAnswered s code data) 0)) := by
  simp only [execMailboxAnswerReady, hb, hr, if_true]
  rfl

end

/-- Settles O44: each command is one branch of its meaning; a frame that is good acts on the target as it is taken. -/
theorem mailboxAndSpiAnswer : Obligations.MailboxAndSpiAnswer := by
  intro s hdr win v code data frame f n
  refine ⟨execMailboxDoorbell_free hdr win, fun hb hr => ⟨_, execMailboxAnswerReady_finished hb hr, rfl, rfl, rfl, rfl⟩,
    execMailboxDoorbell_busy hdr win, fun hr => if_pos hr, fun hs => ⟨_, execSpiStatus_served hs, rfl, rfl⟩,
    fun hf => ⟨execSpiRead_good hf, execSpiWrite_good hf⟩, fun hg ha => ⟨fun hm => ?part, fun hm => ?whole⟩, execSpiAnswerReady_finished⟩
  all_goals
    have hfetch := (execSpiFetchAnswer_good n hg).trans (congrArg Host.Outcome.next (spiFetch_waiting _ (s := spiTaken s) ha))
  case part => exact hfetch.trans (congrArg _ (if_neg (Nat.not_le.2 hm)))
  case whole =>
    rw [if_pos hm, List.take_of_length_le hm] at hfetch
    exact ⟨_, hfetch, rfl, rfl⟩

end Sys2Proof.Machine
end

section
/-! PROOFS. The check-value units (R493 to R496): what a write does, and that a unit set up for the 32-bit reflected CRC computes
CRC-32/ISO-HDLC. A unit shifts its value to the left, the table-free CRC to the right: they mirror each other bit by bit. -/

namespace Sys2Proof.Machine

/-! ### The reflected CRC, bit by bit -/

theorem testBit_reverseBits (v i n : Nat) : (reverseBits n v).testBit i = (decide (i < n) && v.testBit (n - 1 - i)) := by
  induction n generalizing i with
  | zero => simp [reverseBits]
  | succ n ih =>
    have hsucc : reverseBits (n + 1) v = 2 * reverseBits n v + (v.testBit n).toNat := by
      simp [reverseBits, List.range_succ, Nat.toNat_testBit, Nat.mul_comm]
    cases i with
    | zero => rw [hsucc]; cases h : v.testBit n <;> simp [Nat.testBit_zero, h]
    | succ i =>
      have hdiv : reverseBits (n + 1) v / 2 = reverseBits n v := by cases h : v.testBit n <;> simp [hsucc, h]; omega
      rw [Nat.testBit_succ, hdiv, ih]
      simp [Nat.sub_sub, Nat.add_comm]

theorem reverseBits_toNat {w : Nat} (x : BitVec w) : reverseBits w x.toNat = x.reverse.toNat := by
  refine Nat.eq_of_testBit_eq fun i => ?_
  simp [testBit_reverseBits, BitVec.testBit_toNat, BitVec.getLsbD_reverse, BitVec.getMsbD_eq_getLsbD]

/-- One bit into the reflected CRC-32. -/
def crcShift (x : BitVec 32) (b : Bool) : BitVec 32 :=
  if x.getLsbD 0 != b then (x >>> 1) ^^^ 0xEDB88320#32 else x >>> 1

theorem crcShift_xor (x y : BitVec 32) : crcShift (x ^^^ y) false = crcShift x (y.getLsbD 0) ^^^ (y >>> 1) := by
  have hbit : ((x ^^^ y).getLsbD 0 != false) = (x.getLsbD 0 != y.getLsbD 0) := by simp
  unfold crcShift
  rw [hbit]
  split
  · rw [BitVec.ushiftRight_xor_distrib, BitVec.xor_assoc, BitVec.xor_assoc, BitVec.xor_comm (y >>> 1)]
  · exact BitVec.ushiftRight_xor_distrib ..

theorem crc32Byte_eq_foldl (x : BitVec 32) (b : BitVec 8) :
    crc32Byte x b = [0, 1, 2, 3, 4, 5, 6, 7].foldl (fun y i => crcShift y (b.getLsbD i)) x := by
  have hgo : ∀ n y, crc32Byte.go (n + 1) y = crc32Byte.go n (crcShift y false) := fun n y => by simp [crc32Byte.go, crcShift]
  have hz : crc32Byte.go 0 = id := rfl
  have hlast : b.setWidth 32 >>> 8 = 0#32 := by
    refine BitVec.eq_of_toNat_eq ?_
    simp [Nat.shiftRight_eq_div_pow]
    omega
  unfold crc32Byte
  simp only [hgo, hz, crcShift_xor, ← BitVec.shiftRight_add, Nat.reduceAdd, hlast, BitVec.getLsbD_ushiftRight, BitVec.getLsbD_setWidth,
    List.foldl_cons, List.foldl_nil, id, BitVec.xor_zero]
  simp

/-! ### A unit set up for it -/

/-- A unit is set up for the 32-bit reflected CRC (R495). -/
def CrcSetup (c : Cvu) : Prop := c.cfg = 0xDF ∧ c.poly = 0x04C11DB7 ∧ c.init = 0xFFFFFFFF ∧ c.xor = 0xFFFFFFFF

section
variable {c : Cvu}

theorem CrcSetup.width (h : CrcSetup c) : cvuWidth c = 32 := by rw [cvuWidth, h.1]; rfl

theorem CrcSetup.mask (h : CrcSetup c) (v : BitVec 32) : cvuMask c v = v := by
  rw [cvuMask, h.width, Nat.mod_eq_of_lt v.isLt, BitVec.ofNat_toNat, BitVec.setWidth_eq]

/-- A bit shifted into the unit is the bit shifted into the mirrored CRC. -/
theorem CrcSetup.bit (h : CrcSetup c) (x : BitVec 32) (b : Nat) (i : Nat) :
    cvuBit c x.reverse.toNat b i = (crcShift x (b.testBit i)).reverse.toNat := by
  have hpoly : c.poly.toNat % 2 ^ 32 = (0xEDB88320#32).reverse.toNat := by rw [h.2.1]; decide +kernel
  have htop : (x.reverse.toNat / 2 ^ 31 % 2 != b / 2 ^ i % 2) = (x.getLsbD 0 != b.testBit i) := by
    have htop : x.reverse.toNat.testBit 31 = x.getLsbD 0 := by
      rw [BitVec.testBit_toNat, BitVec.getLsbD_reverse, BitVec.getMsbD_eq_getLsbD]
      rfl
    rw [← htop, Nat.testBit_eq_decide_div_mod_eq, Nat.testBit_eq_decide_div_mod_eq]
    rcases Nat.mod_two_eq_zero_or_one (x.reverse.toNat / 2 ^ 31) with h1 | h1 <;>
      rcases Nat.mod_two_eq_zero_or_one (b / 2 ^ i) with h2 | h2 <;> rw [h1, h2] <;> rfl
  have hshift : x.reverse.toNat * 2 % 2 ^ 32 = (x >>> 1).reverse.toNat := by
    have : (x >>> 1).reverse = x.reverse <<< 1 := BitVec.eq_of_getLsbD_eq fun i hi => by
      rw [BitVec.getLsbD_reverse, BitVec.getLsbD_shiftLeft, BitVec.getLsbD_reverse, BitVec.getMsbD_eq_getLsbD, BitVec.getMsbD_eq_getLsbD]
      cases i with
      | zero => simp
      | succ i => simp [hi, show 1 + (30 - i) = 31 - i by omega, show i < 32 by omega]
    rw [this, BitVec.toNat_shiftLeft, Nat.shiftLeft_eq, Nat.pow_one]
  have hrev (y z : BitVec 32) : (y ^^^ z).reverse.toNat = y.reverse.toNat ^^^ z.reverse.toNat := by
    rw [← BitVec.toNat_xor]
    exact congrArg _ (BitVec.eq_of_getLsbD_eq fun i hi => by simp [BitVec.getLsbD_reverse, BitVec.getMsbD_xor])
  simp only [cvuBit, h.width, Nat.reduceSub, htop, hshift, hpoly, crcShift]
  split
  · exact (hrev ..).symm
  · rfl

theorem CrcSetup.byte (h : CrcSetup c) (x : BitVec 32) (b : Byte) :
    cvuByte { c with value := x.reverse } b.toNat = { c with value := (crc32Byte x b).reverse } := by
  have hin : c.cfg.getLsbD 6 = true := by rw [h.1]; rfl
  have hbit : ∀ i < 8, ∀ y : BitVec 32, cvuBit { c with value := x.reverse } y.reverse.toNat (reverseBits 8 b.toNat) i =
      (crcShift y (b.getLsbD (7 - i))).reverse.toNat := fun i hi y => by
    rw [CrcSetup.bit (c := { c with value := x.reverse }) h, testBit_reverseBits, BitVec.testBit_toNat, decide_eq_true hi, Bool.true_and]
  have hstart : x.reverse.toNat % 2 ^ cvuWidth { c with value := x.reverse } = x.reverse.toNat := by
    rw [CrcSetup.width (c := { c with value := x.reverse }) h]
    exact Nat.mod_eq_of_lt x.reverse.isLt
  rw [crc32Byte_eq_foldl]
  simp only [cvuByte, hin, if_true, hstart, List.foldl_cons, List.foldl_nil, hbit, Nat.reduceLT, Nat.reduceSub, BitVec.ofNat_toNat,
    BitVec.setWidth_eq]

theorem CrcSetup.bytes (h : CrcSetup c) (b : Bytes) (x : BitVec 32) :
    b.foldl (fun d y => cvuByte d y.toNat) { c with value := x.reverse } = { c with value := (b.foldl crc32Byte x).reverse } := by
  induction b generalizing x with
  | nil => rfl
  | cons y b ih => rw [List.foldl_cons, h.byte, ih, List.foldl_cons]

theorem CrcSetup.load (h : CrcSetup c) : cvuLoad c = { c with value := (0xFFFFFFFF#32).reverse } := by
  have hinit : cvuMask c c.init = (0xFFFFFFFF#32).reverse := by rw [h.mask, h.2.2.1]; decide +kernel
  rw [cvuLoad, hinit]

theorem CrcSetup.result (h : CrcSetup c) (x : BitVec 32) : cvuResult { c with value := x.reverse } = ~~~ x := by
  have h' : CrcSetup { c with value := x.reverse } := h
  have hout : c.cfg.getLsbD 7 = true := by rw [h.1]; rfl
  have hrev : reverseBits 32 x.reverse.toNat = x.toNat := by rw [reverseBits_toNat, BitVec.reverse_reverse_eq]
  simp only [cvuResult, h'.mask, h'.width, hout, if_true, hrev, BitVec.ofNat_toNat, BitVec.setWidth_eq]
  rw [h.2.2.2]
  exact (BitVec.xor_comm ..).trans BitVec.not_def.symm

theorem CrcSetup.crc32 (h : CrcSetup c) (b : Bytes) :
    cvuResult (b.foldl (fun d y => cvuByte d y.toNat) (cvuLoad c)) = crc32 b := by
  rw [h.load, h.bytes, h.result]
  rfl

end

/-! ### Writes to a unit -/

section
variable {s : State} {u : Fin 4} {src : CvuSource} (act : Cvu → Cvu)

theorem setCvu_eq_set (s : State) (u : Fin 4) (f : Cvu → Cvu) : setCvu s u.val f = { s with cvu := s.cvu.set u.val (f (cvuOf s u.val)) } := by
  have hu : s.cvu[u.val]? = some s.cvu[u.val] := Vector.getElem?_eq_getElem u.isLt
  have hset (c : Cvu) : s.cvu.setIfInBounds u.val c = s.cvu.set u.val c :=
    Vector.ext fun i hi => by rw [Vector.getElem_setIfInBounds hi, Vector.getElem_set]
  simp only [setCvu, vmod, cvuOf, hu, Option.getD_some, hset]

/-- A write of an interface that reaches the unit and whose claim is free or its own is carried out (R496). -/
theorem cvuWrite_taken (hr : cvuReaches u.val src = true) (hc : (cvuOf s u.val).claim = 0 ∨ (cvuOf s u.val).claim = cvuHolder src) :
    cvuWrite s u.val src act = { s with cvu := s.cvu.set u.val (act (cvuOf s u.val)) } := by
  have hfree : ¬ ((cvuOf s u.val).claim ≠ 0 ∧ (cvuOf s u.val).claim ≠ cvuHolder src) := fun h => hc.elim h.1 h.2
  rw [cvuWrite, if_neg (by simp [hr]), if_neg hfree, setCvu_eq_set]

/-- One while another interface holds the claim is counted, whatever it writes (R496). -/
theorem cvuWrite_ignored (hr : cvuReaches u.val src = true) (h0 : (cvuOf s u.val).claim ≠ 0) (hc : (cvuOf s u.val).claim ≠ cvuHolder src) :
    cvuWrite s u.val src act = { s with cvu := s.cvu.set u.val { cvuOf s u.val with ignored := min 65535 ((cvuOf s u.val).ignored + 1) } } := by
  rw [cvuWrite, if_neg (by simp [hr]), if_pos ⟨h0, hc⟩, setCvu_eq_set]

/-- Each of the five registers of CVU_CONFIG_WRITE is one write to the unit (R493). -/
theorem cvuConfigWrite_isWrite (reg : Fin 5) (v : BitVec 32) :
    ∃ act, ∀ s : State, cvuRegWrite s u.val src (4 * reg.val) v = cvuWrite s u.val src act := by
  match reg with
  | 0 | 1 | 2 | 3 | 4 => exact ⟨_, fun _ => rfl⟩

theorem cvuConfig_wide {v : BitVec 32} {c : Cvu} (h : 2 ≤ bitsOf v.toNat 5 0 ∧ bitsOf v.toNat 5 0 ≤ 31) :
    cvuConfig v c = { c with cfg := v &&& 0x1FF, cfgError := false } := if_neg (by omega)

theorem cvuConfig_narrow {v : BitVec 32} {c : Cvu} (h : ¬ (2 ≤ bitsOf v.toNat 5 0 ∧ bitsOf v.toNat 5 0 ≤ 31)) :
    cvuConfig v c = { c with cfgError := true } := if_pos (by omega)

/-- A byte is in one feed order only. -/
theorem cvuFeed_byte (c : Cvu) (b : BitVec 8) : cvuFeed 1 b.toNat c = cvuByte c b.toNat := by
  have hb : b.toNat / 256 ^ 0 % 256 = b.toNat := by rw [Nat.pow_zero, Nat.div_one, Nat.mod_eq_of_lt b.isLt]
  have hl : (List.range 1).map (fun i => b.toNat / 256 ^ i % 256) = [b.toNat] := congrArg (fun x => [x]) hb
  simp only [cvuFeed, cvuBytes, hl, List.reverse_singleton, ite_self, List.foldl_cons, List.foldl_nil]

end

/-! ### SPI frames to a unit -/

section
variable {s : State} {frame : Bytes}

theorem execSpiRegisterWrite_good {unit off : Nat} (hu : spiUnit (spiIndex frame) = some (unit, off))
    (hg : SpiFrameGood s frame 0x20 4 = true) (hl : beAt frame 4 2 = 4) :
    execSpiRegisterWrite frame s = .next (cvuRegWrite (spiTaken s) unit .spi off (BitVec.ofNat 32 (beAt frame 6 4))) := by
  rw [execSpiRegisterWrite, hl, hu]
  exact congrArg _ (spiFrame_good hg)

theorem execSpiRegisterRead_good (hg : SpiFrameGood s frame 0x21 0 = true) (hl : beAt frame 4 2 = 0) :
    let v := match spiUnit (spiIndex frame) with | some (n, o) => cvuRegRead (spiTaken s) n o | none => 0xFFFFFFFF
    execSpiRegisterRead frame s = .next (emit (spiTaken s) (.spi ([0xFF] ++ be 4 v.toNat ++ be 2 (crcCcitt (be 4 v.toNat))))) := by
  rw [execSpiRegisterRead, hl]
  exact congrArg _ (spiFrame_good hg)

theorem execSpiTargetReset_good (hg : SpiFrameGood s frame 0x7F 0 = true) (hl : beAt frame 4 2 = 0) :
    execSpiTargetReset frame s = .next (spiReset (spiTaken s)) := by
  rw [execSpiTargetReset, hl]
  exact congrArg _ (spiFrame_good hg)

theorem spiHeld_parts {s t : State} (h : spiHeld t = spiHeld s) : t.cvu = s.cvu ∧ t.spi.request = s.spi.request ∧ t.spi.answer = s.spi.answer := by
  simpa [spiHeld] using h

end

/-- Settles O45: a write is one change of one unit; the reflected CRC mirrors the unit's; a frame acts only when it is good. -/
theorem checkValueUnitsRun : Obligations.CheckValueUnitsRun := by
  refine ⟨⟨fun s u src reg v8 v16 v32 => ?_, fun c b h1 h2 h3 h4 => CrcSetup.crc32 ⟨h1, h2, h3, h4⟩ b⟩, fun s frame unit off =>
    ⟨execSpiRegisterWrite_good, execSpiRegisterRead_good, execSpiTargetReset_good,
      fun hb => ⟨_, rfl, spiHeld_parts (spiFrame_bad _ hb)⟩, fun hb => ⟨_, rfl, spiHeld_parts (spiFrame_bad _ hb)⟩⟩⟩
  intro c becomes wide ignored hr
  refine ⟨fun hc => ?taken, fun h0 hc => ?ignored⟩
  case taken =>
    have hw (act : Cvu → Cvu) := congrArg (Host.Outcome.next (φ := Fault) (ρ := Refusal)) (cvuWrite_taken act hr hc)
    exact ⟨fun h => (hw (cvuConfig v32)).trans (by rw [cvuConfig_wide h]), fun h => (hw (cvuConfig v32)).trans (by rw [cvuConfig_narrow h]),
      hw _, hw _, hw _, hw _, hw cvuLoad, hw (cvuTake src), hw cvuDrop, (hw (cvuFeed 1 v8.toNat)).trans (by rw [cvuFeed_byte]),
      hw (cvuFeed 2 v16.toNat), hw (cvuFeed 4 v32.toNat)⟩
  case ignored =>
    have hw (act : Cvu → Cvu) := congrArg (Host.Outcome.next (φ := Fault) (ρ := Refusal)) (cvuWrite_ignored act hr h0 hc)
    obtain ⟨act, hact⟩ := cvuConfigWrite_isWrite (u := u) (src := src) reg v32
    exact ⟨(congrArg _ (hact s)).trans (hw act), hw cvuLoad, hw (cvuTake src), hw cvuDrop, hw (cvuFeed 1 v8.toNat), hw (cvuFeed 2 v16.toNat),
      hw (cvuFeed 4 v32.toNat)⟩

end Sys2Proof.Machine
end

section
/-! PROOFS. Images and field update (R524, R530 to R540): the commands of 2700h.01, and the start that follows an activation in Recovery. -/

namespace Sys2Proof.Machine

/-! ### The banks -/

section
variable {s : State} {b c : Nat} (f : ImageBank → ImageBank)

theorem bankOf_setBank_same (hb : b < 2) : bankOf (setBank s b f) b = f (bankOf s b) := by
  have h : s.upd.banks[b]? = some s.upd.banks[b] := Vector.getElem?_eq_getElem hb
  exact (congrArg (Option.getD · ImageBank.absent) (getElem?_vmod f h)).trans (by rw [bankOf, h, Option.getD_some, Option.getD_some])

theorem bankOf_setBank_other (hb : c ≠ b) : bankOf (setBank s c f) b = bankOf s b := by
  have h : (vmod s.upd.banks c f)[b]? = s.upd.banks[b]? := by
    unfold vmod
    split
    · exact Vector.getElem?_setIfInBounds_ne hb
    · rfl
  exact congrArg (Option.getD · ImageBank.absent) h

end

/-- The bank that is activated is in Trial, and the other one, where it was Active, in Previous (R525, R534). -/
theorem bankOf_toTrial {s : State} {b : Nat} (hb : b < 2) : (bankOf (toTrial s b) b).state = .trial ∧
    ((bankOf s (1 - b)).state = .active → (bankOf (toTrial s b) (1 - b)).state = .previous) := by
  have hne : 1 - b ≠ b := by omega
  refine ⟨?_, fun ha => ?_⟩
  · rw [toTrial, bankOf_setBank_other _ hne, bankOf_setBank_same _ hb]
  · rw [toTrial, bankOf_setBank_same _ (by omega), bankOf_setBank_other _ hne.symm, ha]

/-! ### A restart keeps the banks -/

theorem upd_offEvents : OffEvents State.upd := fun _ _ _ _ _ _ _ _ => rfl

theorem abandonValidation_none {s : State} (h : s.cs.validating = none) : abandonValidation s = s := by simp [abandonValidation, h]

theorem clockRestart_upd (s : State) : (clockRestart s).upd = s.upd :=
  reading_foldl State.upd (fun t pin => by unfold setTpoLevel; split <;> rfl) _ _

theorem hostSignal_upd (s : State) (bit : Nat) : (hostSignal s bit).upd = s.upd := by
  unfold hostSignal
  dsimp only
  split <;> rfl

/-- What lives in flash and OTP stays at a restart; all else of the block is at its reset value (R24, R525). -/
theorem restart_upd {s : State} (cause : Nat) (straps : Straps) (recovery : Bool) (h : s.cs.validating = none) :
    (restart s cause straps recovery).upd = (coldBlocks s).upd := by
  unfold restart
  extract_lets s0 _src _cs c _time t _op op t0 t1 t2 t3 lost
  have hs0 : s0 = s := abandonValidation_none h
  have h0 : c.upd = (coldBlocks s).upd := congrArg (fun x => (coldBlocks x).upd) hs0
  clear_value c
  have ht : t.upd = (coldBlocks s).upd := (clockRestart_upd _).trans h0
  clear_value t
  have h1 : t1.upd = (coldBlocks s).upd := (hostSignal_upd t0 6).trans ht
  have h3 : t3.upd = (coldBlocks s).upd := by
    dsimp only [t3]
    split
    · exact (upd_offEvents.raise ..).trans ((upd_offEvents.raise ..).trans h1)
    · exact (upd_offEvents.raise ..).trans h1
  split
  · exact (upd_offEvents.raise ..).trans h3
  · exact h3

/-! ### Activation -/

section
variable {s : State} {ses : SessionNo}

theorem activateWrite_staged (hs : s.op.state = .normal ∨ s.op.state = .commissioning ∨ s.op.state = .recovery) (hb : activationBar s = none)
    (hst : (bankOf s s.upd.target).state = .staged) (dest : ReplyTo) : activateWrite s dest = activate s s.upd.target 3 dest := by
  rcases hs with hs | hs | hs <;> simp only [activateWrite, hs, hb, hst, if_true]

/-- The state from which the device restarts when a bank is activated in Recovery (R536). -/
def activatedInRecovery (s : State) (b : Nat) (ses : SessionNo) : State :=
  toTrial (emit { s with upd := { s.upd with lastResult := 0, failReason := 0 } } (.answer (.session ses) 0 [])) b

theorem activate_recovery (b cmd : Nat) (hs : s.op.state = .recovery) : activate s b cmd (.session ses) =
    (restart { activatedInRecovery s b ses with op := { s.op with afterRecovery := true } } 4 s.op.straps false, none) := if_pos hs

/-- Nothing is being validated where nothing stands against an activation (R532). -/
theorem activationBar_validating (h : activationBar s = none) : s.cs.validating = none := by
  unfold activationBar at h
  split at h
  · cases h
  · split at h
    · cases h
    · simp_all

end

/-- Settles O60: the command is answered, the banks change, and the restart that follows keeps them. -/
theorem recoveryActivatesByRestart : Obligations.RecoveryActivatesByRestart := by
  intro s ses hs hw hb ht hstaged
  have hupd := restart_upd (s := { activatedInRecovery s s.upd.target ses with op := { s.op with afterRecovery := true } }) 4 s.op.straps false
    (activationBar_validating hb)
  have hbank (b : Nat) := congrArg (fun u : UpdateBlock => (u.banks[b]?).getD ImageBank.absent) hupd
  obtain ⟨htrial, hprevious⟩ := bankOf_toTrial ht
    (s := emit { s with upd := { s.upd with lastResult := 0, failReason := 0 } } (.answer (.session ses) 0 []))
  refine ⟨_, congrArg Host.Outcome.next ?_, (restart_state_cause ..).1, (congrArg ImageBank.state (hbank _)).trans htrial,
    fun ha => (congrArg ImageBank.state (hbank _)).trans (hprevious ha), congrArg UpdateBlock.activating hupd⟩
  exact (lateCommand_allowed _ hw).trans (by
    rw [show updWrite s (.session ses) 3 = _ from (activateWrite_staged (.inr (.inr hs)) hb hstaged _).trans (activate_recovery _ _ hs)])

end Sys2Proof.Machine
end

section
/-! PROOFS. The commands of 2700h.01, part writes, erases, the activation pause and the trial (R524, R530 to R540): each is one branch of its
meaning. -/

namespace Sys2Proof.Machine

section
variable {s : State} {ses : SessionNo}

/-! ### Staging -/

/-- A bank holds an image that is being staged, is staged, or has failed (R530, R531). -/
def Stages (x : ImageState) : Prop := x = .staging ∨ x = .staged ∨ x = .failed

theorem beginStagingWrite_open (h : stagingBarred s = false) (dest : ReplyTo) : beginStagingWrite s dest =
    (setBank { s with upd := { s.upd with erasing := some dest } } s.upd.target (fun x => { x with state := .staging, parts := [] }), none) :=
  if_neg (ne_true_of_eq_false h)

/-- The image of the target bank as a verification takes it (R530). -/
def stagedImage (s : State) : Bytes := imageOf { bankOf s s.upd.target with state := .staging }

theorem verifyWrite_open (h : stagingBarred s = false) (hst : Stages (bankOf s s.upd.target).state) : verifyWrite s =
    if verifyReason s (stagedImage s) = 0 then
      updResult (raise (setBank s s.upd.target (fun x => { x with state := .staged })) 0x2701 1 0xFF
        (be 1 s.upd.target ++ versionText (stagedImage s) ++ be 1 (byteAt (stagedImage s) 12))) 0 0
    else updResult (setBank s s.upd.target (fun x => { x with state := .failed })) 0x0D (verifyReason s (stagedImage s)) := by
  have hbank : ¬ ((bankOf s s.upd.target).state ≠ .staging ∧ (bankOf s s.upd.target).state ≠ .staged ∧ (bankOf s s.upd.target).state ≠ .failed) :=
    fun hn => hst.elim hn.1 (·.elim hn.2.1 hn.2.2)
  exact (if_neg (ne_true_of_eq_false h)).trans (if_neg hbank)

theorem discardWrite_idle (hst : Stages (bankOf s s.upd.target).state) (ha : s.upd.activating = 0) (he : s.upd.erasing = none) :
    discardWrite s = updResult (setBank s s.upd.target (fun x => { x with state := .empty, parts := [] })) 0 0 :=
  if_pos ⟨hst, ha, by rw [he]; rfl⟩

theorem confirmWrite_trial {b : Nat} (h : bankIn s .trial = some b) : confirmWrite s = updResult (confirm s b) 0 0 := by
  simp only [confirmWrite, h]

/-- No failed block: the part stands in a bank in Staging (R530). -/
theorem partWrite_staging (part : Nat) (data : Bytes) (h : stagingBarred s = false) (hst : (bankOf s s.upd.target).state = .staging) :
    partWrite s part data none = (setBank s s.upd.target (fun x => { x with parts := tput x.parts part data }), 0) := by
  have hw : bankWaits s s.upd.target = false := by
    simp only [stagingBarred, Bool.or_eq_false_iff] at h
    exact h.2
  exact (if_neg (ne_true_of_eq_false h)).trans ((if_neg (Classical.not_not.2 hst)).trans (if_neg (ne_true_of_eq_false hw)))

theorem partWrite_notStaging (part : Nat) (data : Bytes) (h : stagingBarred s = false) (hst : (bankOf s s.upd.target).state ≠ .staging) :
    partWrite s part data none = ({ s with upd := { s.upd with failReason := 9 } }, 0x0F) :=
  (if_neg (ne_true_of_eq_false h)).trans (if_pos hst)

/-! ### Activation -/

/-- An activation has begun: the handover is asked for, or the pause starts (R533). -/
def begun (s : State) (dest : ReplyTo) (n cmd : Nat) : State :=
  let u := { s with upd := { s.upd with newBank := n, oldBank := s.upd.running, lastCommand := BitVec.ofNat 8 cmd, activator := dest } }
  if pairActs s = true ∧ s.pair.role = .active ∧ standbyPresent s = true
    then sendPair { u with upd := { u.upd with activating := 1, pauseStart := s.time.mono } } 0 0x35 (be 1 2) else startPause u

theorem activate_running (b cmd : Nat) (dest : ReplyTo) (h : s.op.state ≠ .recovery) : activate s b cmd dest = (begun s dest b cmd, none) := by
  by_cases hc : pairActs s = true ∧ s.pair.role = .active ∧ standbyPresent s = true
  · exact (if_neg h).trans ((if_pos hc).trans (by rw [begun, if_pos hc]))
  · exact (if_neg h).trans ((if_neg hc).trans (by rw [begun, if_neg hc]))

theorem revertWrite_previous (dest : ReplyTo) (hb : activationBar s = none) (hst : (bankOf s (1 - s.upd.running)).state = .previous)
    (hv : verifyReason s (imageOf (bankOf s (1 - s.upd.running))) = 0) : revertWrite s dest = activate s (1 - s.upd.running) 6 dest := by
  simp only [revertWrite, hb]
  exact (if_neg (Classical.not_not.2 hst)).trans (if_pos hv)

/-! ### A command of 2700h.01, and a write that passes its checks -/

theorem command_result {idx sub c : Nat} {v : Bytes} {act : State → State × Nat} {t : State} (hw : WriteAllowed s ses idx sub v) (h : act s = (t, c)) :
    command s ses idx sub v act = emit t (.answer (.session ses) (BitVec.ofNat 8 c) []) :=
  (command_allowed act hw).trans (by rw [h])

theorem updCommand_late {code : Nat} {t : State} (hw : WriteAllowed s ses 0x2700 1 (be 1 code)) (h : updWrite s (.session ses) code = (t, none)) :
    updCommand s ses code = t :=
  (lateCommand_allowed _ hw).trans (by simp only [h])

/-- The answer of a command shows in 2700h.05 and 2700h.06 (R542). -/
theorem updCommand_result {code r reason : Nat} {u : State} (hw : WriteAllowed s ses 0x2700 1 (be 1 code))
    (h : updWrite s (.session ses) code = updResult u r reason) : updCommand s ses code =
      emit { u with upd := { u.upd with lastResult := BitVec.ofNat 8 r, failReason := BitVec.ofNat 8 reason } }
        (.answer (.session ses) (BitVec.ofNat 8 r) []) :=
  (lateCommand_allowed _ hw).trans (by simp only [h, updResult])

end

/-- Settles O43: each command is one branch of its meaning, and answers with its result. -/
theorem imageCommandsOf2700h : Obligations.ImageCommandsOf2700h := by
  constructor
  · intro s ses b tb answered begunHere
    refine ⟨fun hw hb => congrArg _ (updCommand_late hw (beginStagingWrite_open hb _)), fun hw hb hst => ?verify,
      fun hw hst ha he => congrArg _ (updCommand_result hw (discardWrite_idle hst ha he)),
      fun hw ht => congrArg _ (updCommand_result hw (confirmWrite_trial ht)), fun hw hs hb hst => ?activate, fun hw hs hb hst hv => ?revert⟩
    case verify =>
      have hv := verifyWrite_open hb hst
      exact ⟨fun h0 => congrArg _ (updCommand_result hw (hv.trans (if_pos h0))), fun h0 => congrArg _ (updCommand_result hw (hv.trans (if_neg h0)))⟩
    case activate =>
      have hrec : s.op.state ≠ .recovery := by rcases hs with hs | hs <;> simp [hs]
      exact congrArg _ (updCommand_late hw ((activateWrite_staged (hs.imp_right .inl) hb hst _).trans (activate_running _ _ _ hrec)))
    case revert => exact congrArg _ (updCommand_late hw ((revertWrite_previous _ hb hst hv).trans (activate_running _ _ _ hs)))
  · intro s ses part data dest r b t0 v8
    refine ⟨fun he => ⟨_, ?erase, rfl⟩, fun hw hb => ⟨fun hst => ?stored, fun hst => ?refused⟩, fun ha ht => ⟨_, if_pos ⟨ha, ht⟩, rfl⟩,
      fun ha => ⟨if_pos ha, fun hr hp => ?phase⟩, fun hb hn hs hv ht ha => ?trial, fun hw hs hl => ?lock, fun hw hs hv => ?target⟩
    case erase =>
      change execStagingEraseComplete [] s = _
      simp only [execStagingEraseComplete, he, List.filter_nil, List.foldl_nil]
    case stored => exact congrArg _ (command_result hw (partWrite_staging _ _ hb hst))
    case refused => exact congrArg _ (command_result hw (partWrite_notStaging _ _ hb hst))
    case phase =>
      refine (if_pos ha).trans (congrArg _ ?_)
      simp only [hr, pausePhase, hp, pausePhase2, if_true]
    case trial =>
      change execTrialTimeExpiry s = _
      simp only [execTrialTimeExpiry, hb, hn]
      exact if_pos ⟨hs, hv, ht, ha⟩
    case lock =>
      have h : fieldLockWrite s 0x4C4F434B = (raise { s with upd := { s.upd with lockFuse := true } } 0x2707 2 0xFF [], 0) :=
        (if_neg (Classical.not_not.2 hs)).trans ((if_neg (by decide)).trans (if_neg (ne_true_of_eq_false hl)))
      exact congrArg _ (command_result hw h)
    case target =>
      have h : recoveryTargetSet s v8.toNat = ({ s with upd := { s.upd with target := v8.toNat } }, 0) :=
        (if_neg (Classical.not_not.2 hs)).trans (if_neg (Nat.not_lt.2 hv))
      exact congrArg _ (command_result hw h)

end Sys2Proof.Machine
end

section
/-! PROOFS. The host pool window, the aperture and the PCIe link (R551, R552, R557, R576). -/

namespace Sys2Proof.Machine

/-! ### What an event leaves of the host block -/

/-- Counting and recording reach the host block only by its condition bits, once all has been counted. -/
theorem tally_host (s : State) (idx sub sel : Nat) : (tally s idx sub sel).host = s.host := by
  unfold tally keepCount jAppend
  rw [rawBump_frame]
  repeat' split
  all_goals rfl

theorem canMgmtSend_host (s : State) (cn : Nat) (f : CanFrame) : (canMgmtSend s cn f).host = s.host := by
  unfold canMgmtSend
  rw [rawBump_frame]
  repeat' split
  all_goals rfl

theorem emcyOn_host (s : State) (data : Bytes) (cn : Nat) : (emcyOn s data cn).host = s.host := by
  have hsend := canMgmtSend_host s cn (classicFrame (0x080 + nodeId s) data)
  unfold emcyOn
  split
  · split
    · rfl
    · dsimp only
      split <;> exact hsend
  · rfl

theorem pushRecord_host (s : State) (code sev src : Nat) (data : Bytes) : (pushRecord s code sev src data).host = s.host := by
  unfold pushRecord
  extract_lets r _ev s1
  have h1 : s1.host = s.host := by
    dsimp only [s1]
    split
    · rfl
    · split
      · rfl
      · exact reading_foldl State.host (fun t _ => tally_host t _ _ _) _ _
  split
  · exact (reading_foldl State.host (fun t cn => emcyOn_host t _ cn) _ _).trans h1
  · exact h1

theorem afterRound_host (before s : State) : (afterRound before s).host = s.host := by
  unfold afterRound
  extract_lets sat s1 s2 s3
  have hsat : ∀ t k i j, (sat t k i j).host = t.host := fun t k i j => by
    dsimp only [sat]
    split
    · exact pushRecord_host ..
    · rfl
  have h2 : s2.host = s.host := (reading_foldl State.host (fun t cn => hsat t _ _ _) _ _).trans (hsat _ _ _ _)
  have h3 : s3.host = s.host := by
    refine (reading_foldl State.host (fun t cn => ?_) _ _).trans h2
    split
    · exact pushRecord_host ..
    · rfl
  split
  · exact (pushRecord_host ..).trans h3
  · exact h3

theorem afterRounds_host (fuel : Nat) (before s : State) : (afterRounds fuel before s).host = s.host := by
  induction fuel generalizing before s with
  | zero => rfl
  | succ n ih =>
    unfold afterRounds
    dsimp only
    split
    · exact afterRound_host ..
    · exact (ih ..).trans (afterRound_host ..)

theorem hostEdges_paoff (s : State) : (hostEdges s).host.paoff = s.host.paoff := by
  unfold hostEdges
  dsimp only
  split <;> rfl

theorem bump_paoff (s : State) (idx sub : Nat) : (bump s idx sub).host.paoff = s.host.paoff := by
  have hraise (code sev src : Nat) (data : Bytes) : (raise (tally s idx sub 0) code sev src data).host.paoff = s.host.paoff :=
    (hostEdges_paoff _).trans (congrArg HostBlock.paoff ((afterRounds_host ..).trans ((pushRecord_host ..).trans (tally_host ..))))
  unfold bump bumpAt
  dsimp only
  split
  · exact hraise ..
  · exact congrArg HostBlock.paoff (tally_host ..)

section
variable {s : State}

/-! ### The pool window -/

theorem execHpreqWrite_granted {v h : BitVec 32} (hp : poolServed s = true) (hd : hpDone s = true)
    (hr : (poolRequestOne s 8 (bitsOf v.toNat 20 0) (v.getLsbD 31)).2 = some h) :
    let r := poolRequestOne s 8 (bitsOf v.toNat 20 0) (v.getLsbD 31)
    execHpreqWrite v s = .next { r.1 with host := { r.1.host with pres := 0x80000000, phdl := h } } := by
  simp only [execHpreqWrite, hp, hd, Bool.and_self, if_true, hr]

theorem execHpreqWrite_failed {v : BitVec 32} (hp : poolServed s = true) (hd : hpDone s = true)
    (hr : (poolRequestOne s 8 (bitsOf v.toNat 20 0) (v.getLsbD 31)).2 = none) :
    let r := poolRequestOne s 8 (bitsOf v.toNat 20 0) (v.getLsbD 31)
    let cause : BitVec 32 := if bitsOf v.toNat 20 0 = 0 ∨ 1048576 < bitsOf v.toNat 20 0 then 2 else 0
    execHpreqWrite v s = .next { r.1 with host := { r.1.host with pres := 0xC0000000 ||| cause } } := by
  simp only [execHpreqWrite, hp, hd, Bool.and_self, if_true, hr]

/-! ### The aperture -/

/-- The first n bytes of a word stand from an offset of a buffer on, least significant first (R551). -/
def putBytes (n : Nat) (t : Tbl Byte) (h : BitVec 32) (off : Nat) (v : BitVec 32) : Tbl Byte :=
  (List.range n).foldl (fun (t : Tbl Byte) i => tput t (apertureKey h (off + i)) (BitVec.ofNat 8 (v.toNat / 256 ^ i))) t

section
variable {t : Tbl Byte} {h : BitVec 32} {off : Nat} {v : BitVec 32}

theorem putBytes_succ (n : Nat) : putBytes (n + 1) t h off v =
    tput (putBytes n t h off v) (apertureKey h (off + n)) (BitVec.ofNat 8 (v.toNat / 256 ^ n)) := by
  rw [putBytes, List.range_succ, List.foldl_append]
  rfl

theorem sortedKeys_putBytes (hs : sortedKeys t = true) (n : Nat) : sortedKeys (putBytes n t h off v) = true := by
  induction n with
  | zero => exact hs
  | succ n ih => exact putBytes_succ n ▸ sortedKeys_tput _ _ _ ih

theorem tget_putBytes (hs : sortedKeys t = true) {n i : Nat} (hi : i < n) :
    tget (putBytes n t h off v) (apertureKey h (off + i)) = some (BitVec.ofNat 8 (v.toNat / 256 ^ i)) := by
  induction n with
  | zero => omega
  | succ n ih =>
    rw [putBytes_succ]
    rcases Nat.lt_succ_iff_lt_or_eq.1 hi with hlt | rfl
    · have hkey : apertureKey h (off + i) ≠ apertureKey h (off + n) := by unfold apertureKey; omega
      rw [tget_tput_other _ _ _ _ (sortedKeys_putBytes hs n) hkey, ih hlt]
    · exact tget_tput_same ..

end

theorem execHpadatRead_open {ap : Option (BitVec 32 × BitVec 32)} (hp : poolServed s = true) (ho : apertureOpen (setAperture s ap) = true) :
    let u := setAperture s ap
    execHpadatRead ap s = .next (advanceAperture (emit u (.register (BitVec.ofNat 32
      ((List.range 4).foldl (fun n i => n + (bufferByte u u.host.pasel (u.host.paoff.toNat + i)).toNat * 256 ^ i) 0))))) :=
  (if_pos hp).trans (if_pos ho)

theorem execHpadatRead_closed {ap : Option (BitVec 32 × BitVec 32)} (hp : poolServed s = true) (ho : apertureOpen (setAperture s ap) = false) :
    execHpadatRead ap s = .next (advanceAperture (emit (bump (setAperture s ap) 0x2810 0x0B) (.register 0xFFFFFFFF))) :=
  (if_pos hp).trans (if_neg (ne_true_of_eq_false ho))

theorem execHpadatWrite_open {ap : Option (BitVec 32 × BitVec 32)} {v : BitVec 32} (hp : poolServed s = true) (ho : apertureOpen (setAperture s ap) = true) :
    let u := setAperture s ap
    execHpadatWrite ap v s = .next (advanceAperture { u with host := { u.host with buffers := putBytes 4 u.host.buffers u.host.pasel u.host.paoff.toNat v } }) :=
  (if_pos hp).trans (if_pos ho)

theorem execHpadatWrite_closed {ap : Option (BitVec 32 × BitVec 32)} {v : BitVec 32} (hp : poolServed s = true)
    (ho : apertureOpen (setAperture s ap) = false) :
    execHpadatWrite ap v s = .next (advanceAperture (bump (setAperture s ap) 0x2810 0x0B)) :=
  (if_pos hp).trans (if_neg (ne_true_of_eq_false ho))

/-- A counted access moves HPAOFF on as any other (R551). -/
theorem advanceAperture_bump (idx sub : Nat) : advanceAperture (bump s idx sub) =
    { bump s idx sub with host := { (bump s idx sub).host with paoff := s.host.paoff + 4 } } := by
  rw [advanceAperture, bump_paoff]

theorem setAperture_buffers (ap : Option (BitVec 32 × BitVec 32)) : (setAperture s ap).host.buffers = s.host.buffers := by cases ap <;> rfl

/-! ### The link -/

/-- The link has come up: the event, and the change of HOST's port (R557). -/
def linkAnnounced (rate : Fin 4) (t : State) : State :=
  let u := raise t 0x2801 1 0xFF (be 1 1 ++ be 1 rate.val)
  if linkIsUp u 38 then u else linkChanged u 38 1 0

theorem execPcieLinkUp_closed (rate : Fin 4) (hl : linkMayTrain s = true) (ho : isOpen s 17 = false) (hs : s.op.state ≠ .recovery) :
    let t := { s with host := { s.host with link := 1, rate := BitVec.ofNat 8 rate.val, d3hot := false } }
    execPcieLinkUp rate s = .next (linkAnnounced rate (openSession t 17 (s.val 0x2110 4) 4)) := by
  intro t
  have hsess : (if isOpen t 17 then t else openSession t 17 (if s.op.state = .recovery then 2 else s.val 0x2110 4) 4) =
      openSession t 17 (s.val 0x2110 4) 4 := by
    rw [if_neg (ne_true_of_eq_false (show isOpen t 17 = false from ho)), if_neg hs]
  exact (if_neg (by simp [hl])).trans (congrArg (fun u => Host.Outcome.next (linkAnnounced rate u)) hsess)

end

/-- Settles O46: each command is one branch of its meaning; what it counts leaves HPAOFF as it was. -/
theorem hostPoolAndAperture : Obligations.HostPoolAndAperture := by
  refine ⟨fun s v dest h ap hp => ⟨fun hd => ⟨execHpreqWrite_granted hp hd, execHpreqWrite_failed hp hd⟩, ⟨if_pos hp, if_pos hp⟩,
    fun ho => ⟨execHpadatRead_open hp ho, ?write⟩, fun ho => ⟨?countedRead, ?countedWrite⟩⟩, fun s rate d3 => ⟨fun hl ho hs => ⟨fun hu => ?_, fun hu => ?_⟩,
    fun hl => congrArg _ (if_neg hl), fun hl => if_neg hl⟩⟩
  case write => exact ⟨_, execHpadatWrite_open hp ho, rfl, fun hsort i => tget_putBytes (by rwa [setAperture_buffers])⟩
  case countedRead =>
    refine (execHpadatRead_closed hp ho).trans (congrArg Host.Outcome.next ?_)
    exact congrArg (emit · (.register 0xFFFFFFFF)) (advanceAperture_bump ..)
  case countedWrite => exact (execHpadatWrite_closed hp ho).trans (congrArg _ (advanceAperture_bump ..))
  · exact (execPcieLinkUp_closed rate hl ho hs).trans (congrArg _ (if_neg (ne_true_of_eq_false hu)))
  · exact (execPcieLinkUp_closed rate hl ho hs).trans (congrArg _ (if_pos hu))

end Sys2Proof.Machine
end

section
/-! PROOFS. The rings of the host interface (R552 to R555). -/

namespace Sys2Proof.Machine

section
variable {s : State}

/-! ### Registers -/

/-- Two changes of a ring that agree on it are one. -/
theorem setRing_congr {r : Nat} {f g : Ring → Ring} (h : f (ring s r) = g (ring s r)) : setRing s r f = setRing s r g := by
  have hv : vmod s.host.rings r f = vmod s.host.rings r g := by
    unfold vmod
    cases hr : s.host.rings[r]? with
    | none => rfl
    | some x =>
      rw [ring, hr, Option.getD_some] at h
      exact congrArg (s.host.rings.setIfInBounds r) h
  rw [setRing, hv, setRing]

theorem execRtailWrite_stored {r : Fin 16} {v : BitVec 32} (hr : hostReaches s = true) (hv : v.toNat < (ring s r.val).size.toNat) :
    execRtailWrite r v s = .next (setRing s r.val (fun y => { y with tail := v.toNat })) :=
  (if_neg (by simp [hr])).trans (if_neg (Nat.not_le.2 hv))

theorem execRtailWrite_beyond {r : Fin 16} {v : BitVec 32} (hr : hostReaches s = true) (hv : (ring s r.val).size.toNat ≤ v.toNat) :
    execRtailWrite r v s = .next (ringStop s r.val 3) :=
  (if_neg (by simp [hr])).trans (if_pos hv)

/-- A ring as an enabling of a disabled one writes it (R552). -/
def ringWritten (base : BitVec 64) (sz rctl : BitVec 32) (y : Ring) : Ring :=
  { y with basl := base.setWidth 32 &&& 0xFFFFFFC0, bash := (base >>> 32).setWidth 32, size := sz, ctl := (rctl &&& 0xFFFFFFFC) ||| 1, sts := 0 }

theorem execRingEnable_disabled {r : Fin 16} {base : BitVec 64} {sz rctl : BitVec 32} (hr : hostReaches s = true)
    (hd : (ring s r.val).ctl.getLsbD 0 = false) (hsize : ringSizeOk (ring (setRing s r.val (ringWritten base sz rctl)) r.val) = true) :
    execRingEnable (.enable r base sz rctl) s = .next (setRing s r.val (ringWritten base sz rctl)) := by
  have hset := setRing_congr (s := s) (r := r.val) (g := ringWritten base sz rctl)
    (f := fun y => if y.ctl.getLsbD 0 then { y with ctl := (rctl &&& 0xFFFFFFFC) ||| 1 } else ringWritten base sz rctl y)
    (if_neg (ne_true_of_eq_false hd))
  refine (if_neg (by simp [hr])).trans ((congrArg (fun u => Host.Outcome.next (if ringSizeOk (ring u r.val) then u else ringStop u r.val 1)) hset).trans ?_)
  exact congrArg Host.Outcome.next (if_pos hsize)

/-! ### Descriptors -/

/-- The state in which a TX ring has taken its turn (R553). -/
def txTaken (s : State) (r : Nat) : State := { s with host := { s.host with lastTx := r } }

theorem txDescriptor_badLength {r : Nat} {d : TxDescriptor} {mem : HostMemory} (hl : leAt d.bytes 8 2 < 14 ∨ s.val 0x3026 5 - 4 < leAt d.bytes 8 2) :
    txDescriptor s r d mem = txError (txTaken s r) r 1 (bitOf (byteAt d.bytes 10) 0) := if_pos hl

theorem txDescriptor_granted {r : Nat} {d : TxDescriptor} {b : Bytes} {h : BitVec 32} (h14 : 14 ≤ leAt d.bytes 8 2)
    (hmax : leAt d.bytes 8 2 ≤ s.val 0x3026 5 - 4) (hmem : bitOf (byteAt d.bytes 10) 2 = false)
    (hp : (poolRequestOne (txTaken s r) (ringOwner r) (leAt d.bytes 8 2) true).2 = some h) :
    txDescriptor s r d (.data b) =
      txHand (poolRequestOne (txTaken s r) (ringOwner r) (leAt d.bytes 8 2) true).1 r d.bytes (padTo (leAt d.bytes 8 2) b) h := by
  have hlen : ¬ (leAt d.bytes 8 2 < 14 ∨ s.val 0x3026 5 - 4 < leAt d.bytes 8 2) := by omega
  refine (if_neg hlen).trans ((if_neg (ne_true_of_eq_false hmem)).trans ?_)
  rw [txTaken] at hp
  simp only [hp]
  rfl

theorem execRxFrameDelivery_selected {c : Fin 8} {buffer : HostBuffer} {reads : List CellRead} {k : Copy} {rest : List Copy} {f : Frame}
    (hr : ringRuns s (8 + c.val) = true) (hs : (selectClass s (hostReady s) 38).2 = some c.val)
    (hq : queue (selectClass s (hostReady s) 38).1 (queueNo 38 c.val) = k :: rest) (hf : frameOf (selectClass s (hostReady s) 38).1 k.frame = some f) :
    execRxFrameDelivery c buffer reads s =
      .next (rxDeliver (selectClass s (hostReady s) 38).1 c.val buffer.size.toNat buffer.error reads k f) := by
  refine (if_neg (by simp [hr])).trans ((if_neg (Classical.not_not.2 hs)).trans ?_)
  simp only [hq, hf]

end

/-- Settles O47: each command is one branch of its meaning. -/
theorem hostRingsRun : Obligations.HostRingsRun := by
  intro s r16 r8 v rctl sz base d b mem bs err reads h k rest f
  refine ⟨fun hr => ⟨execRtailWrite_stored hr, execRtailWrite_beyond hr, fun hd => execRingEnable_disabled hr hd, if_pos hr, if_pos hr⟩,
    fun ht => ⟨fun h14 hmax hmem hp => ?granted, fun hl => ?badLength⟩, execRxFrameDelivery_selected, fun hu hm => if_pos ?moderation⟩
  case granted => exact (if_pos ht).trans (congrArg _ (txDescriptor_granted h14 hmax hmem hp))
  case badLength => exact (if_pos ht).trans (congrArg _ (txDescriptor_badLength hl))
  case moderation => simp [moderationOver, hu, hm]

end Sys2Proof.Machine
end

section
/-! PROOFS. Which commands change the values in force, and which the operating state (R24, R42, R57, R65): every other command is made of
operations that keep both, and each that changes the one keeps the other. -/

namespace Sys2Proof.Machine

/-! ### What a reading of the values in force and the state keeps -/

/-- The values in force and the operating state. -/
def standing (k : Kept) : Tbl Bytes × OpState := (k.2.1, k.2.2.1)

/-- Where an outcome is a next state, a reading of what `kept` gathers is the same in it. -/
def Keeps {α : Type} (f : Kept → α) (s : State) : Host.Outcome State Fault Refusal → Prop
  | .next t => f (kept t) = f (kept s)
  | _ => True

section
variable {α : Type} (f : Kept → α) (s : State)

@[simp] theorem keeps_next (t : State) : Keeps f s (.next t) ↔ f (kept t) = f (kept s) := Iff.rfl

@[simp] theorem keeps_refused (r : Refusal) : Keeps f s (.refused r) := trivial

@[simp] theorem keeps_ite (c : Prop) [Decidable c] (a b : Host.Outcome State Fault Refusal) :
    Keeps f s (if c then a else b) ↔ (c → Keeps f s a) ∧ (¬ c → Keeps f s b) := by split <;> simp_all

theorem Keeps.of_exec {f : Kept → α} {s t : State} {c : Instr} (hk : Keeps f s (exec c s)) (h : exec c s = .next t) : f (kept t) = f (kept s) := by
  rwa [h] at hk

end

@[simp] theorem standing_withFuses (k : Kept) (n : Nat) (l : Bool) : standing (withFuses k n l) = standing k := rfl

/-! ### The commands that keep both -/

theorem updCommand_stands {s : State} {ses : SessionNo} {code : Nat}
    (h : standing (kept (updWrite s (.session ses) code).1) = standing (kept s)) :
    standing (kept (updCommand s ses code)) = standing (kept s) :=
  lateCommand_keeps (fun k => standing k = standing (kept s)) _ _ _ _ _ _ rfl h

theorem confirm_standing (s : State) (b : Nat) : standing (kept (confirm s b)) = standing (kept s) := by
  rw [confirm_kept, standing_withFuses]

theorem confirmWrite_standing (s : State) : standing (kept (confirmWrite s).1) = standing (kept s) := by
  unfold confirmWrite
  split
  · rw [updResult_kept, confirm_standing]
  · simp

theorem fieldLockWrite_standing (s : State) (v : Nat) : standing (kept (fieldLockWrite s v).1) = standing (kept s) := by
  rcases fieldLockWrite_kept s v with h | h <;> simp [h]

@[simp] theorem sessionCommands_stand (s : State) :
    (∀ cred, Keeps standing s (execDtlsHandshakeComplete cred s)) ∧
    (∀ slot ack, Keeps standing s (execMosEventAck slot ack s)) ∧
    (∀ slot, Keeps standing s (execMosEventDelivery slot s)) ∧
    (∀ slot, Keeps standing s (execMosEventResend slot s)) ∧
    (∀ cn, Keeps standing s (execSdoSegmentTimeout cn s)) ∧
    (∀ cn, Keeps standing s (execEmcyInhibitExpiry cn s)) ∧
    Keeps standing s (execHeartbeatTimer s) := by
  and_intros
  all_goals
    intros
    simp only [execDtlsHandshakeComplete, execMosEventAck, execMosEventDelivery, execMosEventResend, execSdoSegmentTimeout, execEmcyInhibitExpiry,
      execHeartbeatTimer]
    repeat' split
    all_goals simp

@[simp] theorem frameCommands_stand (s : State) :
    (∀ port rest aborted, Keeps standing s (execFrameEndReceived port rest aborted s)) ∧
    (∀ col probe, Keeps standing s (execCellTest col probe s)) ∧
    (∀ col, Keeps standing s (execBankDrainTimeout col s)) ∧
    (∀ pos, Keeps standing s (execMoveLockExpiry pos s)) ∧
    (∀ gate, Keeps standing s (execStreamGateEntryStart gate s)) ∧
    (∀ port, Keeps standing s (execGateListEntryStart port s)) ∧
    (∀ port, Keeps standing s (execGateListSwap port s)) ∧
    (∀ dataLost, Keeps standing s (execFirstPacketEvaluation dataLost s)) ∧
    Keeps standing s (execFlowAgeingScan s) ∧
    Keeps standing s (execRuleSweepStep s) := by
  and_intros
  all_goals
    intros
    simp only [execFrameEndReceived, execCellTest, execBankDrainTimeout, execMoveLockExpiry, execStreamGateEntryStart, execGateListEntryStart,
      execGateListSwap, execFirstPacketEvaluation, execFlowAgeingScan, execRuleSweepStep]
    repeat' split
    all_goals simp

@[simp] theorem timeAndBusCommands_stand (s : State) :
    (∀ inst port msg, Keeps standing s (execPtpMessageReceived inst port msg s)) ∧
    Keeps standing s (execSourceInstanceChange s) ∧
    Keeps standing s (execHoldoverLimitExpiry s) ∧
    (∀ hit, Keeps standing s (execTriggerOccurrence hit s)) ∧
    (∀ pin, Keeps standing s (execTpoProgramPulse pin s)) ∧
    (∀ bus, Keeps standing s (execEngineHandover bus s)) ∧
    (∀ cn slot, Keeps standing s (execCanSlotGridPoint cn slot s)) ∧
    (∀ sp gap, Keeps standing s (execSerialIdleGap sp gap s)) ∧
    (∀ sp echo, Keeps standing s (execSerialTransmit sp echo s)) ∧
    (∀ sp, Keeps standing s (execModbusFrameEnd sp s)) ∧
    (∀ sp, Keeps standing s (execModbusResponseTimeout sp s)) ∧
    (∀ sp fcode address collision, Keeps standing s (execMvbMasterFrame sp fcode address collision s)) ∧
    (∀ inst port due, Keeps standing s (execPtpMessageInterval inst port due s)) := by
  and_intros
  all_goals
    intros
    simp only [execPtpMessageReceived, execSourceInstanceChange, execHoldoverLimitExpiry, execTriggerOccurrence, execTpoProgramPulse,
      execEngineHandover, execCanSlotGridPoint, execSerialIdleGap, execSerialTransmit, execModbusFrameEnd, execModbusResponseTimeout,
      execMvbMasterFrame, execPtpMessageInterval]
    repeat' split
    all_goals simp

@[simp] theorem gatewayAndBridgeCommands_stand (s : State) :
    Keeps standing s (execGatewayRouteMessage s) ∧
    Keeps standing s (execGatewayDestinationDelivery s) ∧
    (∀ entry, Keeps standing s (execSourceTimeoutExpiry entry s)) ∧
    (∀ poll, Keeps standing s (execModbusPollGridPoint poll s)) ∧
    (∀ offset length, Keeps standing s (execBridgeHeldRead offset length s)) ∧
    (∀ offset data, Keeps standing s (execBridgePostedWrite offset data s)) ∧
    (∀ tag, Keeps standing s (execBridgeReadBoundExpiry tag s)) ∧
    (∀ tag, Keeps standing s (execBridgeAbandonedTimeout tag s)) ∧
    Keeps standing s (execBridgeLockGrant s) ∧
    (∀ poll, Keeps standing s (execBridgeStatusPoll poll s)) ∧
    (∀ ref, Keeps standing s (execAlertingTimeout ref s)) ∧
    (∀ ref, Keeps standing s (execCallQueueTimeout ref s)) := by
  and_intros
  all_goals
    intros
    simp only [execGatewayRouteMessage, execGatewayDestinationDelivery, execSourceTimeoutExpiry, execModbusPollGridPoint, execBridgeHeldRead,
      execBridgePostedWrite, execBridgeReadBoundExpiry, execBridgeAbandonedTimeout, execBridgeLockGrant, execBridgeStatusPoll,
      execAlertingTimeout, execCallQueueTimeout]
    repeat' split
    all_goals simp

@[simp] theorem unitCommands_stand (s : State) :
    (∀ codes, Keeps standing s (execAdcSequenceComplete codes s)) ∧
    Keeps standing s (execHousekeepingSequence s) ∧
    Keeps standing s (execLowVoltageTimer s) := by
  and_intros
  all_goals
    intros
    simp only [execAdcSequenceComplete, execHousekeepingSequence, execLowVoltageTimer]
    repeat' split
    all_goals simp

@[simp] theorem guardAndPairCommands_stand (s : State) :
    (∀ cause count work, Keeps standing s (execGpPass1Close cause count work s)) ∧
    (∀ target, Keeps standing s (execDebugRead target s)) ∧
    (∀ target value, Keeps standing s (execDebugWrite target value s)) ∧
    (∀ port hdr preferred, Keeps standing s (execPresenceFrameReceived port hdr preferred s)) ∧
    Keeps standing s (execPairCycleStart s) ∧
    (∀ port hdr digest, Keeps standing s (execDigestFrameReceived port hdr digest s)) ∧
    Keeps standing s (execCycleJudgement s) ∧
    (∀ port hdr seg, Keeps standing s (execCapsuleSegmentReceived port hdr seg s)) ∧
    Keeps standing s (execCapsuleAcceptTimeout s) ∧
    Keeps standing s (execHandoverInstant s) ∧
    Keeps standing s (execHandoverCapsuleTimeout s) := by
  and_intros
  all_goals
    intros
    simp only [execGpPass1Close, execDebugRead, execDebugWrite, execPresenceFrameReceived, execPairCycleStart, execDigestFrameReceived,
      execCycleJudgement, execCapsuleSegmentReceived, execCapsuleAcceptTimeout, execHandoverInstant, execHandoverCapsuleTimeout]
    repeat' split
    all_goals simp

@[simp] theorem systemCommands_stand (s : State) :
    (∀ errors, Keeps standing s (execScrubStep errors s)) ∧
    Keeps standing s (execHealthReportUpdate s) ∧
    (∀ failed, Keeps standing s (execStagingEraseComplete failed s)) ∧
    Keeps standing s (execMailboxAnswerReady s) ∧
    (∀ value, Keeps standing s (execHpreqWrite value s)) ∧
    (∀ ring buffer reads, Keeps standing s (execRxFrameDelivery ring buffer reads s)) ∧
    (∀ frame, Keeps standing s (execSpiRegisterWrite frame s)) ∧
    Keeps standing s (execSpiAnswerReady s) ∧
    (∀ load pins, Keeps standing s (execSamplePreload load pins s)) ∧
    Keeps standing s (execDebugTokenCheckComplete s) ∧
    (∀ change, Keeps standing s (execRingEnable change s)) := by
  and_intros
  all_goals
    intros
    simp only [execScrubStep, execHealthReportUpdate, execStagingEraseComplete, execMailboxAnswerReady, execHpreqWrite, execRxFrameDelivery,
      execSpiRegisterWrite, execSpiAnswerReady, execSamplePreload, execDebugTokenCheckComplete, execRingEnable]
    repeat' split
    all_goals simp

@[simp] theorem execCrossCheckWindowEnd_stands (s : State) : Keeps standing s (execCrossCheckWindowEnd s) := by
  simp only [execCrossCheckWindowEnd, keeps_ite, keeps_next, kept_ite, raise_kept, ite_self]
  refine ⟨fun _ => trivial, fun _ => ⟨fun _ => congrArg standing (by simp), fun _ => ?_⟩⟩
  split <;> simp

theorem exec_keeps_standing (c : Instr) (s : State) (hc : MayChangeConfig c = false) (hs : MayChangeState c = false) :
    Keeps standing s (exec c s) := by
  cases c
  case beginStaging | verifyImage | discardBank => exact updCommand_stands (congrArg standing (by simp [updWrite]))
  case confirmImage => exact updCommand_stands (confirmWrite_standing s)
  case fieldLockRequest ses value =>
    exact command_keeps (fun k => standing k = standing (kept s)) _ _ _ _ _ _ rfl (fieldLockWrite_standing s value.toNat)
  case trialTimeExpiry =>
    simp only [exec, execTrialTimeExpiry]
    repeat' split
    all_goals simp [confirm_standing]
  case bridgeLockExpiry =>
    cases hl : s.br.lock with
    | held page target tag => simp [exec, bridgeLockExpiry_held hl]
    | _ => simp [exec, execBridgeLockExpiry, hl]
  all_goals first | (cases hc; done) | (cases hs; done) | skip
  all_goals simp [exec,
    execPowerOnResetRearm, execRequestSleepState, execResignFrameRepeat, execObjectRead, execDtlsClose, execMosIdleTimeout, execMosRead,
    execMosSubscribe, execMosKeepalive, execDomPartialTimeout, execVendorChallengeRead, execVendorResponseWrite, execCsApplyNow,
    execCsArmTime, execCsArmPosition, execCsDiscardPending, execCsCancelArmed, execCsValidateOnly, execChangeSetFileWrite,
    execEventRecordRead, execEventReadPositionWrite, execFrameHeadReceived, execLookupVerdict, execTransmissionSelection,
    execFrameTransmitEnd, execLinkUp, execLinkDown, execForwardingAgeingScan, execFlushAllLearned, execFlushPortLearned,
    execFlushFidLearned, execReopenGate, execClearAllRed, execRecoveryResetTimeout, execLatentErrorCheck, execPrpEntryForget,
    execPreemptionVerifyTimer, execRespondMpacketReceived, execVerifyMpacketReceived, execFragmentEntryExpiry, execFlowFlushAll,
    execFlowFlushPair, execFlowFlushDenied, execZoneLogRecordRead, execZoneLogPositionWrite, execSyncReceiptTimeout, execPrimaryRevert,
    execEpochAnchorWrite, execPreviousAnchorClear, execConverterPulseEnd, execTpoPulseEnd, execTpoProgramWrite, execTpoLowPeriodEnd,
    execTpiEdgeCapture, execCaptureRead, execCanFrameReceived, execCanFrameSent, execBusOffHoldoffExpiry, execBusOffRecoveryComplete,
    execCanRecoverCommand, execCanPortReconfigure, execSerialCharacterReceived, execMvbSlaveFrame, execSinkTimeLimitExpiry,
    execLatestValueGridPoint, execGatewayDatagramReceived, execBridgeFarCompletion, execBridgeLockRequest, execBridgeLockRelease,
    execBridgeCacheExpiry, execLateFaultRead, execStrandedReadRead, execAudioBlock, execInputStreamFrame, execStreamLossTimeout,
    execAmbientMeasureWindow, execCallRequest, execCallAnswer, execCallEnd, execPlayerStartClip, execPlayerStop, execQuadratureError,
    execD64Extension, execDistanceChargeJournal, execSetDoorSide, execEnergyBudgetEvaluation, execChargeRecalibration, execSetCharge,
    execQuarantineEnd, execQuarantineClear, execPhyReleaseStagger, execIdleTimeProposal, execPropose, execProposalReceived,
    execVoteReceived, execCommitReceived, execVoteWindowExpiry, execCommitResend, execCommitMissing, execKeepAwake, execKeepAwakeExpiry,
    execWakeHoldExpiry, execSegmentWakeRequest, execSegmentSleepRequest, execSegmentEndIsolation, execTsSegmentEnergy, execLeaseExpiry,
    execDrainQuietComplete, execSegmentOverrun, execGpInterrupt, execGpCycle, execDebugHalt, execDebugSingleStep, execDebugResume,
    execDiscoveryTimeout, execPairCycleEnd, execResignFrameReceived, execHealthFrameSend, execHealthFrameReceived, execPeerLostTimeout,
    execReturnHoldOffExpiry, execSwap, execClaimRequestReceived, execClaimFrameReceived, execPageCountsDailyAppend, execPoolRequest,
    execPoolFree, execPoolGive, execMisuseRecordRead, execCvuConfigWrite, execCvuStart, execCvuClaim, execCvuRelease, execCvuFeedByte,
    execCvuFeedHalfWord, execCvuFeedWord, execHoursPoweredAppend, execInclusionRead, execImagePartWrite, execActivationHandoverTimeout,
    execRecoveryTargetWrite, execHstsClear, execInterfaceReset, execHpfreeWrite, execHpgiveWrite, execHpadatRead, execHpadatWrite,
    execRtailWrite, execRingReset, execTxDescriptorProcess, execInterruptModerationExpiry, execPcieLinkUp, execPcieLinkDown,
    execSpiStatus, execSpiRead, execSpiFetchAnswer, execSpiRegisterRead, execSpiTargetReset, execExtest, execIdcode, execClamp, execHighz,
    execDbgchal, execDbgtoken, execDbgstat, execDbgacc, execBypass, execWakeLevelEnd, execJournalCompactionComplete,
    execNoCapsuleAccepted, execPciePowerStateChange]

/-! ### The commands that change one of them -/

/-- The values in force. -/
def configOf (k : Kept) : Tbl Bytes := k.2.1

/-- The operating state. -/
def stateOf (k : Kept) : OpState := k.2.2.1

@[simp] theorem configOf_withState (k : Kept) (x : OpState) : configOf (withState k x) = configOf k := rfl

theorem OnlyConfig.stateOf {a b : Kept} (h : OnlyConfig a b) : stateOf b = stateOf a := by
  obtain ⟨h, -⟩ := h
  rw [h]
  rfl

theorem request_configOf {s : State} {ses : SessionNo} {code : Nat} {act : State → State} (h : ∀ t, configOf (kept (act t)) = configOf (kept t)) :
    configOf (kept (request s ses code act)) = configOf (kept s) :=
  request_keeps (fun k => configOf k = configOf (kept s)) _ _ _ _ rfl (fun t ht => ht ▸ h t)

theorem requestNormal_configOf (s : State) : configOf (kept (requestNormal s).1) = configOf (kept s) := by
  rcases requestNormal_kept s with h | h <;> simp [h]

theorem reachCommit_configOf (s : State) : configOf (kept (reachCommit s)) = configOf (kept s) := by
  unfold reachCommit
  repeat' split
  · simp
  · rw [enterSleep_kept, configOf_withState]
  · rfl

/-- Of the commands that may change the state, those that leave the values in force as they are. -/
theorem exec_keeps_config (c : Instr) (s : State) (hc : MayChangeConfig c = false) (hs : MayChangeState c = true) : Keeps configOf s (exec c s) := by
  cases c
  case requestCommissioning | requestTest | requestSafe => exact request_configOf (fun t => by simp)
  case requestNormal ses =>
    simp only [exec, execRequestNormal]
    repeat' split
    case h_2 => simpa using requestWrite_keeps (fun k => configOf k = configOf (kept s)) _ _ _ _ rfl (requestNormal_configOf s)
    all_goals simp
  case abortReceived port frame =>
    have htake := ballotTake_kept s port.val frame.bytes 0x24
    simp only [exec, execAbortReceived, keeps_ite, keeps_next, kept_ite, ← htake]
    refine ⟨fun _ => ?_, fun _ => by simp⟩
    split
    · rw [onAbort_kept, reachCommit_configOf]
    · rfl
  case sleepEntry => exact reachCommit_configOf s
  case gpWindowCompare | gpPassTimeout | comparatorProbe =>
    simp only [exec, execGpWindowCompare, execGpPassTimeout, execComparatorProbe]
    repeat' split
    all_goals simp
  all_goals first | (cases hc; done) | cases hs

/-- Of the commands that may change the values in force, those that leave the state as it is. -/
theorem exec_keeps_state (c : Instr) (s : State) (hc : MayChangeConfig c = true) (hs : MayChangeState c = false) : Keeps stateOf s (exec c s) := by
  cases c
  case csValidationComplete lost =>
    simp only [exec, execCsValidationComplete]
    repeat' split
    case h_2 => exact (OnlyConfig.trans (.same (by simp)) (csPassed_config _ _ _ _)).stateOf
    all_goals simp
  case csApplyTimeDue =>
    simp only [exec, execCsApplyTimeDue]
    repeat' split
    all_goals simp [(armedDue_config s).stateOf]
  case ptpSyncReceived inst port origin stamp =>
    simp only [exec, execPtpSyncReceived]
    repeat' split
    case isFalse.isTrue => exact (OnlyConfig.trans (.same (by simp)) (servo_config _ _)).stateOf
    all_goals simp
  case setTime ses value =>
    exact command_keeps (fun k => stateOf k = stateOf (kept s)) _ _ _ _ _ _ rfl (setTimeWrite_config s value).stateOf
  case setDistance ses value =>
    exact command_keeps (fun k => stateOf k = stateOf (kept s)) _ _ _ _ _ _ rfl (setDistanceWrite_config s value).stateOf
  case odometryEdge channel edge =>
    have hcount := compareTargets_config applyAtEvent (countEdge s channel.val edge).1 (s.now - BitVec.ofNat 32 (100 * s.val (0x4C10 + channel.val) 3)) []
      applyAtEvent_config
    rw [countEdge_kept] at hcount
    simp only [exec, execOdometryEdge, keeps_ite, keeps_next, kept_ite, countEdge_kept]
    refine ⟨fun _ => trivial, fun _ => ?_⟩
    split
    · exact hcount.stateOf
    · rfl
  case journalRecordWrite readBackOk => simp [exec, execJournalRecordWrite, (writeRecord_config s readBackOk).stateOf]
  all_goals first | (cases hc; done) | cases hs

/-- Settles O51: a command keeps the state and the values in force, or may change the state and keeps the values. -/
theorem configurationChangesOnlyByItsCommands : Obligations.ConfigurationChangesOnlyByItsCommands := by
  intro c s t hc h
  cases hs : MayChangeState c with
  | false => exact congrArg Prod.fst ((exec_keeps_standing c s hc hs).of_exec h)
  | true => exact (exec_keeps_config c s hc hs).of_exec h

/-- Settles O53: a command keeps the state and the values in force, or may change the values and keeps the state. -/
theorem operatingStateChangesOnlyByItsCommands : Obligations.OperatingStateChangesOnlyByItsCommands := by
  intro c s t hs h
  cases hc : MayChangeConfig c with
  | false => exact congrArg Prod.snd ((exec_keeps_standing c s hc hs).of_exec h)
  | true => exact (exec_keeps_state c s hc hs).of_exec h

/-- Settles O52: a tick leaves the values in force alone, and what a command makes of them stays canonical. -/
theorem configurationStaysCanonical : Obligations.ConfigurationStaysCanonical := by
  intro s t hcan h
  cases hp : s.pending with
  | nil =>
    obtain ⟨u, hu, -, hcfg, -⟩ := emptyQueueTicks s hp
    obtain rfl : u = t := Host.Outcome.next.inj (hu.symm.trans h)
    rwa [hcfg]
  | cons c rest =>
    obtain ⟨-, hform, -, -⟩ := Sound.of_exec ((stepRunsFrontCommand c rest s hp).symm.trans h)
    exact hform hcan

end Sys2Proof.Machine
end

section
/-! PROOFS. What an answer leaves alone (R44, R52, R55): it reaches no more than an event does and the SPI target, which keeps its result. What a
validation that is abandoned and a restart make of the operating block, the change sets and the pins. -/

namespace Sys2Proof.Machine

/-! ### Answers -/

/-- The state but for what an event or an answer reaches. -/
def beside (s : State) : State :=
  { s with
    cnt := [], sessions := sessionsReset, ev := EventBlock.reset, can := State.reset.can, jour := JournalBlock.reset, host := HostBlock.reset,
    spi := SpiBlock.reset, out := [] }

theorem beside_offEvents : OffEvents beside := fun _ _ _ _ _ _ _ _ => rfl

@[simp] theorem raise_beside (s : State) (code sev src : Nat) (data : Bytes) : beside (raise s code sev src data) = beside s :=
  beside_offEvents.raise ..

@[simp] theorem bump_beside (s : State) (idx sub : Nat) : beside (bump s idx sub) = beside s := beside_offEvents.bump ..

@[simp] theorem emit_beside (s : State) (o : Out) : beside (emit s o) = beside s := rfl

@[simp] theorem jAppend_beside (s : State) (body : JBody) (dest : ReplyTo) : beside (jAppend s body dest) = beside s :=
  beside_offEvents.jAppend ..

@[simp] theorem sdoSend_beside (s : State) (cn : Nat) (data : Bytes) : beside (sdoSend s cn data) = beside s :=
  (beside_offEvents.settle ..).trans (beside_offEvents.canMgmtSend ..)

@[simp] theorem sdoPump_beside (s : State) (cn fuel : Nat) : beside (sdoPump s cn fuel) = beside s := by
  induction fuel generalizing s with
  | zero => rfl
  | succ n ih =>
    unfold sdoPump
    split
    · split
      · split
        · exact (ih _).trans (sdoSend_beside ..)
        · rfl
      · rfl
    · rfl

@[simp] theorem sdoFrame_beside (s : State) (cn : Nat) (data : Bytes) : beside (sdoFrame s cn data) = beside s := sdoPump_beside ..

@[simp] theorem setSdo_beside (s : State) (cn : Nat) (x : SdoTransfer) : beside (setSdo s cn x) = beside s := rfl

@[simp] theorem sdoAbort_beside (s : State) (cn idx sub code : Nat) : beside (sdoAbort s cn idx sub code) = beside s := sdoFrame_beside ..

@[simp] theorem sdoReply_beside (s : State) (cn idx sub code : Nat) : beside (sdoReply s cn idx sub code) = beside s := by
  unfold sdoReply
  repeat' split
  all_goals simp

@[simp] theorem reply_beside (s : State) (dest : ReplyTo) (code : Byte) (data : Bytes) : beside (reply s dest code data) = beside s := by
  cases dest with
  | sdo cn index sub => exact sdoReply_beside ..
  | _ => rfl

@[simp] theorem requestRefused_beside (s : State) (code reason : Nat) : beside (requestRefused s code reason) = beside s := raise_beside ..

@[simp] theorem hostSignal_beside (s : State) (bit : Nat) : beside (hostSignal s bit) = beside s := by
  unfold hostSignal
  dsimp only
  split <;> rfl

theorem op_of_beside {s t : State} (h : beside t = beside s) : t.op = s.op := (congrArg State.op h :)

theorem cs_of_beside {s t : State} (h : beside t = beside s) : t.cs = s.cs := (congrArg State.cs h :)

theorem cfg_of_beside {s t : State} (h : beside t = beside s) : t.cfg = s.cfg := (congrArg State.cfg h :)

theorem pins_of_beside {s t : State} (h : beside t = beside s) : t.pins = s.pins := (congrArg State.pins h :)

theorem gp_of_beside {s t : State} (h : beside t = beside s) : t.gp = s.gp := (congrArg State.gp h :)

@[simp] theorem raise_cs (s : State) (code sev src : Nat) (data : Bytes) : (raise s code sev src data).cs = s.cs := cs_of_beside (raise_beside ..)

@[simp] theorem raise_cfg (s : State) (code sev src : Nat) (data : Bytes) : (raise s code sev src data).cfg = s.cfg := cfg_of_beside (raise_beside ..)

@[simp] theorem raise_gp (s : State) (code sev src : Nat) (data : Bytes) : (raise s code sev src data).gp = s.gp := gp_of_beside (raise_beside ..)

/-! ### A validation that is abandoned -/

/-- The change sets after a validation that ran is abandoned (R61). -/
def abandoned (c : CsBlock) : CsBlock :=
  match c.validating with
  | none => c
  | some _ => { c with validating := none, lastResult := 6 }

theorem abandonValidation_beside (s : State) : beside (abandonValidation s) = beside { s with cs := abandoned s.cs } := by
  unfold abandonValidation abandoned
  split
  · rename_i h
    rw [h]
  · rename_i h
    rw [h]
    dsimp only
    repeat' split
    all_goals simp

end Sys2Proof.Machine
end

section
/-! PROOFS. Resets, restarts and requests (R22 to R33). -/

namespace Sys2Proof.Machine

/-! ### A restart -/

theorem clockRestart_cs (s : State) : (clockRestart s).cs = s.cs :=
  reading_foldl State.cs (fun t pin => by unfold setTpoLevel; split <;> rfl) _ _

theorem clockRestart_pins (s : State) : (clockRestart s).pins = s.pins :=
  reading_foldl State.pins (fun t pin => by unfold setTpoLevel; split <;> rfl) _ _

/-- The operating block, the change sets and the pins after a restart (R24, R33, R61, R66). -/
theorem restart_blocks (b : State) (cause : Nat) (straps : Straps) (recovery : Bool) :
    (restart b cause straps recovery).op = { OpBlock.reset with
      previous := BitVec.ofNat 8 b.op.state.code, cause := BitVec.ofNat 16 cause, straps := straps, recoveryAsked := recovery,
      startedAt := b.time.mono, safeTimes := keptSafe (abandonValidation b), watchdogLatched := decide (cause = 3), afterRecovery := b.op.afterRecovery } ∧
    (restart b cause straps recovery).cs = { CsBlock.reset with lastResult := if b.cs.validating.isSome then 6 else 0 } ∧
    (restart b cause straps recovery).pins = { PinBlock.reset with porCount := b.pins.porCount, porArmed := b.pins.porArmed } := by
  unfold restart
  extract_lets s _src _cs c _time t op _x t0 t1 t2 t3 lost
  have hs : s.op = b.op ∧ s.pins = b.pins ∧ s.time = b.time := by
    have h := abandonValidation_beside b
    exact ⟨(congrArg State.op h :), (congrArg State.pins h :), (congrArg State.time h :)⟩
  obtain ⟨hop, hpins, htime⟩ := hs
  have h3 : beside t3 = beside t0 := by
    dsimp only [t3, t2, t1]
    split <;> simp
  have hcs : t.cs = { CsBlock.reset with lastResult := if b.cs.validating.isSome then 6 else 0 } := clockRestart_cs _
  have hp : t.pins = { PinBlock.reset with porCount := s.pins.porCount, porArmed := s.pins.porArmed } := clockRestart_pins _
  rw [hpins] at hp
  clear_value t
  have ho : t0.op = { OpBlock.reset with
      previous := BitVec.ofNat 8 b.op.state.code, cause := BitVec.ofNat 16 cause, straps := straps, recoveryAsked := recovery,
      startedAt := b.time.mono, safeTimes := keptSafe s, watchdogLatched := decide (cause = 3), afterRecovery := b.op.afterRecovery } := by
    rw [← hop, ← htime]
  have hend : beside (if s.cs.armed.isSome ∨ (lost ∧ s.cs.committed ≠ s.cs.gen) then raise t3 0x2203 2 0xFF (be 1 2 ++ openCode 0x2203 3) else t3) =
      beside t0 := by
    split
    · exact (raise_beside ..).trans h3
    · exact h3
  exact ⟨(op_of_beside hend).trans ho, (cs_of_beside hend).trans hcs, (pins_of_beside hend).trans hp⟩

/-- What a restart from a state shows of it in Start (R24, R33, R527). -/
def RestartShows (s : State) (cause : Nat) (straps : Straps) (t : State) : Prop :=
  t.op.state = .start ∧ t.op.phase = 1 ∧ t.op.cause = BitVec.ofNat 16 cause ∧ t.op.straps = straps ∧
    t.op.previous = BitVec.ofNat 8 s.op.state.code ∧ t.cfg = [] ∧ t.cs.armed = none ∧ t.cs.pending = none ∧
    t.upd.fuses = s.upd.fuses ∧ t.upd.lockFuse = s.upd.lockFuse ∧ t.pending = s.pending

theorem restart_shows {s u : State} (cause : Nat) (straps : Straps) (recovery : Bool) (hu : kept u = kept s) :
    RestartShows s cause straps (restart u cause straps recovery) := by
  have hk : kept (restart u cause straps recovery) = restarted (kept s) := by rw [restart_kept, hu]
  simp only [kept, restarted, Prod.mk.injEq] at hk hu
  obtain ⟨hqueue, hcfg, -, hfuses, hlock⟩ := hk
  obtain ⟨-, -, hstate, -, -⟩ := hu
  obtain ⟨hop, hcs, -⟩ := restart_blocks u cause straps recovery
  rw [RestartShows, hop, hcs]
  exact ⟨rfl, rfl, rfl, rfl, by rw [hstate], hcfg, rfl, rfl, hfuses, hlock, hqueue⟩

/-- A request that restarts the device is answered, and an Active device resigns, before the restart. -/
theorem restartRequest_shows {s : State} {ses : SessionNo} (straps : Straps) {code cause : Nat} (recovery : Bool)
    (hw : WriteAllowed s ses 0x2000 2 (be 1 code)) (hb : requestBar s ses.val code = none) :
    RestartShows s cause straps (request s ses code (fun t => restart (resignLeaving t) cause straps recovery)) := by
  rw [request_allowed _ hw hb]
  exact restart_shows cause straps recovery (by simp)

/-- Settles O4: each command is a restart, of the state itself or of one that differs from it in its pins or its answer. -/
theorem restartsEnterStart : Obligations.RestartsEnterStart := by
  intro s straps ses
  refine ⟨fun hp => ⟨⟨_, if_pos hp, restart_shows 1 straps false (by simp)⟩, _, if_pos hp, ?_⟩, fun hp => if_neg (by simp [hp]),
    ⟨_, rfl, restart_shows 2 straps false rfl⟩, ⟨_, rfl, restart_shows 3 straps false rfl⟩,
    fun hs ha => ⟨_, if_pos ⟨hs, ha⟩, restart_shows 0x44 s.op.straps false rfl⟩,
    fun hw hb => ⟨_, rfl, restartRequest_shows straps false hw hb⟩, fun hw hb => ⟨_, rfl, restartRequest_shows straps true hw hb⟩⟩
  obtain ⟨-, -, hpins⟩ := restart_blocks { s with pins := { s.pins with porCount := s.pins.porCount + 1, porArmed := false } } 1 straps false
  rw [hpins]
  exact ⟨rfl, rfl⟩

end Sys2Proof.Machine
end

section
/-! PROOFS. Requests of 2000h.02 that are refused (R24, R28, R29): the role that its row asks for, and what stands against a request. -/

namespace Sys2Proof.Machine

/-! ### The checks of a write -/

/-- A result other than 0 of R44. -/
def Refusing (c : Nat) : Prop := 0 < c ∧ c < 16

theorem Refusing.ofNat_ne_zero {c : Nat} (h : Refusing c) : BitVec.ofNat 8 c ≠ 0 := by
  obtain ⟨hpos, hlt⟩ := h
  intro hzero
  have hnat : c % 2 ^ 8 = 0 := (BitVec.toNat_ofNat c 8).symm.trans (congrArg BitVec.toNat hzero)
  omega

theorem transportBar_result {s : State} {ses c : Nat} (h : transportBar s ses = some c) : Refusing c := by
  unfold transportBar at h
  repeat' split at h
  all_goals cases h
  all_goals exact ⟨by decide, by decide⟩

theorem findRow_result {s : State} {ses idx sub c : Nat} (h : findRow s ses idx sub = .inr c) : Refusing c := by
  unfold findRow at h
  repeat' split at h
  all_goals cases h
  all_goals exact ⟨by decide, by decide⟩

theorem stateAllows_result {s : State} {x : ObjRow} {ses idx sub c : Nat} {v : Bytes} (h : stateAllows s x ses idx sub v = some c) : Refusing c := by
  unfold stateAllows at h
  extract_lets request wide rwc at h
  clear_value request wide rwc
  repeat' split at h
  all_goals cases h
  all_goals exact ⟨by decide, by decide⟩

section
variable {s : State} {ses idx sub : Nat} {v : Bytes}

/-- A write that passes its checks names a row, and its session has the role that the row asks for (R37, R40). -/
theorem writeCheck_inl {x : ObjRow} (h : writeCheck s ses idx sub v = .inl x) : findRow s ses idx sub = .inl x ∧ x.wrole ≤ roleOf s ses := by
  unfold writeCheck at h
  split at h
  · cases h
  · split at h
    · cases h
    · rename_i y hrow
      dsimp only at h
      by_cases hrole : roleOf s ses < y.wrole
      · rw [if_pos hrole] at h
        repeat' split at h
        all_goals cases h
      · obtain rfl : y = x := by
          repeat' split at h
          all_goals first | cases h; rfl | cases h
        exact ⟨hrow, Nat.le_of_not_lt hrole⟩

/-- The result of a check that fails is not 0. -/
theorem writeCheck_inr {c : Nat} (h : writeCheck s ses idx sub v = .inr c) : Refusing c := by
  unfold writeCheck at h
  split at h
  · rename_i hbar
    cases h
    exact transportBar_result hbar
  · split at h
    · rename_i hrow
      cases h
      exact findRow_result hrow
    · rename_i x hrow
      extract_lets writable at h
      clear_value writable
      cases hstate : stateAllows s x ses idx sub v with
      | some d =>
        have hd := stateAllows_result hstate
        rw [hstate] at h
        dsimp only at h
        repeat' split at h
        all_goals cases h
        case isFalse.isFalse.isFalse.isFalse.refl => exact hd
        all_goals exact ⟨by decide, by decide⟩
      | none =>
        rw [hstate] at h
        dsimp only at h
        repeat' split at h
        all_goals cases h
        all_goals exact ⟨by decide, by decide⟩

/-- The answer of a check that fails is not 0. -/
theorem ofNat_ne_zero_of_writeCheck {c : Nat} (h : writeCheck s ses idx sub v = .inr c) : BitVec.ofNat 8 c ≠ 0 :=
  (writeCheck_inr h).ofNat_ne_zero

end

/-- The row of 2000h.02: a write needs the Maintainer role and takes effect at once (R24, R40). -/
theorem stateRow {s : State} {ses : Nat} {v : Bytes} {x : ObjRow} (h : writeCheck s ses 0x2000 2 v = .inl x) : 2 ≤ roleOf s ses ∧ x.apply = .i := by
  have hrow : objRow? 0x2000 2 = some (row 0x2000 0x2000 2 2 .u8 .wo (.num 0) .v .i .any) := by decide +kernel
  obtain ⟨hfind, hrole⟩ := writeCheck_inl h
  simp only [findRow, hrow] at hfind
  split at hfind
  · cases hfind
  · cases hfind
    exact ⟨hrole, rfl⟩

/-! ### What stands against a request -/

/-- A request that something stands against is refused with a result that is not 0. -/
theorem requestBar_result {s : State} {ses code : Nat} {r : Nat × Nat} (h : requestBar s ses code = some r) : r.1 = 0x0F ∨ r.1 = 5 := by
  unfold requestBar at h
  repeat' split at h
  all_goals cases h
  all_goals simp

theorem ofNat_ne_zero_of_requestBar {s : State} {ses code : Nat} {r : Nat × Nat} (h : requestBar s ses code = some r) : BitVec.ofNat 8 r.1 ≠ 0 := by
  rcases requestBar_result h with hr | hr
  all_goals
    rw [hr]
    decide

/-- A request that the checks of its write let pass and that something stands against raises event 2002h and is answered. -/
theorem request_barred {s : State} {ses : SessionNo} {code : Nat} {r : Nat × Nat} (act : State → State)
    (hw : WriteAllowed s ses 0x2000 2 (be 1 code)) (hb : requestBar s ses.val code = some r) :
    request s ses code act = emit (requestRefused s code r.2) (.answer (.session ses) (BitVec.ofNat 8 r.1) []) := by
  obtain ⟨x, hx⟩ := hw.row
  obtain ⟨hs, ho, -, -⟩ := hw
  simp [request, hs, ho, hx, hb, reply_session]

/-! ### Refusals -/

/-- A refusal: the operating state and the values in force stay, and the answer is not 0. -/
def Refused (s : State) (ses : SessionNo) (t : State) : Prop :=
  ∃ code, t.op = s.op ∧ t.cfg = s.cfg ∧ code ≠ 0 ∧ Answered t ses code []

theorem refused_reply {s t : State} {ses : SessionNo} {code : Byte} (ht : beside t = beside s) (hc : code ≠ 0) :
    Refused s ses (reply t (.session ses) code []) :=
  ⟨code, op_of_beside ht, cfg_of_beside ht, hc, rfl⟩

section
variable {s : State} {ses : SessionNo} (hs : served s = true) (ho : isOpen s ses.val = true)
include hs ho

theorem request_refused {code : Nat} (act : State → State)
    (h : ∀ x, writeCheck s ses.val 0x2000 2 (be 1 code) = .inl x → requestBar s ses.val code ≠ none) : Refused s ses (request s ses code act) := by
  simp only [request, hs, ho, Bool.and_self, if_true]
  split
  · rename_i c hcheck
    refine refused_reply ?_ (ofNat_ne_zero_of_writeCheck hcheck)
    repeat' split
    all_goals simp
  · rename_i x hcheck
    split
    · rename_i r hbar
      exact refused_reply (requestRefused_beside ..) (ofNat_ne_zero_of_requestBar hbar)
    · exact absurd ‹_› (h x hcheck)

theorem requestNormal_refused (h : ∀ x, writeCheck s ses.val 0x2000 2 (be 1 2) = .inl x → requestBar s ses.val 2 ≠ none) :
    ∃ t, exec (.requestNormal ses) s = .next t ∧ Refused s ses t := by
  simp only [exec, execRequestNormal, hs, ho, Bool.and_self, if_true]
  split
  · rename_i c hcheck
    refine ⟨_, rfl, refused_reply ?_ (ofNat_ne_zero_of_writeCheck hcheck)⟩
    repeat' split
    all_goals simp
  · rename_i x hcheck
    obtain ⟨r, hbar⟩ := Option.ne_none_iff_exists'.1 (h x hcheck)
    refine ⟨_, rfl, ?_⟩
    simp only [requestWrite, hbar]
    exact refused_reply (requestRefused_beside ..) (ofNat_ne_zero_of_requestBar hbar)

/-- An object write of 2000h.02 whose checks fail, or against which something stands. -/
theorem stateObjectWrite_refused {v : Bytes}
    (h : ∀ x, writeCheck s ses.val 0x2000 2 v = .inl x → beNat v ≤ 7 ∧ requestBar s ses.val (beNat v) ≠ none) :
    ∃ t, exec (.objectWrite ses 0x2000 2 v) s = .next t ∧ Refused s ses t := by
  refine ⟨_, exec_objectWrite_served hs ho (by simp [undocumented, isVendorObject]) 2, ?_⟩
  rw [answerWrite_eq]
  change Refused s ses (answerResult (writeObject s ses (.session ses) 0x2000 2 v) (.session ses))
  cases hcheck : writeCheck s ses.val 0x2000 2 v with
  | inr c =>
    simp only [writeObject, hcheck]
    split
    · exact refused_reply (requestRefused_beside ..) (ofNat_ne_zero_of_writeCheck hcheck)
    · exact refused_reply rfl (ofNat_ne_zero_of_writeCheck hcheck)
  | inl x =>
    obtain ⟨hsmall, hbar⟩ := h x hcheck
    obtain ⟨r, hr⟩ := Option.ne_none_iff_exists'.1 hbar
    obtain ⟨-, happly⟩ := stateRow hcheck
    cases ha : inArmed s 0x2000 2 with
    | true =>
      simp only [writeObject, hcheck, happly, ha, if_true]
      exact refused_reply rfl (by decide)
    | false =>
      rw [writeObject_immediate hcheck (by simp [happly]) ha]
      simp only [writeImmediate, stateWrite, hr, Nat.not_lt.2 hsmall, if_false, and_self, if_true]
      exact refused_reply (requestRefused_beside ..) (ofNat_ne_zero_of_requestBar hr)

end

end Sys2Proof.Machine
end

section
/-! PROOFS. Which requests of 2000h.02 are refused, for the want of a role or in an emergency, and the state after reset (R22 to R29). -/

namespace Sys2Proof.Machine

/-! ### Roles -/

/-- Without the Maintainer role no write of 2000h.02 passes its checks (R24, R40). -/
theorem stateWrite_needs_maintainer {s : State} {ses : Nat} {v : Bytes} {x : ObjRow} (hr : roleOf s ses < 2) :
    writeCheck s ses 0x2000 2 v ≠ .inl x :=
  fun hw => Nat.not_le.2 hr (stateRow hw).1

theorem requestBar_sleep {s : State} {ses code : Nat} (h : code = 5 ∨ code = 6) : requestBar s ses code = some (0x0F, 4) := if_pos h

theorem requestBar_test {s : State} {ses code : Nat} (hc : code = 3) (h : roleOf s ses < 3) : requestBar s ses code = some (5, 2) := by
  subst hc
  simp [requestBar, h]

theorem bars {s : State} {ses code : Nat} {r : Nat × Nat} (h : requestBar s ses code = some r) : requestBar s ses code ≠ none := by simp [h]

/-- Settles O56: the checks of the write ask for the Maintainer role, and the request for Test and for sleep is barred beside them. -/
theorem stateRequestsNeedTheirRole : Obligations.StateRequestsNeedTheirRole := by
  intro s ses straps deep v refused hs ho
  have hrefused {c : Instr} : (∃ t, exec c s = .next t ∧ Refused s ses t) → refused c := fun ⟨t, hexec, code, h⟩ => ⟨t, code, hexec, h⟩
  have hask {code : Nat} (act : State → State) (h : ∀ x, writeCheck s ses.val 0x2000 2 (be 1 code) = .inl x → requestBar s ses.val code ≠ none) :
      ∃ t, Host.Outcome.next (φ := Fault) (ρ := Refusal) (request s ses code act) = .next t ∧ Refused s ses t :=
    ⟨_, rfl, request_refused hs ho act h⟩
  refine ⟨fun hr => ?maintainer, fun hr => ⟨?test, ?testWrite⟩, ?sleep, ?light, ?deep⟩
  case maintainer =>
    have hnone {w : Bytes} {p : Prop} (x : ObjRow) (h : writeCheck s ses.val 0x2000 2 w = .inl x) : p := absurd h (stateWrite_needs_maintainer hr)
    exact ⟨hrefused (hask _ hnone), hrefused (hask _ hnone), hrefused (requestNormal_refused hs ho hnone), hrefused (hask _ hnone),
      hrefused (hask _ hnone), hrefused (hask _ hnone), hrefused (stateObjectWrite_refused hs ho hnone)⟩
  case test => exact hrefused (hask _ fun _ _ => bars (requestBar_test rfl hr))
  case testWrite => exact hrefused (stateObjectWrite_refused hs ho fun _ _ => ⟨by decide, bars (requestBar_test rfl hr)⟩)
  case sleep => exact hrefused (hask _ fun _ _ => bars (requestBar_sleep (by cases deep <;> simp)))
  case light => exact hrefused (stateObjectWrite_refused hs ho fun _ _ => ⟨by decide, bars (requestBar_sleep (.inl rfl))⟩)
  case deep => exact hrefused (stateObjectWrite_refused hs ho fun _ _ => ⟨by decide, bars (requestBar_sleep (.inr rfl))⟩)

/-! ### Emergency -/

/-- The requests that an active emergency announcement bars (R28), of a session that may ask for them. -/
theorem requestBar_emergency {s : State} {ses code : Nat} (he : s.aud.emergency = true) (hc : code = 0 ∨ code = 1 ∨ code = 3 ∨ code = 4)
    (hr : code = 3 → roleOf s ses = 3) : requestBar s ses code = some (0x0F, 3) := by
  rcases hc with rfl | rfl | rfl | rfl
  case inr.inr.inl => simp [requestBar, he, hr rfl]
  all_goals simp [requestBar, he]

/-- Nothing stands against the request for Safe in a working state while no sleep entry is due (R24, R398). -/
theorem requestBar_safe {s : State} {ses : Nat} (hd : commitDue s = false)
    (hs : s.op.state = .normal ∨ s.op.state = .commissioning ∨ s.op.state = .test) : requestBar s ses 7 = none := by
  rcases hs with hs | hs | hs
  all_goals simp [requestBar, requestAllowed, hd, hs]

theorem goSafe_state (t : State) : (goSafe t).op.state = .safe := congrArg (fun k : Kept => k.2.2.1) (goSafe_kept t)

theorem request_emergency {s : State} {ses : SessionNo} {code : Nat} (act : State → State) (he : s.aud.emergency = true)
    (hc : code = 0 ∨ code = 1 ∨ code = 3 ∨ code = 4) (hw : WriteAllowed s ses 0x2000 2 (be 1 code)) (hr : code = 3 → roleOf s ses.val = 3) :
    request s ses code act = emit (requestRefused s code 3) (.answer (.session ses) 0x0F []) := by
  have h := request_barred act hw (requestBar_emergency he hc hr)
  dsimp only at h
  rw [h]
  rfl

theorem state_of_beside {s t : State} (h : beside t = beside s) : t.op.state = s.op.state := congrArg OpBlock.state (op_of_beside h)

/-- Settles O57: an emergency stands against four of the requests, and against neither a reset nor Safe. -/
theorem emergencyRefusesRequests : Obligations.EmergencyRefusesRequests := by
  intro s ses straps refused starts he
  have hrestarts (u : State) (cause : Nat) : (restart u cause straps false).op.state = .start := (restart_state_cause u cause straps false).1
  have hrefused {c : Instr} {code : Nat} {act : State → State} (hexec : exec c s = .next (request s ses code act))
      (hc : code = 0 ∨ code = 1 ∨ code = 3 ∨ code = 4) (hw : WriteAllowed s ses 0x2000 2 (be 1 code)) (hr : code = 3 → roleOf s ses.val = 3) :
      refused c code := by
    rw [request_emergency act he hc hw hr] at hexec
    exact ⟨_, 0x0F, hexec, by decide, rfl, state_of_beside ((emit_beside ..).trans (requestRefused_beside ..))⟩
  refine ⟨fun hw => hrefused rfl (by simp) hw (by simp), fun hw => hrefused rfl (by simp) hw (by simp), fun hw hr => hrefused rfl (by simp) hw fun _ => hr,
    fun hw => hrefused rfl (by simp) hw (by simp), fun hp => ⟨_, if_pos hp, hrestarts _ 1⟩, ⟨_, rfl, hrestarts s 2⟩, ⟨_, rfl, hrestarts s 3⟩,
    fun hw hd hs => ⟨_, rfl, ?_⟩⟩
  rw [request_allowed goSafe hw (requestBar_safe hd hs)]
  exact goSafe_state _

/-! ### Reset -/

theorem isOpen_reset (n : Nat) : isOpen State.reset n = decide (n = 16) := by
  rcases Nat.lt_or_ge n 18 with h | h
  · revert n
    decide
  · have hnone : State.reset.sessions[n]? = none := Vector.getElem?_eq_none h
    simp only [isOpen, hnone]
    exact (decide_eq_false (by omega)).symm

/-- Settles O3: every field of the reset state is written out in its definition. -/
theorem resetIsStartPhaseOne : Obligations.ResetIsStartPhaseOne := by
  refine ⟨rfl, rfl, rfl, rfl, fun _ _ => rfl, fun _ => rfl, rfl, fun n hn => ?_, isOpen_reset 16, rfl, rfl, rfl, rfl, canonical_nil⟩
  rw [isOpen_reset, decide_eq_false hn]

end Sys2Proof.Machine
end

section
/-! PROOFS. The object tables (R37, R609): no value above 2 MiB, objects that no row names, and the subindex 00 of a record. -/

namespace Sys2Proof.Machine

/-! ### The rows of the tables -/

theorem objRows_high {n : Nat} (hn : 78 ≤ n) : objRows n = [] := by
  unfold objRows
  split
  all_goals first | rfl | omega

/-- A property that every row of the tables has, each page checked, is one of every object's row. -/
theorem objRow_of_pages {p : ObjRow → Prop} (h : ∀ n < 78, ∀ y ∈ objRows n, p y) {idx sub : Nat} {x : ObjRow} (hx : objRow? idx sub = some x) :
    p x := by
  have hm := List.mem_of_find?_eq_some hx
  rcases Nat.lt_or_ge (idx / 256) 78 with hn | hn
  · exact h _ hn _ hm
  · rw [objRows_high hn] at hm
    exact absurd hm List.not_mem_nil

def octFits (x : ObjRow) : Bool :=
  match x.ty with
  | .oct n => decide (n ≤ 256)
  | _ => true

theorem octFits_of_objRow {idx sub : Nat} {x : ObjRow} : objRow? idx sub = some x → octFits x = true :=
  objRow_of_pages (p := fun y => octFits y = true) (by decide +kernel)

/-- No object takes a value above 2 MiB (R609). -/
theorem length_of_lengthOk {x : ObjRow} {idx sub : Nat} {v : Bytes} (hx : octFits x = true) (h : lengthOk x idx sub v = true) : v.length ≤ 2097152 := by
  unfold octFits at hx
  unfold lengthOk at h
  cases hty : x.ty
  all_goals simp only [hty, ObjType.size?, Bool.and_eq_true, decide_eq_true_eq] at h hx
  case oct n =>
    split at h
    all_goals simp only [Bool.and_eq_true, decide_eq_true_eq] at h
    all_goals omega
  case str =>
    split at h
    all_goals omega
  all_goals omega

section
variable {s : State} {ses idx sub : Nat} {v : Bytes}

theorem objRow_of_findRow {x : ObjRow} (h : findRow s ses idx sub = .inl x) : objRow? idx sub = some x := by
  unfold findRow at h
  split at h
  · cases h
  · split at h
    · cases h
      assumption
    · split at h
      all_goals cases h

theorem lengthOk_of_writeCheck {x : ObjRow} (h : writeCheck s ses idx sub v = .inl x) : lengthOk x idx sub v = true := by
  cases hl : lengthOk x idx sub v with
  | true => rfl
  | false =>
    obtain ⟨hrow, -⟩ := writeCheck_inl h
    unfold writeCheck at h
    split at h
    · cases h
    · simp [hrow, hl] at h

theorem length_of_writeCheck {x : ObjRow} (h : writeCheck s ses idx sub v = .inl x) : v.length ≤ 2097152 :=
  length_of_lengthOk (octFits_of_objRow (objRow_of_findRow (writeCheck_inl h).1)) (lengthOk_of_writeCheck h)

end

/-! ### Indices and subindices that no row names -/

section
variable {s : State} {ses idx sub : Nat} (hv : isVendorObject idx = false) (hbar : transportBar s ses = none)
include hv

theorem findRow_of_no_row (h : objRow? idx sub = none) : findRow s ses idx sub = .inr (if objIndexKnown idx then 2 else 1) := by
  simp only [findRow, hv, h, Bool.false_eq_true, false_and, if_false]
  split
  all_goals rfl

include hbar

theorem readCheck_of_no_row (h : objRow? idx sub = none) : readCheck s ses idx sub = .inr (if objIndexKnown idx then 2 else 1) := by
  simp only [readCheck, hbar, findRow_of_no_row hv h]

theorem writeCheck_of_no_row (v : Bytes) (h : objRow? idx sub = none) : writeCheck s ses idx sub v = .inr (if objIndexKnown idx then 2 else 1) := by
  simp only [writeCheck, hbar, findRow_of_no_row hv h]

end

theorem objRow_of_index_unknown {idx sub : Nat} (h : objIndexKnown idx = false) : objRow? idx sub = none := by
  refine List.find?_eq_none.2 fun x hx => ?_
  have hno := List.any_eq_false.1 h x hx
  simp only [Bool.and_eq_true, decide_eq_true_eq] at hno ⊢
  exact fun hyes => hno hyes.1.1

/-- A read and a write of an object without a row are answered 0x02 where some row names the index, else 0x01, and change nothing (R37). -/
theorem access_of_no_row {s : State} {ses : SessionNo} {index : BitVec 16} {sub : BitVec 8} (v : Bytes) (hs : served s = true)
    (ho : isOpen s ses.val = true) (hbar : transportBar s ses.val = none) (hv : isVendorObject index.toNat = false)
    (h : objRow? index.toNat sub.toNat = none) :
    let answered := emit s (.answer (.session ses) (BitVec.ofNat 8 (if objIndexKnown index.toNat then 2 else 1)) [])
    exec (.objectRead ses index sub) s = .next answered ∧ exec (.objectWrite ses index sub v) s = .next answered := by
  have hu : undocumented s ses.val index.toNat = false := by simp [undocumented, hv]
  have hstate : ¬ (index.toNat = 0x2000 ∧ sub.toNat = 2) := fun ⟨hi, hb⟩ => by
    rw [hi, hb] at h
    exact absurd h (by decide +kernel)
  have hcs : ¬ (index.toNat = 0x2200 ∧ sub.toNat = 1) := fun ⟨hi, hb⟩ => by
    rw [hi, hb] at h
    exact absurd h (by decide +kernel)
  constructor
  · simp [exec, execObjectRead, hs, ho, hu, answerRead, readObject, readCheck_of_no_row hv hbar h, reply_session]
  · rw [exec_objectWrite_served hs ho hu, answerWrite_eq]
    simp only [writeObject, writeCheck_of_no_row hv hbar v h, noteCommand]
    rw [if_neg fun hc => hstate ⟨hc.1, hc.2.1⟩, if_neg fun hc => hcs ⟨hc.1, hc.2.1⟩]
    rfl

/-! ### Subindex 00 -/

/-- The row names the index. -/
def covers (idx : Nat) (x : ObjRow) : Bool := decide (x.lo ≤ idx) && decide (idx ≤ x.hi)

/-- The indices at which the set of rows that name an index can change. -/
def cuts (rows : List ObjRow) : List Nat := 0 :: rows.flatMap (fun x => [x.lo, x.hi + 1])

/-- The largest member of a list up to a bound stands to all the others as the bound does. -/
theorem exists_cut (l : List Nat) (n : Nat) : ∃ b ∈ 0 :: l, b ≤ n ∧ ∀ x ∈ l, x ≤ b ↔ x ≤ n := by
  induction l with
  | nil => exact ⟨0, by simp, by simp, by simp⟩
  | cons y l ih =>
    obtain ⟨b, hb, hbn, hall⟩ := ih
    by_cases hy : y ≤ n ∧ b < y
    · refine ⟨y, by simp, hy.1, fun x hx => ?_⟩
      rcases List.mem_cons.1 hx with rfl | hx
      · simp [hy.1]
      · have := hall x hx
        omega
    · refine ⟨b, by grind, hbn, fun x hx => ?_⟩
      rcases List.mem_cons.1 hx with rfl | hx
      · omega
      · exact hall x hx

/-- The rows that name an index are those that name one of the cuts. -/
theorem exists_cut_filter (rows : List ObjRow) (idx : Nat) : ∃ b ∈ cuts rows, rows.filter (covers idx) = rows.filter (covers b) := by
  obtain ⟨b, hb, -, hall⟩ := exists_cut (rows.flatMap (fun x => [x.lo, x.hi + 1])) idx
  refine ⟨b, hb, List.filter_congr fun x hx => ?_⟩
  have hlo := hall x.lo (List.mem_flatMap.2 ⟨x, hx, by simp⟩)
  have hhi := hall (x.hi + 1) (List.mem_flatMap.2 ⟨x, hx, by simp⟩)
  rw [Bool.eq_iff_iff]
  simp only [covers, Bool.and_eq_true, decide_eq_true_eq]
  omega

/-- Rows of one index: where one has a subindex above 00, that of subindex 00 holds the largest. -/
def titled (rows : List ObjRow) : Bool :=
  let last := rows.foldl (fun n x => max n x.shi) 0
  last == 0 || (rows.find? (fun x => decide (x.slo ≤ 0) && decide (0 ≤ x.shi))).any
    (fun x => x.ty == .u8 && x.acc == .const && x.defaultBytes == be 1 last)

theorem titled_pages : ∀ n < 78, ∀ b ∈ cuts (objRows n), titled ((objRows n).filter (covers b)) = true := by decide +kernel

theorem titled_of_index (idx : Nat) : titled ((objRows (idx / 256)).filter (covers idx)) = true := by
  rcases Nat.lt_or_ge (idx / 256) 78 with hn | hn
  · obtain ⟨b, hb, heq⟩ := exists_cut_filter (objRows (idx / 256)) idx
    rw [heq]
    exact titled_pages _ hn b hb
  · rw [objRows_high hn]
    rfl

theorem objRow_eq_find_filter (idx sub : Nat) :
    objRow? idx sub = ((objRows (idx / 256)).filter (covers idx)).find? (fun x => decide (x.slo ≤ sub) && decide (sub ≤ x.shi)) := by
  rw [List.find?_filter]
  refine congrArg (List.find? · _) (funext fun x => ?_)
  simp [covers, Bool.and_assoc]

/-- Settles O55: an object without a row fails every check; the rows of a page change only at their own bounds, where each is checked. -/
theorem undefinedObjectsAndRecordLengths : Obligations.UndefinedObjectsAndRecordLengths := by
  refine ⟨fun s ses index sub v hs ho hbar hv => ⟨fun hk => ?unknown, fun hk hrow => ?known⟩, fun idx _ => ?lengths⟩
  case unknown =>
    have h := access_of_no_row v hs ho hbar hv (objRow_of_index_unknown hk (sub := sub.toNat))
    rwa [hk] at h
  case known =>
    have h := access_of_no_row v hs ho hbar hv hrow
    rwa [hk] at h
  case lengths =>
    intro rows last hlast
    have ht : titled rows = true := titled_of_index idx
    simp only [titled, Bool.or_eq_true, beq_iff_eq, Option.any_eq_true, Bool.and_eq_true] at ht
    obtain hzero | ⟨x, hx, ⟨hty, hacc⟩, hval⟩ := ht
    · exact absurd hzero (Nat.ne_of_gt hlast)
    · have hrow : objRow? idx 0 = some x := (objRow_eq_find_filter idx 0).trans hx
      exact ⟨x, hrow, hty, hacc, by simp only [defaultOf, hrow, hval, last]⟩

end Sys2Proof.Machine
end

section
/-! PROOFS. Reads through the object server (R36, R37, R43, R56), and the pending set: what its commands do, its limits, and what an armed set bars
(R58 to R64). -/

namespace Sys2Proof.Machine

/-! ### Reads -/

/-- Settles O9: each of the six commands asks whether the object is documented before anything else. -/
theorem vendorObjectsStop : Obligations.VendorObjectsStop := by
  intro s ses slot head tag index sub offset length last v
  constructor
  · intro hs ho hu
    simp [exec, execObjectRead, execObjectWrite, execCounterClear, execCounterLatch, sessionWrite, hs, ho, hu]
  · intro hs ho hv hu
    simp [exec, execMosRead, execMosWrite, hs, ho, hv, hu]

section
variable {s : State} {ses idx sub : Nat} {x : ObjRow} (h : readCheck s ses idx sub = .inl x)
include h

/-- A read that passes its checks gives what the object's own action gives, else what the object shows. -/
theorem readObject_allowed :
    readObject s ses idx sub =
      (((readEffect s ses idx sub).getD (s, objectValue s ses x idx sub)).1, 0, ((readEffect s ses idx sub).getD (s, objectValue s ses x idx sub)).2) := by
  simp only [readObject, h]
  cases readEffect s ses idx sub
  all_goals rfl

end

theorem segmentOf_whole {idx sub : Nat} {r : State × Nat × Bytes} {offset len : Nat} (h : isDomObject idx sub = false) :
    segmentOf idx sub r offset len = r := by
  simp [segmentOf, h]

section
variable {idx sub : Nat} {r : State × Bytes} {offset len : Nat} (h : isDomObject idx sub = true)
include h

theorem segmentOf_within (ho : offset ≤ r.2.length) : segmentOf idx sub (r.1, 0, r.2) offset len = (r.1, 0, slice r.2 offset (min 1200 len)) := by
  simp [segmentOf, h, Nat.not_lt.2 ho]

theorem segmentOf_beyond (ho : r.2.length < offset) : segmentOf idx sub (r.1, 0, r.2) offset len = (r.1, 8, []) := by
  simp [segmentOf, h, ho]

end

/-- A segment read is answered with its result and its bytes. -/
def answerSegment (r : State × Nat × Bytes) (dest : ReplyTo) : State := reply r.1 dest (BitVec.ofNat 8 r.2.1) r.2.2

section
variable {s : State} {slot : Fin 8} {head : MosHead} {tag index : BitVec 16} {sub : BitVec 8}

/-- A MOS read that is taken up is answered with the segment of what the object server reads (R56). -/
theorem exec_mosRead_fresh (offset : BitVec 32) (length : BitVec 16) (hf : MosFresh s slot head 1 tag index sub = true)
    (hu : undocumented s slot.val index.toNat = false) :
    exec (.mosRead slot ⟨head, tag⟩ index sub offset length) s =
      .next (answerSegment (segmentOf index.toNat sub.toNat (readObject (mosTaken s slot 1 tag index sub) slot.val index.toNat sub.toNat) offset.toNat
        length.toNat) (.mos slot 1 tag index sub offset)) := by
  simp only [exec, execMosRead, hu, Bool.and_false, Bool.false_eq_true, if_false, mosRequest_fresh _ _ hf, answerSegment]

end

/-- Settles O7: the object server's read in the session's own frame and in a MOS message. -/
theorem objectReadsAnswerTheValueInForce : Obligations.ObjectReadsAnswerTheValueInForce := by
  intro s ses slot head tag index sub offset length x got
  refine ⟨fun hs ho hu hr => ⟨?read, fun hnone => by simp [got, hnone]⟩, ?mos⟩
  case read =>
    simp only [exec, execObjectRead, hs, ho, hu, Bool.and_self, if_true, Bool.false_eq_true, if_false, answerRead, readObject_allowed hr, reply_session]
    rfl
  case mos =>
    intro hf hu r hr answer
    have hexec := exec_mosRead_fresh offset length hf hu
    rw [readObject_allowed hr] at hexec
    refine ⟨fun hd => ?_, fun hd ho => ?_, fun hd ho => ?_⟩
    · rw [segmentOf_whole hd] at hexec
      exact ⟨_, hexec, rfl, rfl⟩
    · rw [segmentOf_within hd ho] at hexec
      exact ⟨_, hexec, rfl, rfl⟩
    · rw [segmentOf_beyond hd ho] at hexec
      exact ⟨_, hexec, rfl, rfl⟩

/-! ### The commands of 2200h.01 -/

/-- The opening of a window changes the Guard Processor alone. -/
theorem gpOpen_eq (s : State) : gpOpen s = { s with gp := (gpOpen s).gp } := by
  unfold gpOpen
  repeat' split
  all_goals rfl

theorem discardPending_pending (s : State) (cause : Nat) : (discardPending s cause).cs.pending = none := by
  unfold discardPending
  split
  · assumption
  · rw [raise_cs]

theorem cancelArmed_armed (s : State) (cause : Nat) : (cancelArmed s cause).cs.armed = none := by
  unfold cancelArmed
  split
  · assumption
  · rw [raise_cs]

section
variable {s : State} {ses : SessionNo} {dest : ReplyTo} {p : PendingSet} {code : Nat} (hp : s.cs.pending = some p) (ho : p.owner = ses)
include hp ho

/-- A set that is armed bars commands 1, 2 and 3 (R62). -/
theorem csWrite_armed {k : CsCommand} (ha : s.cs.armed.isSome = true) (hk : csKind s code = some k) (hv : k ≠ .validateOnly) (hc : code ≠ 5) :
    csWrite s ses dest code = csResult s 0x0B := by
  simp only [csWrite, if_neg hc, hp, ho, ne_eq, not_true_eq_false, if_false, hk, hv, not_false_eq_true, ha, and_self, if_true, ite_self]

variable (hn : s.cs.validating = none)
include hn

theorem csWrite_discard : csWrite s ses dest 4 = csResult (discardPending s 4) 0 := by
  simp [csWrite, hp, ho, hn, csKind]

/-- A command starts the validation of the session's pending set where nothing stands against it (R60 to R64, R515). -/
theorem csWrite_starts {k : CsCommand} (hk : csKind s code = some k) (hc : code ≠ 5)
    (harm : k ≠ .validateOnly → s.cs.armed = none ∧ s.jour.state ≠ 2) (hev : code = 3 → eventReady s = true) :
    csWrite s ses dest code = (gpOpen { s with cs := { s.cs with validating := some (k, dest) } }, none) := by
  have hbar1 : ¬ (k ≠ .validateOnly ∧ s.cs.armed.isSome = true) := fun ⟨h, h'⟩ => by simp [(harm h).1] at h'
  have hbar2 : ¬ (k ≠ .validateOnly ∧ s.jour.state = 2) := fun ⟨h, h'⟩ => (harm h).2 h'
  have hbar3 : ¬ (code = 3 ∧ (!(eventReady s)) = true) := fun ⟨h, h'⟩ => by simp [hev h] at h'
  simp only [csWrite, if_neg hc, hp, ho, ne_eq, not_true_eq_false, if_false, hn, Option.isSome_none, Bool.false_eq_true, hk]
  rw [if_neg hbar1, if_neg hbar2, if_neg hbar3]

end

theorem csWrite_cancel {s : State} {ses : SessionNo} {dest : ReplyTo} (ha : s.cs.armed.isSome = true) :
    csWrite s ses dest 5 = csResult (cancelArmed s 4) 0 := by
  simp [csWrite, ha]

section
variable {s : State} {ses : SessionNo} {code : Nat} (hw : WriteAllowed s ses 0x2200 1 (be 1 code))
include hw

theorem csCommand_result {u : State} {c : Nat} (h : csWrite s ses (.session ses) code = csResult u c) :
    csCommand s ses code = emit { u with cs := { u.cs with lastResult := BitVec.ofNat 8 c } } (.answer (.session ses) (BitVec.ofNat 8 c) []) := by
  rw [csCommand, lateCommand_allowed _ hw, h]
  rfl

/-- A command that starts a validation changes the change sets and the Guard Processor alone. -/
theorem csCommand_starts {k : CsCommand}
    (h : csWrite s ses (.session ses) code = (gpOpen { s with cs := { s.cs with validating := some (k, .session ses) } }, none)) :
    ∃ t, csCommand s ses code = t ∧ t.cs = { s.cs with validating := some (k, .session ses) } ∧ t = { s with cs := t.cs, gp := t.gp } := by
  refine ⟨_, rfl, ?_⟩
  rw [csCommand, lateCommand_allowed _ hw, h, gpOpen_eq]
  exact ⟨rfl, rfl⟩

end

theorem csFileWrite_replaces {s : State} {ses : SessionNo} {file : Bytes} {base : BitVec 32} {es : List (Nat × Nat × Bytes)}
    (ho : ∀ q, s.cs.pending = some q → q.owner = ses) (hn : s.cs.validating = none) (hf : readFile file = some (base, es)) :
    csFileWrite s ses file = ({ s with cs := { s.cs with
      pending := some {
        owner := ses, role := roleOf s ses.val, entries := es.map (fun e => (e.1, e.2.2)), types := es.map (fun e => some e.2.1), base := base } } }, 0) := by
  simp only [csFileWrite, hn, hf, Option.isSome_none, Bool.false_eq_true, if_false]
  cases hp : s.cs.pending with
  | none => rfl
  | some q => simp [ho q hp]

/-- Settles O12: each command of 2200h.01 by what it is, under the frame that every command has. -/
theorem changeSetCommandsOf2200h : Obligations.ChangeSetCommandsOf2200h := by
  intro s ses p a file base es starts done
  have hstarts {c : Instr} {k : CsCommand} {code : Nat} (hexec : exec c s = .next (csCommand s ses code)) (hw : WriteAllowed s ses 0x2200 1 (be 1 code))
      (h : csWrite s ses (.session ses) code = (gpOpen { s with cs := { s.cs with validating := some (k, .session ses) } }, none)) : starts c k := by
    obtain ⟨t, ht, hcs, hframe⟩ := csCommand_starts hw h
    exact ⟨t, ht ▸ hexec, hcs, hframe⟩
  refine ⟨fun hp ho hn => ⟨fun hw => ?discard, fun hw => ?validate, fun ha hj => ⟨fun hw => ?now, fun hw => ?time, fun hw hev => ?position⟩⟩,
    fun ha hw => ?cancel, fun hw ho hn hf => ?file⟩
  case discard => exact ⟨congrArg _ (csCommand_result hw (csWrite_discard hp ho hn)), discardPending_pending ..⟩
  case validate => exact hstarts rfl hw (csWrite_starts hp ho hn rfl (by decide) (fun h => absurd rfl h) (by simp))
  case now => exact hstarts rfl hw (csWrite_starts hp ho hn rfl (by decide) (fun _ => ⟨ha, hj⟩) (by simp))
  case time => exact hstarts rfl hw (csWrite_starts hp ho hn rfl (by decide) (fun _ => ⟨ha, hj⟩) (by simp))
  case position => exact hstarts rfl hw (csWrite_starts hp ho hn rfl (by decide) (fun _ => ⟨ha, hj⟩) fun _ => hev)
  case cancel => exact ⟨congrArg _ (csCommand_result hw (csWrite_cancel (by simp [ha]))), cancelArmed_armed ..⟩
  case file =>
    refine congrArg _ ((command_allowed (fun t => csFileWrite t ses file) hw).trans ?_)
    rw [csFileWrite_replaces ho hn hf]
    rfl

/-! ### Staged writes -/

section
variable {s : State} {ses : SessionNo} {index : BitVec 16} {sub : BitVec 8} {v : Bytes} {x : ObjRow} (hs : served s = true) (ho : isOpen s ses.val = true)
  (hu : undocumented s ses.val index.toNat = false) (hw : writeCheck s ses.val index.toNat sub.toNat v = .inl x)
include hs ho hu hw

theorem exec_objectWrite_staged (hx : x.apply = .s) :
    exec (.objectWrite ses index sub v) s =
      .next (emit (stage s ses index.toNat sub.toNat v).1 (.answer (.session ses) (BitVec.ofNat 8 (stage s ses index.toNat sub.toNat v).2) [])) := by
  rw [exec_objectWrite_served hs ho hu, answerWrite_eq, writeObject_staged hw hx]
  rfl

/-- A write to an object of the armed set is answered 0x0B, whatever its class (R59). -/
theorem exec_objectWrite_inArmed (ha : inArmed s index.toNat sub.toNat = true) :
    exec (.objectWrite ses index sub v) s = .next (emit s (.answer (.session ses) 0x0B [])) := by
  rw [exec_objectWrite_served hs ho hu, answerWrite_eq]
  cases hx : x.apply
  all_goals
    simp only [writeObject, hw, hx, stage, ha, if_true]
    rfl

end

theorem stage_opens {s : State} {ses : SessionNo} {idx sub : Nat} {v : Bytes} (ha : inArmed s idx sub = false) (hp : s.cs.pending = none)
    (hv : v.length ≤ 2097152) :
    stage s ses idx sub v = ({ s with cs := { s.cs with
      pending := some { owner := ses, role := roleOf s ses.val, entries := [(okey idx sub, v)], types := [none], base := 0 } } }, 0) := by
  simp [stage, ha, hp, hv]

/-- Settles O58: the armed set bars the three commands and nothing else of the pending set. -/
theorem armedSetBarsCommands1To3 : Obligations.ArmedSetBarsCommands1To3 := by
  intro s ses a p index sub v x barred idx ha
  have hsome : s.cs.armed.isSome = true := by simp [ha]
  have hbarred {k : CsCommand} {code : Nat} (hp : s.cs.pending = some p) (ho : p.owner = ses) (hk : csKind s code = some k) (hne : k ≠ .validateOnly)
      (hc : code ≠ 5) (hw : WriteAllowed s ses 0x2200 1 (be 1 code)) : csCommand s ses code = barred :=
    csCommand_result hw (csWrite_armed hp ho hsome hk hne hc)
  refine ⟨fun hp ho => ⟨fun hw => ?_, fun hw => ?_, fun hw => ?_⟩, fun hp hs ho hu hw hx hna => ?_⟩
  · exact congrArg _ (hbarred hp ho rfl (by simp) (by decide) hw)
  · exact congrArg _ (hbarred hp ho rfl (by simp) (by decide) hw)
  · exact congrArg _ (hbarred hp ho rfl (by simp) (by decide) hw)
  · rw [exec_objectWrite_staged hs ho hu hw hx, stage_opens hna hp (length_of_writeCheck hw)]
    rfl

/-! ### The limits of a pending set -/

/-- The bytes of the values of a set. -/
def valueBytes (es : List (Nat × Bytes)) : Nat := (es.map (fun e => e.2.length)).sum

@[simp] theorem valueBytes_nil : valueBytes [] = 0 := rfl

@[simp] theorem valueBytes_cons (e : Nat × Bytes) (es : List (Nat × Bytes)) : valueBytes (e :: es) = e.2.length + valueBytes es := by
  simp [valueBytes]

@[simp] theorem valueBytes_append (es fs : List (Nat × Bytes)) : valueBytes (es ++ fs) = valueBytes es + valueBytes fs := by
  simp [valueBytes]

theorem foldl_length_eq_valueBytes (es : List (Nat × Bytes)) (n : Nat) : es.foldl (fun n e => n + e.2.length) n = n + valueBytes es := by
  induction es generalizing n with
  | nil => rfl
  | cons e es ih => rw [List.foldl_cons, ih, valueBytes_cons, Nat.add_assoc]

/-- The entries of a set with another value for one object. -/
def replaced (es : List (Nat × Bytes)) (key : Nat) (v : Bytes) : List (Nat × Bytes) := es.map (fun e => if e.1 == key then (e.1, v) else e)

/-- The entries of a set after a staged write (R58). -/
def stagedEntries (es : List (Nat × Bytes)) (key : Nat) (v : Bytes) : List (Nat × Bytes) :=
  if es.any (fun e => e.1 == key) then replaced es key v else es ++ [(key, v)]

section
variable {e : Nat × Bytes} {key : Nat} (es : List (Nat × Bytes)) (v : Bytes)

theorem replaced_cons_same (h : e.1 = key) : replaced (e :: es) key v = (e.1, v) :: replaced es key v := by
  simp [replaced, h]

theorem replaced_cons_other (h : e.1 ≠ key) : replaced (e :: es) key v = e :: replaced es key v := by
  simp [replaced, h]

theorem filter_cons_same (h : e.1 = key) : (e :: es).filter (fun e => e.1 != key) = es.filter (fun e => e.1 != key) := by
  simp [h]

theorem filter_cons_other (h : e.1 ≠ key) : (e :: es).filter (fun e => e.1 != key) = e :: es.filter (fun e => e.1 != key) := by
  simp [h]

end

theorem valueBytes_filter_le (es : List (Nat × Bytes)) (key : Nat) (v : Bytes) :
    valueBytes (es.filter (fun e => e.1 != key)) ≤ valueBytes (replaced es key v) := by
  induction es with
  | nil => exact Nat.le_refl _
  | cons e es ih =>
    by_cases he : e.1 = key
    · rw [replaced_cons_same _ _ he, filter_cons_same _ he, valueBytes_cons]
      exact Nat.le_trans ih (Nat.le_add_left ..)
    · rw [replaced_cons_other _ _ he, filter_cons_other _ he, valueBytes_cons, valueBytes_cons]
      exact Nat.add_le_add_left ih _

/-- A value that takes the place of another stands beside those of the other objects. -/
theorem valueBytes_replaced {es : List (Nat × Bytes)} {key : Nat} {v : Bytes} (h : es.any (fun e => e.1 == key) = true) :
    valueBytes (es.filter (fun e => e.1 != key)) + v.length ≤ valueBytes (replaced es key v) := by
  induction es with
  | nil => simp at h
  | cons e es ih =>
    by_cases he : e.1 = key
    · rw [replaced_cons_same _ _ he, filter_cons_same _ he, valueBytes_cons, Nat.add_comm]
      exact Nat.add_le_add_left (valueBytes_filter_le ..) _
    · rw [replaced_cons_other _ _ he, filter_cons_other _ he, valueBytes_cons, valueBytes_cons, Nat.add_assoc]
      exact Nat.add_le_add_left (ih (by simpa [he] using h)) _

/-- A staged write adds its value to those of the other objects. -/
theorem valueBytes_stagedEntries (es : List (Nat × Bytes)) (key : Nat) (v : Bytes) :
    valueBytes (es.filter (fun e => e.1 != key)) + v.length ≤ valueBytes (stagedEntries es key v) := by
  unfold stagedEntries
  split
  · exact valueBytes_replaced ‹_›
  · rename_i hnew
    have hnone := List.any_eq_false.1 (Bool.eq_false_iff.2 hnew)
    have hall : es.filter (fun e => e.1 != key) = es := List.filter_eq_self.2 fun e he => by simpa using hnone e he
    simp [hall]

/-- The set keeps within both limits of R59. -/
def PendingSet.within (q : PendingSet) : Prop := q.entries.length ≤ 4096 ∧ valueBytes q.entries ≤ 2097152

section
variable {s : State} {ses : SessionNo} {idx sub : Nat} {v : Bytes}

/-- A staged write of the owner, once nothing else stands against it: beyond a limit it is answered 0x0A, else it joins the set. -/
theorem stage_owner {p : PendingSet} (ha : inArmed s idx sub = false) (hp : s.cs.pending = some p) (ho : p.owner = ses) (hn : s.cs.validating = none) :
    ∃ ts, stage s ses idx sub v =
      if 4096 < (stagedEntries p.entries (okey idx sub) v).length ∨ 2097152 < valueBytes (stagedEntries p.entries (okey idx sub) v) then (s, 0x0A)
      else ({ s with cs := { s.cs with pending := some { p with entries := stagedEntries p.entries (okey idx sub) v, types := ts } } }, 0) := by
  simp only [stage, ha, hp, ho, hn, ne_eq, not_true_eq_false, if_false, Bool.false_eq_true, Option.isSome_none, foldl_length_eq_valueBytes, Nat.zero_add]
  exact ⟨_, rfl⟩

/-- A staged write changes the pending set alone, and what it makes of it keeps within the limits. -/
theorem stage_pending (hv : v.length ≤ 2097152) :
    (stage s ses idx sub v).1 = s ∨ ∃ q : PendingSet, (stage s ses idx sub v).1 = { s with cs := { s.cs with pending := some q } } ∧ q.within := by
  cases ha : inArmed s idx sub with
  | true => exact .inl (by simp [stage, ha])
  | false =>
    cases hp : s.cs.pending with
    | none => exact .inr ⟨_, congrArg Prod.fst (stage_opens ha hp hv), by simp [PendingSet.within, valueBytes, hv]⟩
    | some p =>
      by_cases ho : p.owner = ses
      · cases hn : s.cs.validating with
        | some r => exact .inl (by simp [stage, ha, hp, ho, hn])
        | none =>
          obtain ⟨ts, hstage⟩ := stage_owner (v := v) ha hp ho hn
          rw [hstage]
          split
          · exact .inl rfl
          · rename_i hlim
            exact .inr ⟨_, rfl, by simpa [PendingSet.within] using hlim⟩
      · exact .inl (by simp [stage, ha, hp, ho])

end

/-- A change-set file has as many entries as its head says, and no more bytes of values than its own (R68). -/
theorem fileEntries_bounds {b : Bytes} {n : Nat} {es : List (Nat × Nat × Bytes)} (h : fileEntries b n = some es) :
    es.length = n ∧ valueBytes (es.map (fun e => (e.1, e.2.2))) ≤ b.length := by
  induction n generalizing b es with
  | zero =>
    unfold fileEntries at h
    split at h
    all_goals cases h
    simp [valueBytes]
  | succ k ih =>
    unfold fileEntries at h
    dsimp only at h
    split at h
    · cases h
    · split at h
      · cases h
      · rename_i hroom _ r hr
        cases h
        obtain ⟨hlen, hsum⟩ := ih hr
        refine ⟨by simp [hlen], ?_⟩
        simp only [valueBytes, List.length_drop] at hsum
        simp only [valueBytes, List.map_cons, List.sum_cons, slice, List.length_take, List.length_drop]
        omega

theorem readFile_bounds {v : Bytes} {base : BitVec 32} {es : List (Nat × Nat × Bytes)} (h : readFile v = some (base, es)) :
    es.length ≤ 4096 ∧ valueBytes (es.map (fun e => (e.1, e.2.2))) ≤ v.length := by
  unfold readFile at h
  dsimp only at h
  split at h
  · cases h
  · rename_i hhead
    split at h
    · cases h
    · rename_i fs hfs
      split at h
      all_goals cases h
      obtain ⟨hlen, hsum⟩ := fileEntries_bounds hfs
      rw [List.length_drop] at hsum
      omega

/-- A change-set file changes the pending set alone, and what it makes of it keeps within the limits. -/
theorem csFileWrite_pending {s : State} {ses : SessionNo} {v : Bytes} (hv : v.length ≤ 2097152) :
    (csFileWrite s ses v).1 = s ∨ ∃ q : PendingSet, (csFileWrite s ses v).1 = { s with cs := { s.cs with pending := some q } } ∧ q.within := by
  unfold csFileWrite
  extract_lets other
  clear_value other
  split
  · exact .inl rfl
  · split
    · exact .inl rfl
    · split
      · exact .inl rfl
      · rename_i base es hf
        obtain ⟨hlen, hsum⟩ := readFile_bounds hf
        exact .inr ⟨_, rfl, by simpa using hlen, Nat.le_trans hsum hv⟩

/-- A pending set, if there is one, keeps within the limits. -/
def PendingWithin (s : State) : Prop := ∀ q, s.cs.pending = some q → q.within

theorem PendingWithin.of_change {s t : State} (h : PendingWithin s)
    (ht : t = s ∨ ∃ q : PendingSet, t = { s with cs := { s.cs with pending := some q } } ∧ q.within) : PendingWithin t := by
  obtain rfl | ⟨q, rfl, hq⟩ := ht
  · exact h
  · intro q' hq'
    cases hq'
    exact hq

theorem PendingWithin.of_cs {s t : State} (h : PendingWithin s) (ht : t.cs = s.cs) : PendingWithin t := fun q hq => h q (ht ▸ hq)

/-- Settles O59: the limits are checked where a set is written, and the armed objects before them. -/
theorem pendingSetLimitsAndArmedObjects : Obligations.PendingSetLimitsAndArmedObjects := by
  intro s ses index sub v file x p a idx key total within
  refine ⟨fun h t ht => ?file, fun hs ho hu hw => ⟨fun hx h t ht => ?staged, fun hx hna hp hown hn hlim => ?beyond, fun ha hin => ?armed⟩⟩
  case file =>
    cases ht
    change PendingWithin (command s ses 0x2200 5 file (fun t => csFileWrite t ses file))
    have h : PendingWithin s := h
    unfold command
    repeat' split
    · exact h.of_cs (cs_of_beside (reply_beside ..))
    · exact h.of_cs (cs_of_beside (reply_beside ..))
    · rename_i x hw _
      exact (h.of_change (csFileWrite_pending (length_of_writeCheck hw))).of_cs (cs_of_beside (reply_beside ..))
    · exact h
  case staged =>
    rw [exec_objectWrite_staged hs ho hu hw hx] at ht
    cases ht
    exact (PendingWithin.of_change h (stage_pending (length_of_writeCheck hw))).of_cs rfl
  case beyond =>
    obtain ⟨ts, hstage⟩ := stage_owner (v := v) hna hp hown hn
    have hbeyond : 4096 < (stagedEntries p.entries key v).length ∨ 2097152 < valueBytes (stagedEntries p.entries key v) := by
      refine hlim.imp (fun ⟨hnew, hfull⟩ => ?_) fun hsum => Nat.lt_of_lt_of_le hsum (valueBytes_stagedEntries ..)
      simp [stagedEntries, hnew, hfull]
    rw [if_pos hbeyond] at hstage
    rw [exec_objectWrite_staged hs ho hu hw hx, hstage]
    rfl
  case armed =>
    refine exec_objectWrite_inArmed hs ho hu hw ?_
    simp only [inArmed, ha, Bool.or_eq_true]
    exact .inl hin

end Sys2Proof.Machine
end

section
/-! PROOFS. The record of an event in the ring (R70, R71): at most 1,024 stand there, and what one event brings after it is far fewer. -/

namespace Sys2Proof.Machine

/-! ### What leaves the ring alone -/

def ringOf (s : State) : List EventRec := s.ev.ring

theorem jAppend_ring (s : State) (body : JBody) (dest : ReplyTo) : ringOf (jAppend s body dest) = ringOf s := by
  unfold jAppend
  split
  all_goals rfl

theorem rawBump_ring (s : State) (idx sub sel : Nat) : ringOf (rawBump s idx sub sel) = ringOf s := by
  rw [rawBump_frame]
  rfl

theorem tally_ring (s : State) (idx sub sel : Nat) : ringOf (tally s idx sub sel) = ringOf s := by
  unfold tally keepCount
  split
  · split
    · exact (jAppend_ring ..).trans (rawBump_ring ..)
    · exact rawBump_ring ..
  · rfl

theorem canMgmtSend_ring (s : State) (cn : Nat) (f : CanFrame) : ringOf (canMgmtSend s cn f) = ringOf s := by
  unfold canMgmtSend
  repeat' split
  case isTrue.isFalse => exact rawBump_ring ..
  all_goals rfl

theorem emcyOn_ring (s : State) (data : Bytes) (cn : Nat) : ringOf (emcyOn s data cn) = ringOf s := by
  unfold emcyOn
  split
  · split
    · rfl
    · dsimp only
      split
      all_goals exact canMgmtSend_ring ..
  · rfl

theorem emcyAll_ring (s : State) (data : Bytes) : ringOf (emcyAll s data) = ringOf s := reading_foldl ringOf (fun t cn => emcyOn_ring t data cn) _ s

theorem loseRecord_ring (s : State) (gone : BitVec 32) : ringOf (loseRecord s gone) = ringOf s :=
  reading_foldl ringOf (fun t _ => tally_ring t _ _ _) _ _

theorem noteLimit_ring (s : State) (key : Nat) : ringOf (noteLimit s key) = ringOf s := rfl

theorem hostEdges_ring (s : State) : ringOf (hostEdges s) = ringOf s := by
  unfold hostEdges
  dsimp only
  split
  all_goals rfl

/-! ### The record -/

/-- The record of an event raised now (R70). -/
def recordOf (s : State) (code sev src : Nat) (data : Bytes) : EventRec :=
  { code := BitVec.ofNat 16 code, severity := BitVec.ofNat 8 sev, stamp := s.now, secs := BitVec.ofNat 16 (txSecondsOf s),
    source := BitVec.ofNat 8 src, inStart := decide (s.op.state = .start), seq := s.ev.next, data := data.take 16 }

/-- A record joins the end of the ring; a full ring gives up its oldest (R71). -/
theorem pushRecord_ring (s : State) (code sev src : Nat) (data : Bytes) :
    ringOf (pushRecord s code sev src data) =
      (if (ringOf s).length < 1024 then ringOf s else (ringOf s).drop 1) ++ [recordOf s code sev src data] := by
  unfold pushRecord
  extract_lets rec0 _ev s1
  have hs1 : ringOf s1 = (if (ringOf s).length < 1024 then ringOf s else (ringOf s).drop 1) ++ [recordOf s code sev src data] := by
    dsimp only [s1]
    split
    · rename_i hring
      simp [ringOf, hring, rec0, recordOf]
    · rename_i old rest hring
      simp only [ringOf, hring]
      split
      · rfl
      · exact loseRecord_ring ..
  split
  · exact (emcyAll_ring ..).trans hs1
  · exact hs1

/-- The record stands in the ring, and as many more records as stated leave it there. -/
def Held (r : EventRec) (room : Nat) (s : State) : Prop :=
  ∃ before after, ringOf s = before ++ r :: after ∧ after.length + room ≤ 1023

section
variable {r : EventRec}

theorem Held.mono {s : State} {n k : Nat} (h : Held r n s) (hk : k ≤ n) : Held r k s := by
  obtain ⟨before, after, hring, hroom⟩ := h
  exact ⟨before, after, hring, by omega⟩

theorem Held.of_ring {s t : State} {n : Nat} (h : Held r n s) (ht : ringOf t = ringOf s) : Held r n t := by
  obtain ⟨before, after, hring, hroom⟩ := h
  exact ⟨before, after, ht.trans hring, hroom⟩

theorem held_pushRecord_self (s : State) (code sev src : Nat) (data : Bytes) :
    Held (recordOf s code sev src data) 1023 (pushRecord s code sev src data) := ⟨_, [], pushRecord_ring .., by simp⟩

/-- One more record takes up one place: the ring drops its oldest only when it is full, and then the oldest is another. -/
theorem Held.pushRecord {s : State} {n : Nat} (h : Held r (n + 1) s) (code sev src : Nat) (data : Bytes) : Held r n (pushRecord s code sev src data) := by
  obtain ⟨before, after, hring, hroom⟩ := h
  have hpush := pushRecord_ring s code sev src data
  rw [hring] at hpush
  split at hpush
  · exact ⟨before, after ++ [recordOf s code sev src data], by simpa using hpush, by simp; omega⟩
  · rename_i hfull
    rw [List.length_append, List.length_cons] at hfull
    cases before with
    | nil =>
      rw [List.length_nil] at hfull
      omega
    | cons old before => exact ⟨before, after ++ [recordOf s code sev src data], by simpa using hpush, by simp; omega⟩

theorem Held.foldl {α : Type} {f : State → α → State} (hf : ∀ t x n, Held r (n + 1) t → Held r n (f t x)) {l : List α} {s : State} {n : Nat}
    (h : Held r (n + l.length) s) : Held r n (l.foldl f s) := by
  induction l generalizing s with
  | nil => exact h
  | cons x l ih => exact ih (hf _ _ _ h)

/-- A round raises at most eighteen events: nine counters that saturate, eight that count a refusal, and one for lost records. -/
theorem Held.afterRound {s : State} {n : Nat} (before : State) (h : Held r (n + 18) s) : Held r n (afterRound before s) := by
  unfold Machine.afterRound
  extract_lets sat s1 s2 s3
  have hsat (t : State) (k idx sub m : Nat) (ht : Held r (m + 1) t) : Held r m (sat t k idx sub) := by
    dsimp only [sat]
    split
    · exact ht.pushRecord ..
    · exact ht.mono (Nat.le_succ _)
  have h1 : Held r (n + 17) s1 := hsat _ _ _ _ _ h
  have h2 : Held r (n + 9) s2 := Held.foldl (fun t cn m ht => hsat _ _ _ _ _ ht) h1
  have h3 : Held r (n + 1) s3 := by
    refine Held.foldl (fun t cn m ht => ?_) h2
    split
    · exact (ht.pushRecord ..).of_ring (noteLimit_ring ..)
    · exact ht.mono (Nat.le_succ _)
  clear_value s3
  split
  · refine Held.of_ring (Held.pushRecord ?_ ..) (noteLimit_ring ..)
    exact h3.of_ring rfl
  · exact h3.mono (Nat.le_succ _)

theorem Held.afterRounds {s : State} (fuel : Nat) {n : Nat} (before : State) (h : Held r (n + 18 * fuel) s) : Held r n (afterRounds fuel before s) := by
  induction fuel generalizing before s n with
  | zero => exact h
  | succ k ih =>
    unfold Machine.afterRounds
    dsimp only
    have hround : Held r (n + 18 * k) (Machine.afterRound before s) := Held.afterRound before (h.mono (by omega))
    split
    · exact hround.mono (Nat.le_add_right ..)
    · exact ih _ hround

end

/-- The record of an event that is raised stands in the ring. -/
theorem recordOf_mem_raise (s : State) (code sev src : Nat) (data : Bytes) : recordOf s code sev src data ∈ (raise s code sev src data).ev.ring := by
  have hpush := held_pushRecord_self s code sev src data
  have hraise : Held (recordOf s code sev src data) 0 (raise s code sev src data) :=
    (Held.afterRounds 20 s (hpush.mono (by decide))).of_ring (hostEdges_ring _)
  obtain ⟨before, after, hring, -⟩ := hraise
  rw [ringOf] at hring
  simp [hring]

/-- What an event leaves alone of O16. -/
def outsideEvents (s : State) : OpBlock × Tbl Bytes × TimeBlock × List Instr × FabricBlock × LookupBlock × ZoneBlock :=
  (s.op, s.cfg, s.time, s.pending, s.fab, s.look, s.zone)

/-- Settles O16: the record stays in the ring through what the event itself calls for, and an event reaches none of the other blocks. -/
theorem eventsAreRecorded : Obligations.EventsAreRecorded := by
  intro s code sev src data t
  refine ⟨⟨recordOf s code sev src data, recordOf_mem_raise .., rfl, rfl, rfl, rfl, rfl, rfl⟩, ?_⟩
  have hout : outsideEvents t = outsideEvents s := OffEvents.raise (fun _ _ _ _ _ _ _ _ => rfl) ..
  simpa only [outsideEvents, Prod.mk.injEq] using hout

end Sys2Proof.Machine
end

section
/-! PROOFS. MOS sessions (R47, R48, R53 to R56, R71): who holds a session outlives every event and answer, and what a subscriber is sent. -/

namespace Sys2Proof.Machine

/-! ### Who holds the sessions -/

/-- Of each session, whether it is open and the role it holds. -/
def whoOf (s : State) : Vector (Bool × Nat) 18 := s.sessions.map (fun x => (x.isOpen, x.role))

theorem who_of_session {s : State} {n : Nat} {x : Session} (h : s.sessions[n]? = some x) : (whoOf s)[n]? = some (x.isOpen, x.role) := by
  simp [whoOf, h]

theorem isOpen_of_who {s : State} {n : Nat} {w : Bool × Nat} (h : (whoOf s)[n]? = some w) : isOpen s n = w.1 := by
  rw [whoOf, Vector.getElem?_map, Option.map_eq_some_iff] at h
  obtain ⟨x, hx, rfl⟩ := h
  simp [isOpen, hx]

theorem roleOf_of_who {s : State} {n : Nat} {w : Bool × Nat} (h : (whoOf s)[n]? = some w) : roleOf s n = w.2 := by
  rw [whoOf, Vector.getElem?_map, Option.map_eq_some_iff] at h
  obtain ⟨x, hx, rfl⟩ := h
  simp [roleOf, hx]

theorem map_vmod {α β : Type} {n : Nat} (g : α → β) {f : α → α} (h : ∀ x, g (f x) = g x) (v : Vector α n) (i : Nat) :
    (vmod v i f).map g = v.map g := by
  unfold vmod
  split
  · rename_i x hx
    obtain ⟨hi, rfl⟩ := Vector.getElem?_eq_some_iff.1 hx
    ext j hj
    by_cases hij : i = j
    · subst hij
      simp [h]
    · simp [hij]
  · rfl

theorem who_vmod {s : State} {n : Nat} {f : Session → Session} (h : ∀ x, ((f x).isOpen, (f x).role) = (x.isOpen, x.role)) :
    whoOf { s with sessions := vmod s.sessions n f } = whoOf s := map_vmod _ h ..

theorem who_of_sessions {s t : State} (h : t.sessions = s.sessions) : whoOf t = whoOf s := by simp [whoOf, h]

/-! ### Events keep who holds the sessions -/

theorem tally_sessions (s : State) (idx sub sel : Nat) : (tally s idx sub sel).sessions = s.sessions := by
  unfold tally keepCount jAppend
  rw [rawBump_frame]
  repeat' split
  all_goals rfl

theorem canMgmtSend_sessions (s : State) (cn : Nat) (f : CanFrame) : (canMgmtSend s cn f).sessions = s.sessions := by
  unfold canMgmtSend
  rw [rawBump_frame]
  repeat' split
  all_goals rfl

theorem emcyOn_sessions (s : State) (data : Bytes) (cn : Nat) : (emcyOn s data cn).sessions = s.sessions := by
  unfold emcyOn
  split
  · split
    · rfl
    · dsimp only
      split
      all_goals exact canMgmtSend_sessions ..
  · rfl

theorem emcyAll_sessions (s : State) (data : Bytes) : (emcyAll s data).sessions = s.sessions :=
  reading_foldl State.sessions (fun t cn => emcyOn_sessions t data cn) _ s

/-- A record that is lost marks the sessions that have not received it, and leaves who holds them. -/
theorem loseRecord_who (s : State) (gone : BitVec 32) : whoOf (loseRecord s gone) = whoOf s := by
  unfold loseRecord
  extract_lets hit n _ev s1
  have hs1 : whoOf s1 = whoOf s := by
    simp only [whoOf, s1, Vector.map_map]
    refine congrArg (Vector.map · _) (funext fun x => ?_)
    dsimp only [Function.comp]
    split
    all_goals rfl
  exact (who_of_sessions (reading_foldl State.sessions (fun t _ => tally_sessions t _ _ _) _ _)).trans hs1

theorem pushRecord_who (s : State) (code sev src : Nat) (data : Bytes) : whoOf (pushRecord s code sev src data) = whoOf s := by
  unfold pushRecord
  extract_lets _rec0 _ev s1
  have hs1 : whoOf s1 = whoOf s := by
    dsimp only [s1]
    split
    · rfl
    · split
      · rfl
      · exact loseRecord_who ..
  split
  · exact (who_of_sessions (emcyAll_sessions ..)).trans hs1
  · exact hs1

theorem noteLimit_who (s : State) (key : Nat) : whoOf (noteLimit s key) = whoOf s := rfl

theorem afterRound_who (before s : State) : whoOf (afterRound before s) = whoOf s := by
  unfold afterRound
  extract_lets sat s1 s2 s3
  have hsat (t : State) (k i j : Nat) : whoOf (sat t k i j) = whoOf t := by
    dsimp only [sat]
    split
    · exact pushRecord_who ..
    · rfl
  have h2 : whoOf s2 = whoOf s := (reading_foldl whoOf (fun t cn => hsat t _ _ _) _ _).trans (hsat ..)
  have h3 : whoOf s3 = whoOf s := by
    refine (reading_foldl whoOf (fun t cn => ?_) _ _).trans h2
    split
    · exact (noteLimit_who ..).trans (pushRecord_who ..)
    · rfl
  clear_value s3
  split
  · exact (noteLimit_who ..).trans ((pushRecord_who ..).trans h3)
  · exact h3

theorem afterRounds_who (fuel : Nat) (before s : State) : whoOf (afterRounds fuel before s) = whoOf s := by
  induction fuel generalizing before s with
  | zero => rfl
  | succ n ih =>
    unfold afterRounds
    dsimp only
    split
    · exact afterRound_who ..
    · exact (ih _ _).trans (afterRound_who ..)

theorem hostEdges_who (s : State) : whoOf (hostEdges s) = whoOf s := by
  unfold hostEdges
  dsimp only
  split
  all_goals rfl

theorem raise_who (s : State) (code sev src : Nat) (data : Bytes) : whoOf (raise s code sev src data) = whoOf s :=
  (hostEdges_who _).trans ((afterRounds_who 20 s _).trans (pushRecord_who ..))

/-! ### Answers keep who holds the sessions -/

theorem sdoSend_who (s : State) (cn : Nat) (data : Bytes) : whoOf (sdoSend s cn data) = whoOf s := by
  unfold sdoSend canMgmt settle
  split
  · exact who_of_sessions (canMgmtSend_sessions ..)
  · exact (hostEdges_who _).trans ((afterRounds_who 20 s _).trans (who_of_sessions (canMgmtSend_sessions ..)))

theorem sdoPump_who (s : State) (cn fuel : Nat) : whoOf (sdoPump s cn fuel) = whoOf s := by
  induction fuel generalizing s with
  | zero => rfl
  | succ n ih =>
    unfold sdoPump
    split
    · split
      · split
        · exact (ih _).trans ((sdoSend_who ..).trans (who_vmod fun _ => rfl))
        · rfl
      · rfl
    · rfl

theorem sdoFrame_who (s : State) (cn : Nat) (data : Bytes) : whoOf (sdoFrame s cn data) = whoOf s := (sdoPump_who ..).trans (who_vmod fun _ => rfl)

theorem setSdo_who (s : State) (cn : Nat) (x : SdoTransfer) : whoOf (setSdo s cn x) = whoOf s := who_vmod fun _ => rfl

theorem sdoAbort_who (s : State) (cn idx sub code : Nat) : whoOf (sdoAbort s cn idx sub code) = whoOf s :=
  (sdoFrame_who ..).trans (who_vmod fun _ => rfl)

theorem sdoReply_who (s : State) (cn idx sub code : Nat) : whoOf (sdoReply s cn idx sub code) = whoOf s := by
  unfold sdoReply
  repeat' split
  · exact (sdoFrame_who ..).trans (setSdo_who ..)
  · exact sdoAbort_who ..
  · rfl
  · rfl

theorem reply_who (s : State) (dest : ReplyTo) (code : Byte) (data : Bytes) : whoOf (reply s dest code data) = whoOf s := by
  cases dest with
  | sdo cn index sub => exact sdoReply_who ..
  | mos slot kind tag index sub offset => exact who_vmod fun _ => rfl
  | _ => rfl

theorem abandonValidation_who (s : State) : whoOf (abandonValidation s) = whoOf s := by
  unfold abandonValidation
  repeat' split
  case h_1.isTrue => exact reply_who ..
  all_goals rfl

theorem discardPending_who (s : State) (cause : Nat) : whoOf (discardPending s cause) = whoOf s := by
  unfold discardPending
  split
  · rfl
  · exact (raise_who ..).trans (abandonValidation_who s)

/-! ### Sessions open and close -/

theorem openSession_who (s : State) (n role transport : Nat) (hn : n < 18) : (whoOf (openSession s n role transport))[n]? = some (true, role) := by
  unfold openSession
  extract_lets pos _closed x
  rw [raise_who]
  exact who_of_session (s := { s with sessions := s.sessions.setIfInBounds n x }) (Vector.getElem?_setIfInBounds_self_of_lt hn)

theorem closeSession_isOpen (s : State) (n reason : Nat) : isOpen (closeSession s n reason) n = false := by
  unfold closeSession
  split
  · rename_i hopen
    obtain ⟨x, hx⟩ := isOpen_session hopen
    extract_lets s0 s1 s2 s3
    have h1 : (whoOf s1)[n]? = some (false, 0) :=
      who_of_session (x := Session.closed) (Vector.getElem?_setIfInBounds_self_of_lt (Vector.getElem?_eq_some_iff.1 hx).1)
    have h2 : whoOf s2 = whoOf s1 := by
      dsimp only [s2]
      repeat' split
      · exact discardPending_who ..
      · rfl
      · rfl
    have h3 : whoOf s3 = whoOf s2 := by
      dsimp only [s3]
      split
      all_goals rfl
    refine isOpen_of_who (w := (false, 0)) ?_
    rw [raise_who, h3, h2, h1]
  · exact Bool.eq_false_iff.2 ‹_›

/-! ### Subscriptions -/

theorem getElem?_eventSeek {s : State} {n : Nat} {x : Session} (pos : BitVec 32) (hx : s.sessions[n]? = some x) :
    ∃ y, (eventSeek s n pos).sessions[n]? = some y ∧ y.subscription = x.subscription := by
  unfold eventSeek ringSeek
  dsimp only
  split
  · exact ⟨_, getElem?_vmod _ hx, rfl⟩
  · exact ⟨_, getElem?_vmod _ (getElem?_vmod _ hx), rfl⟩

theorem eventSeek_out (s : State) (n : Nat) (pos : BitVec 32) : (eventSeek s n pos).out = s.out := by
  unfold eventSeek ringSeek
  dsimp only
  split
  all_goals rfl

theorem getElem?_reply_mos {s : State} {slot : Fin 8} {kind : BitVec 8} {tag index : BitVec 16} {sub : BitVec 8} {offset : BitVec 32} {x : Session}
    (code : Byte) (data : Bytes) (hx : s.sessions[slot.val]? = some x) :
    ∃ y, (reply s (.mos slot kind tag index sub offset) code data).sessions[slot.val]? = some y ∧ y.subscription = x.subscription ∧ y.own = x.own :=
  ⟨_, getElem?_vmod _ hx, rfl, rfl⟩

theorem getOwn_of_own {s t : State} {n : Nat} {x y : Session} (hx : s.sessions[n]? = some x) (hy : t.sessions[n]? = some y) (h : y.own = x.own)
    (idx sub : Nat) : getOwn t n idx sub = getOwn s n idx sub := by
  simp only [getOwn, hx, hy, ownNat, h]

/-- A subscription that is taken up is stored, and its answer carries the position that it sets. -/
theorem mosSubscribe_fresh {s : State} {slot : Fin 8} {head : MosHead} {tag : BitVec 16} (severity : BitVec 8) (first : BitVec 32)
    (h : MosFresh s slot head 3 tag 0 0 = true) :
    ∃ t x, exec (.mosSubscribe slot ⟨head, tag⟩ severity first) s = .next t ∧ t.sessions[slot.val]? = some x ∧
      x.subscription = some { severity := severity, unacked := [], resends := 0 } ∧
      t.out = .mos slot.val (mosAnswer 3 tag 0 0 0 0 (be 4 (getOwn t slot.val 0x2301 1))) :: s.out := by
  obtain ⟨x, hx⟩ : ∃ x, s.sessions[slot.val]? = some x := by
    unfold MosFresh at h
    split at h
    · exact ⟨_, ‹_›⟩
    · cases h
  have hexec : exec (.mosSubscribe slot ⟨head, tag⟩ severity first) s = .next _ := congrArg Host.Outcome.next (mosRequest_fresh 0 _ h)
  extract_lets t1 t2 at hexec
  have hx1 : t1.sessions[slot.val]? = some _ := getElem?_vmod _ (getElem?_vmod _ hx)
  obtain ⟨y, hy, hsub⟩ := getElem?_eventSeek (if first = 0xFFFFFFFF then t1.ev.next else first) hx1
  obtain ⟨z, hz, hsubz, hown⟩ := getElem?_reply_mos (kind := 3) (tag := tag) (index := 0) (sub := 0) (offset := 0) 0 (be 4 (getOwn t2 slot.val 0x2301 1)) hy
  refine ⟨_, z, hexec, hz, hsubz.trans hsub, ?_⟩
  rw [getOwn_of_own hy hz hown]
  exact congrArg (List.cons _) (eventSeek_out ..)

section
variable {s : State} {slot : Nat} {p : Subscription} (h : subscriptionOf s slot = some p)
include h

theorem session_of_subscription : mosServed s = true ∧ ∃ x, s.sessions[slot]? = some x ∧ x.isOpen = true ∧ x.subscription = some p := by
  unfold subscriptionOf at h
  split at h
  · rename_i hserved
    rw [Bool.and_eq_true] at hserved
    obtain ⟨hmos, hopen⟩ := hserved
    split at h
    · rename_i x hx
      exact ⟨hmos, x, hx, by simpa [isOpen, hx] using hopen, h⟩
    · cases h
  · cases h

end

theorem movePast_session {s : State} {slot : Nat} {x : Session} (n : Nat) (hx : s.sessions[slot]? = some x) :
    movePast s slot n = { s with sessions := (movePast s slot n).sessions } ∧
      ∃ y, (movePast s slot n).sessions[slot]? = some y ∧ y.isOpen = x.isOpen ∧ y.subscription = x.subscription := by
  unfold movePast
  dsimp only
  split
  · exact ⟨rfl, _, getElem?_vmod _ hx, rfl, rfl⟩
  · exact ⟨rfl, x, hx, rfl, rfl⟩

/-- The state in which records that five resends did not bring across count as lost (R71). -/
def givenUp (s : State) (slot last : Nat) : State :=
  let t := setSub (movePast s slot last) slot (fun q => { q with unacked := [], resends := 0 })
  { t with sessions := vmod t.sessions slot (fun x => { x with lostFlag := true }) }

theorem givenUp_frame {s : State} {slot : Nat} {p : Subscription} (h : subscriptionOf s slot = some p) (last : Nat) :
    givenUp s slot last = { s with sessions := (givenUp s slot last).sessions } ∧
      (subscriptionOf (givenUp s slot last) slot).map (fun q => q.unacked) = some [] := by
  obtain ⟨hmos, x, hx, hopen, hsub⟩ := session_of_subscription h
  obtain ⟨hframe, y, hy, hyopen, hysub⟩ := movePast_session last hx
  have hu : givenUp s slot last = { s with sessions := (givenUp s slot last).sessions } := by
    unfold givenUp setSub
    rw [hframe]
  have hmos' : mosServed (givenUp s slot last) = true := by
    rw [hu]
    exact hmos
  have hz : (givenUp s slot last).sessions[slot]? = some _ := getElem?_vmod _ (getElem?_vmod _ hy)
  refine ⟨hu, ?_⟩
  simp [subscriptionOf, hmos', isOpen, hz, hyopen, hopen, hysub, hsub]

theorem lt_of_find_free {n : Nat} {p : Nat → Bool} (h : (List.range 8).find? p = some n) : n < 18 :=
  Nat.lt_of_lt_of_le (List.mem_range.1 (List.mem_of_find?_eq_some h)) (by decide)

/-- Settles O10: sessions by who holds them, which no event and no answer changes; messages by the frame that each has. -/
theorem mosSessionsOpenAndClose : Obligations.MosSessionsOpenAndClose := by
  refine ⟨fun s cred slot head tag severity first ses n role vendor => ⟨fun hm hc hn => ?opens, fun hs ho => ?closes, fun hf => ?alive,
    mosSubscribe_fresh severity first, rfl⟩,
    fun s slot head seq p hp => ⟨fun hu => ?delivery, fun n hv hn => ?ack, fun n hn => ⟨fun hr => ?again, fun hr => ?up⟩⟩⟩
  case opens =>
    have hserved : served s = true := by
      unfold served
      unfold mosServed at hm
      cases hstate : s.op.state
      all_goals simp_all
    have hexec : exec (.dtlsHandshakeComplete cred) s = .next
        { openSession s n role 1 with sessions := vmod (openSession s n role 1).sessions n (fun x => { x with vendor := vendor }) } := by
      simp only [exec, execDtlsHandshakeComplete, hserved, hm, hc, hn, Bool.not_true, Bool.false_eq_true, if_false]
    have hwho := openSession_who s n role 1 (lt_of_find_free hn)
    rw [← who_vmod (f := fun x => { x with vendor := vendor }) fun _ => rfl] at hwho
    exact ⟨_, hexec, isOpen_of_who hwho, roleOf_of_who hwho, rfl⟩
  case closes => exact ⟨if_pos hs, closeSession_isOpen .., if_pos hs, closeSession_isOpen ..⟩
  case alive => exact ⟨_, congrArg Host.Outcome.next (mosRequest_fresh 0 _ hf), rfl, rfl⟩
  case delivery =>
    simp only [exec, execMosEventDelivery, hp, hu, List.isEmpty_nil, Bool.not_true, Bool.false_eq_true, if_false]
    cases (recordsFor s slot.val p.severity.toNat).take 32
    all_goals rfl
  case ack =>
    intro got
    simp only [exec, execMosEventAck, hp, hv, if_true, hn]
    rfl
  case again => simp only [exec, execMosEventResend, hp, hn, hr, if_true]
  case up =>
    obtain ⟨hframe, hsub⟩ := givenUp_frame hp n
    refine ⟨_, givenUp s slot.val n, ?_, rfl, hframe, hsub⟩
    simp only [exec, execMosEventResend, hp, hn, Nat.not_lt.2 hr, if_false]
    rfl

end Sys2Proof.Machine
end

section
/-! PROOFS. The SDO server and the CANopen messages (R45, R52, R73), Vendor authentication (R48, R51), and the event records as a session reads them
(R70 to R72). -/

namespace Sys2Proof.Machine

/-! ### The SDO server -/

section
variable {s : State} {cn : Fin 8} {x : Session} (hx : s.sessions[8 + cn.val]? = some x)
include hx

theorem exec_sdoRequest_served (req : SdoRequest) (hs : sdoServed s cn.val = true) : exec (.sdoRequest cn req) s = .next (sdoServe s cn x.sdo req) := by
  simp only [exec, execSdoRequest, hx, hs, if_true]

theorem exec_sdoSegmentTimeout_transfer {i k : Nat} (ha : sdoAnswering x.sdo = false) (ho : sdoObject x.sdo = some (i, k)) :
    exec (.sdoSegmentTimeout cn) s = .next (sdoAbort s cn.val i k 0x05040000) := by
  simp only [exec, execSdoSegmentTimeout, hx]
  cases hsdo : x.sdo with
  | answering => simp [hsdo, sdoAnswering] at ha
  | _ =>
    rw [hsdo] at ho
    simp only [ho]

end

/-- An abort leaves the channel idle. -/
theorem getElem?_sdoServe_abort {s : State} {cn : Fin 8} {x : Session} (code : BitVec 32) (hx : s.sessions[8 + cn.val]? = some x) :
    ((sdoServe s cn x.sdo (.abort code)).sessions[8 + cn.val]?).map (fun y => y.sdo) = some .idle :=
  (congrArg (Option.map _) (getElem?_vmod _ hx)).trans rfl

theorem blockOnly_short {idx sub len : Nat} (h : len ≤ 65535) : blockOnly idx sub len = false := by
  simp [blockOnly, Nat.not_lt.2 h]

section
variable {s : State} {cn : Fin 8} {idx sub : Nat} {row : ObjRow} (hr : readCheck s (8 + cn.val) idx sub = .inl row)
  (he : readEffect s (8 + cn.val) idx sub = none)
include hr he

/-- An upload shows what the object shows: expedited up to four bytes, else as the start of a segmented transfer (R52). -/
theorem sdoUpload_allowed (hb : (sdoOrder idx sub (objectValue s (8 + cn.val) row idx sub)).length ≤ 65535) :
    let b := sdoOrder idx sub (objectValue s (8 + cn.val) row idx sub)
    sdoUpload s cn idx sub =
      if 1 ≤ b.length ∧ b.length ≤ 4 then sdoFrame (setSdo s cn.val .idle) cn.val (le 1 (0x43 + 4 * (4 - b.length)) ++ sdoMux idx sub ++ b)
      else sdoFrame (setSdo s cn.val (.upload idx sub b false)) cn.val ([0x41] ++ sdoMux idx sub ++ le 4 b.length) := by
  simp [sdoUpload, readObject_allowed hr, he, blockOnly_short hb]

end

theorem sdoServe_upload {s : State} {cn : Fin 8} {x : SdoTransfer} {index : BitVec 16} {sub : BitVec 8} (ha : sdoAnswering x = false) :
    sdoServe s cn x (.uploadInitiate index sub) = sdoUpload s cn index.toNat sub.toNat := by
  simp [sdoServe, ha]

theorem sdoServe_expedited {s : State} {cn : Fin 8} {x : SdoTransfer} {index : BitVec 16} {sub : BitVec 8} {v : Bytes} (ha : sdoAnswering x = false) :
    sdoServe s cn x (.downloadExpedited index sub v) =
      answerWrite (setSdo s cn.val (.answering index.toNat sub.toNat ([0x60] ++ sdoMux index.toNat sub.toNat))) (sdoSession cn) (.sdo cn index sub)
        index.toNat sub.toNat (sdoOrder index.toNat sub.toNat v) := by
  simp [sdoServe, ha, sdoWrite]

/-! ### Vendor authentication -/

section
variable {s : State} {ses : Nat} {x : Session} (hx : s.sessions[ses]? = some x)
include hx

theorem getElem?_challengeRead : ∃ y, (challengeRead s ses).1.sessions[ses]? = some y ∧ y.challenge = some ((drawBytes s 16).2, s.time.mono) :=
  ⟨_, getElem?_vmod _ hx, rfl⟩

/-- A valid response within its time gives a session that may hold Vendor that role (R48, R51). -/
theorem responseWrite_valid {c sig : Bytes} {at_ : Nat} (hc : x.challenge = some (c, at_)) (ht : s.time.mono < at_ + 60000000000)
    (hv : Config.vendorSignatureValid c sig = true) (hcap : x.vendor = true ∨ 16 ≤ ses) :
    responseWrite s ses sig = ({ s with sessions := vmod s.sessions ses (fun y => { y with role := 3 }) }, 0) := by
  simp [responseWrite, hx, hc, ht, hv, hcap]

theorem roleOf_vmod_vendor : roleOf { s with sessions := vmod s.sessions ses (fun y => { y with role := 3 }) } ses = 3 := by
  simp only [roleOf, getElem?_vmod _ hx]

end

/-! ### Event records -/

/-- The lost flag is bit 0 of the eleventh byte of a record (R70). -/
theorem eventBytes_flagged (r : EventRec) :
    (eventBytes r false).set 11 (BitVec.ofNat 8 (byteAt (eventBytes r false) 11 ||| 2 ^ 0)) = eventBytes r true := by
  cases hs : r.inStart
  all_goals simp [eventBytes, be, byteAt, hs, boolNat]

/-- How far a session's read position stands from the oldest event record. -/
def eventPlace (s : State) (ses : Nat) : Nat := ringPlace s ses 0x2301 1 s.ev.ring.length s.ev.next

section
variable {s : State} {ses : Nat}

theorem eventRead_none (h : s.ev.ring[eventPlace s ses]? = none) : eventRead s ses = (s, zeros 32) :=
  ringRead_unheld (List.getElem?_eq_none_iff.1 h)

section
variable {x : Session} (hx : s.sessions[ses]? = some x)
include hx

/-- A record at the session's position is read with the session's lost flag, and the position moves on by one (R71, R72). -/
theorem eventRead_held {r : EventRec} (h : s.ev.ring[eventPlace s ses]? = some r) :
    (eventRead s ses).2 = eventBytes r x.lostFlag ∧ getOwn (eventRead s ses).1 ses 0x2301 1 = (getOwn s ses 0x2301 1 + 1) % 2 ^ 32 ∧
      (eventRead s ses).1.ev = s.ev := by
  have hlt : eventPlace s ses < s.ev.ring.length := (List.getElem?_eq_some_iff.1 h).1
  refine ⟨?_, getOwn_ringRead (fun _ => rfl) hlt hx, ?_⟩
  · rw [eventPlace] at h hlt
    rw [eventRead, ringRead_held hlt hx]
    dsimp only
    rw [h]
    cases x.lostFlag
    · rfl
    · exact eventBytes_flagged r
  · rw [eventRead, ringRead_held hlt hx]
    rfl

theorem getOwn_eventSeek (pos : BitVec 32) :
    getOwn (eventSeek s ses pos) ses 0x2301 1 =
      if (pos - (s.ev.next - BitVec.ofNat 32 s.ev.ring.length)).toNat ≤ s.ev.ring.length then pos.toNat
      else (s.ev.next - BitVec.ofNat 32 s.ev.ring.length).toNat :=
  getOwn_ringSeek (fun _ => rfl) hx

end

theorem eventSeek_ev (pos : BitVec 32) : (eventSeek s ses pos).ev = s.ev := by
  unfold eventSeek ringSeek
  dsimp only
  split
  all_goals rfl

end

theorem ReadAllowed.session {s : State} {ses : SessionNo} {idx sub : Nat} (h : ReadAllowed s ses idx sub) : ∃ x, s.sessions[ses.val]? = some x :=
  isOpen_session h.2.1

theorem WriteAllowed.session {s : State} {ses : SessionNo} {idx sub : Nat} {v : Bytes} (h : WriteAllowed s ses idx sub v) :
    ∃ x, s.sessions[ses.val]? = some x :=
  isOpen_session h.2.1

/-- Settles O11: the SDO server by its requests, the CANopen messages by their guards, and the session commands by what their actions do. -/
theorem sdoServerAndCanManagement : Obligations.SdoServerAndCanManagement := by
  refine ⟨fun s cn req x index sub row v code i k b m rest => ⟨fun hx hs => ⟨exec_sdoRequest_served hx req hs, ?abort,
    fun ha hr he => ⟨?expedited, ?segmented⟩, fun ha => ?download⟩, fun hx => exec_sdoSegmentTimeout_transfer hx, ?held, ?ended, ?heartbeat⟩,
    fun s ses sig pos x c at_ => ⟨fun hr => ?challenge, fun hw hx hc ht hv hcap => ?response, fun hr hx => ⟨fun r hheld => ?record, fun hnone => ?empty⟩,
      fun hw => ?position⟩⟩
  case abort => exact ⟨_, exec_sdoRequest_served hx _ hs, getElem?_sdoServe_abort code hx⟩
  case expedited =>
    intro h1 h4
    rw [exec_sdoRequest_served hx _ hs, sdoServe_upload ha, sdoUpload_allowed hr he (Nat.le_trans h4 (by decide)), if_pos ⟨h1, h4⟩]
    rfl
  case segmented =>
    intro h4 hlen
    rw [exec_sdoRequest_served hx _ hs, sdoServe_upload ha, sdoUpload_allowed hr he hlen, if_neg fun h => Nat.not_le.2 h4 h.2]
    rfl
  case download =>
    rw [exec_sdoRequest_served hx _ hs, sdoServe_expedited ha]
    rfl
  case held =>
    intro hi he hm
    simp only [exec, execEmcyInhibitExpiry, hi, he, hm, if_true]
  case ended =>
    intro hi he
    simp only [exec, execEmcyInhibitExpiry, hi, he]
  case heartbeat =>
    intro hb hon
    simp only [exec, execHeartbeatTimer, hb, hon, if_true]
  case challenge =>
    obtain ⟨z, hz⟩ := hr.session
    obtain ⟨y, hy, hchallenge⟩ := getElem?_challengeRead hz
    exact ⟨_, y, congrArg Host.Outcome.next (readCommand_allowed (fun t => challengeRead t ses.val) hr), hy, hchallenge, rfl, rfl⟩
  case response =>
    refine ⟨_, congrArg Host.Outcome.next (command_allowed (fun t => responseWrite t ses.val sig) hw), ?_⟩
    rw [responseWrite_valid hx hc ht hv hcap]
    exact ⟨roleOf_vmod_vendor hx, rfl⟩
  case record =>
    obtain ⟨hbytes, hown, hev⟩ := eventRead_held hx hheld
    exact ⟨_, congrArg Host.Outcome.next (readCommand_allowed (fun t => eventRead t ses.val) hr), hbytes ▸ rfl, hown, hev⟩
  case empty =>
    refine congrArg Host.Outcome.next ((readCommand_allowed (fun t => eventRead t ses.val) hr).trans ?_)
    rw [eventRead_none hnone]
  case position =>
    obtain ⟨z, hz⟩ := hw.session
    exact ⟨_, congrArg Host.Outcome.next (command_allowed (fun t => (eventSeek t ses.val pos, 0)) hw), rfl, eventSeek_ev pos, getOwn_eventSeek hz pos⟩

end Sys2Proof.Machine
end

section
/-! PROOFS. What the apply of a set (R65) leaves alone in every block: the operating block and the change sets. A block applies through its own operations, so
one lemma per operation says that it reaches neither. -/

namespace Sys2Proof.Machine

/-- The operating block and the change sets. -/
def opCs (s : State) : OpBlock × CsBlock := (s.op, s.cs)

@[simp] theorem opCs_mk (op cfg cnt store sessions cs ev time can serial mvb jour wear fab look zone gw br aud pos pow slp gp pair dram pool cvu upd
    host spi pins tap out drawn pending) :
    opCs (State.mk op cfg cnt store sessions cs ev time can serial mvb jour wear fab look zone gw br aud pos pow slp gp pair dram pool cvu upd
      host spi pins tap out drawn pending) = (op, cs) := id rfl

@[simp] theorem opCs_eta (s : State) : (s.op, s.cs) = opCs s := rfl

@[simp] theorem opCs_ite (c : Prop) [Decidable c] (a b : State) : opCs (if c then a else b) = if c then opCs a else opCs b := apply_ite ..

@[simp] theorem opCs_ite_fst {α : Type} (c : Prop) [Decidable c] (a b : State × α) :
    opCs (if c then a else b).1 = if c then opCs a.1 else opCs b.1 := by
  split
  all_goals rfl

@[simp] theorem opCs_foldl {α : Type} (f : State → α → State) (h : ∀ t x, opCs (f t x) = opCs t) (l : List α) (s : State) :
    opCs (l.foldl f s) = opCs s :=
  reading_foldl opCs h l s

@[simp] theorem opCs_foldl_pair {α β : Type} (f : State × β → α → State × β) (h : ∀ p x, opCs (f p x).1 = opCs p.1)
    (l : List α) (p : State × β) :
    opCs (l.foldl f p).1 = opCs p.1 := by
  induction l generalizing p with
  | nil => rfl
  | cons x r ih => exact (ih _).trans (h p x)

theorem opCs_offEvents : OffEvents opCs := fun _ _ _ _ _ _ _ _ => rfl

theorem opCs_offCells : OffCells opCs := fun _ _ _ => rfl

/-! ### Events, counters and answers -/

@[simp] theorem emit_opCs (s : State) (o : Out) : opCs (emit s o) = opCs s := opCs_offEvents.emit ..

@[simp] theorem drawNat_opCs (s : State) (kind : Nat) : opCs (drawNat s kind).1 = opCs s := by simp [drawNat]

@[simp] theorem jAppend_opCs (s : State) (body : JBody) (dest : ReplyTo) : opCs (jAppend s body dest) = opCs s := opCs_offEvents.jAppend ..

@[simp] theorem tally_opCs (s : State) (idx sub sel : Nat) : opCs (tally s idx sub sel) = opCs s := opCs_offEvents.tally ..

@[simp] theorem bumpW_opCs (s : State) (idx sub sel n : Nat) : opCs (bumpW s idx sub sel n) = opCs s := by simp [bumpW]

@[simp] theorem noteLimit_opCs (s : State) (key : Nat) : opCs (noteLimit s key) = opCs s := opCs_offEvents.noteLimit ..

@[simp] theorem emcyCleared_opCs (before s : State) : opCs (emcyCleared before s) = opCs s := opCs_offEvents.emcyCleared ..

@[simp] theorem raise_opCs (s : State) (code sev src : Nat) (data : Bytes) : opCs (raise s code sev src data) = opCs s := opCs_offEvents.raise ..

@[simp] theorem raiseLimited_opCs (s : State) (sel period code sev src : Nat) (data : Bytes) :
    opCs (raiseLimited s sel period code sev src data) = opCs s := by
  simp [raiseLimited]

@[simp] theorem bumpAt_opCs (s : State) (idx sub sel shown : Nat) : opCs (bumpAt s idx sub sel shown) = opCs s := by simp [bumpAt]

@[simp] theorem bump_opCs (s : State) (idx sub : Nat) : opCs (bump s idx sub) = opCs s := bumpAt_opCs ..

@[simp] theorem bumpN_opCs (s : State) (base n sub : Nat) : opCs (bumpN s base n sub) = opCs s := bumpAt_opCs ..

@[simp] theorem wideN_opCs (s : State) (base n sub amount : Nat) : opCs (wideN s base n sub amount) = opCs s := by simp [wideN]

@[simp] theorem recordInclusion_opCs (s : State) (src kind : Nat) (detail : Bytes) :
    opCs (recordInclusion s src kind detail) = opCs s := by
  simp [recordInclusion]

@[simp] theorem reply_opCs (s : State) (dest : ReplyTo) (code : Byte) (data : Bytes) : opCs (reply s dest code data) = opCs s :=
  (congrArg opCs (reply_beside s dest code data) :)

/-! ### Buffers and pages -/

@[simp] theorem marginEvents_opCs (s : State) (cls : Nat) (wornAtZero : Bool) : opCs (marginEvents s cls wornAtZero) = opCs s := by
  simp [marginEvents]

@[simp] theorem setClass_opCs (s : State) (c : Nat) (x : PoolClass) : opCs (setClass s c x) = opCs s := by simp [setClass]

@[simp] theorem grantFrom_opCs (s : State) (o c : Nat) : opCs (grantFrom s o c).1 = opCs s := by simp [grantFrom]

@[simp] theorem poolFail_opCs (s : State) (o c cause : Nat) : opCs (poolFail s o c cause) = opCs s := by simp [poolFail]

@[simp] theorem poolTry_opCs (s : State) (o c : Nat) (climb : Bool) (fuel : Nat) : opCs (poolTry s o c climb fuel).1 = opCs s := by
  induction fuel generalizing s c with
  | zero => rfl
  | succ n ih =>
    unfold poolTry
    repeat' split
    all_goals simp [ih]

@[simp] theorem poolRequestOne_opCs (s : State) (o size : Nat) (climb : Bool) : opCs (poolRequestOne s o size climb).1 = opCs s := by
  simp [poolRequestOne]

@[simp] theorem misuse_opCs (s : State) (kind who : Nat) (owner state : Nat) (h : BitVec 32) :
    opCs (misuse s kind who owner state h) = opCs s := by
  simp [misuse]

@[simp] theorem rejectHandle_opCs (s : State) (who : Nat) (h : BitVec 32) (kind ctr : Nat) : opCs (rejectHandle s who h kind ctr) = opCs s := by
  simp [rejectHandle]

@[simp] theorem cutMinima_opCs (s : State) (c : Nat) : opCs (cutMinima s c) = opCs s := by
  refine opCs_foldl _ (fun t o => ?_) _ s
  dsimp only
  repeat' split
  all_goals simp

@[simp] theorem applyPool_opCs (s : State) : opCs (applyPool s) = opCs s := by simp [applyPool]

@[simp] theorem touchPage_opCs (s : State) (page : Nat) : opCs (touchPage s page) = opCs s := by simp [touchPage]

@[simp] theorem remapPage_opCs (s : State) (page spare : Nat) (rest : List Nat) (uncorr : Bool) :
    opCs (remapPage s page spare rest uncorr) = opCs s := by
  simp [remapPage]

@[simp] theorem bufferGone_opCs (s : State) (c i : Nat) : opCs (bufferGone s c i) = opCs s := by simp [bufferGone]

@[simp] theorem retireWaiting_opCs (s : State) : opCs (retireWaiting s) = opCs s := by
  refine opCs_foldl _ (fun t e => ?_) _ s
  repeat' split
  all_goals simp

@[simp] theorem withdrawFrom_opCs (s : State) (c : Nat) : opCs (withdrawFrom s c) = opCs s := by
  unfold withdrawFrom
  dsimp only
  repeat' split
  all_goals simp

@[simp] theorem withdrawLargest_opCs (s : State) (fuel : Nat) : opCs (withdrawLargest s fuel) = opCs s := by
  induction fuel generalizing s with
  | zero => rfl
  | succ n ih =>
    unfold withdrawLargest
    split
    · rfl
    · split
      all_goals simp [ih]

@[simp] theorem withdrawCovering_opCs (s : State) (page : Nat) : opCs (withdrawCovering s page) = opCs s := by
  simp [withdrawCovering]

@[simp] theorem retirePage_opCs (s : State) (page : Nat) (uncorr : Bool) : opCs (retirePage s page uncorr) = opCs s := by
  unfold retirePage
  repeat' split
  all_goals simp

@[simp] theorem dramUncorrectable_opCs (s : State) (page reader : Nat) : opCs (dramUncorrectable s page reader) = opCs s := by
  simp [dramUncorrectable]

@[simp] theorem returnBuffer_opCs (s : State) (c i : Nat) (t : PoolTag) : opCs (returnBuffer s c i t) = opCs s := by simp [returnBuffer]

@[simp] theorem poolFreeOp_opCs (s : State) (who : Nat) (h : BitVec 32) : opCs (poolFreeOp s who h) = opCs s := by
  unfold poolFreeOp
  repeat' split
  all_goals simp

/-! ### Links, cells and queues -/

@[simp] theorem setLink_opCs (s : State) (p : Nat) (f : PortLink → PortLink) : opCs (setLink s p f) = opCs s := by simp [setLink]

@[simp] theorem setColumn_opCs (s : State) (j : Nat) (c : Column) : opCs (setColumn s j c) = opCs s := rfl

@[simp] theorem returnCells_opCs (s : State) (i : Nat) (x : Holding) (keep : Nat) : opCs (returnCells s i x keep).1 = opCs s :=
  opCs_offCells.returnCells ..

@[simp] theorem setFrame_opCs (s : State) (f : Frame) : opCs (setFrame s f) = opCs s := rfl

@[simp] theorem dropIfDone_opCs (s : State) (id : Nat) : opCs (dropIfDone s id) = opCs s := opCs_offCells.dropIfDone ..

@[simp] theorem doneDest_opCs (s : State) (id port : Nat) (mirror : Option Nat) : opCs (doneDest s id port mirror) = opCs s :=
  opCs_offCells.doneDest ..

@[simp] theorem setEgress_opCs (s : State) (p : Nat) (f : PortEgress → PortEgress) : opCs (setEgress s p f) = opCs s := by simp [setEgress]

@[simp] theorem creditsNow_opCs (s : State) (port : Nat) : opCs (creditsNow s port) = opCs s := by simp [creditsNow]

@[simp] theorem creditsAll_opCs (s : State) : opCs (creditsAll s) = opCs s := by simp [creditsAll]

@[simp] theorem setQueue_opCs (s : State) (q : Nat) (l : List Copy) : opCs (setQueue s q l) = opCs s := by simp [setQueue]

@[simp] theorem unqueue_opCs (s : State) (id port : Nat) (mirror : Option Nat) : opCs (unqueue s id port mirror) = opCs s := by
  unfold unqueue
  dsimp only
  repeat' split
  all_goals simp

@[simp] theorem dropCopy_opCs (s : State) (id port : Nat) (mirror : Option Nat) : opCs (dropCopy s id port mirror) = opCs s := by simp [dropCopy]

@[simp] theorem discardCopy_opCs (s : State) (id port : Nat) (mirror : Option Nat) : opCs (discardCopy s id port mirror) = opCs s := by
  simp [discardCopy]

@[simp] theorem failCopy_opCs (s : State) (id port : Nat) (mirror : Option Nat) : opCs (failCopy s id port mirror) = opCs s := by simp [failCopy]

@[simp] theorem discardQueues_opCs (s : State) (port : Nat) : opCs (discardQueues s port) = opCs s := by simp [discardQueues]

@[simp] theorem markBad_opCs (s : State) (id : Nat) : opCs (markBad s id) = opCs s := by
  unfold markBad
  repeat' split
  all_goals simp

@[simp] theorem setLag_opCs (s : State) (g : Nat) (t : Bytes) : opCs (setLag s g t) = opCs s := by simp [setLag]

@[simp] theorem lagChange_opCs (s : State) (p : Nat) (up : Bool) : opCs (lagChange s p up) = opCs s := by
  unfold lagChange
  repeat' split
  all_goals simp

@[simp] theorem formBudgets_opCs (s : State) (j : Nat) : opCs (formBudgets s j) = opCs s := by simp [formBudgets]

@[simp] theorem linkChanged_opCs (s : State) (p : Nat) (state rate : BitVec 8) : opCs (linkChanged s p state rate) = opCs s := by
  simp [linkChanged]

@[simp] theorem setPreemption_opCs (s : State) (p : Nat) (status : BitVec 8) (attempts : Nat) :
    opCs (setPreemption s p status attempts) = opCs s := by
  simp [setPreemption]

@[simp] theorem preemptStart_opCs (s : State) (p : Nat) : opCs (preemptStart s p) = opCs s := by simp [preemptStart]

/-! ### Lookup, meters, gates and recoveries -/

@[simp] theorem setFwd_opCs (s : State) (t : Tbl FwdEntry) : opCs (setFwd s t) = opCs s := by simp [setFwd]

@[simp] theorem learn_opCs (s : State) (port fid mac : Nat) : opCs (learn s port fid mac) = opCs s := by
  unfold learn
  repeat' split
  all_goals simp

@[simp] theorem setMeter_opCs (s : State) (m : Nat) (x : Meter) : opCs (setMeter s m x) = opCs s := by simp [setMeter]

@[simp] theorem meterCharge_opCs (s : State) (m : Nat) (green : Bool) (len : Nat) : opCs (meterCharge s m green len) = opCs s := by
  simp [meterCharge]

@[simp] theorem setGate_opCs (s : State) (g : Nat) (x : StreamGate) : opCs (setGate s g x) = opCs s := by simp [setGate]

@[simp] theorem closeGate_opCs (s : State) (g cause : Nat) : opCs (closeGate s g cause) = opCs s := by simp [closeGate]

@[simp] theorem setRecovery_opCs (s : State) (f : Nat) (x : Recovery) : opCs (setRecovery s f x) = opCs s := by simp [setRecovery]

@[simp] theorem bumpBy_opCs (s : State) (idx sub sel shown n : Nat) : opCs (bumpBy s idx sub sel shown n) = opCs s := by simp [bumpBy]

@[simp] theorem recoveryDecide_opCs (s : State) (f port : Nat) (seq : Option Nat) : opCs (recoveryDecide s f port seq).1 = opCs s := by
  unfold recoveryDecide
  repeat' split
  all_goals simp

@[simp] theorem recoveryReset_opCs (s : State) (f cause : Nat) : opCs (recoveryReset s f cause) = opCs s := by simp [recoveryReset]

@[simp] theorem flushLearned_opCs (s : State) (test : FwdEntry → Bool) : opCs (flushLearned s test) = opCs s := by
  simp [flushLearned]

@[simp] theorem applyGate_opCs (s : State) (g : Nat) : opCs (applyGate s g) = opCs s := by simp [applyGate]

@[simp] theorem applyLookup_opCs (old : Tbl Bytes) (s : State) : opCs (applyLookup old s) = opCs s := by
  unfold applyLookup
  extract_lets same _moved _fids s1 s2 _keep _src s3 fresh s4
  have hs1 : opCs s1 = opCs s := by
    dsimp only [s1]
    split
    all_goals simp
  clear_value s1
  have hs2 : opCs s2 = opCs s := by
    dsimp only [s2]
    repeat' split
    all_goals simp [hs1]
  clear_value s2
  have hs3 : opCs s3 = opCs s := by
    dsimp only [s3]
    split
    · exact hs2
    · rw [← hs2]; rfl
  clear_value s3
  have hs4 : opCs s4 = opCs s := by
    dsimp only [s4]
    split
    · exact hs3
    · refine (opCs_foldl _ ?_ _ _).trans hs3
      intro t x
      split
      all_goals simp
  clear_value s4
  split
  · exact hs4
  · refine (opCs_foldl _ ?_ _ _).trans hs4
    intro t x
    split
    all_goals simp

@[simp] theorem applyRecoveries_opCs (old : Tbl Bytes) (s : State) : opCs (applyRecoveries old s) = opCs s := by
  simp [applyRecoveries]

/-! ### Egress -/

@[simp] theorem preempt_opCs (s : State) (port : Nat) : opCs (preempt s port) = opCs s := by
  unfold preempt
  dsimp only
  repeat' split
  all_goals simp

@[simp] theorem judgeGates_opCs (before : Nat) (s : State) (port : Nat) : opCs (judgeGates before s port) = opCs s := by
  unfold judgeGates
  repeat' split
  all_goals simp

@[simp] theorem dropSwap_opCs (s : State) (port cause : Nat) : opCs (dropSwap s port cause) = opCs s := by
  unfold dropSwap
  repeat' split
  all_goals simp

@[simp] theorem applyGateList_opCs (s : State) (port : Nat) (atStart : Bool) : opCs (applyGateList s port atStart) = opCs s := by
  simp [applyGateList]

@[simp] theorem applyEgress_opCs (carried : Nat → Nat → Bool) (atStart : Bool) (old : Tbl Bytes) (s : State) :
    opCs (applyEgress carried atStart old s) = opCs s := by
  simp [applyEgress]

/-! ### The Zone Gate and the ends of frames -/

@[simp] theorem discardHost_opCs (s : State) : opCs (discardHost s) = opCs s := by simp [discardHost]

@[simp] theorem correctCharge_opCs (s : State) (id len : Nat) : opCs (correctCharge s id len) = opCs s := by
  unfold correctCharge
  repeat' split
  all_goals simp

@[simp] theorem queueHeld_opCs (s : State) (id : Nat) : opCs (queueHeld s id) = opCs s := by
  unfold queueHeld
  repeat' split
  all_goals simp

@[simp] theorem setFlow_opCs (s : State) (pos : Nat) (w : Flow) : opCs (setFlow s pos w) = opCs s := by simp [setFlow]

@[simp] theorem removeFlow_opCs (s : State) (pos : Nat) : opCs (removeFlow s pos) = opCs s := by simp [removeFlow]

@[simp] theorem logSecondEnd_opCs (s : State) : opCs (logSecondEnd s) = opCs s := by simp [logSecondEnd]

@[simp] theorem zoneLog_opCs (s : State) (typ reason : Nat) (k : FlowKey) (lane : Nat) (oneWay : Bool) (ingress ruleId frames : Nat) :
    opCs (zoneLog s typ reason k lane oneWay ingress ruleId frames) = opCs s := by
  simp [zoneLog]

@[simp] theorem logFlow_opCs (s : State) (typ reason : Nat) (w : Flow) (ingress : Nat) : opCs (logFlow s typ reason w ingress) = opCs s := by
  simp [logFlow]

@[simp] theorem logCrossing_opCs (s : State) (typ reason : Nat) (k : FlowKey) (lane ingress ruleId : Nat) :
    opCs (logCrossing s typ reason k lane ingress ruleId) = opCs s := by
  simp [logCrossing]

@[simp] theorem bumpPair_opCs (s : State) (p sub : Nat) : opCs (bumpPair s p sub) = opCs s := by simp [bumpPair]

@[simp] theorem widePair_opCs (s : State) (p sub n : Nat) : opCs (widePair s p sub n) = opCs s := by simp [widePair]

@[simp] theorem laneRest_opCs (s : State) (f : Frame) : opCs (laneRest s f) = opCs s := by simp [laneRest]

@[simp] theorem flowSegment_opCs (s : State) (x : Parsed) (hit : Nat × Bool) : opCs (flowSegment s x hit) = opCs s := by
  unfold flowSegment
  repeat' split
  all_goals simp

@[simp] theorem freeFirst_opCs (s : State) (p : FirstFrame) : opCs (freeFirst s p) = opCs s := by simp [freeFirst]

@[simp] theorem queueRefusal_opCs (s : State) (k : FlowKey) (lane ingress : Nat) : opCs (queueRefusal s k lane ingress) = opCs s := by
  simp [queueRefusal]

@[simp] theorem flowRefusal_opCs (s : State) (k : FlowKey) (lane ingress : Nat) : opCs (flowRefusal s k lane ingress) = opCs s := by
  simp [flowRefusal]

@[simp] theorem enqueueFirst_opCs (s0 : State) (f : Frame) (x : Parsed) (zd : Nat) (ports : List Nat) :
    opCs (enqueueFirst s0 f x zd ports) = opCs s0 := by
  unfold enqueueFirst
  extract_lets k0 hit k canon lane p closing s recheck g _vd same _gs _gz
  have hs : opCs s = opCs s0 := by
    clear_value closing hit
    dsimp only [s]
    repeat' split
    all_goals simp
  have hg : opCs g.1 = opCs s0 := (poolRequestOne_opCs ..).trans hs
  clear_value s g
  split
  · simpa using hg
  · extract_lets pk refuse join e s1
    have hr : ∀ t, opCs (refuse t) = opCs t := fun t => freeFirst_opCs ..
    have h1 : opCs s1 = opCs s0 := hg
    clear_value refuse join s1
    split
    · split
      · exact hg
      · simpa [hr] using hg
    · repeat' split
      all_goals simp [hr, hg, h1]

@[simp] theorem applyZone_opCs (carried : Bool) (old : Tbl Bytes) (s : State) : opCs (applyZone carried old s) = opCs s := by
  simp [applyZone]

@[simp] theorem setStaged_opCs (s : State) (p : Nat) (x : Option Staged) : opCs (setStaged s p x) = opCs s := by simp [setStaged]

@[simp] theorem countOversize_opCs (s : State) (p h : Nat) (stream : Bool) : opCs (countOversize s p h stream) = opCs s := by simp [countOversize]

@[simp] theorem trapRefill_opCs (s : State) (b : Nat) : opCs (trapRefill s b) = opCs s := by simp [trapRefill]

@[simp] theorem dropCopies_opCs (s : State) (id : Nat) : opCs (dropCopies s id) = opCs s := by
  unfold dropCopies
  repeat' split
  all_goals simp

@[simp] theorem chargeEnd_opCs (s : State) (f : Frame) : opCs (chargeEnd s f) = opCs s := by
  unfold chargeEnd
  repeat' split
  all_goals simp

@[simp] theorem prpReceive_opCs (s : State) (f : Frame) (x : Parsed) : opCs (prpReceive s f x).1 = opCs s := by
  unfold prpReceive
  repeat' split
  all_goals simp

@[simp] theorem afterEnd_opCs (s : State) (f : Frame) (x : Parsed) : opCs (afterEnd s f x) = opCs s :=
  (opCs_foldl _ (fun t _ => enqueueFirst_opCs t _ _ _ _) _ _).trans (opCs_foldl _ (fun t _ => flowSegment_opCs t _ _) _ _)

@[simp] theorem learnFrame_opCs (s : State) (f : Frame) (x : Parsed) : opCs (learnFrame s f x) = opCs s := by simp [learnFrame]

@[simp] theorem goodEnd_opCs (s : State) (f : Frame) (x : Parsed) : opCs (goodEnd s f x) = opCs s := by
  unfold goodEnd
  dsimp only
  repeat' split
  all_goals simp

@[simp] theorem endReception_opCs (s : State) (p id : Nat) : opCs (endReception s p id) = opCs s := by simp [endReception]

@[simp] theorem finishFrame_opCs (s : State) (id : Nat) (e : FrameEnd) : opCs (finishFrame s id e) = opCs s := by
  unfold finishFrame
  dsimp only
  repeat' split
  all_goals simp

@[simp] theorem cutReception_opCs (s : State) (p : Nat) : opCs (cutReception s p) = opCs s := by
  unfold cutReception
  dsimp only
  refine (opCs_foldl _ (fun t id => finishFrame_opCs t id _) _ _).trans ?_
  repeat' split
  all_goals simp

@[simp] theorem dropLink_opCs (s : State) (p : Nat) : opCs (dropLink s p) = opCs s := by simp [dropLink]

@[simp] theorem settleLink_opCs (s : State) (p : Nat) : opCs (settleLink s p) = opCs s := by simp [settleLink]

@[simp] theorem applyFabric_opCs (old : Tbl Bytes) (s : State) : opCs (applyFabric old s) = opCs s := by simp [applyFabric]

/-! ### Buses, gateway and bridge -/

@[simp] theorem setCan_opCs (s : State) (cn : Nat) (f : CanPort → CanPort) : opCs (setCan s cn f) = opCs s := by simp [setCan]

@[simp] theorem setSerial_opCs (s : State) (sp : Nat) (f : SerialPort → SerialPort) : opCs (setSerial s sp f) = opCs s := by simp [setSerial]

@[simp] theorem setMvb_opCs (s : State) (seg : Nat) (f : MvbSeg → MvbSeg) : opCs (setMvb s seg f) = opCs s := by simp [setMvb]

@[simp] theorem cacheDrop_opCs (s : State) (test : Nat → Nat → Bool) : opCs (cacheDrop s test) = opCs s := by simp [cacheDrop]

@[simp] theorem applyBridge_opCs (old : Tbl Bytes) (s : State) : opCs (applyBridge old s) = opCs s := by simp [applyBridge]

@[simp] theorem canBegin_opCs (s : State) (cn : Nat) : opCs (canBegin s cn) = opCs s := by simp [canBegin]

@[simp] theorem refreshDe_opCs (s : State) : opCs (refreshDe s) = opCs s := by simp [refreshDe]

@[simp] theorem canApply_opCs (old : Tbl Bytes) (s : State) (cn : Nat) : opCs (canApply old s cn) = opCs s := by simp [canApply]

@[simp] theorem applyBuses_opCs (old : Tbl Bytes) (s : State) : opCs (applyBuses old s) = opCs s := by simp [applyBuses]

@[simp] theorem setGrids_opCs (s : State) : opCs (setGrids s) = opCs s := by simp [setGrids]

@[simp] theorem startGrids_opCs (s : State) : opCs (startGrids s) = opCs s := by simp [startGrids]

@[simp] theorem applyGateway_opCs (old : Tbl Bytes) (s : State) : opCs (applyGateway old s) = opCs s := by simp [applyGateway]

/-! ### Audio, segments and position -/

@[simp] theorem setStream_opCs (s : State) (n : Nat) (f : AudioStream → AudioStream) : opCs (setStream s n f) = opCs s := by
  simp [setStream]

@[simp] theorem applyAudio_opCs (old : Tbl Bytes) (s : State) : opCs (applyAudio old s) = opCs s := by simp [applyAudio]

@[simp] theorem refreshPhy_opCs (s : State) : opCs (refreshPhy s) = opCs s := by simp [refreshPhy]

@[simp] theorem setSegment_opCs (s : State) (p st lease : Nat) : opCs (setSegment s p st lease) = opCs s := by simp [setSegment]

@[simp] theorem segUnlink_opCs (s : State) (p : Nat) : opCs (segUnlink s p) = opCs s := by simp [segUnlink]

@[simp] theorem applySegments_opCs (old : Tbl Bytes) (s : State) : opCs (applySegments old s) = opCs s := by simp [applySegments]

@[simp] theorem setPosEvent_opCs (s : State) (n : Nat) (f : PosEvent → PosEvent) : opCs (setPosEvent s n f) = opCs s := by simp [setPosEvent]

@[simp] theorem armEvent_opCs (s : State) (n : Nat) : opCs (armEvent s n) = opCs s := by simp [armEvent]

@[simp] theorem applyPosition_opCs (carried : Nat → Nat → Bool) (old : Tbl Bytes) (s : State) :
    opCs (applyPosition carried old s) = opCs s := by
  simp [applyPosition]

/-! ### Power and time -/

@[simp] theorem judgeTj_opCs (s : State) : opCs (judgeTj s) = opCs s := by simp [judgeTj]

@[simp] theorem budgetOutputs_opCs (s : State) : opCs (budgetOutputs s) = opCs s := by simp [budgetOutputs]

@[simp] theorem stageChanged_opCs (s : State) : opCs (stageChanged s) = opCs s := by simp [stageChanged]

@[simp] theorem release_opCs (s : State) (k : Nat) : opCs (release s k) = opCs s := by simp [release]

@[simp] theorem dropDisabled_opCs (s : State) : opCs (dropDisabled s) = opCs s := by simp [dropDisabled]

@[simp] theorem applyPower_opCs (b : State) : opCs (applyPower b) = opCs b := by simp [applyPower]

@[simp] theorem setInst_opCs (s : State) (i : Nat) (f : PtpInst → PtpInst) : opCs (setInst s i f) = opCs s := by simp [setInst]

@[simp] theorem selectSource_opCs (s : State) (i : Nat) : opCs (selectSource s i) = opCs s := by
  unfold selectSource
  dsimp only
  repeat' split
  all_goals simp

@[simp] theorem firstSource_opCs (s : State) : opCs (firstSource s) = opCs s := by
  unfold firstSource
  repeat' split
  all_goals simp

@[simp] theorem startTrigger_opCs (s : State) (k : Nat) : opCs (startTrigger s k) = opCs s := by simp [startTrigger]

@[simp] theorem applyTime_opCs (old : Tbl Bytes) (s : State) : opCs (applyTime old s) = opCs s := by simp [applyTime]

/-! ### The pair -/

@[simp] theorem writeTemplate_opCs (s : State) : opCs (writeTemplate s) = opCs s := by simp [writeTemplate]

@[simp] theorem quietShared_opCs (s : State) : opCs (quietShared s) = opCs s := by simp [quietShared]

@[simp] theorem driveShared_opCs (s : State) : opCs (driveShared s) = opCs s := by simp [driveShared]

@[simp] theorem setRole_opCs (s : State) (r : PairRole) (code : Nat) : opCs (setRole s r code) = opCs s := by simp [setRole]

@[simp] theorem applyPair_opCs (old : Tbl Bytes) (s : State) : opCs (applyPair old s) = opCs s := by simp [applyPair]

/-! ### Sessions, and the apply of every block -/

@[simp] theorem openSession_opCs (s : State) (n role transport : Nat) : opCs (openSession s n role transport) = opCs s := by
  simp [openSession]

@[simp] theorem refreshStb_opCs (s : State) (asleep : Bool) : opCs (refreshStb s asleep) = opCs s := by simp [refreshStb]

@[simp] theorem applyBlocks_opCs (carried : Nat → Nat → Bool) (atStart : Bool) (old : Tbl Bytes) (s : State) :
    opCs (applyBlocks carried atStart old s) = opCs s := by
  simp [applyBlocks]

end Sys2Proof.Machine
end

section
/-! PROOFS. The end of a validation and the apply of a set (R61 to R67): what they make of the change sets and of the values in force. -/

namespace Sys2Proof.Machine

theorem cs_of_opCs {s t : State} (h : opCs t = opCs s) : t.cs = s.cs := congrArg Prod.snd h

theorem thaw_cs (s : State) : (thaw s).cs = s.cs := by
  unfold thaw
  split
  all_goals rfl

/-! ### Sessions that close -/

/-- The armed set and the generation are those of these change sets, and where these have no pending set there is none. -/
def SetsStand (c : CsBlock) (s : State) : Prop := s.cs.armed = c.armed ∧ s.cs.gen = c.gen ∧ (c.pending = none → s.cs.pending = none)

section
variable {c : CsBlock} {s : State} (h : SetsStand c s)
include h

theorem SetsStand.of_cs {t : State} (ht : t.cs = s.cs) : SetsStand c t := by
  rw [SetsStand, ht]
  exact h

theorem SetsStand.discardPending (cause : Nat) : SetsStand c (discardPending s cause) := by
  obtain ⟨harmed, hgen, -⟩ := h
  have habandon : (abandonValidation s).cs = abandoned s.cs := cs_of_beside (abandonValidation_beside s)
  refine ⟨?_, ?_, fun _ => discardPending_pending s cause⟩
  all_goals
    unfold Machine.discardPending
    split
    · assumption
    · dsimp only
      rw [raise_cs, habandon]
      unfold abandoned
      split
      all_goals assumption

/-- A session that closes may take its pending set with it, and no more of the change sets (R58). -/
theorem SetsStand.closeSession (n reason : Nat) : SetsStand c (closeSession s n reason) := by
  unfold Machine.closeSession
  split
  · extract_lets s0 s1 s2 s3
    have h1 : SetsStand c s1 := h
    have h2 : SetsStand c s2 := by
      dsimp only [s2]
      repeat' split
      · exact h1.discardPending _
      · exact h1
      · exact h1
    have h3 : SetsStand c s3 := by
      dsimp only [s3]
      split
      all_goals exact h2
    exact h3.of_cs (raise_cs ..)
  · exact h

omit h in
theorem SetsStand.foldl {α : Type} {f : State → α → State} (hf : ∀ t x, SetsStand c t → SetsStand c (f t x)) {l : List α} {t : State}
    (ht : SetsStand c t) : SetsStand c (l.foldl f t) := by
  induction l generalizing t with
  | nil => exact ht
  | cons x l ih => exact ih (hf t x ht)

theorem SetsStand.busSessions : SetsStand c (busSessions s) := by
  refine SetsStand.foldl (fun t cn ht => ?_) h
  repeat' split
  · exact ht
  · exact ht.of_cs (cs_of_opCs (openSession_opCs ..))
  · exact ht.closeSession ..

theorem SetsStand.applySessions : SetsStand c (applySessions s) := by
  have hstb : SetsStand c (refreshStb (Machine.busSessions s) false) := h.busSessions.of_cs (cs_of_opCs (refreshStb_opCs ..))
  unfold Machine.applySessions
  dsimp only
  split
  · exact hstb
  · exact SetsStand.foldl (fun t n ht => ht.closeSession n 3) hstb

end

/-! ### The apply of a set -/

/-- The change sets with the generation advanced. -/
def nextGen (c : CsBlock) : CsBlock := { c with gen := c.gen + 1 }

/-- A set that applies advances the generation (R65). -/
theorem applySet_sets (s : State) (es : List (Nat × Bytes)) : SetsStand (nextGen s.cs) (applySet s es) := by
  unfold applySet
  extract_lets s0 gen _cs s1 carried s2
  have h0 : s0.cs = s.cs := (cs_of_opCs (creditsAll_opCs _)).trans (thaw_cs s)
  have h1 : SetsStand (nextGen s.cs) s1 := by
    rw [← h0]
    exact ⟨rfl, rfl, id⟩
  clear_value s1 carried
  have h2 : SetsStand (nextGen s.cs) s2 := (h1.of_cs (cs_of_opCs (applyBlocks_opCs ..))).applySessions
  clear_value s2
  refine h2.of_cs (cs_of_opCs ?_)
  rw [emcyCleared_opCs, raise_opCs, bump_opCs]

theorem applySet_cfg (s : State) (es : List (Nat × Bytes)) : (applySet s es).cfg = withEntries s.cfg es := by
  have hthaw : (thaw s).cfg = s.cfg := congrArg (fun k : Kept => k.2.1) (thaw_kept s)
  have h : (applySet s es).cfg = withEntries (thaw s).cfg es := congrArg (fun k : Kept => k.2.1) (applySet_kept s es)
  rw [h, hthaw]

/-- An armed set that applies is armed no more (R65, R66). -/
theorem applyArmed_sets {s : State} {a : ArmedSet} (h : s.cs.armed = some a) :
    (applyArmed s).cfg = withEntries s.cfg a.entries ∧ (applyArmed s).cs.armed = none ∧ (applyArmed s).cs.gen = s.cs.gen + 1 := by
  simp only [applyArmed, h]
  obtain ⟨harmed, hgen, -⟩ := applySet_sets { s with cs := { s.cs with armed := none, dueInPause := none } } a.entries
  have hcfg := applySet_cfg { s with cs := { s.cs with armed := none, dueInPause := none } } a.entries
  generalize applySet _ a.entries = u at harmed hgen hcfg ⊢
  rw [cfg_of_beside (jAppend_beside ..), cs_of_beside (jAppend_beside ..)]
  exact ⟨hcfg, harmed, hgen⟩

/-! ### The answer of a validation -/

theorem csAnswer_cs (s : State) (dest : ReplyTo) (code : Nat) : (csAnswer s dest code).cs = { s.cs with lastResult := BitVec.ofNat 8 code } :=
  cs_of_beside (reply_beside ..)

theorem csAnswer_cfg (s : State) (dest : ReplyTo) (code : Nat) : (csAnswer s dest code).cfg = s.cfg :=
  (cfg_of_beside (reply_beside ..)).trans rfl

theorem copierLoss_cs (s : State) (lost : Option Nat) : (copierLoss s lost).cs = s.cs := by
  unfold copierLoss
  split
  · exact cs_of_opCs ((dramUncorrectable_opCs ..).trans (drawNat_opCs ..))
  · rfl

theorem noteFault_cs (s : State) (f : RuleFault) :
    (noteFault s f).cs = { s.cs with failing := BitVec.ofNat 32 f.key, reason := BitVec.ofNat 8 f.reason } := by
  unfold noteFault
  dsimp only
  split
  · rw [raise_cs, raise_cs]
  · rw [raise_cs]

theorem armSet_cs (s : State) (p : PendingSet) (target : Option T32) (event : Nat) :
    (armSet s p target event).cs = { s.cs with pending := none, armed := some { entries := p.entries, target := target, event := event } } :=
  (cs_of_beside (jAppend_beside ..)).trans (thaw_cs _)

theorem lost_of_csJudge {s : State} {p : PendingSet} {lost : Option Nat} (h : csJudge s p lost = none) : lost = none := by
  cases lost with
  | none => rfl
  | some n => cases h

/-- The state in which the judgement of a validation is taken (R61, R482). -/
def copied (s : State) (lost : Option Nat) : State := copierLoss { s with cs := { s.cs with validating := none } } lost

/-- What a judgement makes of that state: a broken rule is noted, a set that passes is taken on. -/
def afterJudgement (u : State) (p : PendingSet) (k : CsCommand) (dest : ReplyTo) (r : Option RuleFault) : State :=
  match r with
  | some f => csAnswer (noteFault u f) dest 0x0D
  | none => csPassed (noteValid u) p k dest

theorem exec_csValidationComplete_works {s : State} {k : CsCommand} {dest : ReplyTo} {p : PendingSet} (lost : Option Nat)
    (hv : s.cs.validating = some (k, dest)) (hp : s.cs.pending = some p) (hg : gpWorks s = true) :
    exec (.csValidationComplete lost) s = .next (afterJudgement (copied s lost) p k dest (csJudge (copied s lost) p lost)) := by
  change execCsValidationComplete lost s = _
  unfold execCsValidationComplete
  split
  · rename_i k' dest' p' hv' hp'
    cases hv.symm.trans hv'
    cases hp.symm.trans hp'
    rw [if_pos hg]
    change (match csJudge (copied s lost) p lost with | some f => _ | none => _) = _
    cases csJudge (copied s lost) p lost
    all_goals rfl
  · rename_i hnone
    exact absurd hp (hnone k dest p hv)

/-- The state that command 1 leaves: the set in force, both of its records in the journal, and the answer (R65, R66). -/
def appliedNow (s : State) (p : PendingSet) (dest : ReplyTo) : State :=
  let a := applySet { s with cs := { s.cs with pending := none } } p.entries
  csAnswer (jAppend (jAppend a (.armed p.entries) .nobody) (.commit a.cs.gen) .nobody) dest 0

theorem appliedNow_sets (s : State) (p : PendingSet) (dest : ReplyTo) :
    (appliedNow s p dest).cfg = withEntries s.cfg p.entries ∧ (appliedNow s p dest).cs.pending = none ∧
      (appliedNow s p dest).cs.gen = s.cs.gen + 1 ∧ (appliedNow s p dest).cs.lastResult = 0 := by
  unfold appliedNow
  dsimp only
  obtain ⟨-, hgen, hpending⟩ := applySet_sets { s with cs := { s.cs with pending := none } } p.entries
  have hcfg := applySet_cfg { s with cs := { s.cs with pending := none } } p.entries
  generalize applySet _ p.entries = u at hgen hpending hcfg ⊢
  rw [csAnswer_cfg, csAnswer_cs, cfg_of_beside (jAppend_beside ..), cfg_of_beside (jAppend_beside ..), cs_of_beside (jAppend_beside ..),
    cs_of_beside (jAppend_beside ..)]
  exact ⟨hcfg, hpending rfl, hgen, rfl⟩

/-- Settles O13: each end of a validation is one branch, and a set that applies reaches the change sets only where its sessions close. -/
theorem validatedSetsApplyOrArm : Obligations.ValidatedSetsApplyOrArm := by
  intro s k dest p lost u
  refine ⟨fun hv hp hg => ⟨fun hj => ?passed, fun f hj => ?failed⟩, fun a t ha htarget hdue => ⟨fun hpause => ?due, fun hpause => ?waits⟩⟩
  case passed =>
    have hexec := exec_csValidationComplete_works lost hv hp hg
    rw [copied, hj] at hexec
    obtain rfl := lost_of_csJudge hj
    refine ⟨fun hk => ?only, fun hk => ?now, fun d hk hd hlow hhigh => ?time, fun n hk => ?position⟩
    case only =>
      subst hk
      exact ⟨_, hexec, rfl, (congrArg CsBlock.pending (csAnswer_cs ..)).trans hp⟩
    case now =>
      subst hk
      obtain ⟨hcfg, hpending, hgen, hresult⟩ := appliedNow_sets (noteValid u) p dest
      exact ⟨_, hexec, hcfg, hpending, hgen, hresult, rfl⟩
    case time =>
      subst hk hd
      have hwithin : ¬ (2147483648 < (BitVec.ofNat 32 (s.val 0x2200 2) - s.now).toNat ∨ (BitVec.ofNat 32 (s.val 0x2200 2) - s.now).toNat < 2000000) := by
        omega
      refine ⟨_, hexec.trans (congrArg Host.Outcome.next (if_neg hwithin)), rfl, ?_⟩
      rw [csAnswer_cs, armSet_cs]
      exact ⟨rfl, rfl⟩
    case position =>
      subst hk
      replace hexec : exec _ s = .next (csAnswer (armSet (noteValid u) p none n) dest 0) := hexec
      refine ⟨_, hexec, rfl, ?_⟩
      rw [csAnswer_cs, armSet_cs]
      exact ⟨rfl, rfl⟩
  case failed =>
    have hexec := exec_csValidationComplete_works lost hv hp hg
    rw [copied, hj] at hexec
    replace hexec : exec _ s = .next (csAnswer (noteFault u f) dest 0x0D) := hexec
    refine ⟨_, hexec, rfl, ?_⟩
    rw [csAnswer_cs, noteFault_cs, copierLoss_cs]
    exact ⟨hp, rfl⟩
  case due =>
    have hexec : exec .csApplyTimeDue s = .next (applyArmed s) := by
      simp only [exec, execCsApplyTimeDue, ha, htarget, hdue, if_true, armedDue, hpause, Bool.false_eq_true, if_false]
    exact ⟨_, hexec, applyArmed_sets ha⟩
  case waits => simp only [exec, execCsApplyTimeDue, ha, htarget, hdue, if_true, armedDue, hpause]

end Sys2Proof.Machine
end

section
/-! PROOFS. What the frames that the device sends of itself, and the calls that they tell of (R340 to R346), leave alone: the operating block and the sleep
block. A frame goes through every step of Lookup, the Zone Gate and admission, so one lemma per step says that it reaches neither. -/

namespace Sys2Proof.Machine

/-! ### Meters, gates and admission -/

@[simp] theorem chargeColumn_opSlp (s : State) (i j q : Nat) (b : Budget) : opSlp (chargeColumn s i j q b).1 = opSlp s := by
  simp [chargeColumn]

@[simp] theorem meterDecide_opSlp (s : State) (m : Nat) : opSlp (meterDecide s m).1 = opSlp s := by simp [meterDecide]

@[simp] theorem gateDecide_opSlp (s : State) (g : Nat) : opSlp (gateDecide s g).1 = opSlp s := by
  unfold gateDecide
  dsimp only
  repeat' split
  all_goals simp

@[simp] theorem countQueueRefusal_opSlp (s : State) (w : Want) : opSlp (countQueueRefusal s w) = opSlp s := by
  unfold countQueueRefusal
  repeat' split
  all_goals simp

@[simp] theorem refuseColumn_opSlp (s : State) (j tc : Nat) (ws : List Want) : opSlp (refuseColumn s j tc ws) = opSlp s := by
  refine (reading_foldl opSlp (fun t w => ?_) ws _).trans (bumpN_opSlp ..)
  dsimp only
  split
  all_goals simp

@[simp] theorem placeCopy_opSlp (s : State) (id charge : Nat) (w : Want) : opSlp (placeCopy s id charge w) = opSlp s := by
  unfold placeCopy
  repeat' split
  all_goals simp

@[simp] theorem admitColumn_opSlp (s : State) (j : Nat) (a : Asking) : opSlp (admitColumn s j a) = opSlp s := by
  unfold admitColumn
  split
  · dsimp only
    split
    · exact opSlp_foldl _ (fun t x => countQueueRefusal_opSlp t x) _ _
    · split
      · rw [refuseColumn_opSlp]
        exact opSlp_foldl _ (fun t x => countQueueRefusal_opSlp t x) _ _
      · refine (opSlp_foldl _ (fun t x => placeCopy_opSlp t _ _ x) _ _).trans ?_
        rw [setFrame_opSlp]
        split
        all_goals simp
  · rfl

@[simp] theorem admitAll_opSlp (s : State) (l : List Asking) : opSlp (admitAll s l) = opSlp s := by simp [admitAll]

/-! ### The Zone Gate -/

@[simp] theorem revokeFlow_opSlp (s : State) (pos : Nat) (w : Flow) (ingress : Nat) :
    opSlp (revokeFlow s pos w ingress) = opSlp s := by
  simp [revokeFlow]

@[simp] theorem denyLogged_opSlp (s : State) (k : FlowKey) (lane ingress reason : Nat) :
    opSlp (denyLogged s k lane ingress reason) = opSlp s := by
  simp [denyLogged]

@[simp] theorem laneMiss_opSlp (s : State) (f : Frame) (x : Parsed) (k : FlowKey) (lane : Nat) :
    opSlp (laneMiss s f x k lane).1 = opSlp s := by
  simp [laneMiss]

@[simp] theorem noteFragment_opSlp (s : State) (x : Parsed) (k : FlowKey) (pos : Nat) : opSlp (noteFragment s x k pos) = opSlp s := by
  unfold noteFragment
  repeat' split
  all_goals simp

@[simp] theorem laneHit_opSlp (s : State) (f : Frame) (x : Parsed) (k : FlowKey) (pos : Nat) (w : Flow) (fwd : Bool) :
    opSlp (laneHit s f x k pos w fwd).1 = opSlp s := by
  simp [laneHit]

@[simp] theorem laneFound_opSlp (s : State) (f : Frame) (x : Parsed) (k : FlowKey) (pos : Nat) (w : Flow) (fwd : Bool) :
    opSlp (laneFound s f x k pos w fwd).1 = opSlp s := by
  unfold laneFound
  repeat' split
  all_goals simp

@[simp] theorem laneTake_opSlp (s : State) (lane len : Nat) : opSlp (laneTake s lane len).1 = opSlp s := by simp [laneTake]

@[simp] theorem laneDecide_opSlp (s : State) (f : Frame) (x : Parsed) (zd : Nat) : opSlp (laneDecide s f x zd).1 = opSlp s := by
  unfold laneDecide
  dsimp only
  repeat' split
  all_goals simp

@[simp] theorem zoneInspect_opSlp (s : State) (f : Frame) (x : Parsed) (dests : List Nat) : opSlp (zoneInspect s f x dests).1 = opSlp s := by
  unfold zoneInspect
  extract_lets zs dz free zones some4 s0
  clear_value zones some4
  have h0 : opSlp s0 = opSlp s := by
    dsimp only [s0]
    repeat' split
    · exact bumpN_opSlp ..
    · rfl
    · rfl
  clear_value s0
  split
  · rfl
  · refine (opSlp_foldl_pair _ (fun acc z => ?_) _ _).trans h0
    dsimp only
    split
    all_goals exact laneDecide_opSlp ..

/-! ### The steps of Lookup -/

@[simp] theorem look_drop_opSlp (l : Look) (sub : Option Nat) : opSlp (l.drop sub).s = opSlp l.s := by
  unfold Look.drop
  cases sub
  all_goals simp

@[simp] theorem look_verdict_opSlp (l : Look) (g : Verdict → Verdict) : opSlp (l.verdict g).s = opSlp l.s := rfl

@[simp] theorem look_on_opSlp (l : Look) (step : Look → Look) (h : ∀ m, opSlp (step m).s = opSlp m.s) : opSlp (l.on step).s = opSlp l.s := by
  unfold Look.on
  split
  · rfl
  · exact h l

@[simp] theorem look_meter_opSlp (l : Look) (m : Nat) : opSlp (l.meter m).1.s = opSlp l.s := meterDecide_opSlp _ _

@[simp] theorem look_reduce_opSlp (l : Look) (set : List Nat) : opSlp (l.reduce set).s = opSlp l.s := by
  unfold Look.reduce
  exact opSlp_foldl _ (fun t q => bumpN_opSlp _ _ _ _) _ _

@[simp] theorem look_settle_opSlp (l : Look) : opSlp l.settle.s = opSlp l.s := by
  unfold Look.settle
  split
  all_goals simp

@[simp] theorem lookSource_opSlp (l : Look) : opSlp (lookSource l).s = opSlp l.s := by
  unfold lookSource
  split
  all_goals simp

@[simp] theorem lookVlan_opSlp (l : Look) : opSlp (lookVlan l).s = opSlp l.s := by
  unfold lookVlan
  dsimp only
  repeat' split
  all_goals simp

@[simp] theorem lookDest_opSlp (l : Look) : opSlp (lookDest l).s = opSlp l.s := by
  unfold lookDest
  extract_lets v p named r m lm l1
  have hm : opSlp lm.1.s = opSlp l.s := by
    dsimp only [lm]
    split
    all_goals simp
  have h1 : opSlp l1.s = opSlp l.s := by simp [l1, hm]
  clear_value lm l1
  repeat' split
  all_goals simp [hm, h1]

@[simp] theorem lookStream_opSlp (l : Look) : opSlp (lookStream l).s = opSlp l.s := by
  unfold lookStream
  dsimp only
  split
  all_goals simp

@[simp] theorem look_filterDrop_opSlp (l : Look) (sub : Option Nat) : opSlp (l.filterDrop sub).s = opSlp l.s := by
  unfold Look.filterDrop
  simp

@[simp] theorem lookFilter_opSlp (whole : Bool) (l : Look) : opSlp (lookFilter whole l).1.s = opSlp l.s := by
  unfold lookFilter
  extract_lets h e lim l0 _a g gd l1 l2 l3 lm l4 s3 s4 tc
  have h0 : opSlp l0.s = opSlp l.s := rfl
  have hg : opSlp gd.1 = opSlp l.s := by
    dsimp only [gd]
    split
    all_goals simp [h0]
  have h1 : opSlp l1.s = opSlp l.s := hg
  have h2 : opSlp l2.s = opSlp l.s := by simp [l2, h1]
  have h3 : opSlp l3.s = opSlp l.s := by
    dsimp only [l3]
    split
    all_goals simp [h1]
  have hm : opSlp lm.1.s = opSlp l.s := by
    dsimp only [lm]
    split
    all_goals simp [h3]
  have h4 : opSlp l4.s = opSlp l.s := by simp [l4, hm]
  have hs3 : opSlp s3 = opSlp l.s := by simp [s3, hm]
  have hs4 : opSlp s4 = opSlp l.s := by
    dsimp only [s4]
    split
    all_goals simp [hs3]
  split
  · simp [h0]
  · split
    · split
      all_goals simp [h0]
    · split
      · split
        all_goals simp [h2]
      · split
        · simp [h4]
        · split
          · simp [hm]
          · exact hs4

@[simp] theorem lookSequence_opSlp (l : Look) : opSlp (lookSequence l).s = opSlp l.s := by
  unfold lookSequence
  extract_lets h e mode1 rec_ valid _n _l2 _s1 _s2 l1 l2
  have h1 : opSlp l1.s = opSlp l.s := by
    dsimp only [l1]
    split
    · rfl
    · split
      all_goals rfl
  clear_value l1
  have h2 : opSlp l2.s = opSlp l.s := by
    dsimp only [l2]
    split
    all_goals simp [h1]
  clear_value l2
  have step : ∀ (g : Look → Nat → Look) (hg : ∀ a i, opSlp (g a i).s = opSlp a.s) (js : List Nat) (a : Look), opSlp (js.foldl g a).s = opSlp a.s := by
    intro g hg js
    induction js with
    | nil => exact fun a => rfl
    | cons j r ih => exact fun a => (ih _).trans (hg a j)
  refine (step _ ?_ _ _).trans h2
  intro a i
  dsimp only
  split
  · rfl
  · simp

@[simp] theorem lookClass_opSlp (forced : Option Nat) (l : Look) : opSlp (lookClass forced l).s = opSlp l.s := by
  unfold lookClass
  extract_lets p trust tc lowered t _k l1
  have h1 : opSlp l1.s = opSlp l.s := rfl
  clear_value l1
  split
  all_goals simp [h1]

@[simp] theorem lookTrap_opSlp (l : Look) (t : Option (Nat × Nat)) : opSlp (lookTrap l t).s = opSlp l.s := by
  unfold lookTrap
  dsimp only
  repeat' split
  all_goals simp

@[simp] theorem lookYellow_opSlp (l : Look) : opSlp (lookYellow l).s = opSlp l.s := by
  unfold lookYellow
  split
  all_goals simp

@[simp] theorem lookSteps_opSlp (whole : Bool) (l : Look) : opSlp (lookSteps whole l).1.s = opSlp l.s := by
  unfold lookSteps
  extract_lets a r q b set zone _src _src2 z f ms live s1 main copies
  have ha : opSlp a.s = opSlp l.s := by
    dsimp only [a]
    rw [look_on_opSlp _ _ lookStream_opSlp, look_on_opSlp _ _ lookDest_opSlp, look_on_opSlp _ _ lookVlan_opSlp, look_on_opSlp _ _ lookSource_opSlp]
  have hr : opSlp r.1.s = opSlp l.s := (lookFilter_opSlp _ _).trans ha
  have hq : opSlp q.s = opSlp l.s := (lookSequence_opSlp _).trans ((lookYellow_opSlp _).trans hr)
  have hb : opSlp b.s = opSlp l.s := (lookClass_opSlp _ _).trans hq
  have hz : opSlp z.1 = opSlp l.s := (zoneInspect_opSlp _ _ _ _).trans hb
  have h1 : opSlp s1 = opSlp l.s := (opSlp_foldl _ (fun t m => bumpN_opSlp _ _ _ _) _ _).trans hz
  split
  · exact ha
  · split
    · exact hr
    · split
      · exact hq
      · exact h1

/-! ### Frames of the processor side -/

@[simp] theorem enterFrame_opSlp (s : State) (f : Frame) : opSlp (enterFrame s f) = opSlp s := by simp [enterFrame]

@[simp] theorem verdictOn_opSlp (s : State) (ingress : Nat) (header bytes : Bytes) (whole : Bool) (stamp : T32) :
    opSlp (verdictOn s ingress header bytes whole stamp).1.s = opSlp s := by
  unfold verdictOn
  extract_lets x vid _b f s1 s2 l
  have h2 : opSlp s2 = opSlp s := by
    dsimp only [s2, s1]
    split
    all_goals simp
  have hl : opSlp l.s = opSlp s := h2
  clear_value s2 l
  repeat' split
  all_goals simp [*]

@[simp] theorem judgeInner_opSlp (s : State) (p : Nat) (header data : Bytes) (stamp : T32) : opSlp (judgeInner s p header data stamp).1 = opSlp s := by
  unfold judgeInner
  simp

@[simp] theorem settleJudged_opSlp (s : State) (j : Judged) : opSlp (settleJudged s j) = opSlp s := by
  unfold settleJudged
  repeat' split
  all_goals simp

@[simp] theorem settleAll_opSlp (r : State × List Judged) : opSlp (settleAll r) = opSlp r.1 := by
  unfold settleAll
  rw [opSlp_foldl _ (fun t x => settleJudged_opSlp t x), admitAll_opSlp]

@[simp] theorem innerFrame_opSlp (s : State) (p : Nat) (header data : Bytes) (stamp : T32) : opSlp (innerFrame s p header data stamp) = opSlp s := by
  unfold innerFrame
  dsimp only
  rw [settleAll_opSlp, judgeInner_opSlp]

/-! ### Calls -/

@[simp] theorem statusTo_opSlp (s : State) (known : Option Contact) (endpoint : Nat) (data : Bytes) :
    opSlp (statusTo s known endpoint data) = opSlp s := by
  simp [statusTo]

@[simp] theorem tellCall_opSlp (s : State) (c : Call) (state cause : Nat) : opSlp (tellCall s c state cause) = opSlp s := by
  simp [tellCall]

@[simp] theorem refuseCall_opSlp (s : State) (c : Call) (cause : Nat) : opSlp (refuseCall s c cause) = opSlp s := by simp [refuseCall]

@[simp] theorem admitCall_opSlp (s : State) (c : Call) : opSlp (admitCall s c) = opSlp s := by simp [admitCall]

@[simp] theorem tellPositions_opSlp (s : State) : opSlp (tellPositions s) = opSlp s := by simp [tellPositions]

@[simp] theorem closeCall_opSlp (s : State) (c : Call) (cause : Nat) : opSlp (closeCall s c cause) = opSlp s := by simp [closeCall]

@[simp] theorem admitHead_opSlp (s : State) : opSlp (admitHead s) = opSlp s := by
  unfold admitHead
  repeat' split
  all_goals simp

@[simp] theorem endCall_opSlp (s : State) (c : Call) (cause : Nat) : opSlp (endCall s c cause) = opSlp s := by simp [endCall]

@[simp] theorem newCall_opSlp (s : State) (r : CallRequest) : opSlp (newCall s r) = opSlp s := by
  unfold newCall
  dsimp only
  repeat' split
  all_goals simp

@[simp] theorem answerCall_opSlp (s : State) (ref : BitVec 16) (sender : Option Contact) :
    opSlp (answerCall s ref sender) = opSlp s := by
  unfold answerCall
  repeat' split
  all_goals simp

@[simp] theorem hangUp_opSlp (s : State) (ref : BitVec 16) : opSlp (hangUp s ref) = opSlp s := by
  unfold hangUp
  repeat' split
  all_goals simp

@[simp] theorem callAct_opSlp (s : State) (r : CallRequest) : opSlp (callAct s r) = opSlp s := by simp [callAct]

@[simp] theorem serveMailbox_opSlp (s : State) : opSlp (serveMailbox s) = opSlp s := by simp [serveMailbox]

end Sys2Proof.Machine
end

section
/-! PROOFS. Requests of 2000h.02 that are carried out (R24, R28, R29, R436): each enters its state, and what a state's entry does in the blocks leaves the
operating block as the entry has written it. -/

namespace Sys2Proof.Machine

/-! ### The entry of a state -/

/-- In every state what the entry does to audio leaves the operating block and the sleep block alone. -/
theorem audioEnter_keeps_opSlp (s : State) : opSlp (audioEnter s) = opSlp s := by
  by_cases h : s.op.state = .safe
  · simp [audioEnter, h]
  · exact audioEnter_opSlp h

theorem enterBlocks_keeps_op (before s : State) : (enterBlocks before s).op = s.op := by
  unfold enterBlocks
  extract_lets fromStart awake woken s1 s2 s3 s4 s5 s6
  have h1 : opSlp s1 = opSlp s := by
    dsimp only [s1]
    split
    all_goals simp
  have h3 : opSlp s3 = opSlp s := by simp [s3, s2, audioEnter_keeps_opSlp, h1]
  have h4 : s4.op = s.op := by simp [s4, op_of_opSlp (portsEnter_opSlp s3), op_of_opSlp h3]
  have h5 : s5.op = s.op := by
    dsimp only [s5]
    split
    all_goals simp [h4]
  have h6 : s6.op = s.op := by
    dsimp only [s6]
    split
    · exact (op_of_opSlp (startGateLists_opSlp s5)).trans h5
    · exact h5
  have hlast : opSlp (refreshStb (pairEnter (clockEnter s6 fromStart)) false) = opSlp s6 := by simp
  exact (missedAtEntry_op _).trans ((op_of_opSlp hlast).trans h6)

/-- The entry of a state ends the automatic restart of Safe (R436). -/
theorem enterState_autoRestart (s : State) (new : OpState) (cause : Nat) : (enterState s new cause).op.autoRestart = false := by
  unfold enterState
  extract_lets s1 s2
  have h1 : s1.op.autoRestart = false := congrArg OpBlock.autoRestart (noteState_op ..)
  have h2 : s2.op = s1.op := by
    dsimp only [s2]
    split
    · rfl
    · exact op_of_opSlp (dropReplies_opSlp s1)
  have hblocks : (emcyCleared s (enterBlocks s s2)).op = s1.op :=
    (op_of_opSlp (emcyCleared_opSlp ..)).trans ((enterBlocks_keeps_op s s2).trans h2)
  rw [hblocks, h1]

/-- Safe sends no resign frame any more, and restarts by itself where 2000h.07 says so (R434, R436). -/
theorem goSafe_rests (t : State) :
    (goSafe t).gp.resignLeft = 0 ∧ ((goSafe t).op.autoRestart = true ↔ (goSafe t).val 0x2000 7 ≠ 0) := by
  unfold goSafe
  extract_lets t1 _gp t2 t3
  have hgp : t3.gp.resignLeft = 0 := congrArg GpBlock.resignLeft (raise_gp ..)
  have hauto : t3.op.autoRestart = false := (congrArg OpBlock.autoRestart (raise_op ..)).trans (enterState_autoRestart ..)
  clear_value t3
  split
  · rename_i hzero
    exact ⟨hgp, by simp [hauto, hzero]⟩
  · rename_i hset
    exact ⟨hgp, fun _ => hset, fun _ => rfl⟩

/-! ### The requests -/

theorem requestNormal_valid {s : State} (h : configFault s = none) : requestNormal s = (enterState (noteValid s) .normal 0x20, 0) := by
  simp only [requestNormal, h]

theorem exec_requestNormal_allowed {s : State} {ses : SessionNo} (hw : WriteAllowed s ses 0x2000 2 (be 1 2)) (hb : requestBar s ses.val 2 = none)
    (hc : configFault s = none) :
    exec (.requestNormal ses) s = .next (emit (enterState (noteValid s) .normal 0x20) (.answer (.session ses) 0 [])) := by
  obtain ⟨x, hx⟩ := hw.row
  obtain ⟨hs, ho, -, -⟩ := hw
  simp only [exec, execRequestNormal, hs, ho, Bool.and_self, if_true, hx, requestWrite, hb, requestNormal_valid hc, reply_session]
  rfl

theorem exec_requestSleepState_refused {s : State} {ses : SessionNo} {deep : Bool} {code : Nat} (hcode : code = if deep then 6 else 5)
    (hw : WriteAllowed s ses 0x2000 2 (be 1 code)) :
    exec (.requestSleepState ses deep) s = .next (emit (requestRefused s code 4) (.answer (.session ses) 0x0F [])) := by
  have hbar : requestBar s ses.val code = some (0x0F, 4) := requestBar_sleep (by cases deep <;> simp [hcode])
  have hexec : exec (.requestSleepState ses deep) s = .next (request s ses code id) := by
    rw [hcode]
    rfl
  rw [hexec, request_barred id hw hbar]
  rfl

/-- The frame of the resign template leaves the Guard Processor as it is (R434). -/
theorem sendResign_gp (s : State) : (sendResign s).gp = s.gp := by
  unfold sendResign
  split
  · rfl
  · exact gp_of_beside (reading_foldl beside (fun t p => beside_offEvents.ownFrame t p ..) _ s)

/-- Settles O6: the write passes its checks and nothing bars it, so that the request's own action stands in the outcome. -/
theorem stateRequestsAreCarriedOut : Obligations.StateRequestsAreCarriedOut := by
  intro s ses deep answered
  refine ⟨fun hw hb => ?commissioning, fun hw hb hc => ?normal, fun hw hb => ?test, fun hw hb => ?safe, ?sleep, fun hleft => ?resign⟩
  case commissioning =>
    exact ⟨_, congrArg Host.Outcome.next (request_allowed (fun t => enterState (resignLeaving t) .commissioning 0x20) hw hb), rfl,
      enterState_state_cause _ _ (by decide)⟩
  case normal => exact ⟨_, exec_requestNormal_allowed hw hb hc, rfl, rfl, enterState_state_cause _ _ (by decide)⟩
  case test =>
    exact ⟨_, congrArg Host.Outcome.next (request_allowed (fun t => enterState t .test 0x20) hw hb), rfl, enterState_state_cause _ _ (by decide)⟩
  case safe =>
    exact ⟨_, congrArg Host.Outcome.next (request_allowed goSafe hw hb), rfl, goSafe_state _, goSafe_rests _⟩
  case sleep =>
    intro code hw
    exact ⟨_, exec_requestSleepState_refused rfl hw, rfl, rfl, state_of_beside ((emit_beside ..).trans (requestRefused_beside ..))⟩
  case resign =>
    refine ⟨_, if_pos hleft, ?_, rfl⟩
    simp only [sendResign_gp]

end Sys2Proof.Machine
end
